-- ==== Sys2Proof/Word.lean ====
section
/-! DEFINITION. The words of the model: bytes, register words, management addresses, and the plain reading of a bit
field of a number. -/

namespace Sys2Proof

/-- One byte of a frame, of a reply or of boot flash. -/
abbrev Byte := BitVec 8

/-- The contents of one management register (spec/20_register_map.md R516: every access is 32 bits wide). -/
abbrev Word := BitVec 32

/-- A management address (spec/20_register_map.md): 40 bits, one byte each. -/
abbrev Addr := BitVec 40

/-- A module or accelerator location (spec/05_forwarding_and_detour.md): 32 bits. -/
abbrev Loc := BitVec 32

/-- Bits `hi` down to `lo` of `n`. -/
def bitsOf (n hi lo : Nat) : Nat := n / 2 ^ lo % 2 ^ (hi + 1 - lo)

/-- Bit `b` of `n`. -/
def bitOf (n b : Nat) : Bool := n / 2 ^ b % 2 == 1

/-- A flag as a one-bit field. -/
def flag (b : Bool) : Nat := if b then 1 else 0

/-- `n` brought into `least` to `most` (spec/00_scope.md R16: the nearest legal value). -/
def clampTo (least most n : Nat) : Nat := if n < least then least else if most < n then most else n

end Sys2Proof
end

