-- ==== Sys2Proof/Machine/Operands.lean ====
section
/-! DEFINITION. The operand forms of the commands: who asks, what was measured, and what arrived. -/

namespace Sys2Proof.Machine

/-- A requester of the register blocks (spec/00_scope.md R19). -/
inductive Requester where
  | mpc
  | src (loc : Loc)
  | smb
  | jtag
  deriving DecidableEq, Repr

/-- One 1 µs reading of a rail (R492, R514): millivolts, the current in 0.1 A, and its mean over 1 ms. -/
structure RailReading where
  mv : BitVec 16
  current : BitVec 16
  mean : BitVec 16
  deriving DecidableEq, Repr

/-- The units of the load-step governor (R493). -/
inductive GovUnit where
  | pipe (sector : Fin 8)
  | engine (e : Fin 18)
  | pra (a : Fin 4)
  | lanes (pb : Fin 64)
  deriving DecidableEq, Repr

/-- The windows of the clock monitors (R379): the domain, the dies whose slice saw this count, and the signed deviation
from nominal in units of 0.01 %. -/
structure MonitorWindow where
  domain : Fin 8
  dies : BitVec 4
  dev : BitVec 16
  deriving DecidableEq, Repr

/-- The packet error code of an SMBus block write (R412). -/
inductive Pec where
  | absent
  | good
  | bad
  deriving DecidableEq, Repr

/-- What a SECDED check found of a word (R173, R335). -/
inductive Secded where
  | clean
  | single
  | double
  deriving DecidableEq, Repr

/-- A 4 KiB chunk of HBM by what it holds (R331, R336): spilled frames of a queue, or a held frame of a resequencing context
(its flow and SEQ) in its port's Carafe share or beyond 512 frames in the deep region; contributions of a segment, retained or
staged; a unit of the recipe region, of one of its two copies. -/
inductive ChunkUse where
  | carafe (lport vc : Nat)
  | held (lport : Nat) (src dst : BitVec 32) (flow : BitVec 16) (seq : BitVec 24)
  | deep (lport : Nat) (src dst : BitVec 32) (flow : BitVec 16) (seq : BitVec 24)
  | retained (slot seg : Nat)
  | staged (slot seg : Nat)
  | recipe (unit copy : Nat)
  deriving DecidableEq, Repr

end Sys2Proof.Machine
end

