-- ==== Sys2Proof/Machine/Frames.lean ====
section
/-! DEFINITION. Rospaurn frames and their fixed header (spec/05_forwarding_and_detour.md R137 to R139, R147, R148), link
headers and ordered sets (spec/04_links_and_presence.md R110 to R112). -/

namespace Sys2Proof.Machine

/-- A Rospaurn frame: its fixed header of 24 bytes and the bytes after it, extension first (R137). -/
structure Frame where
  hdr : BitVec 192
  body : List Byte
  deriving DecidableEq, Repr

/-- The fields of the fixed header (R137). -/
structure Header where
  ver : BitVec 4
  ftype : BitVec 4
  phase : BitVec 1
  esc : BitVec 1
  ord : BitVec 1
  hops : BitVec 6
  seq : BitVec 24
  flow : BitVec 16
  dst : BitVec 32
  src : BitVec 32
  inter : BitVec 32
  xlen : BitVec 8
  deriving DecidableEq, Repr

/-- Read the fixed header (R137). -/
def Header.decode (w : BitVec 192) : Header :=
  { ver := w.extractLsb' 188 4, ftype := w.extractLsb' 184 4, phase := w.extractLsb' 183 1
    esc := w.extractLsb' 182 1, ord := w.extractLsb' 181 1, hops := w.extractLsb' 175 6
    seq := w.extractLsb' 144 24, flow := w.extractLsb' 128 16, dst := w.extractLsb' 96 32
    src := w.extractLsb' 64 32, inter := w.extractLsb' 32 32, xlen := w.extractLsb' 24 8 }

/-- Write the fixed header (R137), its reserved bits 0. -/
def Header.encode (h : Header) : BitVec 192 :=
  h.ver ++ h.ftype ++ h.phase ++ h.esc ++ h.ord ++ h.hops ++ (0 : BitVec 7) ++ h.seq ++ h.flow ++ h.dst ++ h.src
    ++ h.inter ++ h.xlen ++ (0 : BitVec 24)

/-- The header of a frame. -/
def Frame.h (f : Frame) : Header := Header.decode f.hdr

/-- The frame with another header. -/
def Frame.withH (f : Frame) (h : Header) : Frame := { f with hdr := h.encode }

/-- The Rospaurn frame length in bytes. -/
def Frame.len (f : Frame) : Nat := 24 + f.body.length

/-- The extension header's bytes (R137 XLEN, in 8 B units). -/
def Frame.ext (f : Frame) : List Byte := f.body.take (8 * f.h.xlen.toNat)

/-- The data after the headers. -/
def Frame.data (f : Frame) : List Byte := f.body.drop (8 * f.h.xlen.toNat)

/-- Bytes as one number, the most significant byte first (spec/00_scope.md, Notation). -/
def ofBytes (bs : List Byte) : Nat := bs.foldl (fun n b => n * 256 + b.toNat) 0

/-- Bytes `a` to `a + n − 1` of a body, missing ones 0, as one number. -/
def field (body : List Byte) (a n : Nat) : Nat := ofBytes (((body.drop a) ++ List.replicate n 0).take n)

/-- A number as `n` bytes, the most significant first. -/
def toBytes (n v : Nat) : List Byte := (List.range n).map (fun i => BitVec.ofNat 8 (v / 256 ^ (n - 1 - i)))

/-- The bytes of a Rospaurn frame. -/
def Frame.bytes (f : Frame) : List Byte := toBytes 24 f.hdr.toNat ++ f.body

/-- The frame that a link frame's payload carries; a header cut short is filled with zeros, and fails to parse (R143). -/
def payloadFrame (bs : List Byte) : Frame :=
  { hdr := BitVec.ofNat 192 (ofBytes (bs.take 24 ++ List.replicate (24 - bs.length) 0)), body := bs.drop 24 }

/-- The frame's flow (R137). -/
abbrev Flow := BitVec 32 × BitVec 32 × BitVec 16

def Frame.flow (f : Frame) : Flow := (f.h.src, f.h.dst, f.h.flow)

/-- A group type carries a group identifier in DST (R138). -/
def isGroupType (ftype : Nat) : Bool := 2 ≤ ftype && ftype ≤ 6

/-- The fields of a DATA frame's link header (R110). -/
structure LinkHeader where
  lseq : BitVec 16
  ack : BitVec 16
  vc : Fin 8
  len : BitVec 13
  cvc : Fin 8
  ccount : BitVec 13
  replay : Bool
  deriving DecidableEq, Repr

/-- A KEEPALIVE's fields (R112). -/
structure Keepalive where
  state : BitVec 4
  laneMap : BitVec 4
  lane : BitVec 2
  loc : BitVec 32
  port : BitVec 9
  q : BitVec 2
  incarnation : BitVec 16
  cwcount : BitVec 32
  ack : BitVec 16
  cvc : Fin 8
  ccum : BitVec 32
  drainLeft : BitVec 16
  deriving DecidableEq, Repr

/-- A LANE_MAP's fields (R111). -/
structure LaneMap where
  map : BitVec 4
  kind : BitVec 4
  effective : BitVec 32
  tag : BitVec 16
  deriving DecidableEq, Repr

/-- A TRAIN's fields (R111); `credits` holds VC0 first. -/
structure Train where
  phase : BitVec 4
  offer : BitVec 4
  loc : BitVec 32
  port : BitVec 9
  q : BitVec 2
  incarnation : BitVec 16
  credits : List (BitVec 16)
  deriving DecidableEq, Repr

/-- The ordered sets that the module sends (R111). -/
inductive OrderedSet where
  | idle
  | keepalive (k : Keepalive)
  | retryReq (lseq : BitVec 16) (reason : BitVec 8)
  | laneMap (l : LaneMap)
  | train (t : Train)
  deriving DecidableEq, Repr

/-- What the FEC made of one codeword (R109). -/
inductive Codeword where
  | clean
  | corrected
  | uncorrectable
  deriving DecidableEq, Repr

/-- A route entry (R147). -/
structure RouteEntry where
  value : BitVec 32
  level : BitVec 3
  valid : Bool
  up : Bool
  spray : Bool
  escLport : BitVec 11
  cset : BitVec 12
  deriving DecidableEq, Repr

/-- The bits of a prefix of each level (R141). -/
def prefixBits (level : Nat) : Nat :=
  match level with
  | 0 => 0 | 1 => 4 | 2 => 9 | 3 => 15 | 4 => 21 | 5 => 26 | _ => 32

/-- Read a route entry (R147): level 7 clamps to 6, the bits below the prefix and a down entry's SPRAY read as 0. -/
def RouteEntry.decode (w : BitVec 64) : RouteEntry :=
  let level := if (w.extractLsb' 29 3).toNat = 7 then 6#3 else w.extractLsb' 29 3
  let keep := 32 - prefixBits level.toNat
  let up := w.extractLsb' 27 1 = 1#1
  { value := (w.extractLsb' 32 32 >>> keep) <<< keep, level := level
    valid := w.extractLsb' 28 1 = 1#1, up := up
    spray := decide (up = true) && decide (w.extractLsb' 26 1 = 1#1)
    escLport := w.extractLsb' 12 11, cset := w.extractLsb' 0 12 }

/-- What a read of a route entry returns (R16, R147): its fields as they are in force, the reserved bits 0. -/
def RouteEntry.encode (e : RouteEntry) : BitVec 64 :=
  e.value ++ e.level ++ BitVec.ofNat 1 (flag e.valid) ++ BitVec.ofNat 1 (flag e.up) ++ BitVec.ofNat 1 (flag e.spray)
    ++ (0 : BitVec 3) ++ e.escLport ++ e.cset

/-- What a read of a set entry returns (R16, R148): COUNT clamped to 1–64, the reserved bits 0. -/
def setEntry (w : BitVec 32) : BitVec 32 :=
  w.extractLsb' 16 16 ++ (0 : BitVec 9) ++ BitVec.ofNat 7 (clampTo 1 64 (w.extractLsb' 0 7).toNat)

/-- A member of a candidate set (R148). -/
structure Member where
  inter : BitVec 32
  weight : Nat
  lport : Nat
  deriving DecidableEq, Repr

/-- Read a member entry (R148): weight 0 clamps to 1. -/
def Member.decode (w : BitVec 64) : Member :=
  { inter := w.extractLsb' 32 32, weight := max 1 (w.extractLsb' 24 8).toNat, lport := (w.extractLsb' 11 11).toNat }

/-- What a read of a member entry returns (R16, R148). -/
def Member.encode (x : Member) : BitVec 64 :=
  x.inter ++ BitVec.ofNat 8 x.weight ++ (0 : BitVec 2) ++ BitVec.ofNat 11 x.lport ++ (0 : BitVec 11)

/-- The control header (R404). -/
structure CtlHeader where
  cls : Nat
  isReply : Bool
  reqId : BitVec 16
  status : Nat
  bodyLen : Nat
  chunk : Nat
  chunksM1 : Nat
  deriving DecidableEq, Repr

def CtlHeader.decode (n : Nat) : CtlHeader :=
  { cls := bitsOf n 255 248, isReply := bitOf n 247, reqId := BitVec.ofNat 16 (bitsOf n 239 224), status := bitsOf n 223 216
    bodyLen := bitsOf n 215 200, chunk := bitsOf n 199 184, chunksM1 := bitsOf n 183 168 }

def CtlHeader.encode (h : CtlHeader) : Nat :=
  h.cls % 256 * 2 ^ 248 + flag h.isReply * 2 ^ 247 + h.reqId.toNat * 2 ^ 224 + h.status % 256 * 2 ^ 216
    + h.bodyLen % 65536 * 2 ^ 200 + h.chunk % 65536 * 2 ^ 184 + h.chunksM1 % 65536 * 2 ^ 168

/-- The control header of a CONTROL frame. -/
def Frame.ctl (f : Frame) : CtlHeader := CtlHeader.decode (ofBytes f.ext)

end Sys2Proof.Machine
end

