-- ==== Sys2Proof/Machine/Tbl.lean ====
section
/-! DEFINITION. Sparse tables: a list of keys and values in which a key stands at most once. A key that is not listed
reads as the table's default. -/

namespace Sys2Proof.Machine

/-- A sparse table from `κ` to `α`. -/
abbrev Tbl (κ α : Type) := List (κ × α)

variable {κ α : Type} [DecidableEq κ]

/-- The entry of a key, where the table lists it. -/
def Tbl.find (t : Tbl κ α) (k : κ) : Option α :=
  match t with
  | [] => none
  | (k', v) :: rest => if k' = k then some v else Tbl.find rest k

/-- The value of a key: its entry, or `d` where the table lists none. -/
def Tbl.get (t : Tbl κ α) (d : α) (k : κ) : α := (Tbl.find t k).getD d

/-- The table with `v` at `k`: in the place of the key's entry, or at the end. -/
def Tbl.put (t : Tbl κ α) (k : κ) (v : α) : Tbl κ α :=
  match t with
  | [] => [(k, v)]
  | (k', v') :: rest => if k' = k then (k, v) :: rest else (k', v') :: Tbl.put rest k v

/-- The table without the entry of `k`. -/
def Tbl.del (t : Tbl κ α) (k : κ) : Tbl κ α := t.filter (fun e => decide (e.1 ≠ k))

/-- No key stands twice. -/
def Tbl.wf (t : Tbl κ α) : Prop := (t.map Prod.fst).Nodup

end Sys2Proof.Machine
end

