-- ==== Sys2Proof/Machine/DataUnits.lean ====
section
/-! DEFINITION. The state of the links, the forwarding tables, the buffers and the traffic manager beside what their
registers hold (spec/04_links_and_presence.md, spec/05_forwarding_and_detour.md,
spec/06_buffers_resequencing_backpressure.md, spec/07_shaping_and_vc_weights.md). A logical port is named LPORT = 4p + q
throughout (R147). -/

namespace Sys2Proof.Machine

/-- A group definition (R214). -/
structure GroupDef where
  valid : Bool
  root : Bool
  home : Nat
  parent : Nat
  groupId : Nat
  jobEpoch : Nat
  rdeMask : Nat
  nLocal : Nat
  nChild : Nat
  memberBase : Nat
  total : Nat
  below : Nat
  stochSeed : Nat
  deriving DecidableEq, Repr

/-- Read a group definition (R214). -/
def GroupDef.decode (w : BitVec 256) : GroupDef :=
  let n := w.toNat
  { valid := bitOf n 255, root := bitOf n 254, home := bitsOf n 253 251, parent := bitsOf n 250 240
    groupId := bitsOf n 239 220, jobEpoch := bitsOf n 219 204, rdeMask := bitsOf n 203 188
    nLocal := bitsOf n 187 176, nChild := bitsOf n 175 166, memberBase := bitsOf n 165 148
    total := bitsOf n 147 124, below := bitsOf n 123 100, stochSeed := bitsOf n 63 0 }

/-- A member-table entry (R214). -/
structure MemberEntry where
  child : Bool
  lport : Nat
  rank : Nat
  below : Nat
  deriving DecidableEq, Repr

def MemberEntry.decode (w : BitVec 64) : MemberEntry :=
  let n := w.toNat
  { child := bitOf n 63, lport := bitsOf n 62 52, rank := bitsOf n 51 28, below := bitsOf n 27 4 }

/-- What the version of the group tables against which a frame is looked up says of its group (R27, R142): the definition's index,
the definition and its entries. -/
structure Found where
  defIdx : Nat
  gdef : GroupDef
  members : List MemberEntry
  deriving DecidableEq, Repr

/-- Where an accepted frame goes (R153, R156). -/
inductive Dest where
  | lookup (len : Nat)            -- not yet looked up: it came as `len` bytes (R493)
  | endpoint                      -- the MPC's in-band endpoint
  | engine (g : Found)            -- the collective engine
  | out (lport vc : Nat)
  deriving DecidableEq, Repr

/-- A frame inside the module. -/
structure QFrame where
  frame : Frame                   -- as it will leave
  rcvd : Frame                    -- as it arrived (R163)
  inLport : Nat                   -- 2048 for a frame the module originated
  linkVc : Nat                    -- the link VC it arrived on (R158)
  dest : Dest
  credits : Nat                   -- 64 B units that its ingress buffer still holds (R171)
  acceptAt : Nat                  -- `elapsed` at the accept point (R350)
  admitAt : Nat                   -- `elapsed` at admission into the output queue (R481)
  bufAddr : BitVec 32             -- where it was admitted (R481)
  spilled : Bool
  held : Bool
  deep : Bool                     -- held in the deep region (R187)
  chunks : List Nat               -- HBM chunks that it takes while it is held
  back : Bool                     -- handed back, and waiting at its ingress again (R163)
  fullNoted : Bool                -- REGION_FULL counted for it (R332)
  denied : Bool                   -- CARAFE_DENIED counted for it (R178)
  tollHeld : Bool                 -- TOLLGATE_HOLD counted for it (R179)
  backHeld : Bool                 -- BACKPRESSURE counted for it (R180)
  ctxHeld : Bool                  -- RESEQ_CTX_WAIT counted for it (R187)
  guarded : Bool                  -- SLOT_GUARD counted for it (R206)
  deriving DecidableEq, Repr

/-- A DATA frame that a link holds until it is acknowledged (R114). -/
structure RetryEntry where
  lseq : BitVec 16
  vc : Nat
  frame : Frame
  inUp : Bool                     -- its blocks took slots of state 3 UP (R478)
  lost : Bool                     -- the copy is discarded for SRAM_UE (R173): it is not replayed, and its blocks' fate is still open (R479)
  deriving DecidableEq, Repr

/-- Why a lane may not be added (R121). -/
inductive LaneBar where
  | circuit
  | wavelength
  deriving DecidableEq, Repr

/-- One lane change that the module has announced or answered (R119, R121). -/
structure LaneChange where
  lane : Nat                      -- the link's lane index
  add : Bool
  effective : BitVec 32
  tag : BitVec 16
  answered : Bool
  retried : Bool
  ours : Bool
  deriving DecidableEq, Repr

/-- One link beside LNK_LINKl (R113 to R130). -/
structure Link where
  retry : List RetryEntry         -- oldest first
  nextLseq : BitVec 16
  expected : BitVec 16            -- next LSEQ to accept
  asked : Option (BitVec 8)       -- a RETRY_REQ of this REASON waits for its replay
  reqLseq : BitVec 16             -- the LSEQ of the last RETRY_REQ received
  reqCount : Nat                  -- how often in a row
  held : List Nat                 -- credits held from the partner, VC0 first
  tally : List Nat                -- credits the partner has granted since link up, by VC
  granted : List Nat              -- credits granted to the partner and not yet consumed
  ccum : List Nat                 -- credits granted since link up, by VC (R112)
  kaIndex : Nat
  training : List Nat             -- lanes of the link that train while it runs (R121)
  changes : List LaneChange
  lostBlock : Bool                -- an uncorrectable codeword since the last frame accepted (R109, R111 REASON 0x03)
  behind : Option (BitVec 16)     -- the last replayed frame discarded behind a gap that a RETRY_REQ has named (R113)
  agreed : Option Nat             -- the map of TRAIN phase 2: the intersection of both OFFERs (R129)
  outOfSets : Bool                -- taken out of candidate sets (R124, R125)
  draining : Bool                 -- keepalives carry STATE 2 for a drain (R127)
  drained : Bool                  -- keepalives carry STATE 3
  drainEnd : Nat                  -- `elapsed` at which DRAIN_MS ends
  peerChanged : Bool              -- the INCARNATION changed at this training (R116)
  peerInit : List Nat             -- initial credits of the partner's TRAIN phase 2
  told : List Nat                 -- initial credits of the module's own latest TRAIN phase 2
  given : List Nat                -- of its layout's credits, those the partner has been granted at the start (R507)
  fresh : Bool                    -- no link up since the last reset
  slotDebt : Nat                  -- blocks sent and not yet passed (R478)
  slotRest : Nat                  -- the part of a slot that has passed
  deriving DecidableEq, Repr

/-- Blocks that a link has sent (R107, R108): each with its header bit, 1 for an ordered set, and its 256 payload bits. They
stand in `times` copies, on one lane alone where one is named and else striped over the module lanes listed. -/
structure TxRun where
  lport : Nat
  only : Option Nat
  lanes : List Nat
  blocks : List (Bool × Nat)
  times : Nat
  deriving DecidableEq, Repr

/-- The receiver of a lane (R107, R108). -/
structure RxLane where
  last : Option (BitVec 5440)      -- the word that came before
  shift : Nat                      -- where in the words that come a codeword begins
  state : Nat                      -- the descrambler's
  blocks : List (Bool × Nat)       -- of the last codeword that could be corrected, descrambled
  mark : Option (BitVec 32 × Nat)  -- the CWCOUNT of the last keepalive on the lane, and `elapsed` then
  deriving DecidableEq, Repr

/-- The links and the electrical lanes. -/
structure LinkUnit where
  links : Tbl Nat Link
  sent : List TxRun                         -- oldest first
  rx : Tbl Nat RxLane
  bars : List (Nat × LaneBar)               -- module lanes that circuits, R48 or R60 have removed
  eSpares : List (Nat × Bool × Nat × Nat)   -- block, transmit, spare, data lane: spares that adapt (R123)
  cabling : Tbl Nat (BitVec 32 × Nat)       -- LPORT: the LOC and LPORT expected of the partner (R125)
  splits : Tbl Nat Nat                      -- port: 1, 2 or 4 logical ports (R10)
  hostPorts : List Nat                      -- LPORTs of the host ports (R410)
  deriving DecidableEq, Repr

/-- One version of the route section's tables (R146 to R149). -/
structure RouteTables where
  route : Tbl Nat (BitVec 64)
  set : Tbl Nat (BitVec 32)
  member : Tbl Nat (BitVec 64)
  deriving DecidableEq, Repr

/-- The tables FWD_TBL_CMD names (R169). -/
inductive FwdTable where
  | route
  | set
  | member
  deriving DecidableEq, Repr

/-- What waits for the copy after a version switch, in the order in which it came (R27): shadow writes, switches, and the replies to
the TABLE requests that brought them. -/
inductive HeldTable where
  | route (t : FwdTable) (index : Nat) (v : BitVec 64)
  | group (member : Bool) (index : Nat) (v : BitVec 256)
  | switch
  | reply (src : Loc) (reqId : BitVec 16)
  deriving DecidableEq, Repr

/-- An extension layout the parse graph allows (R144): the frame type, XLEN, and bytes that must match under a mask. -/
structure Layout where
  ftype : Nat
  xlen : Nat
  fields : List (Nat × Byte × Byte)
  deriving DecidableEq, Repr

/-- The forwarding tables (R149: every sector holds the same contents). -/
structure FwdUnit where
  active : RouteTables
  shadow : RouteTables
  copying : Bool                                       -- the copy after a switch runs (R27)
  waiting : List HeldTable                             -- what waits for it
  busy : List (Nat × Nat × FwdTable × Nat × BitVec 64) -- sector, OP, table, index, data: commands that run
  graph : List Layout
  nextSeed : Option (BitVec 64)                        -- a patched seed that the next switch takes (R168)
  deriving DecidableEq, Repr

/-- A 4 KiB Carafe chunk (R177): its frames, whether it has closed, and whether its frames are to be handed back. -/
structure Chunk where
  frames : List QFrame              -- the frames whose last byte lies in it
  bytes : Nat
  cont : Bool                       -- its first frame began in the chunk before it
  closed : Bool
  handBack : Bool
  index : Nat                       -- its number among HBM's chunks
  deriving DecidableEq, Repr

/-- One shaper (R198 to R202). A credit is in units of 2^−16 byte, and `rest` holds what a refill earned beyond whole units, in
1/840,000 of one, so that no refill loses any; times are in wheel-clock units of 1/105 ns. -/
structure Shaper where
  rate : Nat
  burst : Nat
  pending : Option (Nat × Nat)
  credit : Int
  rest : Nat
  tLast : Nat
  eligible : Bool
  wheel : Option (Nat × Nat × Nat)   -- eligible time in ns, slot, laps
  late : Nat                         -- 0, or 1 more than its number among the entries carried into a later slot
  active : Bool
  deriving DecidableEq, Repr

/-- One output queue (R172, R176). -/
structure OutQueue where
  sram : List QFrame
  carafe : List Chunk
  spilling : Bool
  shaper : Shaper
  deficit : Nat
  deriving DecidableEq, Repr

/-- One resequencing context (R184 to R187). -/
structure Ctx where
  sector : Nat
  lport : Nat
  flow : Flow
  opening : Bool
  first : BitVec 24
  expect : BitVec 24
  window : Nat
  timeout : Nat
  held : List QFrame
  gone : List (BitVec 24)            -- held SEQs discarded for SRAM_UE (R191)
  deep : Bool
  ending : Bool                      -- discarded for SRAM_UE: it closes when what it holds is released (R185)
  usedAt : Nat
  deriving DecidableEq, Repr

/-- A VC scheduler's place in its round (R204). -/
structure Turn where
  vc : Nat
  topped : Bool                      -- the VC has taken its quantum on this turn
  weights : List Nat                 -- in force since the round began (R205)
  quantum : Nat                      -- and so its QUANTUM (R418)
  deriving DecidableEq, Repr

/-- Queues, shapers, contexts, planes and the Carafe. -/
structure BufUnit where
  ingress : Tbl (Nat × Nat) (List QFrame)       -- LPORT and link VC
  queues : Tbl (Nat × Nat) OutQueue             -- LPORT and VC
  toll : Tbl (Nat × Nat) Nat                    -- sector and bucket (R179)
  ctxs : List Ctx
  turns : Tbl Nat Turn
  planeTraining : Option (Nat × Nat)            -- the failed plane and the spare that trains (R175)
  poolStageLost : List Nat                      -- sectors whose staging has lost the pool
  budget : Tbl Nat (Int × Nat)                  -- sector: Carafe budget bytes and `elapsed` of its last fill
  fullPorts : List Nat                          -- ports whose Carafe share has filled
  inTurn : Tbl (Nat × Nat) Nat                  -- LPORT and VC: the ingress port admitted last (R180)
  carryNo : Nat                                 -- wheel entries carried so far (R201)
  credits : List Nat                            -- initial credits of a whole port in the image's layout, VC0 first (R171)
  mirrors : List (BitVec 1280)                  -- mirror records on their way to the sink (R189)
  mirrorTokens : Nat
  mirrorAt : Nat
  wheel : Nat                                   -- the wheel clock in units of 1/105 ns (R198)
  deriving DecidableEq, Repr

end Sys2Proof.Machine
end

