-- ==== Sys2Proof/Machine/ColUnits.lean ====
section
/-! DEFINITION. The state of the collective engine, the reduction engines, the photonic arrays and HBM beside what their
registers hold (spec/08_collective_operations.md, spec/09_exact_reduction_arithmetic.md, spec/10_recipes.md,
spec/11_photonic_reduction_array.md, spec/12_hbm_memory.md). -/

namespace Sys2Proof.Machine

/-- A descriptor (R218). -/
structure Descriptor where
  kind : Nat
  func : Nat
  inFmt : Nat
  outFmt : Nat
  round : Nat
  ordered : Bool
  usePra : Bool
  recipe : Nat
  elements : Nat
  rootRank : Nat
  timeout : Nat
  frameLog2 : Nat
  jobEpoch : Nat
  group : Nat
  deriving DecidableEq, Repr

/-- Read a descriptor (R218). -/
def Descriptor.decode (w : BitVec 256) : Descriptor :=
  let n := w.toNat
  { kind := bitsOf n 255 252, func := bitsOf n 251 248, inFmt := bitsOf n 247 243, outFmt := bitsOf n 242 238
    round := bitsOf n 237 235, ordered := bitOf n 234, usePra := bitOf n 233, recipe := bitsOf n 232 221
    elements := bitsOf n 220 181, rootRank := bitsOf n 180 157, timeout := bitsOf n 156 131
    frameLog2 := bitsOf n 130 127, jobEpoch := bitsOf n 126 111, group := bitsOf n 110 91 }

/-- The collective extension (R223). -/
structure CollExt where
  fingerprint : BitVec 64
  descriptor : BitVec 256
  source : Nat
  kind : Nat
  segment : Nat
  sub : Nat
  subsM1 : Nat
  placeEpoch : Nat
  elems : Nat
  subOff : Nat
  code : Nat
  count : Nat
  rankX : Nat
  deriving DecidableEq, Repr

/-- Read the collective extension from its 512 bits (R223). -/
def CollExt.decode (n : Nat) : CollExt :=
  { fingerprint := BitVec.ofNat 64 (bitsOf n 511 448), descriptor := BitVec.ofNat 256 (bitsOf n 447 192)
    source := bitsOf n 191 168, kind := bitsOf n 167 164, segment := bitsOf n 163 144, sub := bitsOf n 143 141
    subsM1 := bitsOf n 140 138, placeEpoch := bitsOf n 137 126, elems := bitsOf n 125 115, subOff := bitsOf n 114 105
    code := bitsOf n 104 97, count := bitsOf n 96 73, rankX := bitsOf n 72 49 }

/-- Write the collective extension (R223). -/
def CollExt.encode (x : CollExt) : Nat :=
  x.fingerprint.toNat * 2 ^ 448 + x.descriptor.toNat * 2 ^ 192 + x.source % 2 ^ 24 * 2 ^ 168 + x.kind % 16 * 2 ^ 164
    + x.segment % 2 ^ 20 * 2 ^ 144 + x.sub % 8 * 2 ^ 141 + x.subsM1 % 8 * 2 ^ 138 + x.placeEpoch % 2 ^ 12 * 2 ^ 126
    + x.elems % 2 ^ 11 * 2 ^ 115 + x.subOff % 2 ^ 10 * 2 ^ 105 + x.code % 256 * 2 ^ 97 + x.count % 2 ^ 24 * 2 ^ 73
    + x.rankX % 2 ^ 24 * 2 ^ 49

/-- A value: NaN, an infinity, a signed zero, or ± n × 2^q with n above 0. -/
inductive Val where
  | nan
  | inf (neg : Bool)
  | zero (neg : Bool)
  | fin (neg : Bool) (n : Nat) (q : Int)
  deriving DecidableEq, Repr

/-- An accumulator record (R254). -/
structure Rec where
  nan : Bool
  pinf : Bool
  ninf : Bool
  negz : Bool
  idx : Nat
  a : BitVec 320
  deriving DecidableEq, Repr

/-- A record before its first term (R254). -/
def Rec.zero : Rec := { nan := false, pinf := false, ninf := false, negz := true, idx := 0, a := 0 }

/-- One delivery to a segment: the placement epoch under which the collective engine directed it (R228), its source's rank,
whether a child sent it, its slot, sub-frame, first element, element count and data (R224). -/
structure Delivery where
  epoch : Nat
  source : Nat
  child : Bool
  slot : Nat
  sub : Nat
  subOff : Nat
  elems : Nat
  data : List Byte
  deriving DecidableEq, Repr

/-- One segment of an operation at this module (R228, R230, R240). -/
structure Seg where
  k : Nat
  order : Nat                       -- when it was placed, counted over the home sector
  engine : Option Nat
  epoch : Nat
  window : Option Nat               -- the window of its engine that it holds (R276)
  moving : Bool                     -- between the engine's loss and MIGRATE_READY (R240)
  recomputed : Bool                 -- it has been recomputed once for a residue failure (R241)
  got : List Delivery               -- delivered, in arrival order
  taken : Nat                       -- of these, how many the engine has taken, the first first
  added : List (Nat × Nat × Nat)    -- source, slot, sub-frame: added to the records
  subs : Tbl (Nat × Nat) Nat        -- child rank and slot: SUBS_M1
  runs : Tbl (Nat × Nat) (List (Nat × Nat × Nat)) -- child rank and slot: sub-frames delivered, with first element and count
  recs : Tbl Nat Rec                -- element: record
  rin : Nat                         -- R_in modulo 2^61 − 1 (R268)
  corrupt : Option Bool             -- the QUAR of the rehearsal injection that has corrupted R_in (R465)
  bytes : Nat                       -- contribution data retained or staged (R277)
  chunks : List Nat                 -- the HBM chunks that they lie in, in order
  readLost : Bool                   -- a retained chunk has been lost (R336)
  counted : List (Nat × Nat)        -- engine and RDE_EVT bit: counted for this segment (R270)
  preRound : Bool
  inOver : Bool
  sideHeld : Bool                   -- complete but for the side total (R284)
  ready : Bool                      -- complete, and behind an earlier segment of a common recipient (R225)
  sent : Bool
  deriving DecidableEq, Repr

/-- An operation at this module (R226 to R238). -/
structure Op where
  defIdx : Nat
  gdef : GroupDef
  members : List MemberEntry
  op : Nat
  desc : Descriptor
  descBits : BitVec 256
  fp : BitVec 64
  state : Nat                       -- R233
  pra : Bool                        -- the array serves it (R302)
  acks : Tbl Nat Nat                -- LPORT: members acknowledged
  segs : Tbl Nat Seg
  copied : List (Nat × Nat)         -- ALL_GATHER, BROADCAST and BARRIER: rank and slot delivered
  results : List (Nat × Nat)        -- segment and slot forwarded from the parent
  segDone : Nat
  side : Tbl Nat Val                -- the side sums that are in, by segment (R284)
  logged : List (Bool × Nat)        -- DESC_MISMATCH sources: child, rank (R237)
  seq : Nat                         -- the next SEQ of the module's own flow (R139, R224)
  deriving DecidableEq, Repr

/-- The retired numbers of a group (R226). -/
structure OpWindow where
  low : Nat
  done : List Nat
  deriving DecidableEq, Repr

/-- The latest DESC_MISMATCH of a sector (R250). -/
structure MismatchLog where
  op : Nat
  defIdx : Nat
  ranks : List (Bool × Nat)
  deriving DecidableEq, Repr

/-- One version of the group section's tables (R216). -/
structure GroupTables where
  defs : Tbl Nat (BitVec 256)
  members : Tbl Nat (BitVec 64)
  deriving DecidableEq, Repr

/-- The collective engine. -/
structure ColUnit where
  active : GroupTables
  shadow : GroupTables
  live : List Nat                                      -- definitions out of standby (R463)
  written : List Nat                                   -- definitions written since start and not yet switched
  busy : List (Nat × Nat × Bool × Nat × BitVec 256)    -- sector, OP, member entry, index, data: commands that run
  windows : Tbl Nat OpWindow
  ops : Tbl Nat Op
  placed : Nat
  logs : Tbl Nat MismatchLog
  deriving DecidableEq, Repr

/-- A recipe record (R290). -/
structure Recipe where
  pre : List (BitVec 32)
  post : List (BitVec 32)
  comb : List (BitVec 32)
  consts : List (BitVec 64)
  table : Option (List (BitVec 64))
  offset : Nat                      -- of its table in the recipe region, in 4 KiB units
  digest : BitVec 32
  deriving DecidableEq, Repr

/-- One residue failure (R300). -/
structure RdeFail where
  temp : Nat
  inFmt : Nat
  recipe : Nat
  diff : Nat
  at_ : Nat                         -- `elapsed` of the failure
  counts : Bool                     -- it counts toward quarantine (R465)
  deriving DecidableEq, Repr

/-- The reduction engines beside RDE_STATUS. -/
structure RdeUnit where
  fails : Tbl Nat (List RdeFail)    -- engine: newest first
  recipes : Tbl Nat Recipe
  turn : Tbl Nat Nat                -- group definition: segments placed in its bound windows (R364)
  inject : Tbl Nat Nat              -- engine: segments still to corrupt (R465 kind 3)
  injectQuar : Bool                 -- its QUAR
  rehearsed : List Nat              -- engines whose quarantine an injection caused (R466)
  quarantined : Tbl Nat Nat         -- engine: `elapsed` of its quarantine (R470)
  deriving DecidableEq, Repr

/-- A conversion term on its way (R304, R307, R315). -/
structure PraTerm where
  slot : Nat                        -- operation slot
  seg : Nat
  fslot : Nat
  elem : Nat
  ranks : List Nat                  -- the contributors it stands for
  epoch : Nat                       -- of the placement it was made under
  block : Nat                       -- its conversion block's number (R314)
  shadow : Bool
  chan : Nat
  code : Int
  half : Int                        -- log2 of the block half-range F
  scale : Nat
  deriving DecidableEq, Repr

/-- A conversion block of which some elements have been converted (R314). -/
structure PraBlock where
  slot : Nat
  seg : Nat
  fslot : Nat
  ranks : List Nat
  index : Nat                       -- the block of 32 elements in its slot
  num : Nat
  seen : Nat                        -- elements converted
  deriving DecidableEq, Repr

/-- One photonic array beside its registers. -/
structure PraArray where
  enabled : Bool                    -- the image enables it
  reenable : Bool                   -- REENABLE waits for a pause to end (R323)
  seed : Nat                        -- shadow seed (R314)
  blocks : Nat                      -- conversion blocks since enable
  openBlocks : List PraBlock
  retired : List Nat                -- channels that failed the latest verification (R313)
  ringless : List Nat               -- channels of which a ring has no spare left (R319)
  causes : Nat                      -- bit i: cause i of a pause lasts (R318)
  inFlight : List PraTerm
  compare : List PraTerm
  viols : List Nat                  -- `elapsed` of the latest violations
  captured : Tbl Nat (Int × Int)    -- element of the captured block: its code and error
  hist : Tbl Nat Nat
  deriving DecidableEq, Repr

/-- One HBM stack beside its registers. -/
structure HbmStack where
  mapped : List (Nat × Bool × Bool) -- channel, hard, rehearsal
  failing : List (Nat × Bool × Bool) -- channel, hard, rehearsal: between CHAN_FAIL and CHAN_MAPPED
  ue : Tbl Nat (List Nat)           -- channel: `elapsed` of its HBM_UE
  ce : Tbl Nat Nat                  -- channel: HBM_CE since start
  silent : Bool                     -- its sensor has not reported for 10 ms (R339)
  scrubLate : Bool                  -- its scrub pass has not ended within 8 h (R335)
  due : List Nat                    -- elevenths of a byte due by priority, the first of R334 first (R333)
  dueAt : Nat                       -- `elapsed` at which they were
  moved : List (Nat × Bool × Nat)   -- accesses of the last 1 ms (R346): `elapsed`, whether a write, bytes
  deriving DecidableEq, Repr

/-- A 4 KiB chunk of HBM in use (R330). -/
structure HbmChunk where
  no : Nat
  sector : Nat
  octet : Nat                       -- of the sector's 16
  region : Nat
  pool : Bool                       -- of the Carafe pool
  use : ChunkUse
  deriving DecidableEq, Repr

/-- HBM: its stacks, and its regions in chunks of 4 KiB (R331). -/
structure HbmUnit where
  stack : Tbl Nat HbmStack
  sizes : Tbl Nat Nat               -- region 0–4: size in MiB of the image
  stagePool : Bool                  -- the image lets ORDERED staging claim the Carafe pool
  chunks : List HbmChunk            -- in use, oldest first
  nextNo : Nat                      -- the number of the next chunk
  lostUnits : List (Nat × Nat)      -- sector and 4 KiB unit of the recipe region of which both copies are lost (R336)
  turn : Tbl Nat (Nat × Nat)        -- sector: the octet whose turn it is, and the chunks it has taken on it (R330)
  deriving DecidableEq, Repr

end Sys2Proof.Machine
end

