-- ==== Sys2Proof/Machine/LightUnits.lean ====
section
/-! DEFINITION. The state of the lightpath engines and of the Flyover circuits beside what their registers hold
(spec/02_lightpath_engines.md, spec/03_flyover_circuits.md). -/

namespace Sys2Proof.Machine

/-- What the search of step 8 saw of one ring (R46, R47): the heater code of each wavelength's dip, λ0 first. -/
structure RingDips where
  pb : Nat
  ring : Nat
  codes : List (Option (BitVec 16))
  deriving DecidableEq, Repr

/-- One ring (R42, R79). -/
structure Ring where
  relocks : Nat
  held : Bool
  failed : Bool
  locked : Bool
  spare : Bool
  lambda : Nat
  assigned : BitVec 16
  heater : BitVec 16
  busy : Bool              -- re-acquiring or being spared (R87)
  deriving DecidableEq, Repr

/-- How far a swap has come (R56). -/
inductive SwapPhase where
  | tuning
  | seeding
  | combining (step : Nat)
  deriving DecidableEq, Repr

/-- A swap under way in an engine (R56, R76): the laser that leaves, the one that takes over, and, for a commanded
swap, whether this is its way back and whether the laser swapped out has faded meanwhile. -/
structure Swap where
  old : Nat
  new : Nat
  lambda : Nat
  phase : SwapPhase
  commanded : Bool
  back : Bool
  oldFaded : Bool
  deriving DecidableEq, Repr

/-- The lightpath engines (R39 to R70). -/
structure LpeUnit where
  dips : List RingDips                 -- rings whose search differs from the factory's record of them
  rings : Tbl (Nat × Nat) Ring         -- engine and ring index; a ring not listed is as the search left it
  fadeRun : Tbl (Nat × Nat) Nat        -- engine and laser: consecutive fading averages (R55)
  waiting : Tbl Nat (List Nat)         -- engine: fading lasers that wait for a swap, first first (R58)
  swaps : Tbl Nat (Option Swap)
  noSpare : List (Nat × Nat)           -- engine and laser: kept in service with no spare (R60)
  deriving DecidableEq, Repr

/-- Who gave a circuit command (R86, R98, R105). -/
inductive FlyOrigin where
  | frame (src : Loc) (reqId : BitVec 16)
  | register
  | image (atStart : Bool)
  deriving DecidableEq, Repr

/-- The circuit operations of R98. -/
inductive FlyOp where
  | query
  | setUp
  | tearDown
  deriving DecidableEq, Repr

/-- One circuit command (R98, R105). -/
structure FlyCmd where
  op : FlyOp
  origin : FlyOrigin
  tag : BitVec 16
  slot : Fin 256
  inPort : Fin 512
  outPort : Fin 512
  hold : Bool
  deriving DecidableEq, Repr

/-- The FLY block beside its slots' registers (R86). -/
structure FlyUnit where
  queue : List FlyCmd
  running : Option FlyCmd
  detuned : List Nat                   -- slots whose add ring loss of light keeps detuned (R64, R97)
  deriving DecidableEq, Repr

end Sys2Proof.Machine
end

