-- ==== Sys2Proof/Machine/RegNames.lean ====
section
/-! DEFINITION. The names of the module's registers (R71, R100, R131, R165, R192, R209, R244, R297, R324, R343, R369,
R397, R429, R446, R467, R485, R510, R519), one constructor a register, and the key of one register field. -/

namespace Sys2Proof.Machine

/-- One name for each register of the spec's block tables. -/
inductive RegName where
  | lpeId
  | lpeCtrl
  | lpeStatus
  | lpeEvt
  | lpeSwapCmd
  | lpeLsrStat
  | lpeLsrPwr
  | lpeLsrBias
  | lpePortPwr
  | lpePortApr
  | lpeRingSel
  | lpeRingStat
  | lpeRingHtr
  | flyId
  | flyCtrl
  | flyStatus
  | flyEvt
  | flyCmd
  | flyCmdResult
  | flySlotCfg
  | flySlotPwr
  | lnkId
  | lnkCtrl
  | lnkEvt
  | lnkElane
  | lnkLinkState
  | lnkLinkPeera
  | lnkLinkPeerb
  | lnkLinkRetry
  | lnkLaneFec
  | lnkCredSel
  | lnkCredStat
  | fwdId
  | fwdCtrl
  | fwdLoc
  | fwdEvt
  | fwdSeedLo
  | fwdSeedHi
  | fwdVer
  | fwdTblCmd
  | fwdTblStat
  | fwdTblDataLo
  | fwdTblDataHi
  | bufId
  | bufCtrl
  | bufStatus
  | bufEvt
  | bufReseqCfg
  | bufReseqStat
  | bufSramStat
  | bufToll
  | bufCarafeCfg
  | bufCarafeStat
  | bufQSel
  | bufQSram
  | bufQCarafe
  | bufQFrames
  | bufPlim
  | tmId
  | tmCtrl
  | tmEvt
  | tmVcw0
  | tmVcw1
  | tmOvh
  | tmQSel
  | tmQRate
  | tmQBurst
  | tmQCredit
  | tmQStat
  | tmQNext
  | colId
  | colCtrl
  | colStatus
  | colEvt
  | colGrpCmd
  | colGrpStat
  | colGrpData
  | colOpSel
  | colOpId
  | colOpStat
  | colOpAck
  | colAbortCmd
  | colAbortResult
  | colLogHdr
  | colLogSel
  | colLogData
  | rdeId
  | rdeStatus
  | rdeEvt
  | rdeFailSel
  | rdeFailInfo
  | rdeFailDiff
  | rdeRcpSel
  | rdeRcpInfo
  | rdeRcpDigest
  | praId
  | praCtrl
  | praStatus
  | praEvt
  | praChanLo
  | praChanHi
  | praCarrier
  | praShdNLo
  | praShdNHi
  | praShdSumLo
  | praShdSumHi
  | praShdSqLo
  | praShdSqHi
  | praShdMax
  | praCapSel
  | praCapInfo
  | praCapErr
  | praHistSel
  | praHist
  | hbmId
  | hbmCtrl
  | hbmStatus
  | hbmEvt
  | hbmTemp
  | hbmChan
  | hbmEcc
  | hbmBw
  | hbmChSel
  | hbmChInfo
  | hbmRgnSel
  | hbmRgnSize
  | hbmRgnUsed
  | tmSchedCfg
  | tmSchedOfs
  | tmSchedStat
  | tmSchedEvt
  | tmSchedCntLo
  | tmSchedCntHi
  | tmSchedSel
  | tmSchedWin0
  | tmSchedWin1
  | clkId
  | clkCtrl
  | clkStatus
  | clkEvt
  | clkXtal
  | clkDomStat
  | timCtrl
  | timStatus
  | timEvt
  | timJumpMax
  | timNowLo
  | timNowHi
  | timIncLo
  | timIncHi
  | timSetLo
  | timSetHi
  | timAdjLo
  | timAdjHi
  | timPpsLo
  | timPpsHi
  | timSyncCmd
  | timSyncStat
  | timSyncTLo
  | timSyncTHi
  | imgId
  | imgStatus
  | imgEvt
  | imgSeq
  | imgOtherSeq
  | imgPatchSeq
  | imgPrio
  | imgConflict
  | mpcId
  | mpcCtrl
  | mpcStatus
  | mpcEvt
  | mpcQSel
  | mpcQStat
  | mpcHostPort
  | mpcHostLoc
  | mpcReqSel
  | mpcReqLoc
  | mpcReqPerm
  | mpcSmb
  | secId
  | secStatus
  | secEvt
  | secDevidLo
  | secDevidHi
  | secKeyset
  | secKeysetVer
  | secQseqLo
  | secQseqHi
  | secLast
  | mpcInjCmd
  | mpcInjArg
  | mpcInjStat
  | telId
  | telCtrl
  | telStatus
  | telEvt
  | telSel
  | telCntLo
  | telCntHi
  | telSink
  | telSmpPop
  | telSmpData
  | telGrantSel
  | telGrantLoc
  | telGrantGrp
  | telGrantInst
  | pwrId
  | pwrCtrl
  | pwrStatus
  | pwrEvt
  | pwrRstCmd
  | pwrRstCause
  | pwrTotal
  | pwrGov
  | pwrRailV
  | pwrRailI
  | pwrDieTemp
  | glbId
  | glbCap0
  | glbCap1
  | glbStrap
  | glbIncarn
  | glbAlert
  | glbScratch
  | glbLogHead
  | glbLogSel
  | glbLogStat
  | glbLogData
  | glbLogMask
  deriving DecidableEq, Repr

/-- The key of one register field: the register, the instance `i` of its block, the instance `j` of the register inside
the block, and the field's lowest bit `lo`. -/
structure FKey where
  reg : RegName
  i : Nat
  j : Nat
  lo : Nat
  deriving DecidableEq, Repr

/-- The access codes of R14. -/
inductive Access where
  | rw | ro | wo | w1c | rc
  deriving DecidableEq, Repr

/-- One field of a register table: its bit range, its access code and its legal values (R16). -/
structure FieldDef where
  hi : Nat
  lo : Nat
  acc : Access
  least : Nat
  most : Nat
  deriving DecidableEq, Repr

end Sys2Proof.Machine
end

