-- ==== Sys2Proof/Machine/Events.lean ====
section
/-! DEFINITION. The counted events of the module (R472, R473): one name each, its event number, and the EVT register bit
that shows it. -/

namespace Sys2Proof.Machine

/-- The events of R472 and R473, each named by its block and its own name. -/
inductive Ev where
  | clk_XTAL_QUAL
  | clk_XTAL_QUAL_FAIL
  | clk_CLOCK_FAIL
  | clk_XTAL_LOST
  | clk_IOSC_LOST
  | clk_RAMP_DONE
  | tim_STEPPED
  | tim_SET_REFUSED
  | tim_JUMP_REFUSED
  | tim_SLEW_DONE
  | tim_PPS_IN_EDGE
  | tim_PPS_MISSING
  | tim_SYNC_DONE
  | pwr_READY
  | pwr_RAIL_WARN
  | pwr_RAIL_FAULT
  | pwr_THROTTLE
  | pwr_THERM_ALERT
  | pwr_THERMTRIP
  | pwr_GOV_HOLD
  | pwr_POWER_CAP_HOLD
  | pwr_RESET_REQ
  | pwr_START_STALL
  | sec_Q_ACCEPTED
  | sec_Q_REFUSED
  | sec_SIG_HALF
  | sec_FENCE_ON
  | sec_FENCE_OFF
  | sec_EXPELLED
  | sec_REHEARSAL_ON
  | sec_REHEARSAL_OFF
  | sec_DEBUG_UNLOCKED
  | sec_KEYSET_ROTATED
  | sec_BOOT_SIG_FAIL
  | sec_ATTEST_DONE
  | sec_EXPEL_DISCARD
  | sec_SEC_STATE_FAIL
  | img_IMG_LOADED
  | img_IMG_FALLBACK
  | img_IMG_CONFLICT
  | img_PATCH_APPLIED
  | img_PATCH_REFUSED
  | img_FLASH_DONE
  | mpc_MPC_BUSY
  | mpc_MPC_OVERLOAD
  | mpc_HOST_REFUSED
  | mpc_DENIED
  | mpc_SMB_PEC_FAIL
  | mpc_DUP_REPLY
  | tel_ABSENT_INSTANCE
  | tel_SAMPLE_DROP
  | tel_REPAIR_WRITE_FAIL
  | tel_ACCESS_FAULT
  | tel_MPC_CORE_FAIL
  | lpe_FADE
  | lpe_SWAP_DONE
  | lpe_NO_SPARE
  | lpe_SPARE_FAIL
  | lpe_EOL
  | lpe_MISLOCK
  | lpe_RING_SPARED
  | lpe_APR_ENTER
  | lpe_APR_EXIT
  | lpe_CAP_LIMIT
  | lpe_SEARCH_FAIL
  | lpe_SWAP_REFUSED
  | lnk_LOSS_OF_LINK
  | lnk_LINK_UP
  | lnk_RETRY
  | lnk_RETRAIN
  | lnk_LANE_REMOVED
  | lnk_LANE_ADDED
  | lnk_SPARE_LANE
  | lnk_SPARE_EXHAUSTED
  | lnk_GOING_DOWN_TX
  | lnk_GOING_DOWN_RX
  | lnk_MISWIRE
  | lnk_PEER_RESTART
  | lnk_LINK_DISCARD
  | lnk_CREDIT_HEAL
  | lnk_CREDIT_VIOLATION
  | lnk_LANE_ADD_FAIL
  | fly_CIRCUIT_UP
  | fly_CIRCUIT_DOWN
  | fly_CIRCUIT_INT
  | fly_CIRCUIT_REFUSED
  | fly_HOLD_ENTER
  | fly_HOLD_EXIT
  | fly_HOLD_LOST
  | fwd_PARSE_FAIL
  | fwd_NO_ROUTE
  | fwd_GROUP_MISS
  | fwd_HOPS_EXPIRED
  | fwd_SELF_ADDR
  | fwd_NO_PATH
  | fwd_ESCAPE
  | fwd_DOWN_UP_FAULT
  | fwd_VC_MISMATCH
  | fwd_REQUEUE
  | fwd_VERSION_SWITCH
  | buf_SRAM_CE
  | buf_SRAM_UE
  | buf_CARAFE_UE
  | buf_PLANE_FAIL
  | buf_PLANE_SPARED
  | buf_CARAFE_SPILL
  | buf_CARAFE_FULL
  | buf_BACKPRESSURE
  | buf_TOLLGATE_HOLD
  | buf_RESEQ_SKIP
  | buf_RESEQ_LATE
  | buf_RESEQ_DUP
  | buf_RESEQ_CTX_WAIT
  | buf_MIRROR_DROP
  | buf_CARAFE_DENIED
  | buf_DEEP_CTX
  | tm_WHEEL_LATE
  | tm_CREDIT_DISCARD
  | tm_SLOT_GUARD
  | tm_SHAPER_APPLIED
  | sched_SYNC_GLITCH
  | sched_SYNC_IGNORED
  | sched_SYNC_TIMEOUT
  | sched_LOCK_LOST
  | sched_SCHED_OVERRUN
  | sched_SLOT_TOO_LONG
  | sched_WRITE_HELD
  | col_COLL_LATE
  | col_COLL_DUP
  | col_COLL_STALE_JOB
  | col_COLL_STALE_PLACE
  | col_COLL_FOREIGN
  | col_DESC_MISMATCH
  | col_MIGRATE
  | col_RESIDUE_RECOMPUTE
  | col_NO_RESOURCE
  | col_TIMEOUT
  | col_TREE_BREAK
  | col_FENCE_REFUSED
  | col_OP_DONE
  | col_OP_ABORT
  | rde_INPUT_OVERFLOW
  | rde_ACC_SPECIAL
  | rde_ACC_OVERFLOW
  | rde_RESIDUE_MISMATCH
  | rde_PRE_ROUND
  | rde_WINDOW_WAIT
  | rde_RECOMPUTE
  | rde_SIDE_HOLD
  | pra_PRA_TRIP
  | pra_SHADOW_VIOL
  | pra_REF_FAIL
  | pra_PAUSE
  | pra_CAL_DONE
  | pra_CHAN_RETIRED
  | pra_CARRIER_LOST
  | pra_PRA_FALLBACK
  | hbm_HBM_CE
  | hbm_HBM_UE
  | hbm_CHAN_FAIL
  | hbm_CHAN_MAPPED
  | hbm_CHUNK_LOST
  | hbm_THROTTLE
  | hbm_HBM_HOT
  | hbm_REGION_FULL
  | hbm_TRAIN_FAIL
  | hbm_SCRUB_LATE
  | hbm_STACK_FAIL
  | link_OS_CRC_FAIL
  | link_LINK_DUP
  | sector_COLL_EARLY
  | sector_SRAM_REMAP
  | sector_SRAM_RETIRE
  | sector_XBAR_CELL_OUT
  | sector_XBAR_CELL_LOCAL
  | sector_XBAR_STALL
  deriving DecidableEq, Repr

/-- The event number: the group's code times 32 plus the bit (R472). -/
def Ev.num : Ev → Nat
  | .clk_XTAL_QUAL => 0x0
  | .clk_XTAL_QUAL_FAIL => 0x1
  | .clk_CLOCK_FAIL => 0x2
  | .clk_XTAL_LOST => 0x3
  | .clk_IOSC_LOST => 0x4
  | .clk_RAMP_DONE => 0x5
  | .tim_STEPPED => 0x20
  | .tim_SET_REFUSED => 0x21
  | .tim_JUMP_REFUSED => 0x22
  | .tim_SLEW_DONE => 0x23
  | .tim_PPS_IN_EDGE => 0x24
  | .tim_PPS_MISSING => 0x25
  | .tim_SYNC_DONE => 0x26
  | .pwr_READY => 0x40
  | .pwr_RAIL_WARN => 0x41
  | .pwr_RAIL_FAULT => 0x42
  | .pwr_THROTTLE => 0x43
  | .pwr_THERM_ALERT => 0x44
  | .pwr_THERMTRIP => 0x45
  | .pwr_GOV_HOLD => 0x46
  | .pwr_POWER_CAP_HOLD => 0x47
  | .pwr_RESET_REQ => 0x48
  | .pwr_START_STALL => 0x49
  | .sec_Q_ACCEPTED => 0x60
  | .sec_Q_REFUSED => 0x61
  | .sec_SIG_HALF => 0x62
  | .sec_FENCE_ON => 0x63
  | .sec_FENCE_OFF => 0x64
  | .sec_EXPELLED => 0x65
  | .sec_REHEARSAL_ON => 0x66
  | .sec_REHEARSAL_OFF => 0x67
  | .sec_DEBUG_UNLOCKED => 0x68
  | .sec_KEYSET_ROTATED => 0x69
  | .sec_BOOT_SIG_FAIL => 0x6A
  | .sec_ATTEST_DONE => 0x6B
  | .sec_EXPEL_DISCARD => 0x6C
  | .sec_SEC_STATE_FAIL => 0x6D
  | .img_IMG_LOADED => 0x80
  | .img_IMG_FALLBACK => 0x81
  | .img_IMG_CONFLICT => 0x82
  | .img_PATCH_APPLIED => 0x83
  | .img_PATCH_REFUSED => 0x84
  | .img_FLASH_DONE => 0x85
  | .mpc_MPC_BUSY => 0xA0
  | .mpc_MPC_OVERLOAD => 0xA1
  | .mpc_HOST_REFUSED => 0xA2
  | .mpc_DENIED => 0xA3
  | .mpc_SMB_PEC_FAIL => 0xA4
  | .mpc_DUP_REPLY => 0xA5
  | .tel_ABSENT_INSTANCE => 0xC0
  | .tel_SAMPLE_DROP => 0xC1
  | .tel_REPAIR_WRITE_FAIL => 0xC2
  | .tel_ACCESS_FAULT => 0xC3
  | .tel_MPC_CORE_FAIL => 0xC4
  | .lpe_FADE => 0x100
  | .lpe_SWAP_DONE => 0x101
  | .lpe_NO_SPARE => 0x102
  | .lpe_SPARE_FAIL => 0x103
  | .lpe_EOL => 0x104
  | .lpe_MISLOCK => 0x105
  | .lpe_RING_SPARED => 0x106
  | .lpe_APR_ENTER => 0x107
  | .lpe_APR_EXIT => 0x108
  | .lpe_CAP_LIMIT => 0x109
  | .lpe_SEARCH_FAIL => 0x10A
  | .lpe_SWAP_REFUSED => 0x10B
  | .lnk_LOSS_OF_LINK => 0x120
  | .lnk_LINK_UP => 0x121
  | .lnk_RETRY => 0x122
  | .lnk_RETRAIN => 0x123
  | .lnk_LANE_REMOVED => 0x124
  | .lnk_LANE_ADDED => 0x125
  | .lnk_SPARE_LANE => 0x126
  | .lnk_SPARE_EXHAUSTED => 0x127
  | .lnk_GOING_DOWN_TX => 0x128
  | .lnk_GOING_DOWN_RX => 0x129
  | .lnk_MISWIRE => 0x12A
  | .lnk_PEER_RESTART => 0x12B
  | .lnk_LINK_DISCARD => 0x12C
  | .lnk_CREDIT_HEAL => 0x12D
  | .lnk_CREDIT_VIOLATION => 0x12E
  | .lnk_LANE_ADD_FAIL => 0x12F
  | .fly_CIRCUIT_UP => 0x140
  | .fly_CIRCUIT_DOWN => 0x141
  | .fly_CIRCUIT_INT => 0x142
  | .fly_CIRCUIT_REFUSED => 0x143
  | .fly_HOLD_ENTER => 0x144
  | .fly_HOLD_EXIT => 0x145
  | .fly_HOLD_LOST => 0x146
  | .fwd_PARSE_FAIL => 0x200
  | .fwd_NO_ROUTE => 0x201
  | .fwd_GROUP_MISS => 0x202
  | .fwd_HOPS_EXPIRED => 0x203
  | .fwd_SELF_ADDR => 0x204
  | .fwd_NO_PATH => 0x205
  | .fwd_ESCAPE => 0x206
  | .fwd_DOWN_UP_FAULT => 0x207
  | .fwd_VC_MISMATCH => 0x208
  | .fwd_REQUEUE => 0x209
  | .fwd_VERSION_SWITCH => 0x20A
  | .buf_SRAM_CE => 0x220
  | .buf_SRAM_UE => 0x221
  | .buf_CARAFE_UE => 0x222
  | .buf_PLANE_FAIL => 0x223
  | .buf_PLANE_SPARED => 0x224
  | .buf_CARAFE_SPILL => 0x225
  | .buf_CARAFE_FULL => 0x226
  | .buf_BACKPRESSURE => 0x227
  | .buf_TOLLGATE_HOLD => 0x228
  | .buf_RESEQ_SKIP => 0x229
  | .buf_RESEQ_LATE => 0x22A
  | .buf_RESEQ_DUP => 0x22B
  | .buf_RESEQ_CTX_WAIT => 0x22C
  | .buf_MIRROR_DROP => 0x22D
  | .buf_CARAFE_DENIED => 0x22E
  | .buf_DEEP_CTX => 0x22F
  | .tm_WHEEL_LATE => 0x240
  | .tm_CREDIT_DISCARD => 0x241
  | .tm_SLOT_GUARD => 0x242
  | .tm_SHAPER_APPLIED => 0x243
  | .sched_SYNC_GLITCH => 0x260
  | .sched_SYNC_IGNORED => 0x261
  | .sched_SYNC_TIMEOUT => 0x262
  | .sched_LOCK_LOST => 0x263
  | .sched_SCHED_OVERRUN => 0x264
  | .sched_SLOT_TOO_LONG => 0x265
  | .sched_WRITE_HELD => 0x266
  | .col_COLL_LATE => 0x280
  | .col_COLL_DUP => 0x281
  | .col_COLL_STALE_JOB => 0x282
  | .col_COLL_STALE_PLACE => 0x283
  | .col_COLL_FOREIGN => 0x284
  | .col_DESC_MISMATCH => 0x285
  | .col_MIGRATE => 0x286
  | .col_RESIDUE_RECOMPUTE => 0x287
  | .col_NO_RESOURCE => 0x288
  | .col_TIMEOUT => 0x289
  | .col_TREE_BREAK => 0x28A
  | .col_FENCE_REFUSED => 0x28B
  | .col_OP_DONE => 0x28C
  | .col_OP_ABORT => 0x28D
  | .rde_INPUT_OVERFLOW => 0x300
  | .rde_ACC_SPECIAL => 0x301
  | .rde_ACC_OVERFLOW => 0x302
  | .rde_RESIDUE_MISMATCH => 0x303
  | .rde_PRE_ROUND => 0x304
  | .rde_WINDOW_WAIT => 0x305
  | .rde_RECOMPUTE => 0x306
  | .rde_SIDE_HOLD => 0x307
  | .pra_PRA_TRIP => 0x320
  | .pra_SHADOW_VIOL => 0x321
  | .pra_REF_FAIL => 0x322
  | .pra_PAUSE => 0x323
  | .pra_CAL_DONE => 0x324
  | .pra_CHAN_RETIRED => 0x325
  | .pra_CARRIER_LOST => 0x326
  | .pra_PRA_FALLBACK => 0x327
  | .hbm_HBM_CE => 0x340
  | .hbm_HBM_UE => 0x341
  | .hbm_CHAN_FAIL => 0x342
  | .hbm_CHAN_MAPPED => 0x343
  | .hbm_CHUNK_LOST => 0x344
  | .hbm_THROTTLE => 0x345
  | .hbm_HBM_HOT => 0x346
  | .hbm_REGION_FULL => 0x347
  | .hbm_TRAIN_FAIL => 0x348
  | .hbm_SCRUB_LATE => 0x349
  | .hbm_STACK_FAIL => 0x34A
  | .link_OS_CRC_FAIL => 0x160
  | .link_LINK_DUP => 0x161
  | .sector_COLL_EARLY => 0x2A0
  | .sector_SRAM_REMAP => 0x2A1
  | .sector_SRAM_RETIRE => 0x2A2
  | .sector_XBAR_CELL_OUT => 0x2A3
  | .sector_XBAR_CELL_LOCAL => 0x2A4
  | .sector_XBAR_STALL => 0x2A5

/-- The EVT register of the event's group, where it has one (R472, R473). -/
def Ev.reg : Ev → Option RegName
  | .clk_XTAL_QUAL => some .clkEvt
  | .clk_XTAL_QUAL_FAIL => some .clkEvt
  | .clk_CLOCK_FAIL => some .clkEvt
  | .clk_XTAL_LOST => some .clkEvt
  | .clk_IOSC_LOST => some .clkEvt
  | .clk_RAMP_DONE => some .clkEvt
  | .tim_STEPPED => some .timEvt
  | .tim_SET_REFUSED => some .timEvt
  | .tim_JUMP_REFUSED => some .timEvt
  | .tim_SLEW_DONE => some .timEvt
  | .tim_PPS_IN_EDGE => some .timEvt
  | .tim_PPS_MISSING => some .timEvt
  | .tim_SYNC_DONE => some .timEvt
  | .pwr_READY => some .pwrEvt
  | .pwr_RAIL_WARN => some .pwrEvt
  | .pwr_RAIL_FAULT => some .pwrEvt
  | .pwr_THROTTLE => some .pwrEvt
  | .pwr_THERM_ALERT => some .pwrEvt
  | .pwr_THERMTRIP => some .pwrEvt
  | .pwr_GOV_HOLD => some .pwrEvt
  | .pwr_POWER_CAP_HOLD => some .pwrEvt
  | .pwr_RESET_REQ => some .pwrEvt
  | .pwr_START_STALL => some .pwrEvt
  | .sec_Q_ACCEPTED => some .secEvt
  | .sec_Q_REFUSED => some .secEvt
  | .sec_SIG_HALF => some .secEvt
  | .sec_FENCE_ON => some .secEvt
  | .sec_FENCE_OFF => some .secEvt
  | .sec_EXPELLED => some .secEvt
  | .sec_REHEARSAL_ON => some .secEvt
  | .sec_REHEARSAL_OFF => some .secEvt
  | .sec_DEBUG_UNLOCKED => some .secEvt
  | .sec_KEYSET_ROTATED => some .secEvt
  | .sec_BOOT_SIG_FAIL => some .secEvt
  | .sec_ATTEST_DONE => some .secEvt
  | .sec_EXPEL_DISCARD => some .secEvt
  | .sec_SEC_STATE_FAIL => some .secEvt
  | .img_IMG_LOADED => some .imgEvt
  | .img_IMG_FALLBACK => some .imgEvt
  | .img_IMG_CONFLICT => some .imgEvt
  | .img_PATCH_APPLIED => some .imgEvt
  | .img_PATCH_REFUSED => some .imgEvt
  | .img_FLASH_DONE => some .imgEvt
  | .mpc_MPC_BUSY => some .mpcEvt
  | .mpc_MPC_OVERLOAD => some .mpcEvt
  | .mpc_HOST_REFUSED => some .mpcEvt
  | .mpc_DENIED => some .mpcEvt
  | .mpc_SMB_PEC_FAIL => some .mpcEvt
  | .mpc_DUP_REPLY => some .mpcEvt
  | .tel_ABSENT_INSTANCE => some .telEvt
  | .tel_SAMPLE_DROP => some .telEvt
  | .tel_REPAIR_WRITE_FAIL => some .telEvt
  | .tel_ACCESS_FAULT => some .telEvt
  | .tel_MPC_CORE_FAIL => some .telEvt
  | .lpe_FADE => some .lpeEvt
  | .lpe_SWAP_DONE => some .lpeEvt
  | .lpe_NO_SPARE => some .lpeEvt
  | .lpe_SPARE_FAIL => some .lpeEvt
  | .lpe_EOL => some .lpeEvt
  | .lpe_MISLOCK => some .lpeEvt
  | .lpe_RING_SPARED => some .lpeEvt
  | .lpe_APR_ENTER => some .lpeEvt
  | .lpe_APR_EXIT => some .lpeEvt
  | .lpe_CAP_LIMIT => some .lpeEvt
  | .lpe_SEARCH_FAIL => some .lpeEvt
  | .lpe_SWAP_REFUSED => some .lpeEvt
  | .lnk_LOSS_OF_LINK => some .lnkEvt
  | .lnk_LINK_UP => some .lnkEvt
  | .lnk_RETRY => some .lnkEvt
  | .lnk_RETRAIN => some .lnkEvt
  | .lnk_LANE_REMOVED => some .lnkEvt
  | .lnk_LANE_ADDED => some .lnkEvt
  | .lnk_SPARE_LANE => some .lnkEvt
  | .lnk_SPARE_EXHAUSTED => some .lnkEvt
  | .lnk_GOING_DOWN_TX => some .lnkEvt
  | .lnk_GOING_DOWN_RX => some .lnkEvt
  | .lnk_MISWIRE => some .lnkEvt
  | .lnk_PEER_RESTART => some .lnkEvt
  | .lnk_LINK_DISCARD => some .lnkEvt
  | .lnk_CREDIT_HEAL => some .lnkEvt
  | .lnk_CREDIT_VIOLATION => some .lnkEvt
  | .lnk_LANE_ADD_FAIL => some .lnkEvt
  | .fly_CIRCUIT_UP => some .flyEvt
  | .fly_CIRCUIT_DOWN => some .flyEvt
  | .fly_CIRCUIT_INT => some .flyEvt
  | .fly_CIRCUIT_REFUSED => some .flyEvt
  | .fly_HOLD_ENTER => some .flyEvt
  | .fly_HOLD_EXIT => some .flyEvt
  | .fly_HOLD_LOST => some .flyEvt
  | .fwd_PARSE_FAIL => some .fwdEvt
  | .fwd_NO_ROUTE => some .fwdEvt
  | .fwd_GROUP_MISS => some .fwdEvt
  | .fwd_HOPS_EXPIRED => some .fwdEvt
  | .fwd_SELF_ADDR => some .fwdEvt
  | .fwd_NO_PATH => some .fwdEvt
  | .fwd_ESCAPE => some .fwdEvt
  | .fwd_DOWN_UP_FAULT => some .fwdEvt
  | .fwd_VC_MISMATCH => some .fwdEvt
  | .fwd_REQUEUE => some .fwdEvt
  | .fwd_VERSION_SWITCH => some .fwdEvt
  | .buf_SRAM_CE => some .bufEvt
  | .buf_SRAM_UE => some .bufEvt
  | .buf_CARAFE_UE => some .bufEvt
  | .buf_PLANE_FAIL => some .bufEvt
  | .buf_PLANE_SPARED => some .bufEvt
  | .buf_CARAFE_SPILL => some .bufEvt
  | .buf_CARAFE_FULL => some .bufEvt
  | .buf_BACKPRESSURE => some .bufEvt
  | .buf_TOLLGATE_HOLD => some .bufEvt
  | .buf_RESEQ_SKIP => some .bufEvt
  | .buf_RESEQ_LATE => some .bufEvt
  | .buf_RESEQ_DUP => some .bufEvt
  | .buf_RESEQ_CTX_WAIT => some .bufEvt
  | .buf_MIRROR_DROP => some .bufEvt
  | .buf_CARAFE_DENIED => some .bufEvt
  | .buf_DEEP_CTX => some .bufEvt
  | .tm_WHEEL_LATE => some .tmEvt
  | .tm_CREDIT_DISCARD => some .tmEvt
  | .tm_SLOT_GUARD => some .tmEvt
  | .tm_SHAPER_APPLIED => some .tmEvt
  | .sched_SYNC_GLITCH => some .tmSchedEvt
  | .sched_SYNC_IGNORED => some .tmSchedEvt
  | .sched_SYNC_TIMEOUT => some .tmSchedEvt
  | .sched_LOCK_LOST => some .tmSchedEvt
  | .sched_SCHED_OVERRUN => some .tmSchedEvt
  | .sched_SLOT_TOO_LONG => some .tmSchedEvt
  | .sched_WRITE_HELD => some .tmSchedEvt
  | .col_COLL_LATE => some .colEvt
  | .col_COLL_DUP => some .colEvt
  | .col_COLL_STALE_JOB => some .colEvt
  | .col_COLL_STALE_PLACE => some .colEvt
  | .col_COLL_FOREIGN => some .colEvt
  | .col_DESC_MISMATCH => some .colEvt
  | .col_MIGRATE => some .colEvt
  | .col_RESIDUE_RECOMPUTE => some .colEvt
  | .col_NO_RESOURCE => some .colEvt
  | .col_TIMEOUT => some .colEvt
  | .col_TREE_BREAK => some .colEvt
  | .col_FENCE_REFUSED => some .colEvt
  | .col_OP_DONE => some .colEvt
  | .col_OP_ABORT => some .colEvt
  | .rde_INPUT_OVERFLOW => some .rdeEvt
  | .rde_ACC_SPECIAL => some .rdeEvt
  | .rde_ACC_OVERFLOW => some .rdeEvt
  | .rde_RESIDUE_MISMATCH => some .rdeEvt
  | .rde_PRE_ROUND => some .rdeEvt
  | .rde_WINDOW_WAIT => some .rdeEvt
  | .rde_RECOMPUTE => some .rdeEvt
  | .rde_SIDE_HOLD => some .rdeEvt
  | .pra_PRA_TRIP => some .praEvt
  | .pra_SHADOW_VIOL => some .praEvt
  | .pra_REF_FAIL => some .praEvt
  | .pra_PAUSE => some .praEvt
  | .pra_CAL_DONE => some .praEvt
  | .pra_CHAN_RETIRED => some .praEvt
  | .pra_CARRIER_LOST => some .praEvt
  | .pra_PRA_FALLBACK => some .praEvt
  | .hbm_HBM_CE => some .hbmEvt
  | .hbm_HBM_UE => some .hbmEvt
  | .hbm_CHAN_FAIL => some .hbmEvt
  | .hbm_CHAN_MAPPED => some .hbmEvt
  | .hbm_CHUNK_LOST => some .hbmEvt
  | .hbm_THROTTLE => some .hbmEvt
  | .hbm_HBM_HOT => some .hbmEvt
  | .hbm_REGION_FULL => some .hbmEvt
  | .hbm_TRAIN_FAIL => some .hbmEvt
  | .hbm_SCRUB_LATE => some .hbmEvt
  | .hbm_STACK_FAIL => some .hbmEvt
  | .link_OS_CRC_FAIL => none
  | .link_LINK_DUP => none
  | .sector_COLL_EARLY => none
  | .sector_SRAM_REMAP => none
  | .sector_SRAM_RETIRE => none
  | .sector_XBAR_CELL_OUT => none
  | .sector_XBAR_CELL_LOCAL => none
  | .sector_XBAR_STALL => none

/-- The bit of the event in its group. -/
def Ev.bit (e : Ev) : Nat := e.num % 32

/-- The group of the event. -/
def Ev.group (e : Ev) : Nat := e.num / 32

end Sys2Proof.Machine
end

