-- ==== Sys2Proof/Machine/TimeUnits.lean ====
section
/-! DEFINITION. The state of the always-on island, the clocks, the time base, sector lock, power and resets, the event log
and telemetry, beside what their registers hold
(spec/13_profiles_and_determinism.md, spec/14_clocks_and_time.md, spec/18_telemetry_and_counters.md,
spec/19_power_thermal_startup.md, spec/20_register_map.md). -/

namespace Sys2Proof.Machine

/-- A sync exchange in flight (R392): the link, its TAG, and the request's transmit stamp. -/
structure SyncRun where
  lport : Nat
  tag : BitVec 16
  t1 : BitVec 64
  deriving DecidableEq, Repr

/-- The time base (R386 to R394). -/
structure TimeUnit where
  running : Bool            -- domain 4 has run since the last reset to FREE (R387)
  count : BitVec 64         -- nanoseconds
  frac : BitVec 32          -- units of 2^−32 ns
  stepValue : BitVec 64     -- the value an armed or due step takes (R387)
  stepDue : Bool            -- a step of SET_SRC 0 waits for the next tick
  slew : Int                -- correction not yet applied, 2^−32 ns (R388)
  islandFrom : Option Nat   -- `elapsed` when a core reset handed the count to the island (R389)
  ppsSeen : Bool            -- an edge stands whose absence of a next one is not told yet (R393)
  ppsAt : Option Nat        -- `elapsed` at the latest edge that PPS_IN took (R542)
  ppsOut : Option Nat       -- the PPS_OUT pin is high: `elapsed` at its rise (R394)
  sync : Option SyncRun
  deriving DecidableEq, Repr

/-- The clock state that no register shows (R375, R380, R384). -/
structure ClockUnit where
  firstWindow : Option Nat   -- the first window's count of the present qualification
  goodWindows : Nat          -- consecutive windows within ±5 of it, itself among them
  rehearsed : List Nat       -- domains whose failure was injected (R466)
  xtalDown : Bool            -- the crystal has failed before its qualification and no window has counted it since (R384, R396)
  deriving DecidableEq, Repr

/-- One window of the static schedule (R361, R372). -/
structure SchedWindow where
  lport : Nat
  start : Nat
  len : Nat
  idle : Bool                -- a held circuit has a lane of it: it is left empty (R96)
  deriving DecidableEq, Repr

/-- One engine binding of the schedule section (R361): a group definition, an engine and its segment windows. -/
structure Binding where
  group : Nat
  engine : Nat
  windows : List Nat
  deriving DecidableEq, Repr

/-- A register write that waits for the next period edge (R360). -/
structure HeldWrite where
  req : Requester
  addr : Addr
  data : Word
  queue : Nat × Nat          -- the queue that TM_Q_SEL selected (R212): LPORT and VC
  deriving DecidableEq, Repr

/-- Sector lock and the schedule (R354 to R372). -/
structure LockUnit where
  windows : List (Nat × Nat × SchedWindow)   -- sector, entry, window
  bindings : List Binding
  failures : Nat                              -- verification failures of this alignment (R356)
  verified : Bool                             -- verification has ended, period 0 awaited
  periods : BitVec 64                         -- periods since period 0 (R371)
  edgeAt : Option Nat                         -- `elapsed` at the latest period edge (R362)
  held : List HeldWrite
  heldSwitch : Option Nat                     -- a version switch waits for the edge (R149, R360): its VERSION
  edgeE : Option Nat                          -- `elapsed` at the latest alignment edge E (R356)
  rejoining : List Nat                        -- sectors reloaded since, which rejoin at the next period edge (R366)
  deriving DecidableEq, Repr

/-- The kinds of reset (R501). -/
inductive ResetKind where
  | powerOn
  | cold
  | warm
  | core
  | sector (s : Nat)
  deriving DecidableEq, Repr

/-- A reset asked for: its kind, its cause code (R513 CAUSE), and whether it drains (R127). -/
structure ResetReq where
  kind : ResetKind
  cause : Nat
  notice : Bool
  deriving DecidableEq, Repr

/-- What keeps the module in reset after RESET_ENTRY (R492, R500, R542, R384). -/
inductive HoldCause where
  | rail (n : Nat)
  | thermtrip (die : Nat)
  | warmrst
  | oscillators
  | jtag
  deriving DecidableEq, Repr

/-- Power, heat and resets (R490 to R514). -/
structure PowerUnit where
  pwrOk : Bool
  porstN : Bool
  warmrstN : Bool
  thermtripN : Bool
  strapProfile : BitVec 2                -- the strap pins (R35)
  strapAddr : BitVec 3                   -- the SMB_ADDR pins (R412)
  request : Option ResetReq
  nextSectors : List Nat                 -- sector resets that wait for another sector's (R505)
  inReset : Option ResetKind             -- a whole-module reset is asserted
  holds : List HoldCause
  sectorsDown : List Nat                 -- sectors between their drained point and reload (R504)
  warnFor : Tbl Nat Nat                  -- rail: consecutive checks outside ±3.5 %
  faultFor : Tbl Nat Nat                 -- rail: consecutive checks outside ±8 %
  dark : Bool                            -- every transmit fibre is dark (R68)
  levels : Tbl GovUnit Nat               -- governor levels (R493)
  lastRaise : Tbl GovUnit Nat            -- `elapsed` at the last raise of a unit
  steps : List (Nat × Int)               -- raises, and lowers below 0, of the last 1 µs: `elapsed`, 0.01 A
  slewWaits : Tbl GovUnit Nat            -- units whose raise waits for the slew limit: `elapsed` since when
  capWaits : List GovUnit                -- units whose raise waits for POWER_CAP
  deriving DecidableEq, Repr

/-- An interrupt that waits for core 0's entry to the event log (R395, R524). -/
structure PendingIrq where
  ev : Ev
  inst : Nat
  detail : Nat
  at_ : Nat                  -- `elapsed` when it was asserted
  deriving DecidableEq, Repr

/-- The event log (R524 to R528). -/
structure LogUnit where
  entries : List (Nat × BitVec 128)      -- sequence number and entry, oldest first, at most 1024
  pend : List PendingIrq
  lastAt : Tbl (Nat × Nat) Nat           -- event and instance: `elapsed` at its last logged entry
  recent : List Nat                      -- `elapsed` of the entries taken in the last second
  lost : List (Nat × Nat)                -- events and instances with an unlogged occurrence
  smbSeq : Nat                           -- SMBus EVENT's own pointer
  deriving DecidableEq, Repr

/-- One telemetry grant (R477, R489). -/
structure Grant where
  loc : BitVec 32
  valid : Bool
  groupHi : Nat
  groupLo : Nat
  instHi : Nat
  instLo : Nat
  deriving DecidableEq, Repr

/-- Precise sampling's buffer and the sink's push frame (R482, R483). -/
structure TelUnit where
  grants : Tbl Nat Grant
  samples : List (BitVec 32 × BitVec 256)   -- RECORD_SEQ and record, oldest first, at most 65,536
  nextSeq : BitVec 32
  tokens : Nat                               -- sampling bucket, 1/4 µs units of a record (R482)
  tokensAt : Nat                             -- `elapsed` when `tokens` was last brought up
  deriving DecidableEq, Repr

end Sys2Proof.Machine
end

