-- ==== Sys2Proof/Machine/MgmtUnits.lean ====
section
/-! DEFINITION. The structure image's sections, and the state of the management plane, of the security block and of
repair (spec/15_management_and_structure_image.md, spec/16_security_and_quorum.md,
spec/17_spares_repair_and_resilience.md). The spec gives what each section holds and not its bytes: a section is held
here as what it sets. -/

namespace Sys2Proof.Machine

/-- Section 0x01, identity (R418). -/
structure Identity where
  loc : Loc
  cabling : Tbl Nat (BitVec 32 × Nat)
  splits : Tbl Nat Nat
  deriving DecidableEq, Repr

/-- Section 0x04 (R171, R172, R176, R179, R331). -/
structure QueueLayout where
  credits : List Nat                -- initial credits of a whole port, VC0 first
  oqMin : Nat                       -- 64 KiB units
  oqMax : Nat
  tollWindow : Nat
  carafeGib : Nat
  poolGib : Nat
  carafeBw : Nat                    -- 0.1 TB/s
  retentionGib : Nat
  stageGib : Nat
  deepGib : Nat
  recipeMib : Nat
  stagePool : Bool
  deriving DecidableEq, Repr

/-- Section 0x09, the schedule (R361). -/
structure Schedule where
  period : Nat
  startOffset : Nat
  master : Bool
  syncWait : Nat
  windows : List (Nat × Nat × SchedWindow)
  slotBlocks : Tbl Nat Nat         -- LPORT: blocks of the largest SLOT frame declared for it (R363)
  bindings : List Binding
  deriving DecidableEq, Repr

/-- Section 0x0A, management (R409, R410). -/
structure Management where
  requesters : List (Loc × Nat)
  group : List Loc
  hostPorts : List Nat
  deriving DecidableEq, Repr

/-- Section 0x12, shapers (R198, R205): by LPORT and VC, by port, by sector. -/
structure ShaperSection where
  rates : List (Nat × Nat × Nat × Nat)   -- LPORT, VC, RATE, BURST in KiB
  ovh : List (Nat × Int)
  weights : List (Nat × List Nat)        -- sector, weights of VC0–VC6
  quantum : List (Nat × Nat)
  deriving DecidableEq, Repr

/-- The live sections of an image or of a patch (R418, R420). -/
structure LiveSections where
  route : List (FwdTable × Nat × BitVec 64)
  seed : Option (BitVec 64)
  groups : List (Bool × Nat × BitVec 256)
  shapers : ShaperSection
  circuits : List FlyCmd
  deriving DecidableEq, Repr

/-- A patch that is verified and waits to be applied (R420). -/
structure Patch where
  src : Loc
  reqId : BitVec 16
  switch : Bool
  live : LiveSections
  structural : List Nat                  -- the IDs of the structural sections that it carries (R418)
  digest : BitVec 384                    -- of its signed payload (R444)
  deriving DecidableEq, Repr

/-- The sections step 10 loads (R418). -/
structure Image where
  graph : List Layout
  layout : QueueLayout
  recipes : List (BitVec 2816)      -- records of 352 bytes (R290)
  rankRegion : List (BitVec 64)     -- the recipe region that they point into, eight bytes an entry
  praEnable : List Nat
  powerCap : Nat
  prio : BitVec 3
  schedule : Option Schedule
  mgmt : Management
  pulseSync : Bool                  -- SYNC_IN is named as the time-base pulse source (R367)
  live : LiveSections
  deriving DecidableEq, Repr

/-- What the checks of step 4 find of one image copy (R416): its two signatures and its identity section. -/
structure CopyCheck where
  rsaOk : Bool
  slhOk : Bool
  identity : Option Identity
  deriving DecidableEq, Repr

/-- What step 4 finds in one firmware copy (R436): the key pair that travels in it, what its two signatures verify, its security
version and sequence, and whether its section digests hold. -/
structure FirmwareCheck where
  pair : List Byte
  rsaOk : Bool
  slhOk : Bool
  svn : BitVec 8
  seq : BitVec 32
  digestsOk : Bool
  deriving DecidableEq, Repr

/-- What the two signatures of a pair verify (R433). -/
structure PairCheck where
  rsaOk : Bool
  slhOk : Bool
  deriving DecidableEq, Repr

/-- What the sections of one copy hold, as step 10 reads them (R416). -/
structure LoadCheck where
  image : Image
  identity : Identity
  deriving DecidableEq, Repr

/-- A CONTROL request in the endpoint (R404, R425). -/
structure CtlReq where
  src : Loc
  reqId : BitVec 16
  cls : Nat
  body : List Byte
  arrived : Nat                     -- `elapsed`
  count : BitVec 64                 -- the time base then (R445)
  frames : Nat                      -- frames of the queue that it takes (R425)
  deriving DecidableEq, Repr

/-- A multi-frame body that is being gathered (R407). -/
structure Gather where
  src : Loc
  reqId : BitVec 16
  cls : Nat
  chunksM1 : Nat
  got : Tbl Nat (List Byte)
  first : Nat
  deriving DecidableEq, Repr

/-- A stored reply (R407). -/
structure Reply where
  src : Loc
  reqId : BitVec 16
  cls : Nat
  status : BitVec 8
  body : List Byte
  deriving DecidableEq, Repr

/-- Who gave a quorum command (R437). -/
inductive QOrigin where
  | frame (src : Loc) (reqId : BitVec 16)
  | smbus
  deriving DecidableEq, Repr

/-- A quorum command that has passed its checks and awaits its effect (R438). -/
structure QCmd where
  origin : QOrigin
  opcode : Nat
  seq : BitVec 64
  counted : Nat
  args : List Byte
  deriving DecidableEq, Repr

/-- A rehearsal permission in force (R440). -/
structure Rehearsal where
  window : Nat
  kinds : BitVec 8
  seconds : Nat
  epochs : List Nat
  deriving DecidableEq, Repr

/-- The kept security state (R435). -/
structure SecState where
  provisioned : Bool
  owner : List Byte
  managers : List (List Byte)
  k : Nat
  ver : BitVec 32
  counter : Nat                     -- anti-rollback steps taken
  fenced : Bool
  expelled : Bool
  seq : BitVec 64
  armed : Option Rehearsal
  pendingOp : Option QCmd           -- CMD_SEQ written, effect not yet taken (R445)
  deriving DecidableEq, Repr

/-- The SEC block beside its registers. -/
structure SecUnit where
  state : SecState
  verified : Option QCmd
  rehearsal : Option Rehearsal
  rehearsalEnd : Nat                -- `elapsed` at which DURATION ends; 0 while it has not begun
  debug : Bool
  attesting : Option (QOrigin × List Byte)
  patchChain : BitVec 384           -- H_n of R444
  imageHash : BitVec 384
  firmwareHash : BitVec 384
  romHash : BitVec 384              -- the ROM digest of step 3 (R436)
  firmwareKey : BitVec 384          -- fused: SHA-384 of the Rospaurn firmware key's pair (R434)
  svn : BitVec 8                    -- FW_SVN in the fuses
  runningSvn : BitVec 8
  deriving DecidableEq, Repr

/-- The fallback marker of the always-on island (R417): the copy that failed and its SEQ. -/
structure Marker where
  copyB : Bool
  seq : BitVec 32
  deriving DecidableEq, Repr

/-- The image's loading and its patches. -/
structure ImgUnit where
  touched : List (Nat × Nat)               -- bytes of the security state's region that SMBus has erased or written (R412)
  firmwareB : Bool                         -- the firmware runs from copy B (R415, R436)
  marker : Option Marker
  identity : Option Identity
  running : Option Image
  liveApplied : List LiveSections          -- patches since load, first first (R419, R504)
  gathering : Bool                         -- a patch is gathered or applied (R420)
  patch : Option Patch                     -- verified and waiting to be applied
  structural : List Nat                    -- structural sections of patches, held unused until restart (R296, R420)
  heldPatch : Bool                         -- in TIMETABLE: it waits for the period edge (R360)
  written : Tbl Nat Nat                    -- FLASH region: bytes written in order since its erase (R415)
  verified : List Nat                      -- FLASH regions whose inactive copy verified
  switchAfter : Bool                       -- FWD_VER.SWITCH written while a patch is applying (R428)
  deriving DecidableEq, Repr

/-- An injection that runs (R465). -/
structure Injection where
  kind : Nat
  target : BitVec 32
  dur : Nat
  deriving DecidableEq, Repr

/-- The management complex beside its registers. -/
structure MpcUnit where
  queue : List CtlReq
  gather : List Gather
  replies : List Reply                     -- newest first
  awaited : List (Loc × BitVec 16 × List Nat) -- chunks still to come of answered requests, and of their repeats (R407)
  repeats : List (Loc × BitVec 16 × List Nat) -- repeats that wait for the original's reply (R428), with their chunks to come
  seqs : Tbl Nat Nat                       -- location: the next SEQ of the frames sent to it (R139)
  requesters : Tbl Nat (Loc × Nat)
  group : List Loc
  hostWait : List (Nat × Nat × Frame)      -- host port, credits and frame: wait for the bucket (R410)
  hostTokens : Nat
  hostAt : Nat
  core0 : Nat                              -- the core that has core 0's role (R459)
  coreMoving : Option Nat                  -- the core whose role core 4 is taking (R458)
  spareOut : Bool                          -- core 4 has failed: it takes no role (R459)
  injection : Option Injection
  repairWait : List (BitVec 64 × BitVec 64) -- records to append: bits [127:80] and the rest of the substitution
  repairHalf : Nat
  repairUsed : Nat                         -- records in the half in use
  smbAddr : Addr
  smbFlash : Nat
  smbFault : Bool                          -- ACCESS_FAULT (R412)
  deriving DecidableEq, Repr

/-- One packet SRAM row's repair state (R453, R454). -/
structure RowState where
  remaps : Nat
  retired : Bool
  moving : Option Nat               -- the spare to which its words are being copied
  rehearsed : Bool                  -- its latest failure was injected: never recorded (R451, R465)
  deriving DecidableEq, Repr

/-- Packet SRAM rows: sector, bank, row; and the spares in use: sector, bank, group (8 for the bank spare). -/
structure SramUnit where
  rows : Tbl (Nat × Nat × Nat) RowState
  used : List (Nat × Nat × Nat)
  ceRun : Tbl (Nat × Nat) Nat              -- sector and word: consecutive scrub corrections (R452)
  deriving DecidableEq, Repr

end Sys2Proof.Machine
end

