-- ==== Sys2Proof/Syntax.lean ====
section
/-! DEFINITION. The commands of the block: one constructor for each row of spec/opcode_table.json, in the table's order.
The table gives the rows no operands; each constructor carries what its rule says the operation brings from outside: a
register access, a frame, a measurement, or what a verification found. -/

namespace Sys2Proof

open Machine

/-- The lanes that both ends hold locked at the end of a training, and the skew between them in ns. -/
structure LockedLanes where
  lanes : BitVec 4
  skew : BitVec 16
  deriving DecidableEq, Repr

/-- One entry of one forwarding table. -/
structure TableEntry where
  table : FwdTable
  index : BitVec 16
  deriving DecidableEq, Repr

/-- The VC whose FIFO is read, what its SRAM read finds (R173), and what the reads of released frames find, by their SEQ. -/
structure FifoRead where
  vc : Fin 8
  found : Secded
  errs : List (BitVec 24 × Secded)
  deriving DecidableEq, Repr

/-- The two ends of a flow. -/
structure FlowEnds where
  src : BitVec 32
  dst : BitVec 32
  deriving DecidableEq, Repr

/-- What the SRAM read of a launched frame finds, and whether the path of mirror records can take no record. -/
structure QueueRead where
  found : Secded
  full : Bool
  deriving DecidableEq, Repr

/-- A frame of an operation as it arrives, whether it was sent under an older placement, and whether a rounding or a compare of
what it completes disagrees with its copy (R269). -/
structure ColArrival where
  frame : Frame
  stale : Bool
  erred : Bool
  deriving DecidableEq, Repr

/-- A slot, and whether the rounding of a segment it completes disagrees with its copy (R269). -/
structure SlotCheck where
  slot : Fin 4096
  erred : Bool
  deriving DecidableEq, Repr

/-- An engine, and whether the rounding of a segment it completes disagrees with its copy (R269). -/
structure EngineCheck where
  engine : Fin 18
  erred : Bool
  deriving DecidableEq, Repr

/-- A segment, and whether its rounding disagrees with its copy (R269). -/
structure SegCheck where
  seg : BitVec 20
  erred : Bool
  deriving DecidableEq, Repr

/-- A channel of an array, and whether it is its ring that is lost without a spare (R319). -/
structure ChanBack where
  chan : Fin 64
  ringLost : Bool
  deriving DecidableEq, Repr

/-- The chunk in which a scrubber finds an error, and whether the pass ends there. -/
structure ScrubPoint where
  chunk : Nat
  last : Bool
  deriving DecidableEq, Repr

/-- The commands. -/
inductive Instr where
  | registerWrite (req : Requester) (addr : Addr) (data : Word)
  | hiRegisterWrite (req : Requester) (addr : Addr) (data : Word)
  | loRegisterRead (req : Requester) (addr : Addr)
  | rcRegisterRead (req : Requester) (addr : Addr)
  | powerGood (profile : BitVec 2) (smbAddr : BitVec 3)
  | pwrOkFall (ns : Nat)
  | porstNAssert (ns : Nat)
  | warmrstNAssert (ns : Nat)
  | warmrstNRelease
  | railCheck (n : Fin 8) (r : RailReading)
  | railRecovered (n : Fin 8)
  | pwrRstCold (req : Requester) (notice : Bool)
  | pwrRstWarm (req : Requester)
  | pwrRstSector (req : Requester) (sec : Fin 8)
  | pwrRstCore (req : Requester) (notice : Bool)
  | drainedPoint (lport : Fin 2048)
  | drainDark (lport : Fin 2048)
  | resetEntry
  | sectorReloadDone (sec : Fin 8)
  | startAon
  | startIosc
  | startBootRom
  | startSignatures (fwA fwB : FirmwareCheck) (imgA imgB : CopyCheck) (secA secB : PairCheck)
  | xtalWindow (count : BitVec 16)
  | xtalQualFail
  | startPll
  | startHbmTrain (failed : List (Fin 32 × Fin 32))
  | startLight (dips : List RingDips) (praRings : List (Fin 4 × Fin 64))
  | startLinks
  | startImageLoad (a b : LoadCheck)
  | startAlignment
  | ready
  | governorRaise (u : GovUnit)
  | governorLower (u : GovUnit)
  | dieTempRead (die : Fin 4) (temps : List (BitVec 8))
  | throttleStep (die : Fin 4)
  | clockMonitorWindow (w : MonitorWindow)
  | dividerRampStep (d : Fin 5)
  | timSet (req : Requester) (data : Word)
  | timAdj (req : Requester) (data : Word)
  | slewDone
  | pulseEdge (syncIn : Bool)
  | ppsMissing
  | ppsOutRise
  | ppsOutFall
  | timSyncCmd (data : Word)
  | syncReqReceive (lport : Fin 2048) (src : Loc) (tag : BitVec 16) (peerSet : Bool) (t1 : BitVec 64)
  | syncRespReceive (lport : Fin 2048) (tag : BitVec 16) (peerSet : Bool) (t2 t3 : BitVec 64)
  | syncRespTimeout
  | syncInPulse (samples : Nat)
  | syncTimeout
  | alignmentEdge
  | alignVerifyFail
  | alignVerifyEnd
  | periodZero
  | periodEdge
  | mislock (pb : Fin 64) (ring : Fin 164)
  | relock (pb : Fin 64) (ring : Fin 164)
  | ringSpared (pb : Fin 64) (ring : Fin 164)
  | ringSpareLock (pb : Fin 64) (ring : Fin 164)
  | laserAverage (pb : Fin 64) (n : Fin 6) (tap : BitVec 16) (bias : BitVec 12)
  | swapStart (pb : Fin 64)
  | swapTuneDone (pb : Fin 64)
  | spareTuneTimeout (pb : Fin 64)
  | injectionLock (pb : Fin 64)
  | injectionLockTimeout (pb : Fin 64)
  | combinerStep (pb : Fin 64)
  | swapDone (pb : Fin 64)
  | lpeSwapCmd (pb : Fin 64) (lambda : Fin 4)
  | capLimit (pb : Fin 64) (port : Fin 8)
  | lossOfLight (pb : Fin 64) (port : Fin 8) (rx : BitVec 16)
  | aprExit (pb : Fin 64) (port : Fin 8) (rx tx : BitVec 16)
  | circuitSetup (origin : FlyOrigin) (tag : BitVec 16) (slot : Fin 256) (inPort outPort : Fin 512) (hold : Bool)
  | circuitTeardown (origin : FlyOrigin) (tag : BitVec 16) (slot : Fin 256) (inPort outPort : Fin 512)
  | circuitQuery (origin : FlyOrigin) (tag : BitVec 16) (slot : Fin 256)
  | flyCommandStart
  | circuitUp (light : Option (BitVec 16 × Fin 401))
  | circuitDown
  | codewordReceive (lane : Fin 2048) (w : BitVec 5440)
  | dataFrameReceive (lport : Fin 2048) (h : LinkHeader) (crc : BitVec 32) (payload : List Byte)
  | retryReqReceive (lport : Fin 2048) (crc : BitVec 32) (lseq : BitVec 16) (reason : BitVec 8)
  | retryReqTimeout (lport : Fin 2048)
  | stallTimeout (lport : Fin 2048)
  | creditFrameReceive (lport : Fin 2048) (crc : BitVec 32) (ack : BitVec 16) (cvc : Fin 8) (ccount : BitVec 13)
  | keepaliveSend (lport : Fin 2048) (lane : Fin 4)
  | keepaliveReceive (lport : Fin 2048) (crc : BitVec 32) (k : Keepalive)
  | laneMapRemoveRx (lport : Fin 2048) (crc : BitVec 32) (l : LaneMap)
  | laneMapAddRx (lport : Fin 2048) (crc : BitVec 32) (l : LaneMap)
  | laneMapEchoRx (lport : Fin 2048) (crc : BitVec 32) (l : LaneMap)
  | laneMapEffective (lport : Fin 2048) (tag : BitVec 16)
  | laneLost (lane : Fin 2048)
  | laneAddLock (lane : Fin 2048)
  | laneAddTimeout (lport : Fin 2048) (tag : BitVec 16)
  | elaneFailing (pb : Fin 64) (transmit : Bool) (lane : Fin 34)
  | spareLane (pb : Fin 64) (transmit : Bool) (lane : Fin 34)
  | trainReceive (lport : Fin 2048) (crc : BitVec 32) (t : Train)
  | linkUp (lport : Fin 2048) (locked : LockedLanes)
  | trainingTimeout (lport : Fin 2048)
  | escape (lport : Fin 2048) (vc : Fin 8)
  | fwdVerSwitch (req : Requester)
  | shadowCopyDone
  | fwdTblReadActive (sec : Fin 8) (table : FwdTable) (index : BitVec 16)
  | fwdTblReadShadow (sec : Fin 8) (table : FwdTable) (index : BitVec 16)
  | fwdTblWriteShadow (req : Requester) (sec : Fin 8) (entry : TableEntry)
  | fwdTblDone (sec : Fin 8)
  | admission (lport : Fin 2048) (read : FifoRead)
  | carafeChunkClose (lport : Fin 2048) (vc : Fin 8)
  | carafeReadback (lport : Fin 2048) (vc : Fin 8) (bad : Option (Fin 8))
  | reseqOpenEnd (lport : Fin 2048) (ends : FlowEnds) (flow : BitVec 16) (errs : List (BitVec 24 × Secded))
  | reseqTimeout (lport : Fin 2048) (ends : FlowEnds) (flow : BitVec 16) (errs : List (BitVec 24 × Secded))
  | reseqIdleClose (lport : Fin 2048) (src dst : BitVec 32) (flow : BitVec 16)
  | planeFail (plane : Fin 9)
  | planeSpared
  | sramScrub (sec : Fin 8) (word : BitVec 25) (found : Secded)
  | sramRemapDone (sec : Fin 8) (bank : Fin 512) (row : Fin 2048)
  | frameLaunch (lport : Fin 2048) (read : QueueRead)
  | wheelSlot (sec : Fin 8)
  | tmQRateWrite (req : Requester) (sec : Fin 8) (data : Word)
  | tmQBurstWrite (req : Requester) (sec : Fin 8) (data : Word)
  | contributionReceive (lport : Fin 2048) (f : ColArrival)
  | startFrameReceive (lport : Fin 2048) (f : Frame)
  | partialReceive (lport : Fin 2048) (f : ColArrival)
  | resultReceive (lport : Fin 2048) (f : Frame)
  | ackReceive (lport : Fin 2048) (f : Frame)
  | doneReceive (lport : Fin 2048) (f : Frame)
  | abortRequestReceive (lport : Fin 2048) (f : Frame)
  | abortReceive (lport : Fin 2048) (f : Frame)
  | segmentComplete (slot : Fin 4096) (seg : BitVec 20) (erred : Bool)
  | sideTotalReady (slot : SlotCheck)
  | rootTimeout (slot : Fin 4096)
  | backstopTimeout (slot : Fin 4096)
  | windowOpen (e : EngineCheck)
  | engineFail (e : Fin 18)
  | migrateReady (slot : Fin 4096) (seg : SegCheck)
  | colAbortCmd (sec : Fin 8) (slot : Fin 4096)
  | colGrpReadActive (sec : Fin 8) (member : Bool) (index : BitVec 18)
  | colGrpReadShadow (sec : Fin 8) (member : Bool) (index : BitVec 18)
  | colGrpWriteShadow (sec : Fin 8) (member : Bool) (index : BitVec 18)
  | colGrpDone (sec : Fin 8)
  | praConversion (a : Fin 4) (slot : Fin 4096) (seg : BitVec 20) (fslot : BitVec 11) (elem : BitVec 10) (group : BitVec 6)
      (chan : Fin 64) (code : BitVec 10)
  | praReference (a : Fin 4) (chan : Fin 64) (ok : Bool)
  | praChannelReturn (a : Fin 4) (chan : ChanBack)
  | praWeightUpdate (a : Fin 4)
  | shadowCompare (a : Fin 4)
  | praCalibration (a : Fin 4)
  | calDone (a : Fin 4) (passed : BitVec 64)
  | praReenable (a : Fin 4)
  | pause (a : Fin 4) (why : Fin 4)
  | praResume (a : Fin 4) (why : Fin 4)
  | hbmTempRead (k : Fin 32) (temp : BitVec 8)
  | hbmHot (k : Fin 32)
  | hbmSensorTimeout (k : Fin 32)
  | hbmRefresh (k : Fin 32)
  | hbmScrubPass (k : Fin 32) (ch : Fin 32) (found : Secded) (point : ScrubPoint)
  | scrubLate (k : Fin 32)
  | chanFail (k : Fin 32) (ch : Fin 32) (hard : Bool) (copied : List Nat)
  | chanMapped (k : Fin 32) (ch : Fin 32) (unread : List Nat)
  | controlFrameArrive (lport : Fin 2048) (f : Frame)
  | controlIncomplete (src : Loc) (reqId : BitVec 16)
  | heartbeat (src : Loc) (reqId : BitVec 16)
  | regRead (src : Loc) (reqId : BitVec 16)
  | regWrite (src : Loc) (reqId : BitVec 16)
  | table (src : Loc) (reqId : BitVec 16)
  | flashErase (src : Loc) (reqId : BitVec 16)
  | flashWrite (src : Loc) (reqId : BitVec 16)
  | flashVerify (src : Loc) (reqId : BitVec 16) (rsaOk slhOk digestsOk : Bool)
  | patch (src : Loc) (reqId : BitVec 16) (rsaOk slhOk : Bool) (sections : LiveSections) (structural : List Nat)
  | patchApply
  | telemetryRead (src : Loc) (reqId : BitVec 16)
  | telemetryTake (src : Loc) (reqId : BitVec 16)
  | hostFrameReceive (lport : Fin 2048) (vc : Fin 8) (payload : List Byte)
  | hostFrameAdmit (lport : Fin 2048)
  | mpcOverload
  | mpcOverloadClear
  | sinkPush
  | smbAddr (pec : Pec) (addr : Addr)
  | smbDataWrite (pec : Pec) (data : Word)
  | smbDataRead
  | smbStatus
  | smbEvent
  | smbFlashAddr (pec : Pec) (addr : BitVec 32)
  | smbFlashDataWrite (pec : Pec) (data : List Byte)
  | smbFlashDataRead (count : Fin 33)
  | smbFlashErase (pec : Pec)
  | smbAlertResponse
  | jtagDriveInstruction
  | testLogicReset
  | jtagPrivateAccess (addr : Addr) (write : Option Word)
  | jtagIdcode
  | quorum (origin : QOrigin) (body : List Byte) (sigs : List (Bool × Bool))
  | attest (origin : QOrigin) (nonce : List Byte)
  | attestDone (signature : List Byte)
  | fence
  | unfence
  | expel
  | rehearseGrant
  | rehearseRevoke
  | rehearsalExpiry
  | keysetRotate
  | debugUnlock
  | provision
  | mpcCoreFail (c : Fin 5)
  | mpcCoreTakeover
  | repairRecordAppend (refused : Bool)
  | injectLinkLoss (dur : BitVec 16)
  | injectLaserFade
  | injectRingMislock
  | injectResidueError (dur : BitVec 16)
  | injectHbmChannel (copied : List Nat)
  | injectSramRow
  | injectClockFail
  | injectMpcOverload (dur : BitVec 16)
  | injectionEnd
  | telSmpPop
  | eventLogWrite (line : Nat)
  | logDataCapture (req : Requester)
  | glbAlertClear (data : Word)
  deriving DecidableEq, Repr

end Sys2Proof
end

