-- ==== Sys2Proof/Config.lean ====
section
/-! DEFINITION. What a module is made with, and the values the spec leaves open. Every constant here is opaque: nothing
can be proved of its value. -/

namespace Sys2Proof.Config

/-- A fresh open value of 64 bits for each number of State's counter `fresh` (notes/assumptions/4.md). -/
opaque freeValue : Nat → BitVec 64

/-- The commissioned tap power of laser `j` of engine `i` (R73), a factory record. -/
opaque laserCommissioned : Nat → Nat → Nat → BitVec 16

/-- The maximum bias of a laser (R73), a factory record. -/
opaque laserMaxBias : Nat → Nat → BitVec 12

/-- The lowest firmware security version the fuses accept (R436). -/
opaque fusedSvn : BitVec 8

/-- The device identity in the fuses (R446). -/
opaque deviceId : BitVec 64

/-- Rospaurn's JEDEC identity code in IDCODE (R544). -/
opaque jedecId : BitVec 11

/-- The module's two public identity keys (R433, R434), made inside it: an RSA modulus and an SLH-DSA key. -/
opaque identityKeys : BitVec 3456

/-- The digest of the boot ROM and the fuse block (R436), which holds the firmware security version and the firmware key's
digest. -/
opaque romDigest : BitVec 8 → BitVec 384 → BitVec 384

/-- SHA-384 of the Rospaurn firmware key's pair, fused at manufacture (R434). -/
opaque fusedKey : BitVec 384

/-- Open digests: SHA-384 of a firmware header, whose layout the spec does not give (R436, R444). -/
opaque freeDigest : Nat → BitVec 384

/-- SHA-384 of a key set (R444): K, the manager pairs and the owner pair. The spec does not say how they are laid out. -/
opaque keysetDigest : Nat → List (List Byte) → List Byte → BitVec 384

/-- The power in 0.1 mW at which the governor of TIMETABLE holds the module, by the current of the levels admitted in 0.01 A: it
may not depend on measured current (R364, R496). -/
opaque admittedPower : Nat → Nat

/-- The on-die random source at a power-on reset (R521). -/
opaque randomIncarnation : Nat → BitVec 16

/-- The start value and the final complement of the CRC-32 of R110, which the spec does not give. -/
opaque crcStart : BitVec 32
opaque crcFinal : BitVec 32

/-- The heater codes at which the rings of an engine see the four wavelengths, λ0 first (R46): the factory's parts. -/
opaque ringDip : Nat → Nat → Nat → BitVec 16

/-- What CVT makes of a value in a block-scaled format, of which no scale is given (R287): a scale byte over an element. -/
opaque mxCvt : Nat → Bool → Nat → Int → BitVec 16

/-- What CVT makes of a NaN in an integer format (R251, R287): a pattern of that format. -/
opaque nanCvt : Nat → BitVec 64

/-- What CLIPX makes of a value where a bound is NaN (R283, R288), by the value's class, sign, significand and exponent. -/
opaque nanClip : Nat → Bool → Nat → Int → BitVec 79

/-- The constant after K15, which CLIPX with C at 15 names (R283, R290). -/
opaque constant16 : BitVec 64

/-- The transmit codeword count of a link at power-on reset (R108). -/
opaque cwBase : Nat → BitVec 32

/-- The state in which the scrambler of a lane starts (R107): open. -/
opaque scrambler : Nat → BitVec 58

/-- The state in which the descrambler of a lane starts. -/
opaque descrambler : Nat → BitVec 58

end Sys2Proof.Config
end

