-- ==== Sys2Proof/Machine/Digest.lean ====
section
/-! DEFINITION. The SHA-2 digests (FIPS 180-4) that R21 names: SHA-256 for fingerprints and recipes
(spec/08_collective_operations.md R219, spec/10_recipes.md R290) and SHA-384 for headers, patches and reports
(spec/15_management_and_structure_image.md R416, spec/16_security_and_quorum.md R433, R444), and the CRC-32 of spec/04_links_and_presence.md
R110. -/

namespace Sys2Proof.Machine

/-! ### SHA-2 -/

/-- The figures of one SHA-2 digest over words of `w` bits: its rotations, the last of a small pair a shift, the bytes of its
length field, its rounds and its start. -/
structure Sha (w : Nat) where
  bigA : Nat × Nat × Nat
  bigE : Nat × Nat × Nat
  old : Nat × Nat × Nat
  recent : Nat × Nat × Nat
  lengthBytes : Nat
  rounds : List (BitVec w)
  start : List (BitVec w)

/-- What a round works on: the working variables, `a` first, and the sixteen words of the schedule that come next. -/
structure ShaWork (w : Nat) where
  vars : List (BitVec w)
  next : List (BitVec w)

/-- Three rotations of a word. -/
def turned (x : BitVec w) (r : Nat × Nat × Nat) : BitVec w := x.rotateRight r.1 ^^^ x.rotateRight r.2.1 ^^^ x.rotateRight r.2.2

/-- Two rotations and a shift. -/
def blurred (x : BitVec w) (r : Nat × Nat × Nat) : BitVec w := x.rotateRight r.1 ^^^ x.rotateRight r.2.1 ^^^ (x >>> r.2.2)

/-- The word of the schedule that follows sixteen others. -/
def Sha.follow (h : Sha w) (ws : List (BitVec w)) : BitVec w :=
  let at_ (i : Nat) : BitVec w := ws.getD i 0
  at_ 0 + at_ 9 + blurred (at_ 1) h.old + blurred (at_ 14) h.recent

/-- A round takes the schedule's next word with its constant; the schedule grows by one word as it goes. -/
def Sha.round (h : Sha w) (s : ShaWork w) (k : BitVec w) : ShaWork w :=
  let v (i : Nat) : BitVec w := s.vars.getD i 0
  let choice := v 6 ^^^ (v 4 &&& (v 5 ^^^ v 6))
  let majority := (v 0 &&& (v 1 ||| v 2)) ||| (v 1 &&& v 2)
  let mixed := v 7 + turned (v 4) h.bigE + choice + k + s.next.headD 0
  let first := mixed + turned (v 0) h.bigA + majority
  { vars := first :: (s.vars.take 7).modify 3 (· + mixed), next := s.next.tail ++ [h.follow s.next] }

/-- The digest's words after one more block. -/
def Sha.block (h : Sha w) (state ws : List (BitVec w)) : List (BitVec w) :=
  (h.rounds.foldl h.round { vars := state, next := ws }).vars.zipWith (· + ·) state

/-- The next `n` words of some bytes, and the bytes after them. -/
def takeWords (w : Nat) : Nat → List Byte → List (BitVec w) × List Byte
  | 0, bs => ([], bs)
  | n + 1, bs =>
    let r := takeWords w n (bs.drop (w / 8))
    (BitVec.ofNat w (ofBytes (bs.take (w / 8))) :: r.1, r.2)

/-- Run the blocks of a padded message. -/
def Sha.run (h : Sha w) : Nat → List (BitVec w) → List Byte → List (BitVec w)
  | 0, state, _ => state
  | n + 1, state, bs =>
    let x := takeWords w 16 bs
    h.run n (h.block state x.1) x.2

/-- The digest of some bytes as one number, eight words long: a 1 bit, zeros to whole blocks and the length in bits end it. -/
def Sha.digest (h : Sha w) (bs : List Byte) : Nat :=
  let size := 2 * w
  let blocks := (bs.length + 1 + h.lengthBytes + size - 1) / size
  let fill := size * blocks - bs.length - 1 - h.lengthBytes
  let whole := bs ++ 0x80 :: List.replicate fill 0 ++ toBytes h.lengthBytes (8 * bs.length)
  (h.run blocks h.start whole).foldl (fun n x => n * 2 ^ w + x.toNat) 0

/-- The first 64 bits of the fractions of the cube roots of the first eighty primes, twenty in a number. -/
def cubeRoots : List Nat :=
  [ 0x428a2f98d728ae227137449123ef65cdb5c0fbcfec4d3b2fe9b5dba58189dbbc3956c25bf348b53859f111f1b605d019923f82a4af194f9bab1c5ed5da6d8118d807aa98a303024212835b0145706fbe243185be4ee4b28c550c7dc3d5ffb4e272be5d74f27b896f80deb1fe3b1696b19bdc06a725c71235c19bf174cf692694e49b69c19ef14ad2efbe4786384f25e30fc19dc68b8cd5b5240ca1cc77ac9c65
  , 0x2de92c6f592b02754a7484aa6ea6e4835cb0a9dcbd41fbd476f988da831153b5983e5152ee66dfaba831c66d2db43210b00327c898fb213fbf597fc7beef0ee4c6e00bf33da88fc2d5a79147930aa72506ca6351e003826f142929670a0e6e7027b70a8546d22ffc2e1b21385c26c9264d2c6dfc5ac42aed53380d139d95b3df650a73548baf63de766a0abb3c77b2a881c2c92e47edaee692722c851482353b
  , 0xa2bfe8a14cf10364a81a664bbc423001c24b8b70d0f89791c76c51a30654be30d192e819d6ef5218d69906245565a910f40e35855771202a106aa07032bbd1b819a4c116b8d2d0c81e376c085141ab532748774cdf8eeb9934b0bcb5e19b48a8391c0cb3c5c95a634ed8aa4ae3418acb5b9cca4f7763e373682e6ff3d6b2b8a3748f82ee5defb2fc78a5636f43172f6084c87814a1f0ab728cc702081a6439ec
  , 0x90befffa23631e28a4506cebde82bde9bef9a3f7b2c67915c67178f2e372532bca273eceea26619cd186b8c721c0c207eada7dd6cde0eb1ef57d4f7fee6ed17806f067aa72176fba0a637dc5a2c898a6113f9804bef90dae1b710b35131c471b28db77f523047d8432caab7b40c724933c9ebe0a15c9bebc431d67c49c100d4c4cc5d4becb3e42b6597f299cfc657e2a5fcb6fab3ad6faec6c44198c4a475817 ]

/-- Cut a number into `n` words. -/
def wordsOfNat (w n x : Nat) : List (BitVec w) := (List.range n).map (fun i => BitVec.ofNat w (x >>> (w * (n - 1 - i))))

/-- The round constants of the 64-bit digests; those of SHA-256 are the upper halves of the first 64. -/
def shaRounds : List (BitVec 64) := cubeRoots.flatMap (wordsOfNat 64 20)

/-- SHA-256. -/
def shaOf256 : Sha 32 :=
  { bigA := (2, 13, 22), bigE := (6, 11, 25), old := (7, 18, 3), recent := (17, 19, 10), lengthBytes := 8
    rounds := (shaRounds.take 64).map (fun k => k.extractLsb' 32 32)
    start := wordsOfNat 32 8 0x6a09e667bb67ae853c6ef372a54ff53a510e527f9b05688c1f83d9ab5be0cd19 }

/-- SHA-384. -/
def shaOf384 : Sha 64 :=
  { bigA := (28, 34, 39), bigE := (14, 18, 41), old := (1, 8, 7), recent := (19, 61, 6), lengthBytes := 16
    rounds := shaRounds
    start := wordsOfNat 64 8 0xcbbb9d5dc1059ed8629a292a367cd5079159015a3070dd17152fecd8f70e593967332667ffc00b318eb44a8768581511db0c2e0d64f98fa747b5481dbefa4fa4 }

/-- The SHA-256 digest of some bytes. -/
def sha256 (bs : List Byte) : BitVec 256 := BitVec.ofNat 256 (shaOf256.digest bs)

/-- The SHA-384 digest of some bytes: the first six of eight words. -/
def sha384 (bs : List Byte) : BitVec 384 := BitVec.ofNat 384 (shaOf384.digest bs >>> 128)

/-- The leftmost 64 bits of a descriptor's digest (R219). -/
def fingerprintOf (d : BitVec 256) : BitVec 64 := (sha256 (toBytes 32 d.toNat)).extractLsb' 192 64

/-- One bit of the CRC's division by 0x1EDC_6F41. -/
def crcBit (c : BitVec 32) : BitVec 32 := if c.getLsbD 31 then (c <<< 1) ^^^ 0x1EDC6F41 else c <<< 1

/-- One byte, most significant bit first. -/
def crcByte (c : BitVec 32) (b : Byte) : BitVec 32 :=
  let c := c ^^^ (b.setWidth 32 <<< 24)
  crcBit (crcBit (crcBit (crcBit (crcBit (crcBit (crcBit (crcBit c)))))))

/-- The CRC-32 of R110. The spec gives its polynomial, and neither its start value nor its final complement: both are open
constants. -/
def crc32 (bs : List Byte) : BitVec 32 := (bs.foldl crcByte Config.crcStart) ^^^ Config.crcFinal

end Sys2Proof.Machine
end

