-- ==== Sys2Proof/Machine/RegKeys.lean ====
section
/-! DEFINITION. A name for every register field of the spec's tables: `K.<register>_<FIELD>` is its key. -/

namespace Sys2Proof.Machine

abbrev K.lpeCtrl_DEGRADE_AT (i : Nat) : FKey := ⟨.lpeCtrl, i, 0, 1⟩
abbrev K.lpeCtrl_AUTO_SWAP (i : Nat) : FKey := ⟨.lpeCtrl, i, 0, 0⟩
abbrev K.lpeStatus_PORT_RING_LOSS (i : Nat) : FKey := ⟨.lpeStatus, i, 0, 20⟩
abbrev K.lpeStatus_PORT_APR (i : Nat) : FKey := ⟨.lpeStatus, i, 0, 12⟩
abbrev K.lpeStatus_LAMBDA_LOST (i : Nat) : FKey := ⟨.lpeStatus, i, 0, 8⟩
abbrev K.lpeStatus_SPARE_FAIL (i : Nat) : FKey := ⟨.lpeStatus, i, 0, 6⟩
abbrev K.lpeStatus_SPARE_USE (i : Nat) : FKey := ⟨.lpeStatus, i, 0, 4⟩
abbrev K.lpeStatus_SWAP_BUSY (i : Nat) : FKey := ⟨.lpeStatus, i, 0, 3⟩
abbrev K.lpeStatus_STATE (i : Nat) : FKey := ⟨.lpeStatus, i, 0, 0⟩
abbrev K.lpeEvt_CAP_LIMIT (i : Nat) : FKey := ⟨.lpeEvt, i, 0, 9⟩
abbrev K.lpeLsrStat_EOL_MET (i : Nat) (j : Nat) : FKey := ⟨.lpeLsrStat, i, j, 9⟩
abbrev K.lpeLsrStat_FADE_MET (i : Nat) (j : Nat) : FKey := ⟨.lpeLsrStat, i, j, 8⟩
abbrev K.lpeLsrStat_LAMBDA (i : Nat) (j : Nat) : FKey := ⟨.lpeLsrStat, i, j, 4⟩
abbrev K.lpeLsrStat_ROLE (i : Nat) (j : Nat) : FKey := ⟨.lpeLsrStat, i, j, 0⟩
abbrev K.lpeLsrPwr_COMM (i : Nat) (j : Nat) : FKey := ⟨.lpeLsrPwr, i, j, 16⟩
abbrev K.lpeLsrPwr_TAP (i : Nat) (j : Nat) : FKey := ⟨.lpeLsrPwr, i, j, 0⟩
abbrev K.lpeLsrBias_BIAS (i : Nat) (j : Nat) : FKey := ⟨.lpeLsrBias, i, j, 0⟩
abbrev K.lpePortPwr_RX (i : Nat) (j : Nat) : FKey := ⟨.lpePortPwr, i, j, 16⟩
abbrev K.lpePortPwr_TX (i : Nat) (j : Nat) : FKey := ⟨.lpePortPwr, i, j, 0⟩
abbrev K.lpePortApr_LOS (i : Nat) (j : Nat) : FKey := ⟨.lpePortApr, i, j, 1⟩
abbrev K.lpePortApr_REDUCED (i : Nat) (j : Nat) : FKey := ⟨.lpePortApr, i, j, 0⟩
abbrev K.lpeRingSel_RING (i : Nat) : FKey := ⟨.lpeRingSel, i, 0, 0⟩
abbrev K.flyCtrl_HOLD_WARM : FKey := ⟨.flyCtrl, 0, 0, 1⟩
abbrev K.flyCtrl_ENABLE : FKey := ⟨.flyCtrl, 0, 0, 0⟩
abbrev K.flyStatus_IN_HOLD : FKey := ⟨.flyStatus, 0, 0, 31⟩
abbrev K.flyCmdResult_BUSY : FKey := ⟨.flyCmdResult, 0, 0, 31⟩
abbrev K.flyCmdResult_STATUS : FKey := ⟨.flyCmdResult, 0, 0, 0⟩
abbrev K.flySlotCfg_VALID (j : Nat) : FKey := ⟨.flySlotCfg, 0, j, 31⟩
abbrev K.flySlotCfg_HOLD (j : Nat) : FKey := ⟨.flySlotCfg, 0, j, 30⟩
abbrev K.flySlotCfg_STATE (j : Nat) : FKey := ⟨.flySlotCfg, 0, j, 27⟩
abbrev K.flySlotCfg_IN_PORT (j : Nat) : FKey := ⟨.flySlotCfg, 0, j, 9⟩
abbrev K.flySlotCfg_OUT_PORT (j : Nat) : FKey := ⟨.flySlotCfg, 0, j, 0⟩
abbrev K.flySlotPwr_IN (j : Nat) : FKey := ⟨.flySlotPwr, 0, j, 16⟩
abbrev K.flySlotPwr_OUT (j : Nat) : FKey := ⟨.flySlotPwr, 0, j, 0⟩
abbrev K.lnkCtrl_SPARE_AUTO (i : Nat) : FKey := ⟨.lnkCtrl, i, 0, 20⟩
abbrev K.lnkCtrl_DRAIN_MS (i : Nat) : FKey := ⟨.lnkCtrl, i, 0, 16⟩
abbrev K.lnkCtrl_RETRY_LIMIT (i : Nat) : FKey := ⟨.lnkCtrl, i, 0, 12⟩
abbrev K.lnkElane_TX_FAIL (i : Nat) : FKey := ⟨.lnkElane, i, 0, 30⟩
abbrev K.lnkElane_TX_S0 (i : Nat) : FKey := ⟨.lnkElane, i, 0, 24⟩
abbrev K.lnkElane_TX_S1 (i : Nat) : FKey := ⟨.lnkElane, i, 0, 16⟩
abbrev K.lnkElane_RX_FAIL (i : Nat) : FKey := ⟨.lnkElane, i, 0, 14⟩
abbrev K.lnkElane_RX_S0 (i : Nat) : FKey := ⟨.lnkElane, i, 0, 8⟩
abbrev K.lnkElane_RX_S1 (i : Nat) : FKey := ⟨.lnkElane, i, 0, 0⟩
abbrev K.lnkLinkState_LANES_UP (i : Nat) (j : Nat) : FKey := ⟨.lnkLinkState, i, j, 24⟩
abbrev K.lnkLinkState_LANES_OFFERED (i : Nat) (j : Nat) : FKey := ⟨.lnkLinkState, i, j, 20⟩
abbrev K.lnkLinkState_RETRAINS (i : Nat) (j : Nat) : FKey := ⟨.lnkLinkState, i, j, 8⟩
abbrev K.lnkLinkState_PEER_STATE (i : Nat) (j : Nat) : FKey := ⟨.lnkLinkState, i, j, 4⟩
abbrev K.lnkLinkState_STATE (i : Nat) (j : Nat) : FKey := ⟨.lnkLinkState, i, j, 0⟩
abbrev K.lnkLinkPeera_LOC (i : Nat) (j : Nat) : FKey := ⟨.lnkLinkPeera, i, j, 0⟩
abbrev K.lnkLinkPeerb_INCARNATION (i : Nat) (j : Nat) : FKey := ⟨.lnkLinkPeerb, i, j, 16⟩
abbrev K.lnkLinkPeerb_Q (i : Nat) (j : Nat) : FKey := ⟨.lnkLinkPeerb, i, j, 9⟩
abbrev K.lnkLinkPeerb_PORT (i : Nat) (j : Nat) : FKey := ⟨.lnkLinkPeerb, i, j, 0⟩
abbrev K.lnkLaneFec_CORR (i : Nat) (j : Nat) : FKey := ⟨.lnkLaneFec, i, j, 16⟩
abbrev K.lnkLaneFec_UNCORR (i : Nat) (j : Nat) : FKey := ⟨.lnkLaneFec, i, j, 0⟩
abbrev K.lnkCredSel_LINK (i : Nat) : FKey := ⟨.lnkCredSel, i, 0, 3⟩
abbrev K.lnkCredSel_VC (i : Nat) : FKey := ⟨.lnkCredSel, i, 0, 0⟩
abbrev K.fwdCtrl_PROFILE (i : Nat) : FKey := ⟨.fwdCtrl, i, 0, 4⟩
abbrev K.fwdCtrl_DETOUR_SCOPE (i : Nat) : FKey := ⟨.fwdCtrl, i, 0, 0⟩
abbrev K.fwdLoc_LOC (i : Nat) : FKey := ⟨.fwdLoc, i, 0, 0⟩
abbrev K.fwdSeedLo_SEED (i : Nat) : FKey := ⟨.fwdSeedLo, i, 0, 0⟩
abbrev K.fwdSeedHi_SEED (i : Nat) : FKey := ⟨.fwdSeedHi, i, 0, 0⟩
abbrev K.fwdVer_SHADOW_DIRTY (i : Nat) : FKey := ⟨.fwdVer, i, 0, 16⟩
abbrev K.fwdVer_VERSION (i : Nat) : FKey := ⟨.fwdVer, i, 0, 0⟩
abbrev K.fwdTblStat_BUSY (i : Nat) : FKey := ⟨.fwdTblStat, i, 0, 0⟩
abbrev K.fwdTblDataLo_DATA (i : Nat) : FKey := ⟨.fwdTblDataLo, i, 0, 0⟩
abbrev K.fwdTblDataHi_DATA (i : Nat) : FKey := ⟨.fwdTblDataHi, i, 0, 0⟩
abbrev K.bufCtrl_MIRROR_EN (i : Nat) : FKey := ⟨.bufCtrl, i, 0, 31⟩
abbrev K.bufCtrl_MIRROR_LOG2N (i : Nat) : FKey := ⟨.bufCtrl, i, 0, 24⟩
abbrev K.bufCtrl_MIRROR_VCS (i : Nat) : FKey := ⟨.bufCtrl, i, 0, 16⟩
abbrev K.bufCtrl_RESEQ_LOG2W (i : Nat) : FKey := ⟨.bufCtrl, i, 0, 8⟩
abbrev K.bufStatus_POOL_LOST (i : Nat) : FKey := ⟨.bufStatus, i, 0, 30⟩
abbrev K.bufStatus_SPARE_PLANE (i : Nat) : FKey := ⟨.bufStatus, i, 0, 12⟩
abbrev K.bufStatus_PLANES_ACTIVE (i : Nat) : FKey := ⟨.bufStatus, i, 0, 0⟩
abbrev K.bufReseqCfg_TIMEOUT (i : Nat) : FKey := ⟨.bufReseqCfg, i, 0, 16⟩
abbrev K.bufSramStat_RETIRED_ROWS (i : Nat) : FKey := ⟨.bufSramStat, i, 0, 0⟩
abbrev K.bufToll_WINDOW (i : Nat) : FKey := ⟨.bufToll, i, 0, 0⟩
abbrev K.bufCarafeCfg_SIZE_GIB (i : Nat) : FKey := ⟨.bufCarafeCfg, i, 0, 24⟩
abbrev K.bufCarafeCfg_POOL_GIB (i : Nat) : FKey := ⟨.bufCarafeCfg, i, 0, 16⟩
abbrev K.bufCarafeCfg_BW (i : Nat) : FKey := ⟨.bufCarafeCfg, i, 0, 0⟩
abbrev K.bufQSel_PORT (i : Nat) : FKey := ⟨.bufQSel, i, 0, 8⟩
abbrev K.bufQSel_Q (i : Nat) : FKey := ⟨.bufQSel, i, 0, 4⟩
abbrev K.bufQSel_VC (i : Nat) : FKey := ⟨.bufQSel, i, 0, 0⟩
abbrev K.bufPlim_OQ_MAX (i : Nat) : FKey := ⟨.bufPlim, i, 0, 16⟩
abbrev K.bufPlim_OQ_MIN (i : Nat) : FKey := ⟨.bufPlim, i, 0, 0⟩
abbrev K.tmCtrl_QUANTUM (i : Nat) : FKey := ⟨.tmCtrl, i, 0, 0⟩
abbrev K.tmVcw0_VC3 (i : Nat) : FKey := ⟨.tmVcw0, i, 0, 24⟩
abbrev K.tmVcw0_VC2 (i : Nat) : FKey := ⟨.tmVcw0, i, 0, 16⟩
abbrev K.tmVcw0_VC1 (i : Nat) : FKey := ⟨.tmVcw0, i, 0, 8⟩
abbrev K.tmVcw0_VC0 (i : Nat) : FKey := ⟨.tmVcw0, i, 0, 0⟩
abbrev K.tmVcw1_VC6 (i : Nat) : FKey := ⟨.tmVcw1, i, 0, 16⟩
abbrev K.tmVcw1_VC5 (i : Nat) : FKey := ⟨.tmVcw1, i, 0, 8⟩
abbrev K.tmVcw1_VC4 (i : Nat) : FKey := ⟨.tmVcw1, i, 0, 0⟩
abbrev K.tmOvh_OVH (i : Nat) (j : Nat) : FKey := ⟨.tmOvh, i, j, 0⟩
abbrev K.tmQSel_PORT (i : Nat) : FKey := ⟨.tmQSel, i, 0, 8⟩
abbrev K.tmQSel_Q (i : Nat) : FKey := ⟨.tmQSel, i, 0, 4⟩
abbrev K.tmQSel_VC (i : Nat) : FKey := ⟨.tmQSel, i, 0, 0⟩
abbrev K.tmSchedCfg_MASTER (i : Nat) : FKey := ⟨.tmSchedCfg, i, 0, 31⟩
abbrev K.tmSchedCfg_SYNC_WAIT (i : Nat) : FKey := ⟨.tmSchedCfg, i, 0, 24⟩
abbrev K.tmSchedCfg_PERIOD (i : Nat) : FKey := ⟨.tmSchedCfg, i, 0, 0⟩
abbrev K.tmSchedOfs_START_OFFSET (i : Nat) : FKey := ⟨.tmSchedOfs, i, 0, 0⟩
abbrev K.tmSchedStat_LOCKED (i : Nat) : FKey := ⟨.tmSchedStat, i, 0, 31⟩
abbrev K.tmSchedStat_EXT (i : Nat) : FKey := ⟨.tmSchedStat, i, 0, 30⟩
abbrev K.tmSchedStat_STATE (i : Nat) : FKey := ⟨.tmSchedStat, i, 0, 0⟩
abbrev K.tmSchedSel_ENTRY (i : Nat) : FKey := ⟨.tmSchedSel, i, 0, 0⟩
abbrev K.colGrpStat_BUSY (i : Nat) : FKey := ⟨.colGrpStat, i, 0, 0⟩
abbrev K.colGrpData_DATA (i : Nat) (j : Nat) : FKey := ⟨.colGrpData, i, j, 0⟩
abbrev K.colOpSel_SLOT (i : Nat) : FKey := ⟨.colOpSel, i, 0, 0⟩
abbrev K.colAbortResult_STATUS (i : Nat) : FKey := ⟨.colAbortResult, i, 0, 0⟩
abbrev K.colLogSel_ENTRY (i : Nat) : FKey := ⟨.colLogSel, i, 0, 0⟩
abbrev K.rdeStatus_ROLE (i : Nat) : FKey := ⟨.rdeStatus, i, 0, 29⟩
abbrev K.rdeStatus_SERVES (i : Nat) : FKey := ⟨.rdeStatus, i, 0, 25⟩
abbrev K.rdeStatus_REPLACES (i : Nat) : FKey := ⟨.rdeStatus, i, 0, 20⟩
abbrev K.rdeFailSel_ENTRY (i : Nat) : FKey := ⟨.rdeFailSel, i, 0, 0⟩
abbrev K.rdeRcpSel_INDEX (i : Nat) : FKey := ⟨.rdeRcpSel, i, 0, 0⟩
abbrev K.praCtrl_SHADOW_LOG2 (i : Nat) : FKey := ⟨.praCtrl, i, 0, 8⟩
abbrev K.praCtrl_EN (i : Nat) : FKey := ⟨.praCtrl, i, 0, 0⟩
abbrev K.praStatus_TRIPS (i : Nat) : FKey := ⟨.praStatus, i, 0, 24⟩
abbrev K.praStatus_PAUSE_WHY (i : Nat) : FKey := ⟨.praStatus, i, 0, 4⟩
abbrev K.praStatus_STATE (i : Nat) : FKey := ⟨.praStatus, i, 0, 0⟩
abbrev K.praChanLo_UP (i : Nat) : FKey := ⟨.praChanLo, i, 0, 0⟩
abbrev K.praChanHi_UP (i : Nat) : FKey := ⟨.praChanHi, i, 0, 0⟩
abbrev K.praCarrier_UP (i : Nat) : FKey := ⟨.praCarrier, i, 0, 0⟩
abbrev K.praShdNLo_N (i : Nat) : FKey := ⟨.praShdNLo, i, 0, 0⟩
abbrev K.praShdNHi_N (i : Nat) : FKey := ⟨.praShdNHi, i, 0, 0⟩
abbrev K.praShdSumLo_SUM (i : Nat) : FKey := ⟨.praShdSumLo, i, 0, 0⟩
abbrev K.praShdSumHi_SUM (i : Nat) : FKey := ⟨.praShdSumHi, i, 0, 0⟩
abbrev K.praShdSqLo_SQ (i : Nat) : FKey := ⟨.praShdSqLo, i, 0, 0⟩
abbrev K.praShdSqHi_SQ (i : Nat) : FKey := ⟨.praShdSqHi, i, 0, 0⟩
abbrev K.praShdMax_MAX (i : Nat) : FKey := ⟨.praShdMax, i, 0, 0⟩
abbrev K.praCapSel_ELEM (i : Nat) : FKey := ⟨.praCapSel, i, 0, 0⟩
abbrev K.praCapInfo_VIOL (i : Nat) : FKey := ⟨.praCapInfo, i, 0, 31⟩
abbrev K.praCapInfo_TEMP (i : Nat) : FKey := ⟨.praCapInfo, i, 0, 24⟩
abbrev K.praCapInfo_CHAN (i : Nat) : FKey := ⟨.praCapInfo, i, 0, 18⟩
abbrev K.praCapInfo_IN_FMT (i : Nat) : FKey := ⟨.praCapInfo, i, 0, 13⟩
abbrev K.praCapInfo_SCALE (i : Nat) : FKey := ⟨.praCapInfo, i, 0, 0⟩
abbrev K.praHistSel_BIN (i : Nat) : FKey := ⟨.praHistSel, i, 0, 0⟩
abbrev K.hbmCtrl_HOT (i : Nat) : FKey := ⟨.hbmCtrl, i, 0, 8⟩
abbrev K.hbmCtrl_MAPOUT_AUTO (i : Nat) : FKey := ⟨.hbmCtrl, i, 0, 0⟩
abbrev K.hbmStatus_STATE (i : Nat) : FKey := ⟨.hbmStatus, i, 0, 29⟩
abbrev K.hbmStatus_ADMIT (i : Nat) : FKey := ⟨.hbmStatus, i, 0, 20⟩
abbrev K.hbmStatus_HOT_ALARM (i : Nat) : FKey := ⟨.hbmStatus, i, 0, 19⟩
abbrev K.hbmStatus_EVACUATING (i : Nat) : FKey := ⟨.hbmStatus, i, 0, 18⟩
abbrev K.hbmStatus_REFRESH_2X (i : Nat) : FKey := ⟨.hbmStatus, i, 0, 17⟩
abbrev K.hbmTemp_MAX (i : Nat) : FKey := ⟨.hbmTemp, i, 0, 8⟩
abbrev K.hbmTemp_TEMP (i : Nat) : FKey := ⟨.hbmTemp, i, 0, 0⟩
abbrev K.hbmEcc_CE (i : Nat) : FKey := ⟨.hbmEcc, i, 0, 16⟩
abbrev K.hbmEcc_UE (i : Nat) : FKey := ⟨.hbmEcc, i, 0, 0⟩
abbrev K.hbmChSel_CH (i : Nat) : FKey := ⟨.hbmChSel, i, 0, 0⟩
abbrev K.hbmRgnSel_REGION (i : Nat) : FKey := ⟨.hbmRgnSel, i, 0, 0⟩
abbrev K.clkCtrl_FAIL_ACTION : FKey := ⟨.clkCtrl, 0, 0, 0⟩
abbrev K.clkStatus_XTAL_OK : FKey := ⟨.clkStatus, 0, 0, 31⟩
abbrev K.clkStatus_HOLDOVER : FKey := ⟨.clkStatus, 0, 0, 30⟩
abbrev K.clkStatus_NMI : FKey := ⟨.clkStatus, 0, 0, 29⟩
abbrev K.clkStatus_FAILED : FKey := ⟨.clkStatus, 0, 0, 0⟩
abbrev K.clkEvt_IOSC_LOST : FKey := ⟨.clkEvt, 0, 0, 4⟩
abbrev K.clkEvt_XTAL_LOST : FKey := ⟨.clkEvt, 0, 0, 3⟩
abbrev K.clkEvt_CLOCK_FAIL : FKey := ⟨.clkEvt, 0, 0, 2⟩
abbrev K.clkXtal_IOSC_PPM : FKey := ⟨.clkXtal, 0, 0, 16⟩
abbrev K.clkXtal_COUNT : FKey := ⟨.clkXtal, 0, 0, 0⟩
abbrev K.clkDomStat_SOURCE (j : Nat) : FKey := ⟨.clkDomStat, 0, j, 29⟩
abbrev K.clkDomStat_RAMP (j : Nat) : FKey := ⟨.clkDomStat, 0, j, 25⟩
abbrev K.clkDomStat_FAIL_DIES (j : Nat) : FKey := ⟨.clkDomStat, 0, j, 21⟩
abbrev K.clkDomStat_DEV (j : Nat) : FKey := ⟨.clkDomStat, 0, j, 0⟩
abbrev K.timCtrl_PPS_OUT_EN : FKey := ⟨.timCtrl, 0, 0, 2⟩
abbrev K.timCtrl_PULSE_SRC : FKey := ⟨.timCtrl, 0, 0, 1⟩
abbrev K.timCtrl_SET_SRC : FKey := ⟨.timCtrl, 0, 0, 0⟩
abbrev K.timStatus_SET : FKey := ⟨.timStatus, 0, 0, 31⟩
abbrev K.timStatus_ARMED : FKey := ⟨.timStatus, 0, 0, 30⟩
abbrev K.timStatus_SLEWING : FKey := ⟨.timStatus, 0, 0, 29⟩
abbrev K.timJumpMax_NS : FKey := ⟨.timJumpMax, 0, 0, 0⟩
abbrev K.timIncLo_FRAC : FKey := ⟨.timIncLo, 0, 0, 0⟩
abbrev K.timIncHi_NS : FKey := ⟨.timIncHi, 0, 0, 0⟩
abbrev K.timPpsLo_NS : FKey := ⟨.timPpsLo, 0, 0, 0⟩
abbrev K.timPpsHi_NS : FKey := ⟨.timPpsHi, 0, 0, 0⟩
abbrev K.timSyncStat_BUSY : FKey := ⟨.timSyncStat, 0, 0, 31⟩
abbrev K.timSyncStat_TIMEOUT : FKey := ⟨.timSyncStat, 0, 0, 30⟩
abbrev K.timSyncStat_PEER_SET : FKey := ⟨.timSyncStat, 0, 0, 29⟩
abbrev K.timSyncStat_TAG : FKey := ⟨.timSyncStat, 0, 0, 0⟩
abbrev K.timSyncTLo_NS (j : Nat) : FKey := ⟨.timSyncTLo, 0, j, 0⟩
abbrev K.timSyncTHi_NS (j : Nat) : FKey := ⟨.timSyncTHi, 0, j, 0⟩
abbrev K.imgId_FORMAT : FKey := ⟨.imgId, 0, 0, 16⟩
abbrev K.imgId_MEMBER : FKey := ⟨.imgId, 0, 0, 0⟩
abbrev K.imgStatus_LOADED : FKey := ⟨.imgStatus, 0, 0, 31⟩
abbrev K.imgStatus_ACTIVE : FKey := ⟨.imgStatus, 0, 0, 30⟩
abbrev K.imgStatus_FALLBACK : FKey := ⟨.imgStatus, 0, 0, 29⟩
abbrev K.imgStatus_A_VALID : FKey := ⟨.imgStatus, 0, 0, 28⟩
abbrev K.imgStatus_B_VALID : FKey := ⟨.imgStatus, 0, 0, 27⟩
abbrev K.imgStatus_SECTIONS : FKey := ⟨.imgStatus, 0, 0, 0⟩
abbrev K.imgSeq_SEQ : FKey := ⟨.imgSeq, 0, 0, 0⟩
abbrev K.imgOtherSeq_SEQ : FKey := ⟨.imgOtherSeq, 0, 0, 0⟩
abbrev K.imgPatchSeq_SEQ : FKey := ⟨.imgPatchSeq, 0, 0, 0⟩
abbrev K.imgPrio_WINNER : FKey := ⟨.imgPrio, 0, 0, 0⟩
abbrev K.imgConflict_VALID : FKey := ⟨.imgConflict, 0, 0, 31⟩
abbrev K.imgConflict_RUNTIME : FKey := ⟨.imgConflict, 0, 0, 30⟩
abbrev K.imgConflict_RESOURCE : FKey := ⟨.imgConflict, 0, 0, 27⟩
abbrev K.imgConflict_LOST : FKey := ⟨.imgConflict, 0, 0, 22⟩
abbrev K.imgConflict_COUNT : FKey := ⟨.imgConflict, 0, 0, 0⟩
abbrev K.mpcStatus_CORES_UP : FKey := ⟨.mpcStatus, 0, 0, 27⟩
abbrev K.mpcStatus_OVERLOAD : FKey := ⟨.mpcStatus, 0, 0, 26⟩
abbrev K.mpcStatus_BRIDGE : FKey := ⟨.mpcStatus, 0, 0, 25⟩
abbrev K.mpcQSel_PRIO : FKey := ⟨.mpcQSel, 0, 0, 0⟩
abbrev K.mpcReqSel_ENTRY : FKey := ⟨.mpcReqSel, 0, 0, 0⟩
abbrev K.mpcSmb_PEC_REQ : FKey := ⟨.mpcSmb, 0, 0, 7⟩
abbrev K.mpcSmb_ADDR : FKey := ⟨.mpcSmb, 0, 0, 0⟩
abbrev K.mpcInjArg_TARGET : FKey := ⟨.mpcInjArg, 0, 0, 0⟩
abbrev K.mpcInjStat_BUSY : FKey := ⟨.mpcInjStat, 0, 0, 31⟩
abbrev K.mpcInjStat_COUNT : FKey := ⟨.mpcInjStat, 0, 0, 8⟩
abbrev K.mpcInjStat_STATUS : FKey := ⟨.mpcInjStat, 0, 0, 0⟩
abbrev K.secLast_OPCODE : FKey := ⟨.secLast, 0, 0, 24⟩
abbrev K.secLast_QSTATUS : FKey := ⟨.secLast, 0, 0, 16⟩
abbrev K.telCtrl_SMP_EN : FKey := ⟨.telCtrl, 0, 0, 31⟩
abbrev K.telCtrl_SMP_LOG2N : FKey := ⟨.telCtrl, 0, 0, 24⟩
abbrev K.telCtrl_SMP_VCS : FKey := ⟨.telCtrl, 0, 0, 16⟩
abbrev K.telStatus_SMP_LOST : FKey := ⟨.telStatus, 0, 0, 30⟩
abbrev K.telStatus_MIRROR_LOST : FKey := ⟨.telStatus, 0, 0, 29⟩
abbrev K.telStatus_POP_VALID : FKey := ⟨.telStatus, 0, 0, 28⟩
abbrev K.telSel_INSTANCE : FKey := ⟨.telSel, 0, 0, 16⟩
abbrev K.telSel_EVENT : FKey := ⟨.telSel, 0, 0, 0⟩
abbrev K.telSink_LOC : FKey := ⟨.telSink, 0, 0, 0⟩
abbrev K.telSmpData_DATA (j : Nat) : FKey := ⟨.telSmpData, 0, j, 0⟩
abbrev K.telGrantSel_ENTRY : FKey := ⟨.telGrantSel, 0, 0, 0⟩
abbrev K.pwrCtrl_CAP_W : FKey := ⟨.pwrCtrl, 0, 0, 8⟩
abbrev K.pwrCtrl_THERM_HOT : FKey := ⟨.pwrCtrl, 0, 0, 0⟩
abbrev K.pwrStatus_STEP : FKey := ⟨.pwrStatus, 0, 0, 28⟩
abbrev K.pwrStatus_READY : FKey := ⟨.pwrStatus, 0, 0, 27⟩
abbrev K.pwrStatus_STALLED : FKey := ⟨.pwrStatus, 0, 0, 26⟩
abbrev K.pwrStatus_THROTTLE : FKey := ⟨.pwrStatus, 0, 0, 8⟩
abbrev K.pwrStatus_GOV_HOLD : FKey := ⟨.pwrStatus, 0, 0, 7⟩
abbrev K.pwrStatus_CAP_HOLD : FKey := ⟨.pwrStatus, 0, 0, 6⟩
abbrev K.pwrStatus_THERM_ALERT : FKey := ⟨.pwrStatus, 0, 0, 5⟩
abbrev K.pwrRstCause_THERMTRIP_SEEN : FKey := ⟨.pwrRstCause, 0, 0, 31⟩
abbrev K.pwrRstCause_CAUSE : FKey := ⟨.pwrRstCause, 0, 0, 0⟩
abbrev K.pwrTotal_MAX_W : FKey := ⟨.pwrTotal, 0, 0, 16⟩
abbrev K.pwrTotal_WATTS : FKey := ⟨.pwrTotal, 0, 0, 0⟩
abbrev K.pwrRailV_MV (j : Nat) : FKey := ⟨.pwrRailV, 0, j, 0⟩
abbrev K.pwrRailI_MAX (j : Nat) : FKey := ⟨.pwrRailI, 0, j, 16⟩
abbrev K.pwrRailI_CURRENT (j : Nat) : FKey := ⟨.pwrRailI, 0, j, 0⟩
abbrev K.pwrDieTemp_MAX (j : Nat) : FKey := ⟨.pwrDieTemp, 0, j, 16⟩
abbrev K.pwrDieTemp_TEMP (j : Nat) : FKey := ⟨.pwrDieTemp, 0, j, 0⟩
abbrev K.glbId_MEMBER : FKey := ⟨.glbId, 0, 0, 16⟩
abbrev K.glbId_STEPPING : FKey := ⟨.glbId, 0, 0, 0⟩
abbrev K.glbCap0_PORT_BLOCKS : FKey := ⟨.glbCap0, 0, 0, 24⟩
abbrev K.glbCap0_QSECTORS : FKey := ⟨.glbCap0, 0, 0, 16⟩
abbrev K.glbCap0_STACKS : FKey := ⟨.glbCap0, 0, 0, 8⟩
abbrev K.glbCap0_RDES : FKey := ⟨.glbCap0, 0, 0, 0⟩
abbrev K.glbCap1_PRAS : FKey := ⟨.glbCap1, 0, 0, 16⟩
abbrev K.glbStrap_PROFILE : FKey := ⟨.glbStrap, 0, 0, 4⟩
abbrev K.glbStrap_SMB_ADDR : FKey := ⟨.glbStrap, 0, 0, 0⟩
abbrev K.glbIncarn_INCARNATION : FKey := ⟨.glbIncarn, 0, 0, 0⟩
abbrev K.glbAlert_ASSERTED : FKey := ⟨.glbAlert, 0, 0, 31⟩
abbrev K.glbAlert_START_STALL : FKey := ⟨.glbAlert, 0, 0, 5⟩
abbrev K.glbAlert_THERM_ALERT : FKey := ⟨.glbAlert, 0, 0, 4⟩
abbrev K.glbAlert_REPAIR_WRITE_FAIL : FKey := ⟨.glbAlert, 0, 0, 3⟩
abbrev K.glbAlert_HBM_HOT : FKey := ⟨.glbAlert, 0, 0, 2⟩
abbrev K.glbAlert_OSC_BOTH : FKey := ⟨.glbAlert, 0, 0, 1⟩
abbrev K.glbAlert_XTAL_QUAL_FAIL : FKey := ⟨.glbAlert, 0, 0, 0⟩
abbrev K.glbLogSel_SEQ : FKey := ⟨.glbLogSel, 0, 0, 0⟩
abbrev K.glbLogMask_MASK (j : Nat) : FKey := ⟨.glbLogMask, 0, j, 0⟩

end Sys2Proof.Machine
end

