-- ==== Sys2Proof/Machine/RegTable.lean ====
section
/-! DEFINITION. The register tables of the spec: the fields of every register with their access codes and legal values,
and the reset value of every field. Reserved fields (R15) have no entry: they read as 0 and ignore what is written. -/

namespace Sys2Proof.Machine

/-- A field as the tables give it, every value of its width legal. -/
def fd (hi lo : Nat) (acc : Access) : FieldDef := ⟨hi, lo, acc, 0, 2 ^ (hi + 1 - lo) - 1⟩

/-- A field whose legal values lie from `least` to `most` (R16). -/
def fr (hi lo : Nat) (acc : Access) (least most : Nat) : FieldDef := ⟨hi, lo, acc, least, most⟩

/-- A 16-bit value made nonzero, for the random incarnation of R521. -/
def nonzero16 (w : BitVec 16) : Nat := if w.toNat = 0 then 1 else w.toNat

/-- The fields of the LPE registers (spec/02_lightpath_engines.md). -/
def lpeFields : RegName → List FieldDef
  | .lpeId => [fd 23 16 .ro, fd 15 12 .ro, fd 5 0 .ro]
  | .lpeCtrl => [fd 1 1 .rw, fd 0 0 .rw]
  | .lpeStatus => [fd 27 20 .ro, fd 19 12 .ro, fd 11 8 .ro, fd 7 6 .ro, fd 5 4 .ro, fd 3 3 .ro, fd 2 0 .ro]
  | .lpeEvt => [fd 11 11 .w1c, fd 10 10 .w1c, fd 9 9 .w1c, fd 8 8 .w1c, fd 7 7 .w1c, fd 6 6 .w1c, fd 5 5 .w1c, fd 4 4 .w1c, fd 3 3 .w1c, fd 2 2 .w1c, fd 1 1 .w1c, fd 0 0 .w1c]
  | .lpeSwapCmd => [fd 31 31 .wo, fd 1 0 .wo]
  | .lpeLsrStat => [fd 9 9 .ro, fd 8 8 .ro, fd 5 4 .ro, fd 2 0 .ro]
  | .lpeLsrPwr => [fd 31 16 .ro, fd 15 0 .ro]
  | .lpeLsrBias => [fd 27 16 .ro, fd 11 0 .ro]
  | .lpePortPwr => [fd 31 16 .ro, fd 15 0 .ro]
  | .lpePortApr => [fd 1 1 .ro, fd 0 0 .ro]
  | .lpeRingSel => [fr 7 0 .rw 0 163]
  | .lpeRingStat => [fd 23 16 .ro, fd 14 8 .ro, fd 5 5 .ro, fd 4 4 .ro, fd 3 3 .ro, fd 2 2 .ro, fd 1 0 .ro]
  | .lpeRingHtr => [fd 31 16 .ro, fd 15 0 .ro]
  | _ => []

/-- The fields of the FLY registers (spec/03_flyover_circuits.md). -/
def flyFields : RegName → List FieldDef
  | .flyId => [fd 24 16 .ro, fd 15 8 .ro]
  | .flyCtrl => [fd 1 1 .rw, fd 0 0 .rw]
  | .flyStatus => [fd 31 31 .ro, fd 24 16 .ro, fd 14 9 .ro, fd 8 0 .ro]
  | .flyEvt => [fd 6 6 .w1c, fd 5 5 .w1c, fd 4 4 .w1c, fd 3 3 .w1c, fd 2 2 .w1c, fd 1 1 .w1c, fd 0 0 .w1c]
  | .flyCmd => [fd 31 31 .wo, fd 30 30 .wo, fd 29 28 .wo, fd 27 20 .wo, fd 17 9 .wo, fd 8 0 .wo]
  | .flyCmdResult => [fd 31 31 .ro, fd 7 0 .ro]
  | .flySlotCfg => [fd 31 31 .ro, fd 30 30 .ro, fd 29 27 .ro, fd 17 9 .ro, fd 8 0 .ro]
  | .flySlotPwr => [fd 31 16 .ro, fd 15 0 .ro]
  | _ => []

/-- The fields of the LNK registers (spec/04_links_and_presence.md). -/
def lnkFields : RegName → List FieldDef
  | .lnkId => [fd 23 16 .ro, fd 15 8 .ro, fd 5 0 .ro]
  | .lnkCtrl => [fd 20 20 .rw, fr 19 16 .rw 1 10, fr 15 12 .rw 2 15, fr 6 0 .rw 1 100]
  | .lnkEvt => [fd 15 15 .w1c, fd 14 14 .w1c, fd 13 13 .w1c, fd 12 12 .w1c, fd 11 11 .w1c, fd 10 10 .w1c, fd 9 9 .w1c, fd 8 8 .w1c, fd 7 7 .w1c, fd 6 6 .w1c, fd 5 5 .w1c, fd 4 4 .w1c, fd 3 3 .w1c, fd 2 2 .w1c, fd 1 1 .w1c, fd 0 0 .w1c]
  | .lnkElane => [fd 31 30 .ro, fd 29 24 .ro, fd 21 16 .ro, fd 15 14 .ro, fd 13 8 .ro, fd 5 0 .ro]
  | .lnkLinkState => [fd 27 24 .ro, fd 23 20 .ro, fd 15 8 .ro, fd 7 4 .ro, fd 3 0 .ro]
  | .lnkLinkPeera => [fd 31 0 .ro]
  | .lnkLinkPeerb => [fd 31 16 .ro, fd 10 9 .ro, fd 8 0 .ro]
  | .lnkLinkRetry => [fd 31 16 .ro, fd 15 0 .ro]
  | .lnkLaneFec => [fd 31 16 .rc, fd 15 0 .rc]
  | .lnkCredSel => [fd 7 3 .rw, fd 2 0 .rw]
  | .lnkCredStat => [fd 31 16 .ro, fd 15 0 .ro]
  | _ => []

/-- The fields of the FWD registers (spec/05_forwarding_and_detour.md). -/
def fwdFields : RegName → List FieldDef
  | .fwdId => [fd 15 8 .ro, fd 2 0 .ro]
  | .fwdCtrl => [fr 25 16 .rw 1 1000, fd 5 4 .ro, fd 0 0 .rw]
  | .fwdLoc => [fd 31 0 .ro]
  | .fwdEvt => [fd 10 10 .w1c, fd 9 9 .w1c, fd 8 8 .w1c, fd 7 7 .w1c, fd 6 6 .w1c, fd 5 5 .w1c, fd 4 4 .w1c, fd 3 3 .w1c, fd 2 2 .w1c, fd 1 1 .w1c, fd 0 0 .w1c]
  | .fwdSeedLo => [fd 31 0 .ro]
  | .fwdSeedHi => [fd 31 0 .ro]
  | .fwdVer => [fd 31 31 .wo, fd 16 16 .ro, fd 15 0 .ro]
  | .fwdTblCmd => [fd 31 31 .wo, fd 30 29 .wo, fd 28 27 .wo, fd 15 0 .wo]
  | .fwdTblStat => [fd 0 0 .ro]
  | .fwdTblDataLo => [fd 31 0 .rw]
  | .fwdTblDataHi => [fd 31 0 .rw]
  | _ => []

/-- The fields of the BUF registers (spec/06_buffers_resequencing_backpressure.md). -/
def bufFields : RegName → List FieldDef
  | .bufId => [fd 31 24 .ro, fd 23 16 .ro, fd 2 0 .ro]
  | .bufCtrl => [fd 31 31 .rw, fr 28 24 .rw 4 24, fd 23 16 .rw, fr 12 8 .rw 6 24]
  | .bufStatus => [fd 31 31 .ro, fd 30 30 .ro, fd 15 12 .ro, fd 8 0 .ro]
  | .bufEvt => [fd 15 15 .w1c, fd 14 14 .w1c, fd 13 13 .w1c, fd 12 12 .w1c, fd 11 11 .w1c, fd 10 10 .w1c, fd 9 9 .w1c, fd 8 8 .w1c, fd 7 7 .w1c, fd 6 6 .w1c, fd 5 5 .w1c, fd 4 4 .w1c, fd 3 3 .w1c, fd 2 2 .w1c, fd 1 1 .w1c, fd 0 0 .w1c]
  | .bufReseqCfg => [fr 31 16 .rw 1 65535, fr 15 8 .rw 1 255, fr 7 0 .rw 1 255]
  | .bufReseqStat => [fd 30 16 .ro, fd 14 0 .ro]
  | .bufSramStat => [fd 31 16 .ro, fd 15 0 .ro]
  | .bufToll => [fd 31 16 .ro, fd 12 0 .ro]
  | .bufCarafeCfg => [fd 31 24 .ro, fd 23 16 .ro, fd 15 0 .ro]
  | .bufCarafeStat => [fd 31 0 .ro]
  | .bufQSel => [fd 13 8 .rw, fd 5 4 .rw, fd 2 0 .rw]
  | .bufQSram => [fd 31 0 .ro]
  | .bufQCarafe => [fd 31 0 .ro]
  | .bufQFrames => [fd 31 0 .ro]
  | .bufPlim => [fd 31 16 .ro, fd 15 0 .ro]
  | _ => []

/-- The fields of the TM registers (spec/07_shaping_and_vc_weights.md, spec/13_profiles_and_determinism.md). -/
def tmFields : RegName → List FieldDef
  | .tmId => [fd 31 16 .ro, fd 15 4 .ro, fd 2 0 .ro]
  | .tmCtrl => [fr 7 0 .rw 1 255]
  | .tmEvt => [fd 3 3 .w1c, fd 2 2 .w1c, fd 1 1 .w1c, fd 0 0 .w1c]
  | .tmVcw0 => [fr 31 24 .rw 1 255, fr 23 16 .rw 1 255, fr 15 8 .rw 1 255, fr 7 0 .rw 1 255]
  | .tmVcw1 => [fd 31 24 .ro, fd 23 16 .rw, fr 15 8 .rw 1 255, fr 7 0 .rw 1 255]
  | .tmOvh => [fd 6 0 .rw]
  | .tmQSel => [fd 13 8 .rw, fd 5 4 .rw, fd 2 0 .rw]
  | .tmQRate => [fd 31 31 .wo, fr 19 0 .rw 0 800000]
  | .tmQBurst => [fr 10 0 .rw 9 1024]
  | .tmQCredit => [fd 31 0 .ro]
  | .tmQStat => [fd 31 31 .ro, fd 30 30 .ro, fd 29 29 .ro, fd 11 0 .ro]
  | .tmQNext => [fd 31 0 .ro]
  | .tmSchedCfg => [fd 31 31 .ro, fd 30 24 .ro, fd 15 0 .ro]
  | .tmSchedOfs => [fd 15 0 .ro]
  | .tmSchedStat => [fd 31 31 .ro, fd 30 30 .ro, fd 2 0 .ro]
  | .tmSchedEvt => [fd 6 6 .w1c, fd 5 5 .w1c, fd 4 4 .w1c, fd 3 3 .w1c, fd 2 2 .w1c, fd 1 1 .w1c, fd 0 0 .w1c]
  | .tmSchedCntLo => [fd 31 0 .ro]
  | .tmSchedCntHi => [fd 31 0 .ro]
  | .tmSchedSel => [fd 11 0 .rw]
  | .tmSchedWin0 => [fd 31 31 .ro, fd 30 23 .ro, fd 21 0 .ro]
  | .tmSchedWin1 => [fd 15 0 .ro]
  | _ => []

/-- The fields of the COL registers (spec/08_collective_operations.md). -/
def colFields : RegName → List FieldDef
  | .colId => [fd 31 16 .ro, fd 15 8 .ro, fd 2 0 .ro]
  | .colCtrl => [fr 31 16 .rw 1 60000, fr 15 8 .rw 1 255]
  | .colStatus => [fd 31 31 .ro, fd 30 30 .ro, fd 28 16 .ro, fd 15 0 .ro]
  | .colEvt => [fd 13 13 .w1c, fd 12 12 .w1c, fd 11 11 .w1c, fd 10 10 .w1c, fd 9 9 .w1c, fd 8 8 .w1c, fd 7 7 .w1c, fd 6 6 .w1c, fd 5 5 .w1c, fd 4 4 .w1c, fd 3 3 .w1c, fd 2 2 .w1c, fd 1 1 .w1c, fd 0 0 .w1c]
  | .colGrpCmd => [fd 31 31 .wo, fd 30 29 .wo, fd 28 28 .wo, fd 17 0 .wo]
  | .colGrpStat => [fd 0 0 .ro]
  | .colGrpData => [fd 31 0 .rw]
  | .colOpSel => [fd 11 0 .rw]
  | .colOpId => [fd 31 16 .ro, fd 15 0 .ro]
  | .colOpStat => [fd 31 31 .ro, fd 30 28 .ro, fd 19 0 .ro]
  | .colOpAck => [fd 23 0 .ro]
  | .colAbortCmd => [fd 31 31 .wo, fd 11 0 .wo]
  | .colAbortResult => [fd 31 31 .ro, fd 7 0 .ro]
  | .colLogHdr => [fd 31 16 .ro, fd 15 0 .ro]
  | .colLogSel => [fd 3 0 .rw]
  | .colLogData => [fd 31 31 .ro, fd 30 30 .ro, fd 23 0 .ro]
  | _ => []

/-- The fields of the RDE registers (spec/10_recipes.md). -/
def rdeFields : RegName → List FieldDef
  | .rdeId => [fd 23 16 .ro, fd 15 8 .ro, fd 4 0 .ro]
  | .rdeStatus => [fd 31 29 .ro, fd 28 25 .ro, fd 24 20 .ro, fd 15 8 .ro, fd 2 0 .ro]
  | .rdeEvt => [fd 7 7 .w1c, fd 6 6 .w1c, fd 5 5 .w1c, fd 4 4 .w1c, fd 3 3 .w1c, fd 2 2 .w1c, fd 1 1 .w1c, fd 0 0 .w1c]
  | .rdeFailSel => [fd 2 0 .rw]
  | .rdeFailInfo => [fd 31 31 .ro, fd 30 24 .ro, fd 23 19 .ro, fd 18 7 .ro]
  | .rdeFailDiff => [fd 31 0 .ro]
  | .rdeRcpSel => [fd 11 0 .rw]
  | .rdeRcpInfo => [fd 31 31 .ro, fd 30 30 .ro, fd 29 29 .ro, fd 28 28 .ro, fd 27 27 .ro, fd 26 22 .ro, fd 21 17 .ro, fd 16 12 .ro]
  | .rdeRcpDigest => [fd 31 0 .ro]
  | _ => []

/-- The fields of the PRA registers (spec/11_photonic_reduction_array.md). -/
def praFields : RegName → List FieldDef
  | .praId => [fd 31 24 .ro, fd 23 16 .ro, fd 15 8 .ro, fd 1 0 .ro]
  | .praCtrl => [fd 31 31 .wo, fr 12 8 .rw 6 16, fd 0 0 .rw]
  | .praStatus => [fd 31 24 .ro, fd 23 16 .ro, fd 15 10 .ro, fd 9 8 .ro, fd 7 4 .ro, fd 2 0 .ro]
  | .praEvt => [fd 7 7 .w1c, fd 6 6 .w1c, fd 5 5 .w1c, fd 4 4 .w1c, fd 3 3 .w1c, fd 2 2 .w1c, fd 1 1 .w1c, fd 0 0 .w1c]
  | .praChanLo => [fd 31 0 .ro]
  | .praChanHi => [fd 31 0 .ro]
  | .praCarrier => [fd 31 0 .ro]
  | .praShdNLo => [fd 31 0 .ro]
  | .praShdNHi => [fd 31 0 .ro]
  | .praShdSumLo => [fd 31 0 .ro]
  | .praShdSumHi => [fd 31 0 .ro]
  | .praShdSqLo => [fd 31 0 .ro]
  | .praShdSqHi => [fd 31 0 .ro]
  | .praShdMax => [fd 15 0 .ro]
  | .praCapSel => [fd 4 0 .rw]
  | .praCapInfo => [fd 31 31 .ro, fd 30 24 .ro, fd 23 18 .ro, fd 17 13 .ro, fd 7 0 .ro]
  | .praCapErr => [fd 31 16 .ro, fd 15 0 .ro]
  | .praHistSel => [fd 5 0 .rw]
  | .praHist => [fd 31 0 .ro]
  | _ => []

/-- The fields of the HBM registers (spec/12_hbm_memory.md). -/
def hbmFields : RegName → List FieldDef
  | .hbmId => [fd 31 24 .ro, fd 23 16 .ro, fd 15 8 .ro, fd 4 0 .ro]
  | .hbmCtrl => [fr 14 8 .rw 85 105, fd 0 0 .rw]
  | .hbmStatus => [fd 31 29 .ro, fd 23 20 .ro, fd 19 19 .ro, fd 18 18 .ro, fd 17 17 .ro, fd 5 0 .ro]
  | .hbmEvt => [fd 10 10 .w1c, fd 9 9 .w1c, fd 8 8 .w1c, fd 7 7 .w1c, fd 6 6 .w1c, fd 5 5 .w1c, fd 4 4 .w1c, fd 3 3 .w1c, fd 2 2 .w1c, fd 1 1 .w1c, fd 0 0 .w1c]
  | .hbmTemp => [fd 15 8 .ro, fd 7 0 .ro]
  | .hbmChan => [fd 31 0 .ro]
  | .hbmEcc => [fd 31 16 .rc, fd 15 0 .rc]
  | .hbmBw => [fd 31 16 .ro, fd 15 0 .ro]
  | .hbmChSel => [fd 4 0 .rw]
  | .hbmChInfo => [fd 31 31 .ro, fd 30 30 .ro, fd 23 16 .ro, fd 15 0 .ro]
  | .hbmRgnSel => [fr 2 0 .rw 0 4]
  | .hbmRgnSize => [fd 31 0 .ro]
  | .hbmRgnUsed => [fd 31 0 .ro]
  | _ => []

/-- The fields of the CLK registers (spec/14_clocks_and_time.md). -/
def clkFields : RegName → List FieldDef
  | .clkId => [fd 7 0 .ro]
  | .clkCtrl => [fd 0 0 .rw]
  | .clkStatus => [fd 31 31 .ro, fd 30 30 .ro, fd 29 29 .ro, fd 7 0 .ro]
  | .clkEvt => [fd 5 5 .w1c, fd 4 4 .w1c, fd 3 3 .w1c, fd 2 2 .w1c, fd 1 1 .w1c, fd 0 0 .w1c]
  | .clkXtal => [fd 31 16 .ro, fd 15 0 .ro]
  | .clkDomStat => [fd 31 29 .ro, fd 28 25 .ro, fd 24 21 .ro, fd 15 0 .ro]
  | _ => []

/-- The fields of the TIM registers (spec/14_clocks_and_time.md). -/
def timFields : RegName → List FieldDef
  | .timCtrl => [fd 2 2 .rw, fd 1 1 .rw, fd 0 0 .rw]
  | .timStatus => [fd 31 31 .ro, fd 30 30 .ro, fd 29 29 .ro, fd 28 28 .ro]
  | .timEvt => [fd 6 6 .w1c, fd 5 5 .w1c, fd 4 4 .w1c, fd 3 3 .w1c, fd 2 2 .w1c, fd 1 1 .w1c, fd 0 0 .w1c]
  | .timJumpMax => [fr 29 0 .rw 10 1000000000]
  | .timNowLo => [fd 31 0 .ro]
  | .timNowHi => [fd 31 0 .ro]
  | .timIncLo => [fd 31 0 .rw]
  | .timIncHi => [fd 7 0 .rw]
  | .timSetLo => [fd 31 0 .wo]
  | .timSetHi => [fd 31 0 .wo]
  | .timAdjLo => [fd 31 0 .rw]
  | .timAdjHi => [fd 31 0 .rw]
  | .timPpsLo => [fd 31 0 .ro]
  | .timPpsHi => [fd 31 0 .ro]
  | .timSyncCmd => [fd 31 31 .wo, fd 26 11 .wo, fd 10 0 .wo]
  | .timSyncStat => [fd 31 31 .ro, fd 30 30 .ro, fd 29 29 .ro, fd 15 0 .ro]
  | .timSyncTLo => [fd 31 0 .ro]
  | .timSyncTHi => [fd 31 0 .ro]
  | _ => []

/-- The fields of the IMG registers (spec/15_management_and_structure_image.md). -/
def imgFields : RegName → List FieldDef
  | .imgId => [fd 31 16 .ro, fd 15 0 .ro]
  | .imgStatus => [fd 31 31 .ro, fd 30 30 .ro, fd 29 29 .ro, fd 28 28 .ro, fd 27 27 .ro, fd 26 26 .ro, fd 5 0 .ro]
  | .imgEvt => [fd 5 5 .w1c, fd 4 4 .w1c, fd 3 3 .w1c, fd 2 2 .w1c, fd 1 1 .w1c, fd 0 0 .w1c]
  | .imgSeq => [fd 31 0 .ro]
  | .imgOtherSeq => [fd 31 0 .ro]
  | .imgPatchSeq => [fd 31 0 .ro]
  | .imgPrio => [fd 2 0 .ro]
  | .imgConflict => [fd 31 31 .ro, fd 30 30 .ro, fd 29 27 .ro, fd 26 22 .ro, fd 15 0 .ro]
  | _ => []

/-- The fields of the MPC registers (spec/15_management_and_structure_image.md, spec/17_spares_repair_and_resilience.md). -/
def mpcFields : RegName → List FieldDef
  | .mpcId => [fd 31 24 .ro, fd 15 0 .ro]
  | .mpcCtrl => [fr 7 0 .rw 1 255]
  | .mpcStatus => [fd 31 27 .ro, fd 26 26 .ro, fd 25 25 .ro, fd 12 0 .ro]
  | .mpcEvt => [fd 5 5 .w1c, fd 4 4 .w1c, fd 3 3 .w1c, fd 2 2 .w1c, fd 1 1 .w1c, fd 0 0 .w1c]
  | .mpcQSel => [fr 2 0 .rw 1 5]
  | .mpcQStat => [fd 31 16 .ro, fd 15 0 .ro]
  | .mpcHostPort => [fd 31 31 .ro, fd 10 0 .ro]
  | .mpcHostLoc => [fd 31 0 .ro]
  | .mpcReqSel => [fd 4 0 .rw]
  | .mpcReqLoc => [fd 31 0 .ro]
  | .mpcReqPerm => [fd 5 0 .ro]
  | .mpcSmb => [fd 7 7 .rw, fd 6 0 .ro]
  | .mpcInjCmd => [fd 31 31 .wo, fd 26 24 .wo, fd 15 0 .wo]
  | .mpcInjArg => [fd 31 0 .rw]
  | .mpcInjStat => [fd 31 31 .ro, fd 23 8 .ro, fd 7 0 .ro]
  | _ => []

/-- The fields of the SEC registers (spec/16_security_and_quorum.md). -/
def secFields : RegName → List FieldDef
  | .secId => [fd 31 24 .ro, fd 23 16 .ro, fd 15 8 .ro]
  | .secStatus => [fd 31 31 .ro, fd 30 30 .ro, fd 29 29 .ro, fd 28 28 .ro, fd 27 26 .ro, fd 25 25 .ro, fd 24 24 .ro, fd 23 16 .ro, fd 11 0 .ro]
  | .secEvt => [fd 13 13 .w1c, fd 12 12 .w1c, fd 11 11 .w1c, fd 10 10 .w1c, fd 9 9 .w1c, fd 8 8 .w1c, fd 7 7 .w1c, fd 6 6 .w1c, fd 5 5 .w1c, fd 4 4 .w1c, fd 3 3 .w1c, fd 2 2 .w1c, fd 1 1 .w1c, fd 0 0 .w1c]
  | .secDevidLo => [fd 31 0 .ro]
  | .secDevidHi => [fd 31 0 .ro]
  | .secKeyset => [fd 12 8 .ro, fd 4 0 .ro]
  | .secKeysetVer => [fd 31 0 .ro]
  | .secQseqLo => [fd 31 0 .ro]
  | .secQseqHi => [fd 31 0 .ro]
  | .secLast => [fd 31 24 .ro, fd 23 16 .ro]
  | _ => []

/-- The fields of the TEL registers (spec/18_telemetry_and_counters.md). -/
def telFields : RegName → List FieldDef
  | .telId => [fd 23 16 .ro, fd 15 8 .ro, fd 7 0 .ro]
  | .telCtrl => [fd 31 31 .rw, fr 28 24 .rw 4 24, fd 23 16 .rw]
  | .telStatus => [fd 31 31 .ro, fd 30 30 .ro, fd 29 29 .ro, fd 28 28 .ro, fd 16 0 .ro]
  | .telEvt => [fd 4 4 .w1c, fd 3 3 .w1c, fd 2 2 .w1c, fd 1 1 .w1c, fd 0 0 .w1c]
  | .telSel => [fd 26 16 .rw, fd 11 0 .rw]
  | .telCntLo => [fd 31 0 .ro]
  | .telCntHi => [fd 31 0 .ro]
  | .telSink => [fd 31 0 .rw]
  | .telSmpPop => [fd 0 0 .wo]
  | .telSmpData => [fd 31 0 .ro]
  | .telGrantSel => [fd 5 0 .rw]
  | .telGrantLoc => [fd 31 0 .rw]
  | .telGrantGrp => [fd 31 31 .rw, fd 14 8 .rw, fd 6 0 .rw]
  | .telGrantInst => [fd 26 16 .rw, fd 10 0 .rw]
  | _ => []

/-- The fields of the PWR registers (spec/19_power_thermal_startup.md). -/
def pwrFields : RegName → List FieldDef
  | .pwrId => [fd 31 24 .ro, fd 23 16 .ro, fd 15 0 .ro]
  | .pwrCtrl => [fd 19 8 .ro, fr 6 0 .rw 90 104]
  | .pwrStatus => [fd 31 28 .ro, fd 27 27 .ro, fd 26 26 .ro, fd 23 8 .ro, fd 7 7 .ro, fd 6 6 .ro, fd 5 5 .ro]
  | .pwrEvt => [fd 9 9 .w1c, fd 8 8 .w1c, fd 7 7 .w1c, fd 6 6 .w1c, fd 5 5 .w1c, fd 4 4 .w1c, fd 3 3 .w1c, fd 2 2 .w1c, fd 1 1 .w1c, fd 0 0 .w1c]
  | .pwrRstCmd => [fd 31 31 .wo, fd 30 30 .wo, fd 29 28 .wo, fd 2 0 .wo]
  | .pwrRstCause => [fd 31 31 .ro, fd 3 0 .ro]
  | .pwrTotal => [fd 31 16 .ro, fd 15 0 .ro]
  | .pwrGov => [fd 23 16 .ro, fd 7 0 .ro]
  | .pwrRailV => [fd 15 0 .ro]
  | .pwrRailI => [fd 31 16 .ro, fd 15 0 .ro]
  | .pwrDieTemp => [fd 23 16 .ro, fd 7 0 .ro]
  | _ => []

/-- The fields of the GLB registers (spec/20_register_map.md). -/
def glbFields : RegName → List FieldDef
  | .glbId => [fd 31 16 .ro, fd 15 8 .ro, fd 7 0 .ro]
  | .glbCap0 => [fd 31 24 .ro, fd 23 16 .ro, fd 15 8 .ro, fd 7 0 .ro]
  | .glbCap1 => [fd 31 24 .ro, fd 23 16 .ro, fd 15 0 .ro]
  | .glbStrap => [fd 5 4 .ro, fd 2 0 .ro]
  | .glbIncarn => [fd 15 0 .ro]
  | .glbAlert => [fd 31 31 .ro, fd 5 5 .w1c, fd 4 4 .w1c, fd 3 3 .w1c, fd 2 2 .w1c, fd 1 1 .w1c, fd 0 0 .w1c]
  | .glbScratch => [fd 31 0 .rw]
  | .glbLogHead => [fd 31 0 .ro]
  | .glbLogSel => [fd 31 0 .rw]
  | .glbLogStat => [fd 31 31 .ro, fd 10 0 .ro]
  | .glbLogData => [fd 31 0 .ro]
  | .glbLogMask => [fd 31 0 .rw]
  | _ => []

/-- The fields of every register. -/
def RegName.fields (r : RegName) : List FieldDef :=
  lpeFields r ++ flyFields r ++ lnkFields r ++ fwdFields r ++ bufFields r ++ tmFields r ++ colFields r ++ rdeFields r ++ praFields r ++ hbmFields r ++ clkFields r ++ timFields r ++ imgFields r ++ mpcFields r ++ secFields r ++ telFields r ++ pwrFields r ++ glbFields r

/-- The reset values of the LPE fields; a field not listed resets to 0. -/
def lpeReset (k : FKey) : Nat :=
  match k.reg, k.lo with
  | .lpeId, 16 => 0xa4
  | .lpeId, 12 => 0x6
  | .lpeId, 0 => k.i
  | .lpeCtrl, 1 => 0x1
  | .lpeCtrl, 0 => 0x1
  | .lpeStatus, 12 => 0xff
  | .lpeLsrStat, 4 => if k.j < 4 then k.j else 0
  | .lpeLsrStat, 0 => if k.j < 4 then 0 else 1
  | .lpeLsrPwr, 16 => (Config.laserCommissioned k.i k.j (if k.j < 4 then k.j else 0)).toNat
  | .lpeLsrPwr, 0 => 0x8000
  | .lpeLsrBias, 16 => (Config.laserMaxBias k.i k.j).toNat
  | .lpePortPwr, 16 => 0x8000
  | .lpePortPwr, 0 => 0x8000
  | .lpePortApr, 1 => 0x1
  | .lpePortApr, 0 => 0x1
  | _, _ => 0

/-- The reset values of the FLY fields; a field not listed resets to 0. -/
def flyReset (k : FKey) : Nat :=
  match k.reg, k.lo with
  | .flyId, 16 => 0x100
  | .flyId, 8 => 0x40
  | .flyCtrl, 1 => 0x1
  | .flyCtrl, 0 => 0x1
  | .flySlotPwr, 16 => 0x8000
  | .flySlotPwr, 0 => 0x8000
  | _, _ => 0

/-- The reset values of the LNK fields; a field not listed resets to 0. -/
def lnkReset (k : FKey) : Nat :=
  match k.reg, k.lo with
  | .lnkId, 16 => 0x20
  | .lnkId, 8 => 0x2
  | .lnkId, 0 => k.i
  | .lnkCtrl, 20 => 0x1
  | .lnkCtrl, 16 => 0xa
  | .lnkCtrl, 12 => 0x8
  | .lnkCtrl, 0 => 0xa
  | .lnkElane, 24 => 0x3f
  | .lnkElane, 16 => 0x3f
  | .lnkElane, 8 => 0x3f
  | .lnkElane, 0 => 0x3f
  | _, _ => 0

/-- The reset values of the FWD fields; a field not listed resets to 0. -/
def fwdReset (k : FKey) : Nat :=
  match k.reg, k.lo with
  | .fwdId, 8 => 0x40
  | .fwdId, 0 => k.i
  | .fwdCtrl, 16 => 0xa
  | .fwdCtrl, 4 => 0x1
  | _, _ => 0

/-- The reset values of the BUF fields; a field not listed resets to 0. -/
def bufReset (k : FKey) : Nat :=
  match k.reg, k.lo with
  | .bufId, 24 => 0x80
  | .bufId, 16 => 0x9
  | .bufId, 0 => k.i
  | .bufCtrl, 24 => 0x10
  | .bufCtrl, 16 => 0x30
  | .bufCtrl, 8 => 0x10
  | .bufStatus, 12 => 0x8
  | .bufStatus, 0 => 0xff
  | .bufReseqCfg, 16 => 0x1f4
  | .bufReseqCfg, 8 => 0x2
  | .bufReseqCfg, 0 => 0xa
  | .bufToll, 0 => 0x1000
  | .bufCarafeCfg, 24 => 0x10
  | .bufCarafeCfg, 0 => 0x28
  | .bufPlim, 16 => 0x40
  | .bufPlim, 0 => 0x4
  | _, _ => 0

/-- The reset values of the TM fields; a field not listed resets to 0. -/
def tmReset (k : FKey) : Nat :=
  match k.reg, k.lo with
  | .tmId, 16 => 0x1000
  | .tmId, 4 => 0x800
  | .tmId, 0 => k.i
  | .tmCtrl, 0 => 0x4
  | .tmVcw0, 24 => 0x40
  | .tmVcw0, 16 => 0x40
  | .tmVcw0, 8 => 0x10
  | .tmVcw0, 0 => 0x4
  | .tmVcw1, 8 => 0x36
  | .tmVcw1, 0 => 0x36
  | .tmQBurst, 0 => 0x10
  | .tmSchedCfg, 24 => 0xa
  | _, _ => 0

/-- The reset values of the COL fields; a field not listed resets to 0. -/
def colReset (k : FKey) : Nat :=
  match k.reg, k.lo with
  | .colId, 16 => 0x1000
  | .colId, 8 => 0x40
  | .colId, 0 => k.i
  | .colCtrl, 16 => 0x64
  | .colCtrl, 8 => 0xa
  | _, _ => 0

/-- The reset values of the RDE fields; a field not listed resets to 0. -/
def rdeReset (k : FKey) : Nat :=
  match k.reg, k.lo with
  | .rdeId, 16 => 0x4
  | .rdeId, 8 => 0x8
  | .rdeId, 0 => k.i
  | .rdeStatus, 29 => if k.i < 16 then 0 else 1
  | .rdeStatus, 25 => if k.i < 16 then k.i / 2 else 15
  | .rdeStatus, 20 => 0x1f
  | .rdeRcpInfo, 31 => 0x1
  | .rdeRcpInfo, 27 => 0x1
  | .rdeRcpInfo, 22 => 0x1
  | .rdeRcpInfo, 17 => 0x1
  | .rdeRcpDigest, 0 => 0x5c0fe1a7
  | _, _ => 0

/-- The reset values of the PRA fields; a field not listed resets to 0. -/
def praReset (k : FKey) : Nat :=
  match k.reg, k.lo with
  | .praId, 24 => 0x40
  | .praId, 16 => 0x20
  | .praId, 8 => 0xa
  | .praId, 0 => k.i
  | .praCtrl, 8 => 0xc
  | _, _ => 0

/-- The reset values of the HBM fields; a field not listed resets to 0. -/
def hbmReset (k : FKey) : Nat :=
  match k.reg, k.lo with
  | .hbmId, 24 => 0x20
  | .hbmId, 16 => 0x40
  | .hbmId, 8 => 0x10
  | .hbmId, 0 => k.i
  | .hbmCtrl, 8 => 0x5f
  | .hbmCtrl, 0 => 0x1
  | .hbmStatus, 20 => 0x4
  | _, _ => 0

/-- The reset values of the CLK fields; a field not listed resets to 0. -/
def clkReset (k : FKey) : Nat :=
  match k.reg, k.lo with
  | .clkId, 0 => 0x8
  | .clkDomStat, 29 => if k.j = 7 then 3 else if k.j = 3 ∨ k.j = 5 ∨ k.j = 6 then 2 else 4
  | _, _ => 0

/-- The reset values of the TIM fields; a field not listed resets to 0. -/
def timReset (k : FKey) : Nat :=
  match k.reg, k.lo with
  | .timJumpMax, 0 => 0x3e8
  | .timIncHi, 0 => 0x2
  | _, _ => 0

/-- The reset values of the IMG fields; a field not listed resets to 0. -/
def imgReset (k : FKey) : Nat :=
  match k.reg, k.lo with
  | .imgId, 16 => 0x1
  | .imgId, 0 => 0x20
  | _, _ => 0

/-- The reset values of the MPC fields; a field not listed resets to 0. -/
def mpcReset (k : FKey) : Nat :=
  match k.reg, k.lo with
  | .mpcId, 24 => 0x5
  | .mpcId, 0 => 0x1000
  | .mpcCtrl, 0 => 0x1
  | .mpcStatus, 27 => 0xf
  | .mpcQSel, 0 => 0x1
  | .mpcSmb, 0 => 0x40
  | _, _ => 0

/-- The reset values of the SEC fields; a field not listed resets to 0. -/
def secReset (k : FKey) : Nat :=
  match k.reg, k.lo with
  | .secId, 24 => 0x1f
  | .secId, 16 => 0x10
  | .secId, 8 => Config.fusedSvn.toNat
  | .secDevidLo, 0 => Config.deviceId.toNat % 2 ^ 32
  | .secDevidHi, 0 => Config.deviceId.toNat / 2 ^ 32
  | _, _ => 0

/-- The reset values of the TEL fields; a field not listed resets to 0. -/
def telReset (k : FKey) : Nat :=
  match k.reg, k.lo with
  | .telId, 16 => 0x10
  | .telId, 8 => 0x40
  | .telId, 0 => 0x20
  | .telCtrl, 24 => 0x10
  | .telCtrl, 16 => 0x30
  | _, _ => 0

/-- The reset values of the PWR fields; a field not listed resets to 0. -/
def pwrReset (k : FKey) : Nat :=
  match k.reg, k.lo with
  | .pwrId, 24 => 0x8
  | .pwrId, 16 => 0x4
  | .pwrId, 0 => 0xa28
  | .pwrCtrl, 8 => 0xa28
  | .pwrCtrl, 0 => 0x64
  | .pwrStatus, 8 => 0x8888
  | .pwrGov, 0 => 0x96
  | _, _ => 0

/-- The reset values of GLB_LOG_MASKn, for n the event group (R530). -/
def logMaskReset : Nat → Nat
  | 0x00 => 0x3F
  | 0x01 => 0x27
  | 0x02 => 0x337
  | 0x03 => 0x37FF
  | 0x04 => 0x3F
  | 0x05 => 0x1A
  | 0x06 => 0x1C
  | 0x08 => 0xE7F
  | 0x09 => 0xDFFB
  | 0x0A => 0x7F
  | 0x10 => 0x4AA
  | 0x11 => 0x21E
  | 0x13 => 0x3D
  | 0x14 => 0x7E0
  | 0x15 => 0x6
  | 0x18 => 0x8
  | 0x19 => 0x73
  | 0x1A => 0x75E
  | _ => 0

/-- The reset values of the GLB fields; a field not listed resets to 0. -/
def glbReset (k : FKey) : Nat :=
  match k.reg, k.lo with
  | .glbId, 16 => 0x20
  | .glbId, 8 => 0x1
  | .glbId, 0 => 0x1
  | .glbCap0, 24 => 0x40
  | .glbCap0, 16 => 0x20
  | .glbCap0, 8 => 0x20
  | .glbCap0, 0 => 0x12
  | .glbCap1, 24 => 0x2
  | .glbCap1, 16 => 0x4
  | .glbCap1, 0 => 0x400
  | .glbIncarn, 0 => nonzero16 (Config.randomIncarnation 0)
  | .glbLogMask, 0 => logMaskReset k.j
  | _, _ => 0

/-- The reset value of every register field: each block lists its own registers only. -/
def fieldReset (k : FKey) : Nat :=
  lpeReset k + flyReset k + lnkReset k + fwdReset k + bufReset k + tmReset k + colReset k + rdeReset k + praReset k + hbmReset k + clkReset k + timReset k + imgReset k + mpcReset k + secReset k + telReset k + pwrReset k + glbReset k

end Sys2Proof.Machine
end

