-- ==== Sys2Proof/Machine/RegMap.lean ====
section
/-! DEFINITION. The register map (R515, R516): the blocks' windows, the address of every register, and the register at
every address. -/

namespace Sys2Proof.Machine

/-- The register blocks of R515. -/
inductive Blk where
  | lpe
  | fly
  | lnk
  | fwd
  | buf
  | tm
  | col
  | rde
  | pra
  | hbm
  | clk
  | tim
  | img
  | mpc
  | sec
  | tel
  | pwr
  | glb
  deriving DecidableEq, Repr

/-- What a management address names (R516): a register, an offset of a window that names none, or no window. -/
inductive Target where
  | reg (r : RegName) (i j : Nat)
  | noRegister (b : Blk) (i : Nat)
  | noWindow
  deriving DecidableEq, Repr

/-- The block that holds a register. -/
def RegName.blk : RegName → Blk
  | .lpeId => .lpe
  | .lpeCtrl => .lpe
  | .lpeStatus => .lpe
  | .lpeEvt => .lpe
  | .lpeSwapCmd => .lpe
  | .lpeLsrStat => .lpe
  | .lpeLsrPwr => .lpe
  | .lpeLsrBias => .lpe
  | .lpePortPwr => .lpe
  | .lpePortApr => .lpe
  | .lpeRingSel => .lpe
  | .lpeRingStat => .lpe
  | .lpeRingHtr => .lpe
  | .flyId => .fly
  | .flyCtrl => .fly
  | .flyStatus => .fly
  | .flyEvt => .fly
  | .flyCmd => .fly
  | .flyCmdResult => .fly
  | .flySlotCfg => .fly
  | .flySlotPwr => .fly
  | .lnkId => .lnk
  | .lnkCtrl => .lnk
  | .lnkEvt => .lnk
  | .lnkElane => .lnk
  | .lnkLinkState => .lnk
  | .lnkLinkPeera => .lnk
  | .lnkLinkPeerb => .lnk
  | .lnkLinkRetry => .lnk
  | .lnkLaneFec => .lnk
  | .lnkCredSel => .lnk
  | .lnkCredStat => .lnk
  | .fwdId => .fwd
  | .fwdCtrl => .fwd
  | .fwdLoc => .fwd
  | .fwdEvt => .fwd
  | .fwdSeedLo => .fwd
  | .fwdSeedHi => .fwd
  | .fwdVer => .fwd
  | .fwdTblCmd => .fwd
  | .fwdTblStat => .fwd
  | .fwdTblDataLo => .fwd
  | .fwdTblDataHi => .fwd
  | .bufId => .buf
  | .bufCtrl => .buf
  | .bufStatus => .buf
  | .bufEvt => .buf
  | .bufReseqCfg => .buf
  | .bufReseqStat => .buf
  | .bufSramStat => .buf
  | .bufToll => .buf
  | .bufCarafeCfg => .buf
  | .bufCarafeStat => .buf
  | .bufQSel => .buf
  | .bufQSram => .buf
  | .bufQCarafe => .buf
  | .bufQFrames => .buf
  | .bufPlim => .buf
  | .tmId => .tm
  | .tmCtrl => .tm
  | .tmEvt => .tm
  | .tmVcw0 => .tm
  | .tmVcw1 => .tm
  | .tmOvh => .tm
  | .tmQSel => .tm
  | .tmQRate => .tm
  | .tmQBurst => .tm
  | .tmQCredit => .tm
  | .tmQStat => .tm
  | .tmQNext => .tm
  | .colId => .col
  | .colCtrl => .col
  | .colStatus => .col
  | .colEvt => .col
  | .colGrpCmd => .col
  | .colGrpStat => .col
  | .colGrpData => .col
  | .colOpSel => .col
  | .colOpId => .col
  | .colOpStat => .col
  | .colOpAck => .col
  | .colAbortCmd => .col
  | .colAbortResult => .col
  | .colLogHdr => .col
  | .colLogSel => .col
  | .colLogData => .col
  | .rdeId => .rde
  | .rdeStatus => .rde
  | .rdeEvt => .rde
  | .rdeFailSel => .rde
  | .rdeFailInfo => .rde
  | .rdeFailDiff => .rde
  | .rdeRcpSel => .rde
  | .rdeRcpInfo => .rde
  | .rdeRcpDigest => .rde
  | .praId => .pra
  | .praCtrl => .pra
  | .praStatus => .pra
  | .praEvt => .pra
  | .praChanLo => .pra
  | .praChanHi => .pra
  | .praCarrier => .pra
  | .praShdNLo => .pra
  | .praShdNHi => .pra
  | .praShdSumLo => .pra
  | .praShdSumHi => .pra
  | .praShdSqLo => .pra
  | .praShdSqHi => .pra
  | .praShdMax => .pra
  | .praCapSel => .pra
  | .praCapInfo => .pra
  | .praCapErr => .pra
  | .praHistSel => .pra
  | .praHist => .pra
  | .hbmId => .hbm
  | .hbmCtrl => .hbm
  | .hbmStatus => .hbm
  | .hbmEvt => .hbm
  | .hbmTemp => .hbm
  | .hbmChan => .hbm
  | .hbmEcc => .hbm
  | .hbmBw => .hbm
  | .hbmChSel => .hbm
  | .hbmChInfo => .hbm
  | .hbmRgnSel => .hbm
  | .hbmRgnSize => .hbm
  | .hbmRgnUsed => .hbm
  | .tmSchedCfg => .tm
  | .tmSchedOfs => .tm
  | .tmSchedStat => .tm
  | .tmSchedEvt => .tm
  | .tmSchedCntLo => .tm
  | .tmSchedCntHi => .tm
  | .tmSchedSel => .tm
  | .tmSchedWin0 => .tm
  | .tmSchedWin1 => .tm
  | .clkId => .clk
  | .clkCtrl => .clk
  | .clkStatus => .clk
  | .clkEvt => .clk
  | .clkXtal => .clk
  | .clkDomStat => .clk
  | .timCtrl => .tim
  | .timStatus => .tim
  | .timEvt => .tim
  | .timJumpMax => .tim
  | .timNowLo => .tim
  | .timNowHi => .tim
  | .timIncLo => .tim
  | .timIncHi => .tim
  | .timSetLo => .tim
  | .timSetHi => .tim
  | .timAdjLo => .tim
  | .timAdjHi => .tim
  | .timPpsLo => .tim
  | .timPpsHi => .tim
  | .timSyncCmd => .tim
  | .timSyncStat => .tim
  | .timSyncTLo => .tim
  | .timSyncTHi => .tim
  | .imgId => .img
  | .imgStatus => .img
  | .imgEvt => .img
  | .imgSeq => .img
  | .imgOtherSeq => .img
  | .imgPatchSeq => .img
  | .imgPrio => .img
  | .imgConflict => .img
  | .mpcId => .mpc
  | .mpcCtrl => .mpc
  | .mpcStatus => .mpc
  | .mpcEvt => .mpc
  | .mpcQSel => .mpc
  | .mpcQStat => .mpc
  | .mpcHostPort => .mpc
  | .mpcHostLoc => .mpc
  | .mpcReqSel => .mpc
  | .mpcReqLoc => .mpc
  | .mpcReqPerm => .mpc
  | .mpcSmb => .mpc
  | .secId => .sec
  | .secStatus => .sec
  | .secEvt => .sec
  | .secDevidLo => .sec
  | .secDevidHi => .sec
  | .secKeyset => .sec
  | .secKeysetVer => .sec
  | .secQseqLo => .sec
  | .secQseqHi => .sec
  | .secLast => .sec
  | .mpcInjCmd => .mpc
  | .mpcInjArg => .mpc
  | .mpcInjStat => .mpc
  | .telId => .tel
  | .telCtrl => .tel
  | .telStatus => .tel
  | .telEvt => .tel
  | .telSel => .tel
  | .telCntLo => .tel
  | .telCntHi => .tel
  | .telSink => .tel
  | .telSmpPop => .tel
  | .telSmpData => .tel
  | .telGrantSel => .tel
  | .telGrantLoc => .tel
  | .telGrantGrp => .tel
  | .telGrantInst => .tel
  | .pwrId => .pwr
  | .pwrCtrl => .pwr
  | .pwrStatus => .pwr
  | .pwrEvt => .pwr
  | .pwrRstCmd => .pwr
  | .pwrRstCause => .pwr
  | .pwrTotal => .pwr
  | .pwrGov => .pwr
  | .pwrRailV => .pwr
  | .pwrRailI => .pwr
  | .pwrDieTemp => .pwr
  | .glbId => .glb
  | .glbCap0 => .glb
  | .glbCap1 => .glb
  | .glbStrap => .glb
  | .glbIncarn => .glb
  | .glbAlert => .glb
  | .glbScratch => .glb
  | .glbLogHead => .glb
  | .glbLogSel => .glb
  | .glbLogStat => .glb
  | .glbLogData => .glb
  | .glbLogMask => .glb

/-- The base address of instance `i` of a block (R515). -/
def Blk.base (b : Blk) (i : Nat) : Nat :=
  match b with
  | .lpe => 0x20000000 + i * 0x100000
  | .fly => 0x30000000
  | .lnk => 0x20008000 + i * 0x100000
  | .fwd => 0x10000000 + i * 0x1000000
  | .buf => 0x10400000 + i * 0x1000000
  | .tm => 0x10800000 + i * 0x1000000
  | .col => 0x10C00000 + i * 0x1000000
  | .rde => 0x40000000 + i * 0x100000
  | .pra => 0x50000000 + i * 0x100000
  | .hbm => 0x60000000 + i * 0x100000
  | .clk => 0x1000000
  | .tim => 0x1001000
  | .img => 0x4000000
  | .mpc => 0x80000000
  | .sec => 0x3000000
  | .tel => 0x70000000
  | .pwr => 0x2000000
  | .glb => 0x0

/-- The bytes of one instance's window (R515). -/
def Blk.window : Blk → Nat
  | .lpe => 0x8000
  | .fly => 0x100000
  | .lnk => 0x8000
  | .fwd => 0x400000
  | .buf => 0x400000
  | .tm => 0x400000
  | .col => 0x400000
  | .rde => 0x100000
  | .pra => 0x100000
  | .hbm => 0x100000
  | .clk => 0x1000
  | .tim => 0xFFF000
  | .img => 0x1000000
  | .mpc => 0x100000
  | .sec => 0x1000000
  | .tel => 0x100000
  | .pwr => 0x1000000
  | .glb => 0x1000000

/-- How many instances a block has (R515). -/
def Blk.count : Blk → Nat
  | .lpe => 64
  | .fly => 1
  | .lnk => 64
  | .fwd => 8
  | .buf => 8
  | .tm => 8
  | .col => 8
  | .rde => 18
  | .pra => 4
  | .hbm => 32
  | .clk => 1
  | .tim => 1
  | .img => 1
  | .mpc => 1
  | .sec => 1
  | .tel => 1
  | .pwr => 1
  | .glb => 1

/-- A register's offset in its block's window, the stride between its own instances, and their number. -/
def RegName.place : RegName → Nat × Nat × Nat
  | .lpeId => (0x0, 0x0, 1)
  | .lpeCtrl => (0x4, 0x0, 1)
  | .lpeStatus => (0x8, 0x0, 1)
  | .lpeEvt => (0xC, 0x0, 1)
  | .lpeSwapCmd => (0x10, 0x0, 1)
  | .lpeLsrStat => (0x100, 0x10, 6)
  | .lpeLsrPwr => (0x104, 0x10, 6)
  | .lpeLsrBias => (0x108, 0x10, 6)
  | .lpePortPwr => (0x200, 0x8, 8)
  | .lpePortApr => (0x204, 0x8, 8)
  | .lpeRingSel => (0x300, 0x0, 1)
  | .lpeRingStat => (0x304, 0x0, 1)
  | .lpeRingHtr => (0x308, 0x0, 1)
  | .flyId => (0x0, 0x0, 1)
  | .flyCtrl => (0x4, 0x0, 1)
  | .flyStatus => (0x8, 0x0, 1)
  | .flyEvt => (0xC, 0x0, 1)
  | .flyCmd => (0x10, 0x0, 1)
  | .flyCmdResult => (0x14, 0x0, 1)
  | .flySlotCfg => (0x100, 0x8, 256)
  | .flySlotPwr => (0x104, 0x8, 256)
  | .lnkId => (0x0, 0x0, 1)
  | .lnkCtrl => (0x4, 0x0, 1)
  | .lnkEvt => (0x8, 0x0, 1)
  | .lnkElane => (0xC, 0x0, 1)
  | .lnkLinkState => (0x200, 0x10, 32)
  | .lnkLinkPeera => (0x204, 0x10, 32)
  | .lnkLinkPeerb => (0x208, 0x10, 32)
  | .lnkLinkRetry => (0x20C, 0x10, 32)
  | .lnkLaneFec => (0x400, 0x4, 32)
  | .lnkCredSel => (0x500, 0x0, 1)
  | .lnkCredStat => (0x504, 0x0, 1)
  | .fwdId => (0x0, 0x0, 1)
  | .fwdCtrl => (0x4, 0x0, 1)
  | .fwdLoc => (0x8, 0x0, 1)
  | .fwdEvt => (0xC, 0x0, 1)
  | .fwdSeedLo => (0x10, 0x0, 1)
  | .fwdSeedHi => (0x14, 0x0, 1)
  | .fwdVer => (0x18, 0x0, 1)
  | .fwdTblCmd => (0x20, 0x0, 1)
  | .fwdTblStat => (0x24, 0x0, 1)
  | .fwdTblDataLo => (0x28, 0x0, 1)
  | .fwdTblDataHi => (0x2C, 0x0, 1)
  | .bufId => (0x0, 0x0, 1)
  | .bufCtrl => (0x4, 0x0, 1)
  | .bufStatus => (0x8, 0x0, 1)
  | .bufEvt => (0xC, 0x0, 1)
  | .bufReseqCfg => (0x10, 0x0, 1)
  | .bufReseqStat => (0x14, 0x0, 1)
  | .bufSramStat => (0x18, 0x0, 1)
  | .bufToll => (0x1C, 0x0, 1)
  | .bufCarafeCfg => (0x20, 0x0, 1)
  | .bufCarafeStat => (0x24, 0x0, 1)
  | .bufQSel => (0x100, 0x0, 1)
  | .bufQSram => (0x104, 0x0, 1)
  | .bufQCarafe => (0x108, 0x0, 1)
  | .bufQFrames => (0x10C, 0x0, 1)
  | .bufPlim => (0x110, 0x0, 1)
  | .tmId => (0x0, 0x0, 1)
  | .tmCtrl => (0x4, 0x0, 1)
  | .tmEvt => (0xC, 0x0, 1)
  | .tmVcw0 => (0x10, 0x0, 1)
  | .tmVcw1 => (0x14, 0x0, 1)
  | .tmOvh => (0x100, 0x4, 64)
  | .tmQSel => (0x300, 0x0, 1)
  | .tmQRate => (0x304, 0x0, 1)
  | .tmQBurst => (0x308, 0x0, 1)
  | .tmQCredit => (0x30C, 0x0, 1)
  | .tmQStat => (0x310, 0x0, 1)
  | .tmQNext => (0x314, 0x0, 1)
  | .colId => (0x0, 0x0, 1)
  | .colCtrl => (0x4, 0x0, 1)
  | .colStatus => (0x8, 0x0, 1)
  | .colEvt => (0xC, 0x0, 1)
  | .colGrpCmd => (0x10, 0x0, 1)
  | .colGrpStat => (0x14, 0x0, 1)
  | .colGrpData => (0x20, 0x4, 8)
  | .colOpSel => (0x100, 0x0, 1)
  | .colOpId => (0x104, 0x0, 1)
  | .colOpStat => (0x108, 0x0, 1)
  | .colOpAck => (0x10C, 0x0, 1)
  | .colAbortCmd => (0x110, 0x0, 1)
  | .colAbortResult => (0x114, 0x0, 1)
  | .colLogHdr => (0x200, 0x0, 1)
  | .colLogSel => (0x204, 0x0, 1)
  | .colLogData => (0x208, 0x0, 1)
  | .rdeId => (0x0, 0x0, 1)
  | .rdeStatus => (0x4, 0x0, 1)
  | .rdeEvt => (0x8, 0x0, 1)
  | .rdeFailSel => (0x10, 0x0, 1)
  | .rdeFailInfo => (0x14, 0x0, 1)
  | .rdeFailDiff => (0x18, 0x0, 1)
  | .rdeRcpSel => (0x100, 0x0, 1)
  | .rdeRcpInfo => (0x104, 0x0, 1)
  | .rdeRcpDigest => (0x108, 0x0, 1)
  | .praId => (0x0, 0x0, 1)
  | .praCtrl => (0x4, 0x0, 1)
  | .praStatus => (0x8, 0x0, 1)
  | .praEvt => (0xC, 0x0, 1)
  | .praChanLo => (0x10, 0x0, 1)
  | .praChanHi => (0x14, 0x0, 1)
  | .praCarrier => (0x18, 0x0, 1)
  | .praShdNLo => (0x100, 0x0, 1)
  | .praShdNHi => (0x104, 0x0, 1)
  | .praShdSumLo => (0x108, 0x0, 1)
  | .praShdSumHi => (0x10C, 0x0, 1)
  | .praShdSqLo => (0x110, 0x0, 1)
  | .praShdSqHi => (0x114, 0x0, 1)
  | .praShdMax => (0x118, 0x0, 1)
  | .praCapSel => (0x200, 0x0, 1)
  | .praCapInfo => (0x204, 0x0, 1)
  | .praCapErr => (0x208, 0x0, 1)
  | .praHistSel => (0x300, 0x0, 1)
  | .praHist => (0x304, 0x0, 1)
  | .hbmId => (0x0, 0x0, 1)
  | .hbmCtrl => (0x4, 0x0, 1)
  | .hbmStatus => (0x8, 0x0, 1)
  | .hbmEvt => (0xC, 0x0, 1)
  | .hbmTemp => (0x10, 0x0, 1)
  | .hbmChan => (0x14, 0x0, 1)
  | .hbmEcc => (0x18, 0x0, 1)
  | .hbmBw => (0x1C, 0x0, 1)
  | .hbmChSel => (0x100, 0x0, 1)
  | .hbmChInfo => (0x104, 0x0, 1)
  | .hbmRgnSel => (0x200, 0x0, 1)
  | .hbmRgnSize => (0x204, 0x0, 1)
  | .hbmRgnUsed => (0x208, 0x0, 1)
  | .tmSchedCfg => (0x400, 0x0, 1)
  | .tmSchedOfs => (0x404, 0x0, 1)
  | .tmSchedStat => (0x408, 0x0, 1)
  | .tmSchedEvt => (0x40C, 0x0, 1)
  | .tmSchedCntLo => (0x410, 0x0, 1)
  | .tmSchedCntHi => (0x414, 0x0, 1)
  | .tmSchedSel => (0x420, 0x0, 1)
  | .tmSchedWin0 => (0x424, 0x0, 1)
  | .tmSchedWin1 => (0x428, 0x0, 1)
  | .clkId => (0x0, 0x0, 1)
  | .clkCtrl => (0x4, 0x0, 1)
  | .clkStatus => (0x8, 0x0, 1)
  | .clkEvt => (0xC, 0x0, 1)
  | .clkXtal => (0x10, 0x0, 1)
  | .clkDomStat => (0x100, 0x4, 8)
  | .timCtrl => (0x0, 0x0, 1)
  | .timStatus => (0x4, 0x0, 1)
  | .timEvt => (0x8, 0x0, 1)
  | .timJumpMax => (0xC, 0x0, 1)
  | .timNowLo => (0x10, 0x0, 1)
  | .timNowHi => (0x14, 0x0, 1)
  | .timIncLo => (0x18, 0x0, 1)
  | .timIncHi => (0x1C, 0x0, 1)
  | .timSetLo => (0x20, 0x0, 1)
  | .timSetHi => (0x24, 0x0, 1)
  | .timAdjLo => (0x28, 0x0, 1)
  | .timAdjHi => (0x2C, 0x0, 1)
  | .timPpsLo => (0x30, 0x0, 1)
  | .timPpsHi => (0x34, 0x0, 1)
  | .timSyncCmd => (0x40, 0x0, 1)
  | .timSyncStat => (0x44, 0x0, 1)
  | .timSyncTLo => (0x60, 0x8, 4)
  | .timSyncTHi => (0x64, 0x8, 4)
  | .imgId => (0x0, 0x0, 1)
  | .imgStatus => (0x4, 0x0, 1)
  | .imgEvt => (0x8, 0x0, 1)
  | .imgSeq => (0xC, 0x0, 1)
  | .imgOtherSeq => (0x10, 0x0, 1)
  | .imgPatchSeq => (0x14, 0x0, 1)
  | .imgPrio => (0x18, 0x0, 1)
  | .imgConflict => (0x1C, 0x0, 1)
  | .mpcId => (0x0, 0x0, 1)
  | .mpcCtrl => (0x4, 0x0, 1)
  | .mpcStatus => (0x8, 0x0, 1)
  | .mpcEvt => (0xC, 0x0, 1)
  | .mpcQSel => (0x10, 0x0, 1)
  | .mpcQStat => (0x14, 0x0, 1)
  | .mpcHostPort => (0x20, 0x8, 2)
  | .mpcHostLoc => (0x24, 0x8, 2)
  | .mpcReqSel => (0x100, 0x0, 1)
  | .mpcReqLoc => (0x104, 0x0, 1)
  | .mpcReqPerm => (0x108, 0x0, 1)
  | .mpcSmb => (0x200, 0x0, 1)
  | .secId => (0x0, 0x0, 1)
  | .secStatus => (0x4, 0x0, 1)
  | .secEvt => (0x8, 0x0, 1)
  | .secDevidLo => (0x10, 0x0, 1)
  | .secDevidHi => (0x14, 0x0, 1)
  | .secKeyset => (0x18, 0x0, 1)
  | .secKeysetVer => (0x1C, 0x0, 1)
  | .secQseqLo => (0x20, 0x0, 1)
  | .secQseqHi => (0x24, 0x0, 1)
  | .secLast => (0x28, 0x0, 1)
  | .mpcInjCmd => (0x300, 0x0, 1)
  | .mpcInjArg => (0x304, 0x0, 1)
  | .mpcInjStat => (0x308, 0x0, 1)
  | .telId => (0x0, 0x0, 1)
  | .telCtrl => (0x4, 0x0, 1)
  | .telStatus => (0x8, 0x0, 1)
  | .telEvt => (0xC, 0x0, 1)
  | .telSel => (0x10, 0x0, 1)
  | .telCntLo => (0x14, 0x0, 1)
  | .telCntHi => (0x18, 0x0, 1)
  | .telSink => (0x20, 0x0, 1)
  | .telSmpPop => (0x24, 0x0, 1)
  | .telSmpData => (0x40, 0x4, 8)
  | .telGrantSel => (0x100, 0x0, 1)
  | .telGrantLoc => (0x104, 0x0, 1)
  | .telGrantGrp => (0x108, 0x0, 1)
  | .telGrantInst => (0x10C, 0x0, 1)
  | .pwrId => (0x0, 0x0, 1)
  | .pwrCtrl => (0x4, 0x0, 1)
  | .pwrStatus => (0x8, 0x0, 1)
  | .pwrEvt => (0xC, 0x0, 1)
  | .pwrRstCmd => (0x10, 0x0, 1)
  | .pwrRstCause => (0x14, 0x0, 1)
  | .pwrTotal => (0x18, 0x0, 1)
  | .pwrGov => (0x1C, 0x0, 1)
  | .pwrRailV => (0x100, 0x8, 8)
  | .pwrRailI => (0x104, 0x8, 8)
  | .pwrDieTemp => (0x200, 0x4, 4)
  | .glbId => (0x0, 0x0, 1)
  | .glbCap0 => (0x4, 0x0, 1)
  | .glbCap1 => (0x8, 0x0, 1)
  | .glbStrap => (0xC, 0x0, 1)
  | .glbIncarn => (0x10, 0x0, 1)
  | .glbAlert => (0x14, 0x0, 1)
  | .glbScratch => (0x20, 0x4, 4)
  | .glbLogHead => (0x100, 0x0, 1)
  | .glbLogSel => (0x104, 0x0, 1)
  | .glbLogStat => (0x108, 0x0, 1)
  | .glbLogData => (0x110, 0x4, 4)
  | .glbLogMask => (0x200, 0x4, 128)

/-- The address of instance `j` of register `r` in instance `i` of its block. -/
def RegName.addr (r : RegName) (i j : Nat) : Nat := r.blk.base i + r.place.1 + j * r.place.2.1

/-- The registers of a LPE window by offset. -/
def lpeAt (o : Nat) : Option (RegName × Nat) :=
  if o = 0x0 then some (.lpeId, 0)
  else if o = 0x4 then some (.lpeCtrl, 0)
  else if o = 0x8 then some (.lpeStatus, 0)
  else if o = 0xC then some (.lpeEvt, 0)
  else if o = 0x10 then some (.lpeSwapCmd, 0)
  else if 0x100 ≤ o ∧ o < 0x160 ∧ (o - 0x100) % 0x10 = 0 then some (.lpeLsrStat, (o - 0x100) / 0x10)
  else if 0x104 ≤ o ∧ o < 0x164 ∧ (o - 0x104) % 0x10 = 0 then some (.lpeLsrPwr, (o - 0x104) / 0x10)
  else if 0x108 ≤ o ∧ o < 0x168 ∧ (o - 0x108) % 0x10 = 0 then some (.lpeLsrBias, (o - 0x108) / 0x10)
  else if 0x200 ≤ o ∧ o < 0x240 ∧ (o - 0x200) % 0x8 = 0 then some (.lpePortPwr, (o - 0x200) / 0x8)
  else if 0x204 ≤ o ∧ o < 0x244 ∧ (o - 0x204) % 0x8 = 0 then some (.lpePortApr, (o - 0x204) / 0x8)
  else if o = 0x300 then some (.lpeRingSel, 0)
  else if o = 0x304 then some (.lpeRingStat, 0)
  else if o = 0x308 then some (.lpeRingHtr, 0)
  else none

/-- The registers of a FLY window by offset. -/
def flyAt (o : Nat) : Option (RegName × Nat) :=
  if o = 0x0 then some (.flyId, 0)
  else if o = 0x4 then some (.flyCtrl, 0)
  else if o = 0x8 then some (.flyStatus, 0)
  else if o = 0xC then some (.flyEvt, 0)
  else if o = 0x10 then some (.flyCmd, 0)
  else if o = 0x14 then some (.flyCmdResult, 0)
  else if 0x100 ≤ o ∧ o < 0x900 ∧ (o - 0x100) % 0x8 = 0 then some (.flySlotCfg, (o - 0x100) / 0x8)
  else if 0x104 ≤ o ∧ o < 0x904 ∧ (o - 0x104) % 0x8 = 0 then some (.flySlotPwr, (o - 0x104) / 0x8)
  else none

/-- The registers of a LNK window by offset. -/
def lnkAt (o : Nat) : Option (RegName × Nat) :=
  if o = 0x0 then some (.lnkId, 0)
  else if o = 0x4 then some (.lnkCtrl, 0)
  else if o = 0x8 then some (.lnkEvt, 0)
  else if o = 0xC then some (.lnkElane, 0)
  else if 0x200 ≤ o ∧ o < 0x400 ∧ (o - 0x200) % 0x10 = 0 then some (.lnkLinkState, (o - 0x200) / 0x10)
  else if 0x204 ≤ o ∧ o < 0x404 ∧ (o - 0x204) % 0x10 = 0 then some (.lnkLinkPeera, (o - 0x204) / 0x10)
  else if 0x208 ≤ o ∧ o < 0x408 ∧ (o - 0x208) % 0x10 = 0 then some (.lnkLinkPeerb, (o - 0x208) / 0x10)
  else if 0x20C ≤ o ∧ o < 0x40C ∧ (o - 0x20C) % 0x10 = 0 then some (.lnkLinkRetry, (o - 0x20C) / 0x10)
  else if 0x400 ≤ o ∧ o < 0x480 ∧ (o - 0x400) % 0x4 = 0 then some (.lnkLaneFec, (o - 0x400) / 0x4)
  else if o = 0x500 then some (.lnkCredSel, 0)
  else if o = 0x504 then some (.lnkCredStat, 0)
  else none

/-- The registers of a FWD window by offset. -/
def fwdAt (o : Nat) : Option (RegName × Nat) :=
  if o = 0x0 then some (.fwdId, 0)
  else if o = 0x4 then some (.fwdCtrl, 0)
  else if o = 0x8 then some (.fwdLoc, 0)
  else if o = 0xC then some (.fwdEvt, 0)
  else if o = 0x10 then some (.fwdSeedLo, 0)
  else if o = 0x14 then some (.fwdSeedHi, 0)
  else if o = 0x18 then some (.fwdVer, 0)
  else if o = 0x20 then some (.fwdTblCmd, 0)
  else if o = 0x24 then some (.fwdTblStat, 0)
  else if o = 0x28 then some (.fwdTblDataLo, 0)
  else if o = 0x2C then some (.fwdTblDataHi, 0)
  else none

/-- The registers of a BUF window by offset. -/
def bufAt (o : Nat) : Option (RegName × Nat) :=
  if o = 0x0 then some (.bufId, 0)
  else if o = 0x4 then some (.bufCtrl, 0)
  else if o = 0x8 then some (.bufStatus, 0)
  else if o = 0xC then some (.bufEvt, 0)
  else if o = 0x10 then some (.bufReseqCfg, 0)
  else if o = 0x14 then some (.bufReseqStat, 0)
  else if o = 0x18 then some (.bufSramStat, 0)
  else if o = 0x1C then some (.bufToll, 0)
  else if o = 0x20 then some (.bufCarafeCfg, 0)
  else if o = 0x24 then some (.bufCarafeStat, 0)
  else if o = 0x100 then some (.bufQSel, 0)
  else if o = 0x104 then some (.bufQSram, 0)
  else if o = 0x108 then some (.bufQCarafe, 0)
  else if o = 0x10C then some (.bufQFrames, 0)
  else if o = 0x110 then some (.bufPlim, 0)
  else none

/-- The registers of a TM window by offset. -/
def tmAt (o : Nat) : Option (RegName × Nat) :=
  if o = 0x0 then some (.tmId, 0)
  else if o = 0x4 then some (.tmCtrl, 0)
  else if o = 0xC then some (.tmEvt, 0)
  else if o = 0x10 then some (.tmVcw0, 0)
  else if o = 0x14 then some (.tmVcw1, 0)
  else if 0x100 ≤ o ∧ o < 0x200 ∧ (o - 0x100) % 0x4 = 0 then some (.tmOvh, (o - 0x100) / 0x4)
  else if o = 0x300 then some (.tmQSel, 0)
  else if o = 0x304 then some (.tmQRate, 0)
  else if o = 0x308 then some (.tmQBurst, 0)
  else if o = 0x30C then some (.tmQCredit, 0)
  else if o = 0x310 then some (.tmQStat, 0)
  else if o = 0x314 then some (.tmQNext, 0)
  else if o = 0x400 then some (.tmSchedCfg, 0)
  else if o = 0x404 then some (.tmSchedOfs, 0)
  else if o = 0x408 then some (.tmSchedStat, 0)
  else if o = 0x40C then some (.tmSchedEvt, 0)
  else if o = 0x410 then some (.tmSchedCntLo, 0)
  else if o = 0x414 then some (.tmSchedCntHi, 0)
  else if o = 0x420 then some (.tmSchedSel, 0)
  else if o = 0x424 then some (.tmSchedWin0, 0)
  else if o = 0x428 then some (.tmSchedWin1, 0)
  else none

/-- The registers of a COL window by offset. -/
def colAt (o : Nat) : Option (RegName × Nat) :=
  if o = 0x0 then some (.colId, 0)
  else if o = 0x4 then some (.colCtrl, 0)
  else if o = 0x8 then some (.colStatus, 0)
  else if o = 0xC then some (.colEvt, 0)
  else if o = 0x10 then some (.colGrpCmd, 0)
  else if o = 0x14 then some (.colGrpStat, 0)
  else if 0x20 ≤ o ∧ o < 0x40 ∧ (o - 0x20) % 0x4 = 0 then some (.colGrpData, (o - 0x20) / 0x4)
  else if o = 0x100 then some (.colOpSel, 0)
  else if o = 0x104 then some (.colOpId, 0)
  else if o = 0x108 then some (.colOpStat, 0)
  else if o = 0x10C then some (.colOpAck, 0)
  else if o = 0x110 then some (.colAbortCmd, 0)
  else if o = 0x114 then some (.colAbortResult, 0)
  else if o = 0x200 then some (.colLogHdr, 0)
  else if o = 0x204 then some (.colLogSel, 0)
  else if o = 0x208 then some (.colLogData, 0)
  else none

/-- The registers of a RDE window by offset. -/
def rdeAt (o : Nat) : Option (RegName × Nat) :=
  if o = 0x0 then some (.rdeId, 0)
  else if o = 0x4 then some (.rdeStatus, 0)
  else if o = 0x8 then some (.rdeEvt, 0)
  else if o = 0x10 then some (.rdeFailSel, 0)
  else if o = 0x14 then some (.rdeFailInfo, 0)
  else if o = 0x18 then some (.rdeFailDiff, 0)
  else if o = 0x100 then some (.rdeRcpSel, 0)
  else if o = 0x104 then some (.rdeRcpInfo, 0)
  else if o = 0x108 then some (.rdeRcpDigest, 0)
  else none

/-- The registers of a PRA window by offset. -/
def praAt (o : Nat) : Option (RegName × Nat) :=
  if o = 0x0 then some (.praId, 0)
  else if o = 0x4 then some (.praCtrl, 0)
  else if o = 0x8 then some (.praStatus, 0)
  else if o = 0xC then some (.praEvt, 0)
  else if o = 0x10 then some (.praChanLo, 0)
  else if o = 0x14 then some (.praChanHi, 0)
  else if o = 0x18 then some (.praCarrier, 0)
  else if o = 0x100 then some (.praShdNLo, 0)
  else if o = 0x104 then some (.praShdNHi, 0)
  else if o = 0x108 then some (.praShdSumLo, 0)
  else if o = 0x10C then some (.praShdSumHi, 0)
  else if o = 0x110 then some (.praShdSqLo, 0)
  else if o = 0x114 then some (.praShdSqHi, 0)
  else if o = 0x118 then some (.praShdMax, 0)
  else if o = 0x200 then some (.praCapSel, 0)
  else if o = 0x204 then some (.praCapInfo, 0)
  else if o = 0x208 then some (.praCapErr, 0)
  else if o = 0x300 then some (.praHistSel, 0)
  else if o = 0x304 then some (.praHist, 0)
  else none

/-- The registers of a HBM window by offset. -/
def hbmAt (o : Nat) : Option (RegName × Nat) :=
  if o = 0x0 then some (.hbmId, 0)
  else if o = 0x4 then some (.hbmCtrl, 0)
  else if o = 0x8 then some (.hbmStatus, 0)
  else if o = 0xC then some (.hbmEvt, 0)
  else if o = 0x10 then some (.hbmTemp, 0)
  else if o = 0x14 then some (.hbmChan, 0)
  else if o = 0x18 then some (.hbmEcc, 0)
  else if o = 0x1C then some (.hbmBw, 0)
  else if o = 0x100 then some (.hbmChSel, 0)
  else if o = 0x104 then some (.hbmChInfo, 0)
  else if o = 0x200 then some (.hbmRgnSel, 0)
  else if o = 0x204 then some (.hbmRgnSize, 0)
  else if o = 0x208 then some (.hbmRgnUsed, 0)
  else none

/-- The registers of a CLK window by offset. -/
def clkAt (o : Nat) : Option (RegName × Nat) :=
  if o = 0x0 then some (.clkId, 0)
  else if o = 0x4 then some (.clkCtrl, 0)
  else if o = 0x8 then some (.clkStatus, 0)
  else if o = 0xC then some (.clkEvt, 0)
  else if o = 0x10 then some (.clkXtal, 0)
  else if 0x100 ≤ o ∧ o < 0x120 ∧ (o - 0x100) % 0x4 = 0 then some (.clkDomStat, (o - 0x100) / 0x4)
  else none

/-- The registers of a TIM window by offset. -/
def timAt (o : Nat) : Option (RegName × Nat) :=
  if o = 0x0 then some (.timCtrl, 0)
  else if o = 0x4 then some (.timStatus, 0)
  else if o = 0x8 then some (.timEvt, 0)
  else if o = 0xC then some (.timJumpMax, 0)
  else if o = 0x10 then some (.timNowLo, 0)
  else if o = 0x14 then some (.timNowHi, 0)
  else if o = 0x18 then some (.timIncLo, 0)
  else if o = 0x1C then some (.timIncHi, 0)
  else if o = 0x20 then some (.timSetLo, 0)
  else if o = 0x24 then some (.timSetHi, 0)
  else if o = 0x28 then some (.timAdjLo, 0)
  else if o = 0x2C then some (.timAdjHi, 0)
  else if o = 0x30 then some (.timPpsLo, 0)
  else if o = 0x34 then some (.timPpsHi, 0)
  else if o = 0x40 then some (.timSyncCmd, 0)
  else if o = 0x44 then some (.timSyncStat, 0)
  else if 0x60 ≤ o ∧ o < 0x80 ∧ (o - 0x60) % 0x8 = 0 then some (.timSyncTLo, (o - 0x60) / 0x8)
  else if 0x64 ≤ o ∧ o < 0x84 ∧ (o - 0x64) % 0x8 = 0 then some (.timSyncTHi, (o - 0x64) / 0x8)
  else none

/-- The registers of a IMG window by offset. -/
def imgAt (o : Nat) : Option (RegName × Nat) :=
  if o = 0x0 then some (.imgId, 0)
  else if o = 0x4 then some (.imgStatus, 0)
  else if o = 0x8 then some (.imgEvt, 0)
  else if o = 0xC then some (.imgSeq, 0)
  else if o = 0x10 then some (.imgOtherSeq, 0)
  else if o = 0x14 then some (.imgPatchSeq, 0)
  else if o = 0x18 then some (.imgPrio, 0)
  else if o = 0x1C then some (.imgConflict, 0)
  else none

/-- The registers of a MPC window by offset. -/
def mpcAt (o : Nat) : Option (RegName × Nat) :=
  if o = 0x0 then some (.mpcId, 0)
  else if o = 0x4 then some (.mpcCtrl, 0)
  else if o = 0x8 then some (.mpcStatus, 0)
  else if o = 0xC then some (.mpcEvt, 0)
  else if o = 0x10 then some (.mpcQSel, 0)
  else if o = 0x14 then some (.mpcQStat, 0)
  else if 0x20 ≤ o ∧ o < 0x30 ∧ (o - 0x20) % 0x8 = 0 then some (.mpcHostPort, (o - 0x20) / 0x8)
  else if 0x24 ≤ o ∧ o < 0x34 ∧ (o - 0x24) % 0x8 = 0 then some (.mpcHostLoc, (o - 0x24) / 0x8)
  else if o = 0x100 then some (.mpcReqSel, 0)
  else if o = 0x104 then some (.mpcReqLoc, 0)
  else if o = 0x108 then some (.mpcReqPerm, 0)
  else if o = 0x200 then some (.mpcSmb, 0)
  else if o = 0x300 then some (.mpcInjCmd, 0)
  else if o = 0x304 then some (.mpcInjArg, 0)
  else if o = 0x308 then some (.mpcInjStat, 0)
  else none

/-- The registers of a SEC window by offset. -/
def secAt (o : Nat) : Option (RegName × Nat) :=
  if o = 0x0 then some (.secId, 0)
  else if o = 0x4 then some (.secStatus, 0)
  else if o = 0x8 then some (.secEvt, 0)
  else if o = 0x10 then some (.secDevidLo, 0)
  else if o = 0x14 then some (.secDevidHi, 0)
  else if o = 0x18 then some (.secKeyset, 0)
  else if o = 0x1C then some (.secKeysetVer, 0)
  else if o = 0x20 then some (.secQseqLo, 0)
  else if o = 0x24 then some (.secQseqHi, 0)
  else if o = 0x28 then some (.secLast, 0)
  else none

/-- The registers of a TEL window by offset. -/
def telAt (o : Nat) : Option (RegName × Nat) :=
  if o = 0x0 then some (.telId, 0)
  else if o = 0x4 then some (.telCtrl, 0)
  else if o = 0x8 then some (.telStatus, 0)
  else if o = 0xC then some (.telEvt, 0)
  else if o = 0x10 then some (.telSel, 0)
  else if o = 0x14 then some (.telCntLo, 0)
  else if o = 0x18 then some (.telCntHi, 0)
  else if o = 0x20 then some (.telSink, 0)
  else if o = 0x24 then some (.telSmpPop, 0)
  else if 0x40 ≤ o ∧ o < 0x60 ∧ (o - 0x40) % 0x4 = 0 then some (.telSmpData, (o - 0x40) / 0x4)
  else if o = 0x100 then some (.telGrantSel, 0)
  else if o = 0x104 then some (.telGrantLoc, 0)
  else if o = 0x108 then some (.telGrantGrp, 0)
  else if o = 0x10C then some (.telGrantInst, 0)
  else none

/-- The registers of a PWR window by offset. -/
def pwrAt (o : Nat) : Option (RegName × Nat) :=
  if o = 0x0 then some (.pwrId, 0)
  else if o = 0x4 then some (.pwrCtrl, 0)
  else if o = 0x8 then some (.pwrStatus, 0)
  else if o = 0xC then some (.pwrEvt, 0)
  else if o = 0x10 then some (.pwrRstCmd, 0)
  else if o = 0x14 then some (.pwrRstCause, 0)
  else if o = 0x18 then some (.pwrTotal, 0)
  else if o = 0x1C then some (.pwrGov, 0)
  else if 0x100 ≤ o ∧ o < 0x140 ∧ (o - 0x100) % 0x8 = 0 then some (.pwrRailV, (o - 0x100) / 0x8)
  else if 0x104 ≤ o ∧ o < 0x144 ∧ (o - 0x104) % 0x8 = 0 then some (.pwrRailI, (o - 0x104) / 0x8)
  else if 0x200 ≤ o ∧ o < 0x210 ∧ (o - 0x200) % 0x4 = 0 then some (.pwrDieTemp, (o - 0x200) / 0x4)
  else none

/-- The registers of a GLB window by offset. -/
def glbAt (o : Nat) : Option (RegName × Nat) :=
  if o = 0x0 then some (.glbId, 0)
  else if o = 0x4 then some (.glbCap0, 0)
  else if o = 0x8 then some (.glbCap1, 0)
  else if o = 0xC then some (.glbStrap, 0)
  else if o = 0x10 then some (.glbIncarn, 0)
  else if o = 0x14 then some (.glbAlert, 0)
  else if 0x20 ≤ o ∧ o < 0x30 ∧ (o - 0x20) % 0x4 = 0 then some (.glbScratch, (o - 0x20) / 0x4)
  else if o = 0x100 then some (.glbLogHead, 0)
  else if o = 0x104 then some (.glbLogSel, 0)
  else if o = 0x108 then some (.glbLogStat, 0)
  else if 0x110 ≤ o ∧ o < 0x120 ∧ (o - 0x110) % 0x4 = 0 then some (.glbLogData, (o - 0x110) / 0x4)
  else if 0x200 ≤ o ∧ o < 0x400 ∧ (o - 0x200) % 0x4 = 0 then some (.glbLogMask, (o - 0x200) / 0x4)
  else none

/-- The register at an offset of a block's window. -/
def Blk.at (b : Blk) (o : Nat) : Option (RegName × Nat) :=
  match b with
  | .lpe => lpeAt o
  | .fly => flyAt o
  | .lnk => lnkAt o
  | .fwd => fwdAt o
  | .buf => bufAt o
  | .tm => tmAt o
  | .col => colAt o
  | .rde => rdeAt o
  | .pra => praAt o
  | .hbm => hbmAt o
  | .clk => clkAt o
  | .tim => timAt o
  | .img => imgAt o
  | .mpc => mpcAt o
  | .sec => secAt o
  | .tel => telAt o
  | .pwr => pwrAt o
  | .glb => glbAt o

/-- The window that holds an address, with its instance and the offset in it (R515). -/
def windowOf (a : Nat) : Option (Blk × Nat × Nat) :=
  if 0x20000000 ≤ a ∧ a < 0x23F08000 ∧ (a - 0x20000000) % 0x100000 < 0x8000 then some (.lpe, (a - 0x20000000) / 0x100000, (a - 0x20000000) % 0x100000)
  else if 0x30000000 ≤ a ∧ a < 0x30100000 then some (.fly, 0, a - 0x30000000)
  else if 0x20008000 ≤ a ∧ a < 0x23F10000 ∧ (a - 0x20008000) % 0x100000 < 0x8000 then some (.lnk, (a - 0x20008000) / 0x100000, (a - 0x20008000) % 0x100000)
  else if 0x10000000 ≤ a ∧ a < 0x17400000 ∧ (a - 0x10000000) % 0x1000000 < 0x400000 then some (.fwd, (a - 0x10000000) / 0x1000000, (a - 0x10000000) % 0x1000000)
  else if 0x10400000 ≤ a ∧ a < 0x17800000 ∧ (a - 0x10400000) % 0x1000000 < 0x400000 then some (.buf, (a - 0x10400000) / 0x1000000, (a - 0x10400000) % 0x1000000)
  else if 0x10800000 ≤ a ∧ a < 0x17C00000 ∧ (a - 0x10800000) % 0x1000000 < 0x400000 then some (.tm, (a - 0x10800000) / 0x1000000, (a - 0x10800000) % 0x1000000)
  else if 0x10C00000 ≤ a ∧ a < 0x18000000 ∧ (a - 0x10C00000) % 0x1000000 < 0x400000 then some (.col, (a - 0x10C00000) / 0x1000000, (a - 0x10C00000) % 0x1000000)
  else if 0x40000000 ≤ a ∧ a < 0x41200000 ∧ (a - 0x40000000) % 0x100000 < 0x100000 then some (.rde, (a - 0x40000000) / 0x100000, (a - 0x40000000) % 0x100000)
  else if 0x50000000 ≤ a ∧ a < 0x50400000 ∧ (a - 0x50000000) % 0x100000 < 0x100000 then some (.pra, (a - 0x50000000) / 0x100000, (a - 0x50000000) % 0x100000)
  else if 0x60000000 ≤ a ∧ a < 0x62000000 ∧ (a - 0x60000000) % 0x100000 < 0x100000 then some (.hbm, (a - 0x60000000) / 0x100000, (a - 0x60000000) % 0x100000)
  else if 0x1000000 ≤ a ∧ a < 0x1001000 then some (.clk, 0, a - 0x1000000)
  else if 0x1001000 ≤ a ∧ a < 0x2000000 then some (.tim, 0, a - 0x1001000)
  else if 0x4000000 ≤ a ∧ a < 0x5000000 then some (.img, 0, a - 0x4000000)
  else if 0x80000000 ≤ a ∧ a < 0x80100000 then some (.mpc, 0, a - 0x80000000)
  else if 0x3000000 ≤ a ∧ a < 0x4000000 then some (.sec, 0, a - 0x3000000)
  else if 0x70000000 ≤ a ∧ a < 0x70100000 then some (.tel, 0, a - 0x70000000)
  else if 0x2000000 ≤ a ∧ a < 0x3000000 then some (.pwr, 0, a - 0x2000000)
  else if 0x0 ≤ a ∧ a < 0x1000000 then some (.glb, 0, a - 0x0)
  else none

/-- What an address names (R516); an address that is no multiple of 4 is taken at the multiple below it. -/
def target (addr : Nat) : Target :=
  match windowOf (addr / 4 * 4) with
  | none => .noWindow
  | some (b, i, o) =>
    match b.at o with
    | some (r, j) => .reg r i j
    | none => .noRegister b i

end Sys2Proof.Machine
end

