-- ==== Sys2Proof/Machine/Emission.lean ====
section
/-! DEFINITION. What leaves the module: link traffic, replies, SMBus and JTAG answers, and the console. -/

namespace Sys2Proof.Machine

/-- One thing the module sends. -/
inductive Emission where
  | readReply (req : Requester) (addr : Addr) (data : Word)
  | data (lport : Nat) (h : LinkHeader) (f : Frame)
  | credit (lport : Nat) (ack : BitVec 16) (cvc : Fin 8) (ccount : BitVec 13)
  | orderedSet (lport : Nat) (os : OrderedSet)
  | idle (lport n : Nat)                 -- `n` IDLE sets, in slots that nothing else takes (R111)
  | prbs31q (lport lanes : Nat)          -- the training pattern begins on lanes of a link (R121, R129)
  | circuitReply (c : FlyCmd) (state status : Nat) (time : BitVec 64)
  | reply (r : Reply)
  | sinkFrame (loc : Loc) (kind : Nat) (first : BitVec 32) (records : List Nat)
  | hostFrame (lport : Nat) (f : Frame)
  | quorumReply (o : QOrigin) (status qstatus counted : Nat) (seq : BitVec 64)
  | attestReport (o : QOrigin) (report tail : List Byte)
  | smbBytes (bs : List Byte)
  | jtagWord (w : Word)
  | uartLine (entry : BitVec 128)
  | uartStep (step : Nat)                -- the MPC firmware's start-up progress (R413)
  deriving DecidableEq, Repr

end Sys2Proof.Machine
end

