-- ==== Sys2Proof/Machine/State.lean ====
section
/-! DEFINITION. The state of the block: the module, and the queue of the commands that wait. -/

namespace Sys2Proof.Machine

/-- Everything the spec gives the module. A register field that is no view of another part of the state lives in `regs`;
a field not listed there holds its reset value. -/
structure Module where
  elapsed : Nat                                             -- time since power-on reset, units of 1/105 ns
  regs : Tbl FKey Nat
  counters : Tbl (Nat × Nat) Nat                            -- event number and instance (R471)
  loHeld : Tbl (Requester × RegName × Nat × Nat) Word       -- latest _LO writes by requester (R17)
  captured : Tbl (Requester × RegName × Nat × Nat) Nat      -- captures by requester (R18, R528)
  time : TimeUnit
  clock : ClockUnit
  lock : LockUnit
  power : PowerUnit
  log : LogUnit
  tel : TelUnit
  lpe : LpeUnit
  fly : FlyUnit
  link : LinkUnit
  fwd : FwdUnit
  buf : BufUnit
  sram : SramUnit
  col : ColUnit
  rde : RdeUnit
  pra : Tbl Nat PraArray
  hbm : HbmUnit
  mpc : MpcUnit
  sec : SecUnit
  img : ImgUnit
  flash : List Host.Cell                                    -- boot flash (R414): what differs from erased
  out : List Emission                                       -- what has left the module, first first
  fresh : Nat                                               -- the model's own: open values drawn so far
  deriving DecidableEq, Repr

/-- The state of the block. -/
structure State where
  mod : Module
  pending : List Instr
  deriving DecidableEq, Repr

/-- Why the block stops. -/
inductive Fault where
  /-- Raised by START_IMAGE_LOAD and PATCH_APPLY: the signed image or patch fails a check that R13 leaves to nuwellan, and
  "This manual does not define how a module behaves" then. Safe: the model stops where the hardware may go on. -/
  | undefinedImage
  deriving DecidableEq, Repr

/-- Why the block refuses a command. -/
inductive Refusal where
  /-- Raised by exec's arms for a row of the opcode table that has no meaning yet. Safe: nothing is claimed of it. -/
  | notModelled (mnemonic : String)
  deriving DecidableEq, Repr

/-- The security state as the module leaves Rospaurn (R443, R546): unprovisioned. -/
def SecState.factory : SecState :=
  { provisioned := false, owner := [], managers := [], k := 0, ver := 0, counter := 0, fenced := false, expelled := false
    seq := 0, armed := none, pendingOp := none }

/-- The module after a power-on reset, before power-good (R20, R501): every register at its reset value, nothing queued,
nothing sent. -/
def Module.reset : Module :=
  { elapsed := 0, regs := [], counters := [], loHeld := [], captured := []
    time := { running := false, count := 0, frac := 0, stepValue := 0, stepDue := false, slew := 0, islandFrom := none
              ppsSeen := false, ppsAt := none, ppsOut := none, sync := none }
    clock := { firstWindow := none, goodWindows := 0, rehearsed := [], xtalDown := false }
    lock := { windows := [], bindings := [], failures := 0, verified := false, periods := 0, edgeAt := none, held := []
              heldSwitch := none, edgeE := none, rejoining := [] }
    power := { pwrOk := false, porstN := false, warmrstN := true, thermtripN := true, strapProfile := 0, strapAddr := 0
               request := none, nextSectors := [], inReset := some .powerOn, holds := [], sectorsDown := []
               warnFor := [], faultFor := [], dark := true, levels := [], lastRaise := [], steps := []
               slewWaits := [], capWaits := [] }
    log := { entries := [], pend := [], lastAt := [], recent := [], lost := [], smbSeq := 0 }
    tel := { grants := [], samples := [], nextSeq := 0, tokens := 1024, tokensAt := 0 }
    lpe := { dips := [], rings := [], fadeRun := [], waiting := [], swaps := [], noSpare := [] }
    fly := { queue := [], running := none, detuned := [] }
    link := { links := [], sent := [], rx := [], bars := [], eSpares := [], cabling := [], splits := [], hostPorts := [] }
    fwd := { active := ⟨[], [], []⟩, shadow := ⟨[], [], []⟩, copying := false, waiting := [], busy := [], graph := []
             nextSeed := none }
    buf := { ingress := [], queues := [], toll := [], ctxs := [], turns := [], planeTraining := none
             poolStageLost := [], budget := [], fullPorts := [], inTurn := [], carryNo := 0, credits := []
             mirrors := [], mirrorTokens := 256, mirrorAt := 0, wheel := 0 }
    sram := { rows := [], used := [], ceRun := [] }
    col := { active := ⟨[], []⟩, shadow := ⟨[], []⟩, live := [], written := [], busy := [], windows := []
             ops := [], placed := 0, logs := [] }
    rde := { fails := [], recipes := [], turn := [], inject := [], injectQuar := false, rehearsed := [], quarantined := [] }
    pra := []
    hbm := { stack := [], sizes := [], stagePool := false, chunks := [], nextNo := 0, lostUnits := [], turn := [] }
    mpc := { queue := [], gather := [], replies := [], awaited := [], repeats := [], seqs := [], requesters := [], group := [], hostWait := [], hostTokens := 1024
             hostAt := 0, core0 := 0, coreMoving := none, spareOut := false, injection := none, repairWait := []
             repairHalf := 0, repairUsed := 0, smbAddr := 0, smbFlash := 0
             smbFault := false }
    sec := { state := SecState.factory, verified := none, rehearsal := none, rehearsalEnd := 0, debug := false
             attesting := none, patchChain := 0, imageHash := 0, firmwareHash := 0, romHash := 0, firmwareKey := Config.fusedKey
             svn := Config.fusedSvn, runningSvn := 0 }
    img := { touched := [], firmwareB := false, marker := none, identity := none, running := none, liveApplied := [], structural := [], gathering := false, patch := none
             heldPatch := false, written := [], verified := [], switchAfter := false }
    flash := [], out := [], fresh := 0 }

/-- The block right after reset: the module after a power-on reset, no command waiting. -/
def State.reset : State := { mod := Module.reset, pending := [] }

/-- A meaning that only moves the module. -/
def State.run (s : State) (f : Module → Module) : Host.Outcome State Fault Refusal := .next { s with mod := f s.mod }

end Sys2Proof.Machine
end

