-- ==== Sys2Proof/Machine/Ops.lean ====
section
/-! DEFINITION. The named operations over the module that every meaning uses: register fields, events and counters, open
values, emissions, the module's numbering, its time, its profile, and the repair table's queue. -/

namespace Sys2Proof.Machine

/-! ### Register fields -/

/-- The table row of a field. -/
def FKey.row (k : FKey) : Option FieldDef := k.reg.fields.find? (fun d => d.lo == k.lo)

/-- The width of a field in bits. -/
def FKey.width (k : FKey) : Nat :=
  match k.row with
  | some d => d.hi + 1 - d.lo
  | none => 0

/-- What a register field holds: its reset value where nothing has written it (R20). -/
def Module.getF (m : Module) (k : FKey) : Nat := Tbl.get m.regs (fieldReset k) k

/-- The module with `v`, cut to the field's width, in a register field. -/
def Module.setF (m : Module) (k : FKey) (v : Nat) : Module := { m with regs := Tbl.put m.regs k (v % 2 ^ k.width) }

/-- The lower half that a requester's _HI write takes: its held _LO, or what is in force (R17). -/
def Module.lowHalf (m : Module) (req : Requester) (r : RegName) (i j inForce : Nat) : Nat :=
  match Tbl.find m.loHeld (req, r, i, j) with
  | some w => w.toNat
  | none => inForce

/-- Is a one-bit field 1? -/
def Module.isOn (m : Module) (k : FKey) : Bool := m.getF k == 1

/-- Set a one-bit field. -/
def Module.setB (m : Module) (k : FKey) (b : Bool) : Module := m.setF k (flag b)

/-- Set bit `b` of a field. -/
def Module.setBit (m : Module) (k : FKey) (b : Nat) (v : Bool) : Module :=
  let n := m.getF k
  let low := if bitOf n b then n - 2 ^ b else n
  m.setF k (if v then low + 2 ^ b else low)

/-- Add to a field that saturates at `most`. -/
def Module.addSat (m : Module) (k : FKey) (n most : Nat) : Module := m.setF k (min most (m.getF k + n))

/-! ### Open values and emissions -/

/-- The module's next open value. -/
def Module.openWord (m : Module) : BitVec 64 := Config.freeValue m.fresh

/-- The module after it has drawn an open value. -/
def Module.drawn (m : Module) : Module := { m with fresh := m.fresh + 1 }

/-- Send something. -/
def Module.emit (m : Module) (e : Emission) : Module := { m with out := m.out ++ [e] }

/-! ### Time -/

/-- Units of `elapsed` in a nanosecond. -/
def perNs : Nat := 105
def perUs : Nat := 105000
def perMs : Nat := 105000000
def perSec : Nat := 105000000000


/-- The count of the time base as TIM_NOW reads it: 0 until it first runs (R387, R515). -/
def Module.timeNow (m : Module) : BitVec 64 := m.time.count

/-! ### The module's numbering (R8, R10) -/

/-- Sector of a logical port. -/
def sectorOf (lport : Nat) : Nat := lport / 256

/-- Port block of a logical port, or of a lane. -/
def blockOf (lport : Nat) : Nat := lport / 32

/-- Port of a logical port. -/
def portOf (lport : Nat) : Nat := lport / 4


/-- How many logical ports a port is split into (R10). -/
def Module.split (m : Module) (port : Nat) : Nat := Tbl.get m.link.splits 1 port

/-- The lanes of each logical port of a port. -/
def Module.perLport (m : Module) (port : Nat) : Nat := 4 / m.split port

/-- Is there such a logical port (R10, R162)? -/
def Module.isLport (m : Module) (lport : Nat) : Bool :=
  decide (lport < 2048) && decide (lport % 4 < m.split (portOf lport))

/-- The lowest module lane of a logical port. -/
def Module.firstLane (m : Module) (lport : Nat) : Nat :=
  4 * portOf lport + lport % 4 * m.perLport (portOf lport)

/-- The logical port of a module lane. -/
def Module.lportOfLane (m : Module) (lane : Nat) : Nat := 4 * (lane / 4) + lane % 4 / m.perLport (lane / 4)

/-- The index of a module lane in its link. -/
def Module.laneIndex (m : Module) (lane : Nat) : Nat := lane % 4 % m.perLport (lane / 4)

/-- The logical ports that the splits make, in a range of ports. -/
def Module.lportsOf (m : Module) (ports : List Nat) : List Nat :=
  ports.flatMap (fun p => (List.range (m.split p)).map (fun q => 4 * p + q))

/-- Every logical port. -/
def Module.lports (m : Module) : List Nat := m.lportsOf (List.range 512)

/-- The logical ports of a sector. -/
def Module.sectorLports (m : Module) (s : Nat) : List Nat := m.lportsOf ((List.range 64).map (fun p => 64 * s + p))

/-- The instance of the LNK_LINK registers of a logical port: its lowest data lane in the block (R131). -/
def Module.linkIx (m : Module) (lport : Nat) : Nat := m.firstLane lport % 32

/-! ### Instances of a smaller member (R7) -/

/-- The instances that a block has on this member, by GLB_CAP0 and GLB_CAP1 (R520). -/
def Module.liveCount (m : Module) (b : Blk) : Nat :=
  match b with
  | .lpe | .lnk => m.getF K.glbCap0_PORT_BLOCKS
  | .fwd | .buf | .tm | .col => (m.getF K.glbCap0_QSECTORS + 3) / 4
  | .rde => m.getF K.glbCap0_RDES
  | .hbm => m.getF K.glbCap0_STACKS
  | .pra => m.getF K.glbCap1_PRAS
  | _ => 1

/-! ### Events and counters (R471 to R473, R525) -/

/-- The counter of one event and instance. -/
def Module.counter (m : Module) (num inst : Nat) : Nat := Tbl.get m.counters 0 (num, inst)

/-- Counters of a sector in reset do not advance (R471). -/
def Module.countsNow (m : Module) (num inst : Nat) : Bool :=
  !(decide (0x10 ≤ num / 32) && decide (num / 32 ≤ 0x15) && m.power.sectorsDown.contains inst)

/-- Add to a counter. -/
def Module.count (m : Module) (num inst n : Nat) : Module :=
  if m.countsNow num inst then
    { m with counters := Tbl.put m.counters (num, inst) ((m.counter num inst + n) % 2 ^ 64) }
  else m

/-- Does the log's mask take this event (R525)? -/
def Module.masked (m : Module) (e : Ev) : Bool := bitOf (m.getF (K.glbLogMask_MASK (e.num / 32))) (e.num % 32)

/-- Wait for core 0 to enter an occurrence in the log. -/
def Module.pend (m : Module) (e : Ev) (inst detail : Nat) : Module :=
  if m.masked e then { m with log := { m.log with pend := m.log.pend ++ [⟨e, inst, detail, m.elapsed⟩] } } else m

/-- The EVT bit that shows an event. COLL_EARLY has no bit of its own and shows in COL_EVT bit 0 (R246). -/
def evtKey (e : Ev) (inst : Nat) : Option FKey :=
  match e with
  | .sector_COLL_EARLY => some ⟨.colEvt, inst, 0, 0⟩
  | _ => e.reg.map (fun r => ⟨r, inst, 0, e.bit⟩)

/-- Show an event in its EVT register. -/
def Module.show (m : Module) (e : Ev) (inst : Nat) : Module :=
  match evtKey e inst with
  | some k => m.setF k 1
  | none => m

/-- An event happens: its bit is set, its counter goes up by one, and the log takes it where its mask says so. -/
def Module.raise (m : Module) (e : Ev) (inst : Nat) (detail : Nat := 0) : Module :=
  ((m.count e.num inst 1).show e inst).pend e inst detail

/-- `n` occurrences of an event. -/
def Module.raiseN (m : Module) (e : Ev) (inst n : Nat) : Module :=
  (List.range n).foldl (fun m _ => m.raise e inst) m

/-! ### Profile, location, start-up -/

/-- A sector that shows what every sector holds: the lowest that no reset has, its lock rejoined (R366, R504). -/
def Module.lead (m : Module) : Nat :=
  ((List.range 8).find? (fun s => !m.power.sectorsDown.contains s && !m.lock.rejoining.contains s)).getD 0

/-- The profile in force: 0 THROUGHPUT, 1 REPRODUCIBLE, 2 TIMETABLE (R166). -/
def Module.profile (m : Module) : Nat := m.getF (K.fwdCtrl_PROFILE m.lead)

def Module.timetable (m : Module) : Bool := m.profile == 2

/-- The module's own location (R141). -/
def Module.loc (m : Module) : Loc := BitVec.ofNat 32 (m.getF (K.fwdLoc_LOC m.lead))

/-- The spray seed (R151). -/
def Module.seed (m : Module) : Nat := m.getF (K.fwdSeedHi_SEED m.lead) * 2 ^ 32 + m.getF (K.fwdSeedLo_SEED m.lead)

/-- The start-up step reached (R511). -/
def Module.startStep (m : Module) : Nat := m.getF K.pwrStatus_STEP

/-- The sectors that a member has. -/
def Module.sectors (m : Module) : List Nat := List.range (m.liveCount .fwd)

/-- Does sector lock hold (R354, R370)? -/
def Module.locked (m : Module) : Bool := m.timetable && m.isOn (K.tmSchedStat_LOCKED m.lead)

/-- An event of the schedule. Under sector lock TM_SCHED_EVT reads the same in every sector (R371). -/
def Module.raiseLocked (m : Module) (e : Ev) (s : Nat) : Module :=
  if m.locked then m.sectors.foldl (fun m t => m.raise e t) m else m.raise e s

/-- Set a field to one value in every sector. -/
def Module.setAll (m : Module) (n : Nat) (k : Nat → FKey) (v : Nat) : Module :=
  (List.range n).foldl (fun m i => m.setF (k i) v) m

/-! ### Sums over lists -/

/-- The first `n` numbers that satisfy `p`. -/
def natsWhere (n : Nat) (p : Nat → Bool) : List Nat := (List.range n).filter p

/-- Run `f` over a list of things in order. -/
def Module.each {α : Type} (m : Module) (l : List α) (f : Module → α → Module) : Module := l.foldl f m

/-! ### The load-step governor's levels (R493) -/

def Module.level (m : Module) (u : GovUnit) : Nat := Tbl.get m.power.levels 0 u

def GovUnit.isEngine (u : GovUnit) : Bool :=
  match u with
  | .engine _ => true
  | _ => false

def GovUnit.isPipe (u : GovUnit) : Bool :=
  match u with
  | .pipe _ => true
  | _ => false

/-- In TIMETABLE engines alone are ramped from step 11 on (R496). -/
def Module.fixedLevel (m : Module) (u : GovUnit) : Bool := m.timetable && decide (11 ≤ m.startStep) && !u.isEngine

/-- Has a unit a level at all: at level 0 its work waits? -/
def Module.admits (m : Module) (u : GovUnit) : Bool := decide (0 < m.level u)

/-! ### The repair table (R450, R451) -/

/-- Ask for a repair record: KIND, LOCATION and DATA. REPAIR_RECORD_APPEND writes it. A substitution of a rehearsal
injection is never recorded: its caller does not ask. -/
def Module.record (m : Module) (kind location data : Nat) : Module :=
  { m with mpc := { m.mpc with
      repairWait := m.mpc.repairWait ++ [(BitVec.ofNat 64 (kind * 2 ^ 40 + location % 2 ^ 24 * 2 ^ 16 + data % 2 ^ 16), m.time.count)] } }

/-- Enter a step of start-up. From step 5 on the MPC firmware, verified in step 4, tells of it on UART_TX (R413). -/
def Module.goStep (m : Module) (n : Nat) : Module :=
  let m := m.setF K.pwrStatus_STEP n
  if n < 5 then m else m.emit (.uartStep n)

/-- Ask that ALERT_N be driven for a cause (R522). -/
def Module.alert (m : Module) (k : FKey) : Module := (m.setF k 1).setF K.glbAlert_ASSERTED 1

end Sys2Proof.Machine
end

