-- ==== Sys2Proof/Machine/Flash.lean ====
section
/-! DEFINITION. Boot flash (spec/15_management_and_structure_image.md R414), held as the bytes that differ from erased, and
the repair table in it (spec/17_spares_repair_and_resilience.md R450, R451). -/

namespace Sys2Proof.Machine

/-! ### Bytes -/

/-- What an erased byte of flash reads as (notes/assumptions/29.md). -/
def flashErased : Byte := 0xFF

/-- The byte at an address of a list of cells. -/
def cellAt (l : List Host.Cell) (a : Nat) : Byte :=
  match l with
  | [] => flashErased
  | c :: rest => if c.1 = a then c.2 else cellAt rest a

/-- The cells with a byte written, in canonical form: addresses rising, erased bytes not listed. -/
def cellPut (l : List Host.Cell) (a : Nat) (b : Byte) : List Host.Cell :=
  match l with
  | [] => if b = flashErased then [] else [(a, b)]
  | c :: rest =>
    if c.1 = a then (if b = flashErased then rest else (a, b) :: rest)
    else if a < c.1 then (if b = flashErased then c :: rest else (a, b) :: c :: rest)
    else c :: cellPut rest a b

/-- The canonical form above a bound: addresses strictly rising, no byte erased. -/
def cellsFrom (least : Nat) : List Host.Cell → Bool
  | [] => true
  | c :: rest => decide (least ≤ c.1) && decide (c.2 ≠ flashErased) && cellsFrom (c.1 + 1) rest

/-- The canonical form of boot flash. -/
def Memory.wf (l : List Host.Cell) : Bool := cellsFrom 0 l

/-- One byte of boot flash. -/
def Module.flashByte (m : Module) (a : Nat) : Byte := cellAt m.flash a

/-- Consecutive bytes of boot flash. -/
def Module.flashBytes (m : Module) (a n : Nat) : List Byte := (List.range n).map (fun i => m.flashByte (a + i))

/-- Write consecutive cells. -/
def cellsPut (l : List Host.Cell) (a : Nat) : List Byte → List Host.Cell
  | [] => l
  | b :: rest => cellsPut (cellPut l a b) (a + 1) rest

/-- Write consecutive bytes of boot flash. -/
def Module.flashWrite (m : Module) (a : Nat) (bs : List Byte) : Module := { m with flash := cellsPut m.flash a bs }

/-- Erase a range of boot flash. -/
def Module.flashErase (m : Module) (a n : Nat) : Module :=
  { m with flash := m.flash.filter (fun c => decide (c.1 < a) || decide (a + n ≤ c.1)) }

/-! ### The repair table -/

/-- The offset of the repair table, the bytes of each half, and the records that a half holds. -/
def repairBase : Nat := 0x44000000
def repairHalfBytes : Nat := 8 * 2 ^ 20
def repairSlots : Nat := repairHalfBytes / 16

/-- The 16 bytes of a record (R450). -/
def repairRecord (body incarnation timeS : Nat) : List Byte :=
  let first := toBytes 12 (body % 2 ^ 48 * 2 ^ 48 + incarnation % 2 ^ 16 * 2 ^ 32 + timeS % 2 ^ 32)
  first ++ toBytes 4 (crc32 first).toNat

/-- The address of a record of a half. -/
def repairAt (half i : Nat) : Nat := repairBase + half * repairHalfBytes + 16 * i

/-- What a record says (R450). -/
structure Repair where
  kind : Nat
  location : Nat
  data : Nat
  deriving DecidableEq, Repr

/-- Read a record; one whose CRC fails is ignored (R451). -/
def Repair.decode (bs : List Byte) : Option Repair :=
  if toBytes 4 (crc32 (bs.take 12)).toNat = bs.drop 12 then
    some { kind := ofBytes (bs.take 1), location := ofBytes ((bs.drop 1).take 3), data := ofBytes ((bs.drop 4).take 2) }
  else none

/-- Does a later record put an earlier one out of force: it says the same again, an engine has failed that was quarantined,
or an array is re-enabled (notes/assumptions/30.md)? -/
def Repair.overrides (later r : Repair) : Bool :=
  later == r || (later.location == r.location && ((r.kind == 0x07 && later.kind == 0x08)
    || (r.kind == 0x0C && later.kind == 0x0D)))

/-- The records still in force, of a list with the oldest first. -/
def inForce {α : Type} (read : α → Option Repair) : List α → List α
  | [] => []
  | x :: rest =>
    let later := inForce read rest
    match read x with
    | none => later
    | some r =>
      if r.kind = 0x0D || rest.any (fun y => (read y).any (fun l => l.overrides r)) then later else x :: later

/-- The records of the half in use. -/
def Module.repairRecords (m : Module) : List (List Byte) :=
  (List.range m.mpc.repairUsed).map (fun i => m.flashBytes (repairAt m.mpc.repairHalf i) 16)

/-- The half in use is full: the records in force go to the other half, and the full one is erased (R451). -/
def Module.compactRepairs (m : Module) : Module :=
  let half := m.mpc.repairHalf
  let keep := inForce Repair.decode m.repairRecords
  let m := m.flashWrite (repairAt (1 - half) 0) keep.flatten
  let m := m.flashErase (repairAt half 0) repairHalfBytes
  { m with mpc := { m.mpc with repairHalf := 1 - half, repairUsed := keep.length } }

/-- Append the oldest substitution that waits (R451); where flash refuses, REPAIR_WRITE_FAIL and ALERT_N. -/
def Module.appendRepair (m : Module) (refused : Bool) : Module :=
  match m.mpc.repairWait with
  | [] => m
  | (body, count) :: rest =>
    let m := { m with mpc := { m.mpc with repairWait := rest } }
    if refused then (m.raise .tel_REPAIR_WRITE_FAIL 0).alert K.glbAlert_REPAIR_WRITE_FAIL
    else
      let m := if repairSlots ≤ m.mpc.repairUsed then m.compactRepairs else m
      let m := m.flashWrite (repairAt m.mpc.repairHalf m.mpc.repairUsed)
        (repairRecord body.toNat (m.getF K.glbIncarn_INCARNATION) (count.toNat / 10 ^ 9))
      { m with mpc := { m.mpc with repairUsed := m.mpc.repairUsed + 1 } }

/-- What a substitution that waits will say: KIND, LOCATION and DATA of its record. -/
def Repair.ofBody (b : BitVec 64) : Repair :=
  { kind := bitsOf b.toNat 47 40, location := bitsOf b.toNat 39 16, data := bitsOf b.toNat 15 0 }

/-- The substitutions in force at a start, oldest first: those of the table, and those that wait for their record
(notes/assumptions/30.md). -/
def Module.repairs (m : Module) : List Repair :=
  inForce some (m.repairRecords.filterMap Repair.decode ++ m.mpc.repairWait.map (fun x => Repair.ofBody x.1))

end Sys2Proof.Machine
end

