-- ==== Sys2Proof/Machine/Coding.lean ====
section
/-! DEFINITION. What the link layer puts on a lane and reads from it: link frames, ordered sets, blocks, and the codewords of
RS(544,514) (spec/04_links_and_presence.md R107 to R112). -/

namespace Sys2Proof.Machine

/-- Fields, most significant first: width and value. -/
def packBits (fs : List (Nat × Nat)) : Nat := fs.foldl (fun n f => n * 2 ^ f.1 + f.2 % 2 ^ f.1) 0

/-! ### Link frames (R110) -/

/-- The 128 bits of a header, TYPE 0x01. -/
def LinkHeader.bits (h : LinkHeader) : Nat :=
  packBits [(8, 1), (16, h.lseq.toNat), (16, h.ack.toNat), (3, h.vc.val), (13, h.len.toNat), (3, h.cvc.val)
    , (13, h.ccount.toNat), (1, flag h.replay), (55, 0)]

/-- The header of a CREDIT frame, TYPE 0x02: no payload, not sequenced. -/
def creditBits (ack : BitVec 16) (cvc : Fin 8) (ccount : BitVec 13) : Nat :=
  packBits [(8, 2), (16, 0), (16, ack.toNat), (3, 0), (13, 0), (3, cvc.val), (13, ccount.toNat), (1, 0), (55, 0)]

/-- The CRC of a link frame: over its header and its payload. -/
def linkCrc (header : Nat) (payload : List Byte) : BitVec 32 := crc32 (toBytes 16 header ++ payload)

/-- The CRC with which a DATA frame comes when nothing has spoilt it. -/
def LinkHeader.crc (h : LinkHeader) (payload : List Byte) : BitVec 32 := linkCrc h.bits payload

/-- The CRC with which a CREDIT frame comes. -/
def creditCrc (ack : BitVec 16) (cvc : Fin 8) (ccount : BitVec 13) : BitVec 32 := linkCrc (creditBits ack cvc ccount) []

/-- Zero padding to whole blocks of 32 bytes. -/
def padBlocks (bs : List Byte) : List Byte := bs ++ List.replicate ((32 - bs.length % 32) % 32) 0

/-- A link frame as it is sent: header, payload, CRC, padding. -/
def linkBytes (header : Nat) (payload : List Byte) : List Byte :=
  padBlocks (toBytes 16 header ++ payload ++ toBytes 4 (linkCrc header payload).toNat)

/-! ### Ordered sets (R111, R112) -/

/-- The first 224 bits of an ordered set. -/
def OrderedSet.bits (os : OrderedSet) : Nat :=
  match os with
  | .idle => 0
  | .keepalive k =>
    packBits [(8, 0x10), (4, k.state.toNat), (4, k.laneMap.toNat), (2, k.lane.toNat), (6, 0), (32, k.loc.toNat), (9, k.port.toNat)
      , (2, k.q.toNat), (13, 0), (16, k.incarnation.toNat), (32, k.cwcount.toNat), (16, k.ack.toNat), (3, k.cvc.val), (13, 0)
      , (32, k.ccum.toNat), (16, k.drainLeft.toNat), (16, 0)]
  | .retryReq lseq reason => packBits [(8, 0x20), (16, lseq.toNat), (8, reason.toNat), (192, 0)]
  | .laneMap l =>
    packBits [(8, 0x30), (4, l.map.toNat), (4, l.kind.toNat), (32, l.effective.toNat), (16, l.tag.toNat), (160, 0)]
  | .train t =>
    packBits ([(8, 0x40), (4, t.phase.toNat), (4, t.offer.toNat), (32, t.loc.toNat), (9, t.port.toNat), (2, t.q.toNat)
      , (16, t.incarnation.toNat), (5, 0)] ++ (List.range 8).map (fun i => (16, (t.credits.getD (7 - i) 0).toNat)) ++ [(16, 0)])

/-- The CRC of an ordered set, its last 32 bits: over its first 224. -/
def OrderedSet.crc (os : OrderedSet) : BitVec 32 := crc32 (toBytes 28 os.bits)

/-! ### Blocks (R107) -/

/-- A block before the scrambler: its header bit, 1 for an ordered set, and its 256 payload bits. -/
abbrev Block257 := Bool × Nat

/-- A link frame's bytes in blocks of 32. -/
def dataBlocks (bs : List Byte) : List Block257 :=
  (List.range (bs.length / 32)).map (fun i => (false, ofBytes ((bs.drop (32 * i)).take 32)))

/-- An ordered set as a block. -/
def OrderedSet.block (os : OrderedSet) : Block257 := (true, os.bits * 2 ^ 32 + os.crc.toNat)

/-- The blocks in which an emission of a link leaves, and how often; other emissions leave by other ways. -/
def Emission.blocks (e : Emission) : List Block257 × Nat :=
  match e with
  | .data _ h f => (dataBlocks (linkBytes h.bits f.bytes), 1)
  | .credit _ ack cvc ccount => (dataBlocks (linkBytes (creditBits ack cvc ccount) []), 1)
  | .orderedSet _ os => ([os.block], 1)
  | .idle _ n => ([OrderedSet.idle.block], n)
  | _ => ([], 0)

/-- The self-synchronous scrambler x^58 + x^39 + 1: each bit sent is the bit given, with those sent 39 and 58 bits before it. The
state holds the last 58 bits sent, the latest lowest; bits are taken most significant first. -/
def scramble (state : Nat) (bits : Nat) : Nat → Nat × Nat
  | 0 => (state, 0)
  | n + 1 =>
    let b := flag (bitOf bits n != (bitOf state 38 != bitOf state 57))
    let r := scramble ((state * 2 + b) % 2 ^ 58) bits n
    (r.1, b * 2 ^ n + r.2)

/-- Its inverse: the state holds the last 58 bits received. -/
def descramble (state : Nat) (bits : Nat) : Nat → Nat × Nat
  | 0 => (state, 0)
  | n + 1 =>
    let b := flag (bitOf bits n != (bitOf state 38 != bitOf state 57))
    let r := descramble ((state * 2 + flag (bitOf bits n)) % 2 ^ 58) bits n
    (r.1, b * 2 ^ n + r.2)

/-- The 257 bits of each block: the header bit, then the scrambled payload. -/
def blockBits (state : Nat) : List Block257 → Nat × List Nat
  | [] => (state, [])
  | b :: rest =>
    let x := scramble state b.2 256
    let r := blockBits x.1 rest
    (r.1, (flag b.1 * 2 ^ 256 + x.2) :: r.2)

/-! ### RS(544,514) over GF(2^10) (R107; the field and the roots of the code are those of IEEE 802.3, notes/assumptions/129.md) -/

/-- The product of two symbols modulo x^10 + x^3 + 1. -/
def gfMul (a b : Nat) : Nat :=
  (List.range 10).foldl (fun r i =>
    let d := r * 2
    let d := if 1024 ≤ d then d ^^^ 0x409 else d
    if bitOf a (9 - i) then d ^^^ b else d) 0

/-- The powers of α = 2. -/
def gfPow (a : Nat) : Nat → Nat
  | 0 => 1
  | n + 1 => gfMul a (gfPow a n)

/-- The inverse of a symbol: its 1022nd power, by squaring. -/
def gfInv (a : Nat) : Nat := let r := (List.range 8).foldl (fun r _ => gfMul (gfMul r r) a) a
  gfMul r r

/-- The coefficients of the product of (x − α^j), j = 0 to 29, without the leading 1, highest first. -/
def rsGenerator : List Nat :=
  ((List.range 30).foldl (fun (g : List Nat) j => List.zipWith (· ^^^ ·) (g ++ [0]) (0 :: g.map (gfMul (gfPow 2 j)))) [1]).drop 1

/-- The 30 parity symbols of 514 message symbols: the remainder of the division by the generator. -/
def rsParity (msg : List Nat) : List Nat :=
  msg.foldl (fun (r : List Nat) s =>
    let top := s ^^^ r.headD 0
    List.zipWith (· ^^^ ·) (r.drop 1 ++ [0]) (rsGenerator.map (gfMul top))) (List.replicate 30 0)

/-- A number as `n` symbols of 10 bits, the first highest. -/
def symbolsOf (n v : Nat) : List Nat := (List.range n).map (fun i => v / 2 ^ (10 * (n - 1 - i)) % 1024)

/-- Symbols as one number. -/
def ofSymbols (l : List Nat) : Nat := l.foldl (fun n s => n * 1024 + s) 0

/-- The codeword of twenty blocks, with the scrambler's state after it. -/
def codewordOf (state : Nat) (blocks : List Block257) : Nat × BitVec 5440 :=
  let x := blockBits state blocks
  let msg := symbolsOf 514 (x.2.foldl (fun n b => n * 2 ^ 257 + b) 0)
  (x.1, BitVec.ofNat 5440 (ofSymbols (msg ++ rsParity msg)))

/-- A syndrome of a received word: the word as a polynomial at α^j. -/
def syndrome (w : List Nat) (j : Nat) : Nat := let a := gfPow 2 j
  w.foldl (fun s c => gfMul s a ^^^ c) 0

/-- The thirty syndromes of a received word. -/
def syndromes (w : List Nat) : List Nat := (List.range 30).map (syndrome w)

/-- Is a word a codeword? -/
def isCodeword (w : List Nat) : Bool := (List.range 30).all (fun j => syndrome w j == 0)

/-- Where the search for the error locator stands: the locator and the one before its last change of length, lowest first,
the length, the steps since then, and the discrepancy then. -/
structure Locator where
  now : List Nat
  before : List Nat
  len : Nat
  gap : Nat
  disc : Nat

/-- One more syndrome taken into the locator (the least shift register that yields them all). -/
def Locator.next (l : Locator) (ss : List Nat) (n : Nat) : Locator :=
  let d := (List.range (l.len + 1)).foldl (fun s i => s ^^^ gfMul (l.now.getD i 0) (if i ≤ n then ss.getD (n - i) 0 else 0)) 0
  if d = 0 then { l with gap := l.gap + 1 }
  else
    let c := gfMul d (gfInv l.disc)
    let shifted := List.replicate l.gap 0 ++ l.before.map (gfMul c)
    let width := max l.now.length shifted.length
    let sum := (List.range width).map (fun i => l.now.getD i 0 ^^^ shifted.getD i 0)
    if 2 * l.len ≤ n then { now := sum, before := l.now, len := n + 1 - l.len, gap := 1, disc := d }
    else { l with now := sum, gap := l.gap + 1 }

/-- The error locator of some syndromes. -/
def locatorOf (ss : List Nat) : Locator :=
  (List.range 30).foldl (fun l n => l.next ss n) { now := [1], before := [1], len := 0, gap := 1, disc := 1 }

/-- A polynomial, lowest coefficient first, at a symbol. -/
def gfEval (p : List Nat) (x : Nat) : Nat := p.foldr (fun c s => gfMul s x ^^^ c) 0

/-- The places of a word, counted from its last symbol, at which a locator finds an error, each with the inverse power of α that
is its root. -/
def errorPlaces (p : List Nat) : List (Nat × Nat) :=
  ((List.range 544).foldl (fun (x : Nat × List (Nat × Nat)) i =>
    (gfMul x.1 (gfInv 2), if gfEval p x.1 = 0 then x.2 ++ [(i, x.1)] else x.2)) (1, [])).2

/-- What the FEC makes of a received word (R109): no error, up to fifteen wrong symbols, or more than it can correct. -/
def judgeCodeword (w : BitVec 5440) : Codeword :=
  let ss := syndromes (symbolsOf 544 w.toNat)
  if ss.all (· == 0) then .clean
  else
    let l := locatorOf ss
    if l.len ≤ 15 && (errorPlaces l.now).length == l.len then .corrected else .uncorrectable

/-- What is wrong with the symbol at a root `x` of the locator: the evaluator over the locator's derivative, times the symbol's
power of α, for the roots of the code begin at α^0. -/
def errorValue (ss p : List Nat) (x : Nat) : Nat :=
  let evaluator := (List.range 30).map (fun n => (List.range (n + 1)).foldl (fun s i => s ^^^ gfMul (p.getD i 0) (ss.getD (n - i) 0)) 0)
  let slope := ((List.range p.length).drop 1).map (fun i => if i % 2 = 1 then p.getD i 0 else 0)
  gfMul (gfInv x) (gfMul (gfEval evaluator x) (gfInv (gfEval slope x)))

/-- The symbols of a received word with its errors taken out (R107). -/
def correctedSymbols (w : BitVec 5440) : List Nat :=
  let syms := symbolsOf 544 w.toNat
  let ss := syndromes syms
  if ss.all (· == 0) then syms
  else
    let p := (locatorOf ss).now
    (errorPlaces p).foldl (fun l e => l.set (543 - e.1) (l.getD (543 - e.1) 0 ^^^ errorValue ss p e.2)) syms

/-- The twenty blocks of a word's 514 message symbols, descrambled, with the descrambler's state after them. -/
def unpackBlocks (state : Nat) (syms : List Nat) : Nat × List Block257 :=
  let msg := ofSymbols (syms.take 514)
  (List.range 20).foldl (fun (x : Nat × List Block257) i =>
    let b := msg / 2 ^ (257 * (19 - i)) % 2 ^ 257
    let d := descramble x.1 b 256
    (d.1, x.2 ++ [(bitOf b 256, d.2)])) (state, [])

/-- The 5440 bits that begin `shift` bits into two words. -/
def windowAt (last w : BitVec 5440) (shift : Nat) : BitVec 5440 := BitVec.ofNat 5440 ((last.toNat * 2 ^ 5440 + w.toNat) / 2 ^ (5440 - shift))

/-- Where the codewords begin in two words that follow each other, most significant bit first: at the first offset whose
syndromes vanish. The second word itself stands first. -/
def boundaryIn (last w : BitVec 5440) : Option Nat :=
  (5440 :: (List.range 5440)).find? (fun k => isCodeword (symbolsOf 544 (windowAt last w k).toNat))

/-- The lane of a link that carries its `i`-th codeword (R108): in lane order, one codeword a lane in turn. -/
def stripeLane (lanes : List Nat) (i : Nat) : Nat := lanes.getD (i % lanes.length) 0

/-- The receiver of a lane when nothing has come. -/
def RxLane.start (lane : Nat) : RxLane :=
  { last := none, shift := 5440, state := (Config.descrambler lane).toNat, blocks := [], mark := none }

/-- The codeword that ends in a word that comes, or begins before it: as the boundary stands. -/
def RxLane.aligned (r : RxLane) (w : BitVec 5440) : BitVec 5440 := windowAt (r.last.getD 0) w r.shift

/-- A word comes on a lane (R107, R109): a codeword that can be corrected gives its blocks; the blocks of another are discarded,
and the boundary is searched for again. -/
def RxLane.take (r : RxLane) (w : BitVec 5440) : RxLane :=
  let c := r.aligned w
  let u := unpackBlocks r.state (if judgeCodeword c == .uncorrectable then symbolsOf 544 c.toNat else correctedSymbols c)
  if judgeCodeword c == .uncorrectable then
    { r with last := some w, state := u.1, blocks := [], shift := ((r.last.bind (boundaryIn · w)).getD r.shift) }
  else { r with last := some w, state := u.1, blocks := u.2 }

/-! ### The lanes as they send (R107, R108) -/

/-- Where the coding of the lanes stands: the scrambler's state and the waiting ordered sets of each lane, each link's blocks not
yet in a codeword with the number of codewords it has sent, and the codewords sent, each with its lane. -/
structure Coder where
  lanes : Tbl Nat (Nat × List Block257)
  links : Tbl Nat (Nat × List Block257)
  words : List (Nat × BitVec 5440)

/-- Send the codewords that a link's blocks fill: each takes the ordered sets that wait for its lane, then blocks of the link. -/
def Coder.pack (c : Coder) (lport : Nat) (lanes : List Nat) : Nat → Coder
  | 0 => c
  | fuel + 1 =>
    let t := Tbl.get c.links (0, []) lport
    let lane := stripeLane lanes t.1
    let x := Tbl.get c.lanes ((Config.scrambler lane).toNat, []) lane
    if lanes.isEmpty || x.2.length + t.2.length < 20 then c
    else
      let w := codewordOf x.1 ((x.2 ++ t.2).take 20)
      ({ lanes := Tbl.put c.lanes lane (w.1, x.2.drop 20), links := Tbl.put c.links lport (t.1 + 1, t.2.drop (20 - x.2.length))
         words := c.words ++ [(lane, w.2)] } : Coder).pack lport lanes fuel

/-- Blocks of a link that follow. -/
def Coder.send (c : Coder) (r : TxRun) : Coder :=
  let new := (List.replicate r.times r.blocks).flatten
  match r.only with
  | some lane =>
    let x := Tbl.get c.lanes ((Config.scrambler lane).toNat, []) lane
    { c with lanes := Tbl.put c.lanes lane (x.1, x.2 ++ new) }
  | none =>
    let t := Tbl.get c.links (0, []) r.lport
    ({ c with links := Tbl.put c.links r.lport (t.1, t.2 ++ new) }).pack r.lport r.lanes (t.2.length + new.length + 1)

/-- The coding after the runs that have been sent. -/
def coderOf (runs : List TxRun) : Coder := runs.foldl Coder.send { lanes := [], links := [], words := [] }

end Sys2Proof.Machine
end

