-- ==== Sys2Proof/Machine/Links.lean ====
section
/-! DEFINITION. The links of the module: their records, states, lanes and credits (spec/04_links_and_presence.md). -/

namespace Sys2Proof.Machine

/-- A link that has never come up. -/
def Link.initial : Link :=
  { retry := [], nextLseq := 0, expected := 0, asked := none, reqLseq := 0, reqCount := 0
    held := [0, 0, 0, 0, 0, 0, 0, 0], tally := [0, 0, 0, 0, 0, 0, 0, 0], granted := [0, 0, 0, 0, 0, 0, 0, 0]
    ccum := [0, 0, 0, 0, 0, 0, 0, 0], kaIndex := 0, training := [], changes := [], lostBlock := false, behind := none, agreed := none, outOfSets := false
    draining := false, drained := false, drainEnd := 0, peerChanged := false, peerInit := [0, 0, 0, 0, 0, 0, 0, 0]
    told := [0, 0, 0, 0, 0, 0, 0, 0], given := [0, 0, 0, 0, 0, 0, 0, 0]
    fresh := true, slotDebt := 0, slotRest := 0 }

/-- The record of a logical port's link. -/
def Module.lnk (m : Module) (lport : Nat) : Link := Tbl.get m.link.links Link.initial lport

def Module.putLnk (m : Module) (lport : Nat) (l : Link) : Module :=
  { m with link := { m.link with links := Tbl.put m.link.links lport l } }

def Module.modLnk (m : Module) (lport : Nat) (f : Link → Link) : Module := m.putLnk lport (f (m.lnk lport))

/-- The state of a link (R130). -/
def Module.linkState (m : Module) (lport : Nat) : Nat := m.getF (K.lnkLinkState_STATE (blockOf lport) (m.linkIx lport))

def Module.setLinkState (m : Module) (lport st : Nat) : Module :=
  m.setF (K.lnkLinkState_STATE (blockOf lport) (m.linkIx lport)) st

/-- The lanes of the link in service, bit k for lane k (R135). -/
def Module.lanesUp (m : Module) (lport : Nat) : Nat := m.getF (K.lnkLinkState_LANES_UP (blockOf lport) (m.linkIx lport))


/-- How many of four bits are set. -/
def popcount4 (n : Nat) : Nat := flag (bitOf n 0) + flag (bitOf n 1) + flag (bitOf n 2) + flag (bitOf n 3)

/-- The number of lanes in service. -/
def Module.laneCount (m : Module) (lport : Nat) : Nat := popcount4 (m.lanesUp lport)

/-- Is a link in state 3 UP? An LPORT that no split makes never is (R162). -/
def Module.isUp (m : Module) (lport : Nat) : Bool := m.isLport lport && m.linkState lport == 3

/-- Is a member on this output live (R150)? -/
def Module.live (m : Module) (lport : Nat) : Bool := m.isUp lport && !(m.lnk lport).outOfSets

/-- The partner's location, as learnt at training (R135). -/
def Module.peerLoc (m : Module) (lport : Nat) : Loc :=
  BitVec.ofNat 32 (m.getF (K.lnkLinkPeera_LOC (blockOf lport) (m.linkIx lport)))

/-- An LNK event, on the port block's instance (R133). -/
def Module.raiseLnk (m : Module) (e : Ev) (lport : Nat) (detail : Nat := 0) : Module := m.raise e (blockOf lport) detail

/-- The same event with the link as its detail (R527). -/
def Module.raiseLink (m : Module) (e : Ev) (lport : Nat) : Module := m.raise e (blockOf lport) (m.linkIx lport)

/-- The n-th of eight numbers, one a VC. -/
def vcGet (l : List Nat) (vc : Nat) : Nat := l.getD vc 0

/-- The eight numbers with another n-th. -/
def vcSet (l : List Nat) (vc n : Nat) : List Nat := l.set vc n

/-- The header of a DATA frame that a link sends (R110): it acknowledges what has been accepted, and returns no credits, which
CREDIT frames carry. -/
def Link.header (l : Link) (lseq : BitVec 16) (vc len : Nat) (replay : Bool) : LinkHeader :=
  { lseq := lseq, ack := l.expected - 1, vc := Fin.ofNat 8 vc, len := BitVec.ofNat 13 len, cvc := 0, ccount := 0, replay := replay }

/-- The padded length of a link frame in bytes: header, payload and CRC, to whole blocks (R110). -/
def paddedLen (payload : Nat) : Nat := (16 + payload + 4 + 31) / 32 * 32

/-- The credits that a frame of this payload takes (R117), in 64 B units: half a unit is charged as a whole one
(notes/assumptions/128.md). -/
def creditUnits (payload : Nat) : Nat := (paddedLen payload + 63) / 64

/-! ### Slot counts (R478) -/

/-- Count slots of a logical port in a class and in a subclass. -/
def Module.slots (m : Module) (lport cls : Nat) (sub : Option Nat) (n : Nat) : Module :=
  let m := m.count (0x440 + cls) lport n
  match sub with
  | some b => m.count (0x440 + b) lport n
  | none => m

/-- Blocks of a link frame (R110). -/
def linkBlocks (len : Nat) : Nat := paddedLen len / 32

/-- Blocks that a link sends take its slots; those of ordered sets, CREDIT frames and replays are spent (R478). The classes
are told only in state 3 UP. -/
def Module.overhead (m : Module) (lport n : Nat) : Module :=
  if m.linkState lport = 3 ∨ m.linkState lport = 5 then
    let m := m.modLnk lport (fun l => { l with slotDebt := l.slotDebt + n })
    if m.linkState lport = 3 then m.slots lport 1 (some 4) n else m
  else m

/-- The module lanes on which a link's codewords go: those in service, or while none is the lanes that it offers. -/
def Module.codingLanes (m : Module) (lport : Nat) : List Nat :=
  let up := m.lanesUp lport
  let map := if up = 0 then m.getF (K.lnkLinkState_LANES_OFFERED (blockOf lport) (m.linkIx lport)) else up
  (natsWhere 4 (bitOf map)).map (m.firstLane lport + ·)

/-- A link sends: what it sends goes into blocks, and these into the codewords of its lanes (R107, R108), or of one lane. -/
def Module.transmit (m : Module) (lport : Nat) (only : Option Nat) (e : Emission) : Module :=
  let m := m.emit e
  { m with link := { m.link with sent := m.link.sent ++
    [{ lport := lport, only := only, lanes := m.codingLanes lport, blocks := e.blocks.1, times := e.blocks.2 }] } }

/-- The codewords that have left, each with its lane (R107, R108). -/
def Module.codewordsSent (m : Module) : List (Nat × BitVec 5440) := (coderOf m.link.sent).words

/-- Send an ordered set; a KEEPALIVE goes on its own lane (R112). -/
def Module.sendSet (m : Module) (lport : Nat) (os : OrderedSet) : Module :=
  let only := match os with
    | .keepalive k => some (m.firstLane lport + k.lane.toNat)
    | _ => none
  (m.transmit lport only (.orderedSet lport os)).overhead lport 1

/-- Send CREDIT frames that return `n` credits on a VC: CCOUNT has 13 bits (R110). -/
def Module.sendCredits (m : Module) (lport vc : Nat) : Nat → Nat → Module
  | 0, _ => m
  | fuel + 1, n =>
    if n = 0 then m
    else
      let c := min n 8191
      let e := Emission.credit lport ((m.lnk lport).expected - 1) (Fin.ofNat 8 vc) (BitVec.ofNat 13 c)
      ((m.transmit lport none e).overhead lport 1).sendCredits lport vc fuel (n - c)

/-- Return freed credits to a partner (R117): they count as granted, and a CREDIT frame carries them while the link can
carry one; the CCUM of a later keepalive restores them where it cannot. -/
def Module.returnCredits (m : Module) (lport vc n : Nat) : Module :=
  if n = 0 then m
  else
    let m := m.modLnk lport (fun l =>
      { l with granted := vcSet l.granted vc (vcGet l.granted vc + n)
               ccum := vcSet l.ccum vc ((vcGet l.ccum vc + n) % 2 ^ 32) })
    if m.linkState lport == 3 || m.linkState lport == 5 then m.sendCredits lport vc (n / 8191 + 1) n
    else m

/-- A credit grant from the partner (R117). -/
def Module.takeCredits (m : Module) (lport vc n : Nat) : Module :=
  m.modLnk lport (fun l =>
    { l with held := vcSet l.held vc (vcGet l.held vc + n), tally := vcSet l.tally vc ((vcGet l.tally vc + n) % 2 ^ 32) })

/-- The initial credits that the module advertises on a VC of a logical port (R171). -/
def Module.initialCredits (m : Module) (lport vc : Nat) : Nat := m.buf.credits.getD vc 0 * m.perLport (portOf lport) / 4

/-- The credits of VC0 that a logical port's partner has before step 12: its share of R171's default (R507). -/
def Module.vc0Share (m : Module) (lport : Nat) : Nat := 64 * m.perLport (portOf lport)

/-- Is the module draining a logical port (R127)? -/
def Module.isDraining (m : Module) (lport : Nat) : Bool := (m.lnk lport).draining

/-- Count one retrain of a link (R129). -/
def Module.countRetrain (m : Module) (lport : Nat) : Module :=
  (m.raiseLnk .lnk_RETRAIN lport).addSat (K.lnkLinkState_RETRAINS (blockOf lport) (m.linkIx lport)) 1 255

end Sys2Proof.Machine
end

