-- ==== Sys2Proof/Machine/Regions.lean ====
section
/-! DEFINITION. HBM's channels, octets, chunks and regions, and what its stacks admit (spec/12_hbm_memory.md R329 to R334, R340),
and the Carafe's pool (spec/06_buffers_resequencing_backpressure.md R176, R178). -/

namespace Sys2Proof.Machine

/-- A stack with nothing failed. -/
def HbmStack.initial : HbmStack :=
  { mapped := [], failing := [], ue := [], ce := [], silent := false, scrubLate := false, due := [0, 0, 0, 0, 0], dueAt := 0, moved := [] }

def Module.stack (m : Module) (k : Nat) : HbmStack := Tbl.get m.hbm.stack HbmStack.initial k

def Module.putStack (m : Module) (k : Nat) (h : HbmStack) : Module :=
  { m with hbm := { m.hbm with stack := Tbl.put m.hbm.stack k h } }

/-! ### Channels and octets (R330, R340) -/

/-- Is a channel out: mapped out, or on its way? -/
def HbmStack.isOut (h : HbmStack) (ch : Nat) : Bool := (h.mapped.map (·.1) ++ h.failing.map (·.1)).contains ch

/-- The channels of a stack that are in service: neither mapped out nor failed. A stack that the member lacks has none (R7). -/
def Module.channelsIn (m : Module) (k : Nat) : Nat :=
  if k < m.liveCount .hbm then 32 - (natsWhere 32 (m.stack k).isOut).length else 0

/-- The channels of a sector in service. -/
def Module.sectorChannels (m : Module) (s : Nat) : Nat :=
  ((List.range 4).map (fun i => m.channelsIn (4 * s + i))).sum

/-- Has the sector HBM to use: it has stacks, not in TIMETABLE, not all out (R178, R338, R340)? -/
def Module.hasHbm (m : Module) (s : Nat) : Bool := !m.timetable && decide (0 < m.sectorChannels s)

/-- The stack of an octet of a sector. -/
def octetStack (s j : Nat) : Nat := 4 * s + j / 4

/-- The channels of an octet in service. -/
def Module.octetChannels (m : Module) (s j : Nat) : List Nat :=
  ((List.range 8).map (fun i => j % 4 * 8 + i)).filter (fun c =>
    decide (octetStack s j < m.liveCount .hbm) && !(m.stack (octetStack s j)).isOut c)

/-- The channels that a chunk's eight bursts lie on: one each, and with channels lost the lowest-numbered take two (R330). -/
def burstsOver (cs : List Nat) : List Nat := (List.replicate 8 cs).flatten.take 8

/-- Is an octet evacuated, and closed to new chunks (R340)? -/
def Module.octetClosed (m : Module) (s j : Nat) : Bool :=
  (m.stack (octetStack s j)).failing.any (fun x => x.1 / 8 == j % 4)

/-- The chunks in use in an octet. -/
def Module.octetChunks (m : Module) (s j : Nat) : List HbmChunk :=
  m.hbm.chunks.filter (fun c => c.sector == s && c.octet == j)

/-- The weight of an octet for new chunks: its channels in service by its stack's admitted fraction, 0 where it is closed or
full (2 GiB a channel, R329). -/
def Module.octetWeight (m : Module) (s j : Nat) : Nat :=
  let n := (m.octetChannels s j).length
  if m.octetClosed s j || decide (n * 524288 ≤ (m.octetChunks s j).length) then 0
  else n * m.getF (K.hbmStatus_ADMIT (octetStack s j))

/-- The next octet to take a chunk, from the one whose turn it is; an octet keeps the turn for as many chunks as its weight
(notes/assumptions/134.md). `avoid` names a stack that may not take it. -/
def Module.seekOctet (m : Module) (s : Nat) (avoid : Option Nat) (j n : Nat) : Nat → Option (Nat × Nat)
  | 0 => none
  | fuel + 1 =>
    if n < m.octetWeight s j ∧ avoid ≠ some (octetStack s j) then some (j, n + 1)
    else m.seekOctet s avoid ((j + 1) % 16) 0 fuel

def Module.nextOctet (m : Module) (s : Nat) (avoid : Option Nat) : Option (Nat × Nat) :=
  let t := Tbl.get m.hbm.turn (0, 0) s
  m.seekOctet s avoid t.1 t.2 17

/-! ### What a stack admits (R333, R334, R339) -/

/-- What an access of 512 B bursts, or of a rank-table line of 64 B, takes of a stack, in elevenths of a byte of 512 B accesses: a
stream of lines reaches 22 % of peak where one of bursts reaches 90 % (R333). -/
def burstCost (n : Nat) : Nat := 11 * n
def lineCost (n : Nat) : Nat := 45 * n

/-- Bytes a microsecond that a stack's accesses of 512 B may move: 90 % of 3072 GB/s, by its admitted fraction and its channels
in service, less 0.5 % while a late scrub pass runs at priority 2 (R335). -/
def Module.stackRate (m : Module) (k : Nat) : Nat :=
  2764800 * m.getF (K.hbmStatus_ADMIT k) * m.channelsIn k * (if (m.stack k).scrubLate then 199 else 200) / 25600

/-- Serve `n` of what is due, the highest priority first. -/
def serveDue (n : Nat) : List Nat → List Nat
  | [] => []
  | d :: rest => (d - n) :: serveDue (n - d) rest

/-- What is due on a stack now, by priority, as accesses cost. -/
def Module.dueNow (m : Module) (k : Nat) : List Nat :=
  let h := m.stack k
  serveDue (burstCost (m.stackRate k) * (m.elapsed - h.dueAt) / perUs) h.due

/-- Can a stack issue an access of priority `p` (1 to 5): what is due at that priority and above is less than it serves in a
microsecond (notes/assumptions/135.md)? -/
def Module.issues (m : Module) (k p : Nat) : Bool := decide (((m.dueNow k).take p).sum < burstCost (m.stackRate k))

/-- The accesses of a stack in the last 1 ms (R346). -/
def Module.movedNow (m : Module) (k : Nat) : List (Nat × Bool × Nat) :=
  (m.stack k).moved.filter (fun x => decide (m.elapsed - x.1 < perMs))

/-- A write, or a read, of `n` bytes at a priority is issued, which takes `cost` of the stack. -/
def Module.issueAt (m : Module) (k p n cost : Nat) (write : Bool) : Module :=
  let d := m.dueNow k
  m.putStack k { m.stack k with
    due := d.set (p - 1) (d.getD (p - 1) 0 + cost), dueAt := m.elapsed, moved := m.movedNow k ++ [(m.elapsed, write, n)] }

/-- The same, in 512 B bursts. -/
def Module.issue (m : Module) (k p n : Nat) (write : Bool) : Module := m.issueAt k p n (burstCost n) write

/-- A stack's read or write bandwidth over the last 1 ms in GB/s (R346). -/
def Module.bandwidth (m : Module) (k : Nat) (write : Bool) : Nat :=
  (((m.movedNow k).filter (fun x => x.2.1 == write)).map (fun x => x.2.2)).sum / 1000000

/-- The priority of a region's accesses: 0 Carafe, 1 retention, 2 staging, 3 deep resequencing, 4 recipe. -/
def regionPriority (r : Nat) : Nat := if r = 0 then 4 else if r = 3 then 3 else if r = 4 then 1 else 2

/-- Can the next chunk of a region be written now? -/
def Module.canWrite (m : Module) (s r : Nat) : Bool :=
  match m.nextOctet s none with
  | some (j, _) => m.issues (octetStack s j) (regionPriority r)
  | none => false

/-! ### Chunks and regions (R330 to R332) -/

/-- A region of a sector in bytes (R331), scaled by the sector's channels in service (R340). -/
def Module.regionBytes (m : Module) (s r : Nat) : Nat :=
  if m.hasHbm s then Tbl.get m.hbm.sizes 0 r * 2 ^ 20 * m.sectorChannels s / 128 else 0

/-- Does a chunk count in its region's use: of a rank table's two copies, the first (R348)? -/
def HbmChunk.counts (c : HbmChunk) : Bool :=
  match c.use with
  | .recipe _ copy => copy == 0
  | _ => true

/-- Chunks of a region in use. -/
def Module.regionUsed (m : Module) (s r : Nat) : Nat :=
  (m.hbm.chunks.filter (fun c => c.sector == s && c.region == r && c.counts)).length

/-- Is there room for `n` more chunks of 4 KiB in a region? -/
def Module.regionRoom (m : Module) (s r n : Nat) : Bool :=
  decide ((m.regionUsed s r + n) * 4096 ≤ m.regionBytes s r)

/-- Has a map-out left a region with more in use than it now has: new chunks wait (R342)? -/
def Module.regionOver (m : Module) (s r : Nat) : Bool := decide (m.regionBytes s r < m.regionUsed s r * 4096)

/-- The chunk of a number. -/
def Module.hbmChunk (m : Module) (no : Nat) : Option HbmChunk := m.hbm.chunks.find? (fun c => c.no == no)

/-- Write a new chunk of a region (R330). Where no octet is open, which `canWrite` says before, only its number is used up. -/
def Module.newChunk (m : Module) (s r : Nat) (pool : Bool) (avoid : Option Nat) (use : ChunkUse) : Module :=
  match m.nextOctet s avoid with
  | none => { m with hbm := { m.hbm with nextNo := m.hbm.nextNo + 1 } }
  | some (j, n) =>
    let c : HbmChunk := { no := m.hbm.nextNo, sector := s, octet := j, region := r, pool := pool, use := use }
    let m := { m with hbm := { m.hbm with
      chunks := m.hbm.chunks ++ [c], nextNo := m.hbm.nextNo + 1, turn := Tbl.put m.hbm.turn s (j, n) } }
    m.issue (octetStack s j) (regionPriority r) 4096 true

/-- Write `n` chunks, and answer their numbers. -/
def Module.newChunks (m : Module) (s r : Nat) (pool : Bool) (use : ChunkUse) (n : Nat) : Module × List Nat :=
  (m.each (List.range n) (fun m _ => m.newChunk s r pool none use), (List.range n).map (· + m.hbm.nextNo))

/-- Give chunks back. -/
def Module.freeChunks (m : Module) (nos : List Nat) : Module :=
  { m with hbm := { m.hbm with chunks := m.hbm.chunks.filter (fun c => !nos.contains c.no) } }

/-- An access to chunks in use: of their stacks, at their region's priority. -/
def Module.readChunks (m : Module) (nos : List Nat) : Module :=
  m.each (m.hbm.chunks.filter (fun c => nos.contains c.no)) (fun m c =>
    m.issue (octetStack c.sector c.octet) (regionPriority c.region) 4096 false)

/-- The chunk that holds one copy of a unit of a sector's recipe region. -/
def Module.unitCopy (m : Module) (s u copy : Nat) : Option HbmChunk :=
  m.hbm.chunks.find? (fun c => c.sector == s && c.use == .recipe u copy)

/-- Write both copies of a unit of a sector's recipe region, on different stacks (R331). -/
def Module.copyUnit (m : Module) (s u : Nat) : Module :=
  let m := m.newChunk s 4 false none (.recipe u 0)
  m.newChunk s 4 false ((m.unitCopy s u 0).map (fun c => octetStack s c.octet)) (.recipe u 1)

/-- Chunks of 4 KiB that `n` bytes take. -/
def chunksOf (n : Nat) : Nat := (n + 4095) / 4096

/-- Count a full region on the sector's first stack (R332). -/
def Module.regionFull (m : Module) (s : Nat) : Module := m.raise .hbm_REGION_FULL (4 * s)

/-- The Carafe pool of a sector in bytes (R176). -/
def Module.poolBytes (m : Module) (s : Nat) : Nat :=
  if m.hasHbm s then m.getF (K.bufCarafeCfg_POOL_GIB s) * 2 ^ 30 * m.sectorChannels s / 128 else 0

/-- One port's share of a sector's Carafe in bytes (R176). -/
def Module.shareBytes (m : Module) (s : Nat) : Nat := (m.regionBytes s 0 - m.poolBytes s) / 64

/-- The pool's chunks in use. -/
def Module.poolChunks (m : Module) (s : Nat) : List HbmChunk := m.hbm.chunks.filter (fun c => c.sector == s && c.pool)

/-- Does ORDERED staging hold a chunk? -/
def HbmChunk.isStaged (c : HbmChunk) : Bool :=
  match c.use with
  | .staged _ _ => true
  | _ => false

/-- Chunks of the pool that staging holds, and that spill holds (R178). -/
def Module.poolStage (m : Module) (s : Nat) : Nat := ((m.poolChunks s).filter (·.isStaged)).length
def Module.poolSpill (m : Module) (s : Nat) : Nat := ((m.poolChunks s).filter (fun c => !c.isStaged)).length

/-! ### Conflicts (R422, R423) -/

/-- Has a resource of R422 a disabled loser? -/
def Module.lost (m : Module) (resource : Nat) : Bool := bitOf (m.getF K.imgConflict_LOST) resource

/-- Record a conflict over a shared resource (R423). RUNTIME says that it arose after image load. -/
def Module.conflict (m : Module) (resource : Nat) (runtime : Bool) : Module :=
  let m := ((m.setF K.imgConflict_VALID 1).setB K.imgConflict_RUNTIME runtime).setF K.imgConflict_RESOURCE resource
  ((m.setBit K.imgConflict_LOST resource true).addSat K.imgConflict_COUNT 1 0xFFFF).raise .img_IMG_CONFLICT 0

/-- The same, once for each resource in each run. -/
def Module.conflictOnce (m : Module) (resource : Nat) (runtime : Bool) : Module :=
  if m.lost resource then m else m.conflict resource runtime

end Sys2Proof.Machine
end

