-- ==== Sys2Proof/Machine/Queues.lean ====
section
/-! DEFINITION. Output queues, packet SRAM, the Carafe, the Tollgate and the ingress FIFOs
(spec/06_buffers_resequencing_backpressure.md R170 to R180), and the shapers' refill
(spec/07_shaping_and_vc_weights.md R198 to R202). -/

namespace Sys2Proof.Machine

/-! ### Queues -/

/-- A shaper at power-on reset: disabled (R198). -/
def Shaper.off : Shaper :=
  { rate := 0, burst := 16, pending := none, credit := 0, rest := 0, tLast := 0, eligible := false, wheel := none, late := 0
    active := false }

/-- An empty output queue. -/
def OutQueue.empty : OutQueue := { sram := [], carafe := [], spilling := false, shaper := Shaper.off, deficit := 0 }

/-- The output queue of a logical port and VC (R172). -/
def Module.q (m : Module) (lport vc : Nat) : OutQueue := Tbl.get m.buf.queues OutQueue.empty (lport, vc)

def Module.putQ (m : Module) (lport vc : Nat) (q : OutQueue) : Module :=
  { m with buf := { m.buf with queues := Tbl.put m.buf.queues (lport, vc) q } }

/-- The ingress FIFO of a logical port and link VC. -/
def Module.fifo (m : Module) (lport vc : Nat) : List QFrame := Tbl.get m.buf.ingress [] (lport, vc)

def Module.putFifo (m : Module) (lport vc : Nat) (fs : List QFrame) : Module :=
  { m with buf := { m.buf with ingress := Tbl.put m.buf.ingress (lport, vc) fs } }

/-- Bytes of frames. -/
def bytesOf (fs : List QFrame) : Nat := (fs.map (fun f => f.frame.len)).sum

/-- A frame as it enters the module, from an ingress or as the module's own. -/
def Module.newFrame (m : Module) (rcvd f : Frame) (inLport linkVc : Nat) (dest : Dest) (credits : Nat) : QFrame :=
  { frame := f, rcvd := rcvd, inLport := inLport, linkVc := linkVc, dest := dest, credits := credits, acceptAt := m.elapsed
    admitAt := m.elapsed, bufAddr := 0, spilled := false, held := false, deep := false, chunks := [], back := false
    fullNoted := false, denied := false, tollHeld := false, backHeld := false, ctxHeld := false, guarded := false }

/-- A group-type frame, which follows its tree and is never looked up again (R163). -/
def QFrame.isGroup (f : QFrame) : Bool := isGroupType f.frame.h.ftype.toNat

/-- A sync frame of the module's own, which leaves on the link that it was formed for and is not looked up (R547). -/
def QFrame.isSync (f : QFrame) : Bool := decide (2048 ≤ f.inLport) && f.frame.h.ftype == 7 && f.frame.ctl.cls == 3

/-- A frame that is bound to its link: where the link leaves state 3 UP it is discarded and not looked up again. -/
def QFrame.bound (f : QFrame) : Bool := f.isGroup || f.isSync

/-- A queue that holds no frame in SRAM or in the Carafe (R202). The frames of a chunk that are to be handed back have left it
with its link (R163, R208). -/
def OutQueue.isEmpty (q : OutQueue) : Bool :=
  q.sram.isEmpty && q.carafe.all (fun c => c.frames.all (fun f => c.handBack && !f.bound))

/-- A queue that has a Carafe part, behind which new frames go (R176). -/
def OutQueue.spills (q : OutQueue) : Bool := q.carafe.any (fun c => !c.handBack)

/-- Where a queued frame goes out, if it does. -/
def QFrame.outAt (f : QFrame) : Option (Nat × Nat) :=
  match f.dest with
  | .out l v => some (l, v)
  | _ => none

/-- The frames that the resequencer holds for a queue. -/
def Module.heldFor (m : Module) (lport vc : Nat) : List QFrame :=
  m.buf.ctxs.flatMap (fun c => if c.lport = lport then c.held.filter (fun f => f.outAt == some (lport, vc)) else [])

/-- Does a held frame stand on die: neither in the Carafe nor in the deep region (R187)? -/
def QFrame.onDie (f : QFrame) : Bool := f.chunks.isEmpty

/-- The held frames that stand on die. -/
def Module.heldOnDie (m : Module) (lport vc : Nat) : List QFrame := (m.heldFor lport vc).filter (·.onDie)

/-! ### SRAM (R172) -/

/-- SRAM bytes of one VC of a port, held frames included. -/
def Module.portVcBytes (m : Module) (p vc : Nat) : Nat :=
  ((m.lportsOf [p]).map (fun l => bytesOf (m.q l vc).sram + bytesOf (m.heldOnDie l vc))).sum

/-- The reservation of a port for a VC. -/
def reservation (vc : Nat) : Nat := if vc = 0 then 16 * 1024 else if vc = 1 then 32 * 1024 else 0

/-- What a port draws on its guarantee and the shared part: VC0 and VC1 beyond their reservations, and the other VCs. It is what
OQ_MAX bounds (notes/assumptions/172.md). -/
def Module.portHolding (m : Module) (p : Nat) : Nat :=
  ((List.range 8).map (fun vc => m.portVcBytes p vc - reservation vc)).sum

/-- OQ_MIN and OQ_MAX in bytes. -/
def Module.oqMin (m : Module) (s : Nat) : Nat := m.getF (K.bufPlim_OQ_MIN s) * 65536
def Module.oqMax (m : Module) (s : Nat) : Nat := m.getF (K.bufPlim_OQ_MAX s) * 65536

/-- The shared part of a sector's pool, less what retired rows have taken from it (R172, R453). -/
def Module.sharedBytes (m : Module) (s : Nat) : Nat :=
  62 * 2 ^ 20 - 3 * 2 ^ 20 - 64 * m.oqMin s - 128 * m.getF (K.bufSramStat_RETIRED_ROWS s)

/-- The shared part in use. -/
def Module.sharedUsed (m : Module) (s : Nat) : Nat :=
  ((List.range 64).map (fun i => m.portHolding (64 * s + i) - m.oqMin s)).sum

/-- Is there SRAM room for `n` bytes on a VC of a port: reservation, guarantee, then the shared part below OQ_MAX? -/
def Module.sramRoom (m : Module) (p vc n : Nat) : Bool :=
  let s := p / 64
  let before := m.portHolding p
  let after := before + ((m.portVcBytes p vc + n - reservation vc) - (m.portVcBytes p vc - reservation vc))
  decide (after = before) || decide (after ≤ m.oqMin s) ||
    (decide (after ≤ m.oqMax s) &&
      decide (m.sharedUsed s + (after - m.oqMin s) - (before - m.oqMin s) ≤ m.sharedBytes s))

/-! ### Shapers (R198 to R202) -/

/-- Units of shaper credit in a byte (R200). -/
def creditPerByte : Nat := 65536

/-- Parts of a unit: a rate of 1 Mb/s over 1/105 ns brings 1/840,000 byte. -/
def creditParts : Nat := 840000

/-- A slot of the wheel, and its turn, in wheel-clock units. -/
def slotUnits : Nat := 840
def wheelTurn : Nat := 4096 * 840

/-- The signed overhead of a port (R199). -/
def Module.ovh (m : Module) (p : Nat) : Int :=
  let n := m.getF (K.tmOvh_OVH (p / 64) (p % 64))
  if n < 64 then n else (n : Int) - 128

/-- The charged length of a frame on a port (R199). -/
def Module.charged (m : Module) (p len : Nat) : Nat := (max 1 ((len : Int) + m.ovh p)).toNat

/-- Put a shaper on the wheel for `need` more units of credit (R201). -/
def Shaper.insert (sh : Shaper) (now need : Nat) : Shaper :=
  let per := sh.rate * creditPerByte
  let t := now + (need * creditParts + per - 1) / per
  { sh with eligible := false, late := 0
            wheel := some (t / perNs, (t + slotUnits - 1) / slotUnits % 4096, need * creditParts / per / wheelTurn) }

/-- Adopt what is pending (R202); a rate of 0 disables the shaper (R208). -/
def Shaper.adopt (sh : Shaper) : Shaper :=
  match sh.pending with
  | none => sh
  | some (r, b) =>
    if r = 0 then { sh with rate := 0, burst := b, pending := none, credit := 0, rest := 0, eligible := false, wheel := none, late := 0 }
    else { sh with rate := r, burst := b, pending := none }

/-- The credit that the time since the last refill has earned, at most BURST (R200). -/
def Shaper.earn (sh : Shaper) (now : Nat) : Shaper :=
  if sh.rate = 0 then { sh with credit := 0, rest := 0, tLast := now }
  else
    let got := sh.rest + sh.rate * (now - sh.tLast) * creditPerByte
    let c := sh.credit + (got / creditParts : Nat)
    let most : Int := (sh.burst * 1024 * creditPerByte : Nat)
    if most ≤ c then { sh with credit := most, rest := 0, tLast := now }
    else { sh with credit := c, rest := got % creditParts, tLast := now }

/-- One refill (R200): `head` is the charged length of the head frame where the SRAM part holds one. -/
def Shaper.refill (sh : Shaper) (now : Nat) (head : Option Nat) : Shaper :=
  let sh := (sh.earn now).adopt
  if sh.rate = 0 then { sh with eligible := false, wheel := none }
  else
    match head with
    | none => { sh with eligible := false, wheel := none, late := 0 }
    | some l =>
      if ((l * creditPerByte : Nat) : Int) ≤ sh.credit then { sh with eligible := true, wheel := none, late := 0 }
      else sh.insert now (((l * creditPerByte : Nat) : Int) - sh.credit).toNat

/-- The charged length of a queue's head frame in SRAM. -/
def Module.headLen (m : Module) (lport vc : Nat) : Option Nat :=
  (m.q lport vc).sram.head?.map (fun f => m.charged (portOf lport) f.frame.len)

/-- A shaper that is treated as disabled: it earns nothing, and what is written to it is in force (R207, R208). -/
def Shaper.stopped (sh : Shaper) (now : Nat) : Shaper :=
  { sh.adopt with credit := 0, rest := 0, tLast := now, eligible := false, wheel := none, late := 0 }

/-- Refill the shaper of a queue. While its port drains the shaper is treated as disabled (R207). -/
def Module.refillQ (m : Module) (lport vc : Nat) : Module :=
  let q := m.q lport vc
  let sh := if m.isDraining lport then q.shaper.stopped m.buf.wheel else q.shaper.refill m.buf.wheel (m.headLen lport vc)
  let m' := m.putQ lport vc { q with shaper := sh }
  if q.shaper.pending.isSome then m'.raise .tm_SHAPER_APPLIED (sectorOf lport) else m'

/-- A queue that was empty and holds a frame again starts with no credit (R200, R202). -/
def Module.activateQ (m : Module) (lport vc : Nat) : Module :=
  let q := m.q lport vc
  (m.putQ lport vc { q with shaper := { q.shaper with credit := 0, rest := 0, tLast := m.buf.wheel, active := true } }).refillQ lport vc

/-- A queue has emptied: its credit is lost (R202), its deficit is 0 (R204), and its wheel entry is removed (R208). -/
def Module.emptiedQ (m : Module) (lport vc : Nat) : Module :=
  let q := m.q lport vc
  let had := decide (0 < q.shaper.credit)
  let m := m.putQ lport vc { q with
    deficit := 0, spilling := false
    shaper := { q.shaper with credit := 0, rest := 0, active := false, eligible := false, wheel := none, late := 0 } }
  if had then m.raise .tm_CREDIT_DISCARD (sectorOf lport) else m

/-- What a change of a queue's contents means to its shaper: it emptied, it was activated, or a new head has come after a
refill that found none (R200). `before` is the queue as it was. -/
def Module.settleQ (m : Module) (lport vc : Nat) (before : OutQueue) : Module :=
  let q := m.q lport vc
  if q.isEmpty then if before.isEmpty then m else m.emptiedQ lport vc
  else if before.isEmpty then m.activateQ lport vc
  else if before.sram.isEmpty && !q.sram.isEmpty then m.refillQ lport vc
  else m

/-! ### The Tollgate (R179) -/

/-- The generator's mixing function (R151). -/
def mix64 (x : Nat) : Nat :=
  let x := (x ^^^ (x >>> 29)) * 0xA3B195F46C2D8E17 % 2 ^ 64
  let x := (x ^^^ (x >>> 32)) * 0xD2C73E81F5A90B63 % 2 ^ 64
  x ^^^ (x >>> 31)

/-- The bucket of a frame, where the Tollgate counts it: UNICAST, and SLOT outside TIMETABLE, on VC4 or VC5 (R138). -/
def Module.bucket (m : Module) (f : Frame) (vc : Nat) : Option Nat :=
  if (vc = 4 ∨ vc = 5) ∧ (f.h.ftype.toNat = 1 ∨ (f.h.ftype.toNat = 8 ∧ m.profile ≠ 2)) then
    some (mix64 (f.h.src.toNat * 2 ^ 32 + f.h.dst.toNat) % 65536)
  else none

def Module.tollCount (m : Module) (s b : Nat) : Nat := Tbl.get m.buf.toll 0 (s, b)

def Module.tollAdd (m : Module) (s b : Nat) : Module :=
  { m with buf := { m.buf with toll := Tbl.put m.buf.toll (s, b) (m.tollCount s b + 1) } }

def Module.tollSub (m : Module) (s b : Nat) : Module :=
  let n := m.tollCount s b - 1
  { m with buf := { m.buf with toll := if n = 0 then Tbl.del m.buf.toll (s, b) else Tbl.put m.buf.toll (s, b) n } }

/-- A frame admitted to a queue counts in the Tollgate until it leaves. -/
def Module.tollIn (m : Module) (f : QFrame) : Module :=
  match f.dest with
  | .out l vc => match m.bucket f.frame vc with
    | some b => m.tollAdd (sectorOf l) b
    | none => m
  | _ => m

def Module.tollOut (m : Module) (f : QFrame) : Module :=
  match f.dest with
  | .out l vc => match m.bucket f.frame vc with
    | some b => m.tollSub (sectorOf l) b
    | none => m
  | _ => m

/-- Is the bucket of a frame below TOLL_WINDOW? -/
def Module.tollOk (m : Module) (f : Frame) (lport vc : Nat) : Bool :=
  match m.bucket f vc with
  | none => true
  | some b => decide (m.tollCount (sectorOf lport) b < m.getF (K.bufToll_WINDOW (sectorOf lport)))

/-! ### The Carafe (R176 to R178) -/

/-- The logical port whose share a chunk of the Carafe counts in. -/
def HbmChunk.ofLport (c : HbmChunk) : Option Nat :=
  match c.use with
  | .carafe l _ => some l
  | .held l _ _ _ _ => some l
  | _ => none

/-- Chunks of a port's share in use: its queues' and those of held frames. -/
def Module.shareUsed (m : Module) (p : Nat) : Nat :=
  (m.hbm.chunks.filter (fun c => c.region == 0 && !c.pool && c.ofLport.map portOf == some p)).length

/-- The Carafe's traffic in bytes a microsecond: CARAFE_BW scaled by the sector's mean admitted fraction (R177, R339). -/
def Module.carafeRate (m : Module) (s : Nat) : Nat :=
  m.getF (K.bufCarafeCfg_BW s) * 100000 * (((List.range 4).map (fun i => m.getF (K.hbmStatus_ADMIT (4 * s + i)))).sum) / 16

/-- The Carafe budget of a sector now, in bytes (R177). A frame of several chunks may leave it below 0. -/
def Module.budget (m : Module) (s : Nat) : Int :=
  let (b, at_) := Tbl.get m.buf.budget ((m.carafeRate s : Int), 0) s
  min (m.carafeRate s : Int) (b + (m.carafeRate s * (m.elapsed - at_) / perUs : Nat))

/-- Take one chunk from the budget. -/
def Module.spend (m : Module) (s : Nat) : Module :=
  { m with buf := { m.buf with budget := Tbl.put m.buf.budget s (m.budget s - 4096, m.elapsed) } }

/-- Spill has lost the Carafe pool (R178). -/
def Module.poolLost (m : Module) (s : Nat) : Bool := m.isOn (K.bufStatus_POOL_LOST s)

/-- Is the Carafe in use in a sector? -/
def Module.carafeOn (m : Module) (s : Nat) : Bool := m.hasHbm s && decide (0 < m.regionBytes s 0)

/-- How many whole chunks a port may still take of its share. -/
def Module.shareFree (m : Module) (p : Nat) : Nat := m.shareBytes (p / 64) / 4096 - m.shareUsed p

/-- Spill and staging want the pool at once: the resource-priority table decides for good (R178, R422 resource 1). Bit 1
of IMG_PRIO.WINNER lets spill win. -/
def Module.contestPool (m : Module) (s : Nat) : Module :=
  if m.hbm.stagePool && !m.poolLost s && !m.buf.poolStageLost.contains s then
    let m := m.conflictOnce 1 true
    if bitOf (m.getF K.imgPrio_WINNER) 1 then
      { m with buf := { m.buf with poolStageLost := m.buf.poolStageLost ++ [s] } }
    else m.setF (K.bufStatus_POOL_LOST s) 1
  else m

/-- Has the pool `n` free chunks? -/
def Module.poolRoom (m : Module) (s n : Nat) : Bool := decide (((m.poolChunks s).length + n) * 4096 ≤ m.poolBytes s)

/-- The frames of a queue's Carafe chunks that have not closed, which stand in the chunk staging (R170). -/
def OutQueue.filling (q : OutQueue) : List QFrame := (q.carafe.filter (fun c => !c.closed)).flatMap (·.frames)

/-- The oldest chunk that still fills closes. -/
def closeFirst : List Chunk → List Chunk
  | [] => []
  | c :: rest => if c.closed then c :: closeFirst rest else { c with closed := true } :: rest

/-- The chunks without the `i`-th of the frames that fill them, and that frame. -/
def dropFilling : List Chunk → Nat → List Chunk × Option QFrame
  | [], _ => ([], none)
  | c :: rest, i =>
    if !c.closed && decide (i < c.frames.length) then
      ({ c with frames := c.frames.eraseIdx i, cont := c.cont && i != 0 } :: rest, c.frames[i]?)
    else
      let x := dropFilling rest (if c.closed then i else i - c.frames.length)
      (c :: x.1, x.2)

/-- How many new chunks a frame needs at a queue's Carafe tail. -/
def OutQueue.chunksFor (q : OutQueue) (len : Nat) : Nat :=
  let free := match q.carafe.getLast? with
    | some c => if c.closed then 0 else 4096 - c.bytes
    | none => 0
  chunksOf (len - free)

/-- Spill asks for `n` chunks on a port: its share first, then the pool while spill has not lost it. -/
def Module.carafeRoom (m : Module) (p n : Nat) : Bool :=
  let s := p / 64
  m.carafeOn s && (decide (n ≤ m.shareFree p) || (!m.poolLost s && m.poolRoom s (n - m.shareFree p)))

/-- A port's share has filled (R177). -/
def Module.noteFull (m : Module) (p : Nat) : Module :=
  if m.shareFree p == 0 && !m.buf.fullPorts.contains p then
    ({ m with buf := { m.buf with fullPorts := m.buf.fullPorts ++ [p] } }).raise .buf_CARAFE_FULL (p / 64)
  else if m.shareFree p == 0 then m
  else { m with buf := { m.buf with fullPorts := m.buf.fullPorts.filter (· ≠ p) } }

/-- A queue's frames have come to stand in the Carafe: the first time it counts CARAFE_SPILL (R177). -/
def Module.noteSpill (m : Module) (lport vc : Nat) : Module :=
  let q := m.q lport vc
  if q.spilling then m else (m.putQ lport vc { q with spilling := true }).raise .buf_CARAFE_SPILL (sectorOf lport)

/-- Has a queue no chunk left, nor a held frame in one? Its next spill is a first one again. -/
def Module.settleSpill (m : Module) (lport vc : Nat) : Module :=
  let q := m.q lport vc
  m.putQ lport vc { q with spilling := !q.carafe.isEmpty || (m.heldFor lport vc).any (fun f => !f.onDie && !f.deep) }

/-- Take a chunk for a queue: of its port's share, or where that is full of the pool. -/
def Module.takeCarafe (m : Module) (lport vc : Nat) (use : ChunkUse) : Module :=
  let p := portOf lport
  let m := (m.newChunk (p / 64) 0 (m.shareFree p == 0) none use).spend (p / 64)
  (m.noteSpill lport vc).noteFull p

/-- Open a chunk at a queue's Carafe tail. -/
def Module.openChunk (m : Module) (lport vc : Nat) (cont : Bool) : Module :=
  let c : Chunk := { frames := [], bytes := 0, cont := cont, closed := false, handBack := false, index := m.hbm.nextNo }
  let q := m.q lport vc
  (m.putQ lport vc { q with carafe := q.carafe ++ [c] }).takeCarafe lport vc (.carafe lport vc)

/-- The chunks after one that is lost, without the frame that began in it or before it; and that frame. -/
def dropCont : List Chunk → List Chunk × List QFrame
  | [] => ([], [])
  | c :: rest =>
    if c.cont then
      match c.frames with
      | f :: fs => ({ c with frames := fs, cont := false } :: rest, [f])
      | [] => (c :: (dropCont rest).1, (dropCont rest).2)
    else (c :: rest, [])

/-- Give a queue's chunk back. -/
def Module.freeChunk (m : Module) (p : Nat) (c : Chunk) : Module := (m.freeChunks [c.index]).noteFull p

/-- Write `rest` bytes of a frame at the Carafe tail, the frame standing in the chunk that takes its last byte (R177). -/
def Module.writeCarafe (m : Module) (lport vc : Nat) (f : QFrame) (rest : Nat) : Nat → Module
  | 0 => m
  | fuel + 1 =>
    let q := m.q lport vc
    match q.carafe.getLast? with
    | some c =>
      if c.closed then (m.openChunk lport vc (decide (rest < f.frame.len))).writeCarafe lport vc f rest fuel
      else if rest ≤ 4096 - c.bytes then
        let c := { c with bytes := c.bytes + rest, frames := c.frames ++ [{ f with spilled := true }] }
        m.putQ lport vc { q with carafe := q.carafe.dropLast ++ [{ c with closed := c.bytes == 4096 }] }
      else
        (m.putQ lport vc { q with carafe := q.carafe.dropLast ++ [{ c with bytes := 4096, closed := true }] }).writeCarafe
          lport vc f (rest - (4096 - c.bytes)) fuel
    | none => (m.openChunk lport vc false).writeCarafe lport vc f rest fuel

/-- Put a frame at a queue's Carafe tail. -/
def Module.appendCarafe (m : Module) (lport vc : Nat) (f : QFrame) : Module := m.writeCarafe lport vc f f.frame.len 8

/-- Put a frame at the end of a queue's SRAM part. -/
def Module.appendSram (m : Module) (lport vc : Nat) (f : QFrame) : Module :=
  let q := m.q lport vc
  m.putQ lport vc { q with sram := q.sram ++ [f] }

/-- Put a frame that has its place into the FIFO of its queue: at its Carafe tail, or at the end of its SRAM part. -/
def Module.enqueue (m : Module) (lport vc : Nat) (f : QFrame) (carafe : Bool) : Module :=
  let before := m.q lport vc
  (if carafe then m.appendCarafe lport vc f else m.appendSram lport vc f).settleQ lport vc before

/-! ### Read-back (R177) -/

/-- May the oldest chunk of a queue be read back, the budget apart: it has closed, the SRAM part is below 512 KiB, and the port
has room? The frames of a link that has left state 3 UP are handed back instead (R163). -/
def Module.readable (m : Module) (lport vc : Nat) : Bool :=
  match (m.q lport vc).carafe with
  | [] => false
  | c :: _ =>
    c.closed && (c.handBack || (decide (bytesOf (m.q lport vc).sram < 524288)
      && m.sramRoom (portOf lport) vc (bytesOf c.frames)))

/-- Can the stack of a chunk issue its read now (R334)? -/
def Module.canRead (m : Module) (no : Nat) : Bool :=
  match m.hbmChunk no with
  | some c => m.issues (octetStack c.sector c.octet) (regionPriority c.region)
  | none => true

/-- May the oldest chunk of a queue be read back now: the budget and its stack allow it too? -/
def Module.mayReadBack (m : Module) (lport vc : Nat) : Bool :=
  m.readable lport vc && decide (4096 ≤ m.budget (sectorOf lport))
    && ((m.q lport vc).carafe.head?.map (fun c => m.canRead c.index)).getD false

/-- The queues of a sector whose oldest chunk waits to be read back. -/
def Module.readers (m : Module) (s : Nat) : List (Nat × Nat) :=
  (m.buf.queues.filter (fun x => sectorOf x.1.1 == s && m.readable x.1.1 x.1.2)).map Prod.fst

/-- Has the budget 4 KiB for a new write, what waits to be read back served ahead of it (R177)? -/
def Module.writeBudget (m : Module) (s : Nat) : Bool := decide (((4096 * ((m.readers s).length + 1) : Nat) : Int) ≤ m.budget s)

/-! ### Where a frame is admitted (R176) -/

/-- The places of R176. -/
inductive Place where
  | sram
  | carafe
  | wait
  deriving DecidableEq, Repr

/-- Where a frame of `len` bytes goes on its way to a queue (R176), the Tollgate apart. -/
def Module.place (m : Module) (lport vc len : Nat) : Place :=
  let p := portOf lport
  let q := m.q lport vc
  if vc ≤ 1 then if m.sramRoom p vc len then .sram else .wait
  else if !q.spills && m.sramRoom p vc len then .sram
  else if m.carafeRoom p (q.chunksFor len) && m.writeBudget (p / 64) && m.canWrite (p / 64) 0 then .carafe
  else .wait

/-- Spill wants `n` chunks of the pool while staging holds some: the priority table decides (R178). -/
def Module.wantPool (m : Module) (p n : Nat) : Module :=
  let s := p / 64
  let want := n - m.shareFree p
  if m.carafeOn s && !m.poolLost s && decide (0 < want) && decide (0 < m.poolStage s) && !m.poolRoom s want then
    m.contestPool s
  else m

/-- The same for a frame that finds no place in SRAM on its way to a queue. -/
def Module.contested (m : Module) (lport vc len : Nat) : Module :=
  if vc ≤ 1 ∨ m.place lport vc len = .sram then m else m.wantPool (portOf lport) ((m.q lport vc).chunksFor len)

/-- What the Carafe has to do with a frame that finds no room for `n` chunks on a port: a pool lost to staging denies it (R178),
and a full Carafe counts REGION_FULL (R332), each once for the frame. -/
def Module.noteNoRoom (m : Module) (p n : Nat) (f : QFrame) : Module × QFrame :=
  let s := p / 64
  if !m.carafeOn s || m.carafeRoom p n then (m, f)
  else
    let denied := m.poolLost s && m.poolRoom s (n - m.shareFree p)
    let m' := if f.fullNoted then m else m.regionFull s
    let m' := if denied && !f.denied then m'.raise .buf_CARAFE_DENIED s else m'
    (m', { f with fullNoted := true, denied := f.denied || denied })

end Sys2Proof.Machine
end

