-- ==== Sys2Proof/Machine/Forward.lean ====
section
/-! DEFINITION. The forwarding pipeline: parsing, the route tables, Detour spraying and the virtual channels
(spec/05_forwarding_and_detour.md R137 to R164). -/

namespace Sys2Proof.Machine

/-! ### The generator (R151, R152) -/

/-- The spray generator. -/
def sprayDraw (seed src dst flow seq myLoc stage : Nat) : Nat :=
  let a := mix64 (seed ^^^ (src * 2 ^ 32 + dst))
  let b := mix64 (a ^^^ (flow * 2 ^ 40 + seq * 2 ^ 8 + stage))
  mix64 (b ^^^ myLoc)

/-- The draw of a frame at this module. -/
def Module.drawFor (m : Module) (h : Header) (stage : Nat) : Nat :=
  sprayDraw m.seed h.src.toNat h.dst.toNat h.flow.toNat h.seq.toNat m.loc.toNat stage

/-- The member at which a running weight passes `t`. -/
def pickAt (t : Nat) : List (Member × Bool) → Option Member
  | [] => none
  | (mb, live) :: rest => if !live then pickAt t rest else if t < mb.weight then some mb else pickAt (t - mb.weight) rest

/-- Pick a member by weight among the live ones (R152). -/
def pick (ms : List (Member × Bool)) (r : Nat) : Option Member :=
  let w := ((ms.filter (·.2)).map (·.1.weight)).sum
  if w = 0 then none else pickAt ((r / 2 ^ 32) * w / 2 ^ 32) ms

/-! ### Tables (R146 to R148) -/

/-- Does a route entry match a key (R146)? -/
def RouteEntry.hits (e : RouteEntry) (key : BitVec 32) : Bool :=
  let keep := 32 - prefixBits e.level.toNat
  e.valid && (key >>> keep) == (e.value >>> keep)

/-- The longest match so far: a longer level wins, and among equal ones the lower index. -/
def betterRoute (key : BitVec 32) (best : Option (Nat × RouteEntry)) (x : Nat × BitVec 64) : Option (Nat × RouteEntry) :=
  let e := RouteEntry.decode x.2
  if e.hits key then
    match best with
    | none => some (x.1, e)
    | some (i, b) =>
      if b.level.toNat < e.level.toNat ∨ (b.level = e.level ∧ x.1 < i) then some (x.1, e) else some (i, b)
  else best

/-- The entry that matches a key longest (R146). -/
def RouteTables.lpm (t : RouteTables) (key : BitVec 32) : Option RouteEntry :=
  (t.route.foldl (betterRoute key) none).map Prod.snd

/-- The members that a candidate set lists (R148). -/
def RouteTables.members (t : RouteTables) (cset : Nat) : List Member :=
  let e := (Tbl.get t.set 0 cset).toNat
  let base := bitsOf e 31 16
  let count := clampTo 1 64 (bitsOf e 6 0)
  (List.range (min count (65536 - base))).map (fun i => Member.decode (Tbl.get t.member 0 (base + i)))

/-- The members of a set with their liveness (R150), restricted by DETOUR_SCOPE (R155) to the ingress sector. -/
def Module.inScope (m : Module) (sector cset : Nat) : List (Member × Bool) :=
  let all := (m.fwd.active.members cset).map (fun mb => (mb, m.live mb.lport))
  let near := all.filter (fun x => sectorOf x.1.lport == sector)
  if m.isOn (K.fwdCtrl_DETOUR_SCOPE sector) && near.any (·.2) then near else all

/-! ### Virtual channels (R157) -/

/-- The VC of a frame, from its header. -/
def vcOf (profile : Nat) (h : Header) : Nat :=
  match h.ftype.toNat with
  | 7 => 0
  | 8 => if profile = 2 then 6 else if h.esc = 1 then 1 else if h.phase = 0 then 4 else 5
  | 1 => if h.esc = 1 then 1 else if h.phase = 0 then 4 else 5
  | 2 => if h.phase = 0 then 4 else 5
  | _ => if h.phase = 0 then 2 else 3

/-! ### Parsing (R143, R144) -/

/-- Does an extension match a layout of the parse graph? -/
def Layout.fits (l : Layout) (f : Frame) : Bool :=
  l.ftype == f.h.ftype.toNat && l.xlen == f.h.xlen.toNat &&
    l.fields.all (fun (at_, mask, v) => (f.body.getD at_ 0 &&& mask) == v)

/-- KIND must agree with FTYPE (R223). -/
def kindFits (ftype kind : Nat) : Bool :=
  match ftype with
  | 3 => decide (kind ≤ 1)
  | 4 => kind == 2
  | 5 => decide (3 ≤ kind) && decide (kind ≤ 5)
  | _ => kind == 6

/-- The collective extension of a frame (R223). -/
def Frame.col (f : Frame) : CollExt := CollExt.decode (ofBytes f.ext)

/-- Does a frame parse? `len` is the link payload's length. -/
def Module.parses (m : Module) (f : Frame) (len : Nat) : Bool :=
  let h := f.h
  let t := h.ftype.toNat
  h.ver == 1 && decide (1 ≤ t) && decide (t ≤ 8)
    && (if isGroupType t then decide (h.dst.toNat < 2 ^ 20) else h.dst != 0 && h.src != 0)
    && decide (24 + 8 * h.xlen.toNat ≤ len)
    && (if t = 7 then h.xlen == 4
        else if 3 ≤ t ∧ t ≤ 6 then h.xlen == 8 && kindFits t f.col.kind
        else h.xlen == 0 || m.fwd.graph.any (fun l => l.fits f))

/-! ### The decision of R153 -/

/-- The header after a member is chosen: INTER where one was drawn, and PHASE. -/
def Module.viaMember (m : Module) (h : Header) (e : RouteEntry) (drew : Bool) (mb : Member) : Header :=
  let h := if drew then { h with inter := if mb.inter = 0 then m.peerLoc mb.lport else mb.inter } else h
  if !e.up || m.peerLoc mb.lport == h.inter then { h with phase := 1 } else h

/-- Occupancy of the queue a frame would join by a member, in bytes. -/
def Module.qdepth (m : Module) (h : Header) (e : RouteEntry) (drew : Bool) (mb : Member) : Nat :=
  let q := m.q mb.lport (vcOf m.profile (m.viaMember h e drew mb))
  bytesOf q.sram + (q.carafe.map (·.bytes)).sum

/-- What the pipeline decides: a discard with its event, or the frame as it leaves with its output and VC. `escaped` says
that it moved to the escape channel for want of a live member. -/
inductive Decision where
  | discard (e : Ev)
  | send (f : Frame) (lport vc : Nat) (escaped : Bool)
  deriving DecidableEq, Repr

/-- Leave on the escape output, where its link is UP (R153, R162). -/
def Module.viaEscape (m : Module) (f : Frame) (h : Header) (e : RouteEntry) (escaped : Bool) : Decision :=
  let h := { h with esc := 1 }
  if m.isUp e.escLport.toNat then
    .send (f.withH { h with hops := h.hops - 1 }) e.escLport.toNat (vcOf m.profile h) escaped
  else .discard .fwd_NO_PATH

/-- The member that the decision of R153 picks: in TIMETABLE the first live one; a drawn intermediate for an up-phase frame
that has none; else by the stage-1 draw. -/
def Module.choose (m : Module) (h : Header) (e : RouteEntry) (s : List (Member × Bool)) : Option (Member × Bool) :=
  if m.timetable then ((s.filter (·.2)).head?).map (fun x => (x.1, false))
  else if h.phase = 0 ∧ h.inter = 0 ∧ e.spray = true then
    match pick s (m.drawFor h 0) with
    | none => none
    | some i =>
      if m.profile = 0 then
        match pick s (m.drawFor h 2) with
        | some j => if m.qdepth h e true j < m.qdepth h e true i then some (j, true) else some (i, true)
        | none => some (i, true)
      else some (i, true)
  else (pick s (m.drawFor h 1)).map (fun i => (i, false))

/-- The decision for a location-type frame that entered on `sector` (R153). -/
def Module.route (m : Module) (sector : Nat) (f : Frame) : Decision :=
  let h := f.h
  let h := if h.phase = 0 ∧ h.inter = m.loc then { h with phase := 1 } else h
  let key := if h.phase = 0 ∧ h.inter ≠ 0 ∧ h.esc = 0 then h.inter else h.dst
  match m.fwd.active.lpm key with
  | none => .discard .fwd_NO_ROUTE
  | some e =>
    if h.esc = 1 ∨ (h.phase = 1 ∧ e.up = true) then m.viaEscape f h e false
    else
      match m.choose h e (m.inScope sector e.cset.toNat) with
      | none => m.viaEscape f h e true
      | some (mb, drew) =>
        let h := m.viaMember h e drew mb
        .send (f.withH { h with hops := h.hops - 1 }) mb.lport (vcOf m.profile h) false

/-- Does a frame at this decision meet an up entry in its down phase (R153)? It counts whatever comes of it. -/
def Module.meetsUp (m : Module) (f : Frame) : Bool :=
  let h := f.h
  let down := h.phase == 1 || h.inter == m.loc
  down && h.esc == 0 &&
    (match m.fwd.active.lpm h.dst with
     | some e => e.up
     | none => false)

/-- Look a location-type frame up in the pipeline of a sector, counting what R153 and R162 count. -/
def Module.lookup (m : Module) (sector : Nat) (f : Frame) : Module × Option (Frame × Nat × Nat) :=
  let d := m.route sector f
  let m := if m.meetsUp f then m.raise .fwd_DOWN_UP_FAULT sector else m
  match d with
  | .discard e => (m.raise e sector, none)
  | .send f' l v escaped => (if escaped then m.raise .fwd_ESCAPE sector else m, some (f', l, v))

/-! ### The group directory (R142) -/

/-- The group definition that a version's directory gives an identifier: the valid one of lowest index. -/
def GroupTables.directory (t : GroupTables) (id : Nat) : Option Nat :=
  t.defs.foldl (fun best x =>
    let d := GroupDef.decode x.2
    if d.valid && d.groupId == id then
      match best with
      | none => some x.1
      | some i => some (min i x.1)
    else best) none


end Sys2Proof.Machine
end

