-- ==== Sys2Proof/Machine/Originate.lean ====
section
/-! DEFINITION. Frames that the module sends of its own accord, or passes on along a group's tree: they wait for their
output queue as arriving frames do (spec/06_buffers_resequencing_backpressure.md R176, R180). -/

namespace Sys2Proof.Machine

/-- The waiting place of what the module itself sends to an output: beyond the LPORTs of the ingress FIFOs. -/
def ownFifo (lport : Nat) : Nat := 4096 + lport

/-- The sector from which a frame crosses the crossbar: that of its ingress port, or the one that originated it (R547). -/
def originOf (inLport : Nat) : Nat := if inLport < 2048 then sectorOf inLport else inLport - 2048

/-- A frame of the module's own on its way to an output, from a sector: as it was formed, and as it will leave. -/
def Module.ownFrame (m : Module) (sector lport vc : Nat) (formed f : Frame) : QFrame :=
  m.newFrame formed f (2048 + sector) vc (.out lport vc) 0

/-- A frame crosses the crossbar in cells of 256 B (R473). For how many core cycles no plane accepted one of them is open. -/
def Module.crossXbar (m : Module) (f : QFrame) (lport : Nat) : Module :=
  let s := originOf f.inLport
  let m := m.count (if sectorOf lport = s then Ev.sector_XBAR_CELL_LOCAL.num else Ev.sector_XBAR_CELL_OUT.num) s
    ((f.frame.len + 255) / 256)
  m.drawn.count Ev.sector_XBAR_STALL.num s (m.openWord.toNat % 2 ^ 32)

/-- A buffer address of a record (R481): which word of packet SRAM, or which chunk of the Carafe, is open. -/
def Module.openAddr (m : Module) (carafe : Bool) : BitVec 32 :=
  if carafe then BitVec.ofNat 32 (2 ^ 31 + m.openWord.toNat % 2 ^ 24) else (m.openWord.setWidth 25).setWidth 32

/-- What comes of a frame at its output queue: it is in, or it finds no place. -/
inductive Admit where
  | taken (m : Module)
  | refused (m : Module) (f : QFrame)

/-- Admit a frame to its output queue at once, where there is a place for it (R176); where there is none, what the Carafe has to
do with that is counted (R178, R332). The SRAM word or the Carafe chunk at which it is put is open (R481). -/
def Module.tryAdmit (m : Module) (lport vc : Nat) (f : QFrame) : Admit :=
  let m := m.contested lport vc f.frame.len
  let in_ (carafe : Bool) : Module :=
    let f' := { f with admitAt := m.elapsed, bufAddr := m.openAddr carafe }
    ((m.drawn.crossXbar f' lport).tollIn f').enqueue lport vc f' carafe
  match m.place lport vc f.frame.len with
  | .sram => .taken (in_ false)
  | .carafe => .taken (in_ true)
  | .wait =>
    if vc ≤ 1 then .refused m f
    else
      let x := m.noteNoRoom (portOf lport) ((m.q lport vc).chunksFor f.frame.len) f
      .refused x.1 x.2

/-- Admit what the module's own frames for an output can. -/
def Module.drainOwn (m : Module) (lport vc : Nat) : Nat → Module
  | 0 => m
  | fuel + 1 =>
    match m.fifo (ownFifo lport) vc with
    | [] => m
    | f :: rest =>
      match m.tryAdmit lport vc f with
      | .taken m => (m.putFifo (ownFifo lport) vc rest).drainOwn lport vc fuel
      | .refused m f => m.putFifo (ownFifo lport) vc (f :: rest)

/-- May frames be queued for a link: it is UP, retraining or draining? A group's tree names one link, so a group frame for
any other state is discarded (R163). -/
def Module.takesFrames (m : Module) (lport : Nat) : Bool :=
  m.isLport lport && (m.linkState lport == 3 || m.linkState lport == 4 || m.linkState lport == 5)

/-- Does the bridge keep a frame off this output: a host port takes only CONTROL frames for its partner (R410)? -/
def Module.hostKeeps (m : Module) (lport : Nat) (f : Frame) : Bool :=
  m.link.hostPorts.contains lport && !(f.h.ftype == 7 && f.h.dst == m.peerLoc lport)

/-- Send a frame to an output from a sector (R547): `formed` is the frame before its lookup, where it had one. One for a link
that is not in service, or for an LPORT that the splits do not make (R238), is discarded and counted (R163, R181). -/
def Module.originate (m : Module) (sector lport vc : Nat) (formed f : Frame) : Module :=
  if m.hostKeeps lport f then m.raise .mpc_HOST_REFUSED 0
  else if !m.takesFrames lport then m.raiseLnk .lnk_LINK_DISCARD lport
  else
    let own := m.fifo (ownFifo lport) vc
    (m.putFifo (ownFifo lport) vc (own ++ [m.ownFrame sector lport vc formed f])).drainOwn lport vc (own.length + 1)

end Sys2Proof.Machine
end

