-- ==== Sys2Proof/Machine/Arith.lean ====
section
/-! DEFINITION. The formats of spec/09_exact_reduction_arithmetic.md, exact values, the single rounding, records,
partials' encoding, and the values of recipes (spec/10_recipes.md R281). -/

namespace Sys2Proof.Machine

/-! ### Formats (R251) -/

/-- A float format: exponent and fraction bits, p, emin, emax, bias, and whether it has an infinity. `drop` is the
container's fraction bits that the format does not use (FP19). -/
structure Fmt where
  ebits : Nat
  fbits : Nat
  p : Nat
  emin : Int
  emax : Int
  bias : Int
  hasInf : Bool
  drop : Nat
  deriving DecidableEq, Repr

/-- The float formats by code; for the MX codes, the element's format. -/
def fmtOf (code : Nat) : Option Fmt :=
  match code with
  | 0x00 => some ⟨8, 23, 24, -126, 127, 127, true, 0⟩
  | 0x01 => some ⟨8, 23, 11, -126, 127, 127, true, 13⟩
  | 0x02 => some ⟨5, 10, 11, -14, 15, 15, true, 0⟩
  | 0x03 => some ⟨8, 7, 8, -126, 127, 127, true, 0⟩
  | 0x04 | 0x06 => some ⟨4, 3, 4, -6, 8, 7, false, 0⟩
  | 0x05 | 0x07 => some ⟨5, 2, 3, -14, 15, 15, true, 0⟩
  | 0x08 => some ⟨3, 2, 3, -2, 4, 3, false, 0⟩
  | 0x09 => some ⟨2, 3, 4, 0, 2, 1, false, 0⟩
  | 0x0A => some ⟨2, 1, 2, 0, 2, 1, false, 0⟩
  | 0x18 => some ⟨11, 52, 53, -1022, 1023, 1023, true, 0⟩
  | _ => none

/-- The width of an integer format in bits. -/
def intBits (code : Nat) : Option Nat :=
  match code with
  | 0x10 => some 8 | 0x11 => some 16 | 0x12 => some 32 | 0x13 => some 64 | _ => none

def isInt (code : Nat) : Bool := (intBits code).isSome
def isMx (code : Nat) : Bool := decide (6 ≤ code) && decide (code ≤ 10)
def isFmt (code : Nat) : Bool := isInt code || (fmtOf code).isSome

/-- Bits of one element of a format. -/
def elemBits (code : Nat) : Nat :=
  match intBits code with
  | some b => b
  | none => match fmtOf code with
    | some f => 1 + f.ebits + f.fbits
    | none => 0

/-- Bytes of an MX block of 32 elements with its scale (R252). -/
def blockBytes (code : Nat) : Nat := 1 + 4 * elemBits code

/-- Bytes that `n` elements of a format take (R252). -/
def dataBytes (code n : Nat) : Nat := if isMx code then (n + 31) / 32 * blockBytes code else n * (elemBits code / 8)

/-! ### Exact values -/

/-- Does a format encode E4M3's one NaN (R251)? -/
def Fmt.isE4M3 (f : Fmt) : Bool := f.ebits == 4 && f.fbits == 3

/-- Decode a pattern of a float format (R251, R253). -/
def Fmt.decode (f : Fmt) (w : Nat) : Val :=
  let neg := bitOf w (f.ebits + f.fbits)
  let e := bitsOf w (f.ebits + f.fbits - 1) f.fbits
  let fr := w % 2 ^ f.fbits
  let top := e == 2 ^ f.ebits - 1
  if f.hasInf && top then (if fr = 0 then .inf neg else .nan)
  else if f.isE4M3 && top && fr == 7 then .nan
  else
    let fr := fr / 2 ^ f.drop
    let n := if e = 0 then fr else fr + 2 ^ (f.p - 1)
    if n = 0 then .zero neg else .fin neg n ((max e 1 : Nat) - f.bias - (f.p - 1 : Nat))

/-- A two's-complement pattern of `b` bits as an integer. -/
def signedOf (b w : Nat) : Int := if w < 2 ^ (b - 1) then w else (w : Int) - 2 ^ b

/-- An integer as a value. -/
def Val.ofInt (z : Int) : Val := if z = 0 then .zero false else .fin (decide (z < 0)) z.natAbs 0

/-- Decode one scalar element of a format. -/
def decodeElem (code w : Nat) : Val :=
  match intBits code with
  | some b => Val.ofInt (signedOf b w)
  | none => match fmtOf code with
    | some f => f.decode w
    | none => .nan

/-- An element of an MX block under its scale byte (R253), and whether it overflowed to an infinity. -/
def scaleElem (c : Nat) (v : Val) : Val × Bool :=
  if c = 0xFF then (.nan, false)
  else match v with
    | .fin neg n q =>
      let q := q + ((c : Int) - 127)
      if 128 ≤ (Nat.log2 n : Int) + q then (.inf neg, true) else (.fin neg n q, false)
    | v => (v, false)

/-- The bit patterns of `k` elements of `b` bits in a number of `k * b` bits, first element highest. -/
def unpack (b k n : Nat) : List Nat := (List.range k).map (fun i => n / 2 ^ (b * (k - 1 - i)) % 2 ^ b)

/-- Scalar elements of a frame's data. -/
def scalarPatterns (b : Nat) (n : Nat) (data : List Byte) : List Nat :=
  (List.range n).map (fun i => ofBytes ((data.drop (i * (b / 8))).take (b / 8)))

/-- Decode the elements of a contribution's data (R252, R253), and whether an MX value overflowed. -/
def decodeData (code n : Nat) (data : List Byte) : List Val × Bool :=
  if isMx code then
    let blocks := (List.range ((n + 31) / 32)).flatMap (fun i =>
      let blk := (data.drop (i * blockBytes code)).take (blockBytes code)
      let c := (blk.headD 0).toNat
      (unpack (elemBits code) 32 (ofBytes blk.tail)).map (fun w => scaleElem c (decodeElem code w)))
    let got := blocks.take n
    (got.map Prod.fst, got.any (·.2))
  else ((scalarPatterns (elemBits code) n data).map (decodeElem code), false)

/-! ### Rounding (R257, R258) -/

/-- ⌊log2 (num / den × 2^q)⌋ for num and den above 0. -/
def log2Of (num den : Nat) (q : Int) : Int :=
  let l := (Nat.log2 num : Int) - (Nat.log2 den : Int)
  let ok := if 0 ≤ l then decide (den * 2 ^ l.toNat ≤ num) else decide (den ≤ num * 2 ^ (-l).toNat)
  (if ok then l else l - 1) + q

/-- Does the magnitude round up (R258)? The remainder is rem/den of a unit. -/
def roundUp (mode : Nat) (neg : Bool) (odd : Bool) (rem den u : Nat) : Bool :=
  match mode with
  | 0 => decide (den < 2 * rem) || (decide (2 * rem = den) && odd)
  | 1 => decide (den ≤ 2 * rem)
  | 2 => false
  | 3 => decide (rem ≠ 0) && !neg
  | 4 => decide (rem ≠ 0) && neg
  | _ => decide (rem ≠ 0) && decide (u < rem * 2 ^ 32 / den)

/-- Round num/den × 2^q to a multiple of 2^unit: the multiple, and whether it was exact. -/
def roundAt (unit : Int) (mode : Nat) (neg : Bool) (num den : Nat) (q : Int) (u : Nat) : Nat × Bool :=
  let s := q - unit
  let (a, b) := if 0 ≤ s then (num * 2 ^ s.toNat, den) else (num, den * 2 ^ (-s).toNat)
  let n := a / b
  let rem := a % b
  (if roundUp mode neg (n % 2 == 1) rem b u then n + 1 else n, rem == 0)

/-- A rounded magnitude n × 2^q with n below 2^p. -/
def roundMag (p : Nat) (emin : Int) (mode : Nat) (neg : Bool) (num den : Nat) (q : Int) (u : Nat) : Nat × Int × Bool :=
  let unit := max (log2Of num den q) emin - (p - 1 : Nat)
  let (n, ex) := roundAt unit mode neg num den q u
  if n = 2 ^ p then (n / 2, unit + 1, ex) else (n, unit, ex)

/-- The largest significand of a format. -/
def Fmt.maxSig (f : Fmt) : Nat := if f.isE4M3 then 14 else 2 ^ f.p - 1

/-- Is n × 2^q beyond a format's largest finite value? -/
def Fmt.beyond (f : Fmt) (n : Nat) (q : Int) : Bool :=
  let top := f.emax - (f.p - 1 : Nat)
  decide (top < q) || (decide (q = top) && decide (f.maxSig < n))

/-- The largest finite value with a sign. -/
def Fmt.maxVal (f : Fmt) (neg : Bool) : Val := .fin neg f.maxSig (f.emax - (f.p - 1 : Nat))

/-- What replaces an overflowed result (R258). -/
def Fmt.overflow (f : Fmt) (mode : Nat) (neg : Bool) : Val :=
  let big := match mode with
    | 2 => false
    | 3 => !neg
    | 4 => neg
    | _ => true
  if big && f.hasInf then .inf neg else f.maxVal neg

/-- Round ± num/den × 2^q to a format: the value, whether it overflowed, and whether it was exact. -/
def Fmt.round (f : Fmt) (mode : Nat) (neg : Bool) (num den : Nat) (q : Int) (u : Nat) : Val × Bool × Bool :=
  let (n, q', ex) := roundMag f.p f.emin mode neg num den q u
  if f.beyond n q' then (f.overflow mode neg, true, false)
  else (if n = 0 then .zero neg else .fin neg n q', false, ex)

/-- The pattern of a value of a format (R257). NaN is canonical, or E4M3's; a format without infinity or NaN has none here. -/
def Fmt.encode (f : Fmt) (v : Val) : Nat :=
  let sg (neg : Bool) := flag neg * 2 ^ (f.ebits + f.fbits)
  match v with
  | .nan => if f.isE4M3 then 0x7F else (2 ^ f.ebits - 1) * 2 ^ f.fbits + 2 ^ (f.fbits - 1)
  | .inf neg => sg neg + (2 ^ f.ebits - 1) * 2 ^ f.fbits
  | .zero neg => sg neg
  | .fin neg n q =>
    if n < 2 ^ (f.p - 1) then sg neg + n * 2 ^ f.drop
    else sg neg + (q + (f.p - 1 : Nat) + f.bias).toNat * 2 ^ f.fbits + (n - 2 ^ (f.p - 1)) * 2 ^ f.drop

/-- Saturate an integer to a width (R261): the pattern and whether it saturated. -/
def satInt (b : Nat) (z : Int) : Nat × Bool :=
  if z < -(2 ^ (b - 1) : Nat) then (2 ^ (b - 1), true)
  else if (2 ^ (b - 1) - 1 : Nat) < z then (2 ^ (b - 1) - 1, true)
  else ((z % (2 ^ b : Nat)).toNat, false)

/-- Round ± num/den × 2^q to an integer under a mode. -/
def roundInt (mode : Nat) (neg : Bool) (num den : Nat) (q : Int) (u : Nat) : Int :=
  let n : Int := (roundAt 0 mode neg num den q u).1
  if neg then -n else n

/-! ### The stochastic draw (R264) -/

/-- u of one element. -/
def srDraw (seed groupId jobEpoch op i : Nat) : Nat :=
  mix64 (mix64 (seed ^^^ (groupId * 2 ^ 32 + jobEpoch * 2 ^ 16 + op)) ^^^ i) / 2 ^ 32

/-! ### Records (R254, R255, R262, R263) -/

/-- A as an integer. -/
def Rec.val (r : Rec) : Int := r.a.toInt

/-- The image of a finite value in A's units: 2^−149, or 1 for integers. -/
def imageOf (int : Bool) (neg : Bool) (n : Nat) (q : Int) : Int :=
  let k : Int := n * 2 ^ (if int then q else q + 149).toNat
  if neg then -k else k

/-- The record of a single term of a rank. -/
def Rec.ofVal (int : Bool) (rank : Nat) (v : Val) : Rec :=
  match v with
  | .nan => { Rec.zero with nan := true, negz := false, idx := rank }
  | .inf neg => { Rec.zero with pinf := !neg, ninf := neg, negz := false, idx := rank }
  | .zero neg => { Rec.zero with negz := neg, idx := rank }
  | .fin neg n q => { Rec.zero with negz := false, idx := rank, a := BitVec.ofInt 320 (imageOf int neg n q) }

/-- Two records' sum (R255): flags join, A adds. -/
def Rec.add (x y : Rec) : Rec :=
  { nan := x.nan || y.nan, pinf := x.pinf || y.pinf, ninf := x.ninf || y.ninf, negz := x.negz && y.negz
    idx := 0, a := x.a + y.a }

/-- The place of a record's extremum in the order of R262: −∞, the finite values with −0 below +0, +∞. -/
def Rec.order (r : Rec) : Int × Int :=
  if r.ninf then (-1, 0) else if r.pinf then (1, 0) else (0, 2 * r.val - (if r.negz then 1 else 0))

def orderLt (x y : Int × Int) : Bool := decide (x.1 < y.1) || (decide (x.1 = y.1) && decide (x.2 < y.2))

/-- The extremum of two records (R262): NaN wins, ties take the lower rank. -/
def Rec.extremum (max : Bool) (x y : Rec) : Rec :=
  if x.nan && y.nan then { x with idx := min x.idx y.idx }
  else if x.nan then x
  else if y.nan then y
  else if x.order = y.order then { x with idx := min x.idx y.idx }
  else if orderLt x.order y.order == max then y else x

/-- Two bit patterns under AND, OR or XOR (R263). -/
def Rec.bits (func : Nat) (x y : Rec) : Rec :=
  { x with a := if func = 6 then x.a &&& y.a else if func = 7 then x.a ||| y.a else x.a ^^^ y.a }

/-- Join a term's record to an element's under a function. -/
def Rec.join (func : Nat) (x y : Rec) : Rec :=
  if func ≤ 1 then x.add y
  else if func = 2 ∨ func = 4 then x.extremum false y
  else if func = 3 ∨ func = 5 then x.extremum true y
  else x.bits func y

/-- The residue modulus of R268. -/
def residueP : Nat := 2 ^ 61 - 1

/-- The residue of a record's A at an element position of a segment (R268). -/
def Rec.residue (i : Nat) (r : Rec) : Nat := (2 ^ (i % 61) * (r.val % (residueP : Int)).toNat) % residueP

/-! ### A record's result (R257, R260, R261) -/

/-- A record as a value; a zero has the sign of NEGZ. -/
def Rec.toVal (r : Rec) (int : Bool) : Val :=
  if r.nan || (r.pinf && r.ninf) then .nan
  else if r.pinf then .inf false
  else if r.ninf then .inf true
  else if r.a = 0 then .zero r.negz
  else .fin (decide (r.val < 0)) r.val.natAbs (if int then 0 else -149)

/-- The sign of an exact zero (R257): NEGZ, or ROUND 4. -/
def Val.zeroRule (mode : Nat) (v : Val) : Val :=
  match v with
  | .zero neg => .zero (neg || mode == 4)
  | v => v

/-- One element's result: its pattern, whether it is a NaN or an infinity, and whether it overflowed. -/
structure OutElem where
  pattern : Nat
  val : Val
  special : Bool
  overflow : Bool
  deriving DecidableEq, Repr

/-- Round a value, divided by `den` and scaled by 2^imm, to a scalar format (R257, R260, R261). -/
def roundOut (code mode den : Nat) (imm : Int) (u : Nat) (v : Val) : OutElem :=
  match intBits code with
  | some b =>
    let z := match v with
      | .fin neg n q => roundInt mode neg n den (q + imm) u
      | _ => 0
    let (w, o) := satInt b z
    { pattern := w, val := Val.ofInt (signedOf b w), special := false, overflow := o }
  | none => match fmtOf code with
    | none => { pattern := 0, val := .nan, special := true, overflow := false }
    | some f =>
      let (v', o) := match v with
        | .nan => (.nan, false)
        | .inf neg => (if f.hasInf then .inf neg else .nan, false)
        | .zero neg => (.zero neg, false)
        | .fin neg n q => let r := f.round mode neg n den (q + imm) u; (r.1, r.2.1)
      { pattern := f.encode v', val := v', overflow := o
        special := match v' with
          | .nan => true
          | .inf _ => true
          | _ => false }

/-! ### Block-scaled results (R259) -/

/-- One element to go into a block: its value, the divisor and the scaling, and its draw. -/
structure BlockIn where
  v : Val
  den : Nat
  imm : Int
  u : Nat
  deriving DecidableEq, Repr

/-- ⌊log2⌋ of the largest finite magnitude of a block, where one is not 0. -/
def blockTop (xs : List BlockIn) : Option Int :=
  xs.foldl (fun best x =>
    match x.v with
    | .fin _ n q =>
      let l := log2Of n x.den (q + x.imm)
      (match best with
       | none => some l
       | some b => some (max b l))
    | _ => best) none

/-- Is a value NaN, or an infinity where the element format has none? -/
def Fmt.badIn (f : Fmt) (v : Val) : Bool :=
  match v with
  | .nan => true
  | .inf _ => !f.hasInf
  | _ => false

/-- One element of a block under X (R259 step 4). -/
def Fmt.blockElem (f : Fmt) (mode : Nat) (x : Int) (b : BlockIn) : OutElem :=
  let v := match b.v with
    | .nan => Val.nan
    | .inf neg => if f.hasInf then .inf neg else .nan
    | .zero neg => .zero neg
    | .fin neg n q =>
      let (n', q', _) := roundMag f.p f.emin mode neg n b.den (q + b.imm - x) b.u
      if f.beyond n' q' then f.maxVal neg else if n' = 0 then .zero neg else .fin neg n' q'
  { pattern := f.encode v, overflow := false
    special := match v with
      | .nan => true
      | .inf _ => true
      | _ => false
    val := match v with
      | .fin neg n q => .fin neg n (q + x)
      | v => v }

/-- A block of up to 32 elements: its scale byte, its elements, and whether it counts ACC_OVERFLOW (R259; R283 gives H). -/
def mxBlock (code mode h : Nat) (xs : List BlockIn) : Nat × List OutElem × Bool :=
  match fmtOf code with
  | none => (0, [], false)
  | some f =>
    if 8 ≤ code ∧ xs.any (fun b => f.badIn b.v) then
      (0xFF, xs.map (fun _ => { pattern := 0, val := .nan, special := true, overflow := false }), false)
    else
      match blockTop xs with
      | none =>
        (0, xs.map (fun b => f.blockElem mode (-127) b), false)
      | some l =>
        let x := l - f.emax + h
        let xc := max (-127) (min 127 x)
        ((xc + 127).toNat, xs.map (f.blockElem mode xc), decide (xc < x))

/-- Pack a block's bytes: its scale and its elements, filled with zero elements to 32 (R252). -/
def packBlock (code scale : Nat) (pats : List Nat) : List Byte :=
  let b := elemBits code
  let all := pats ++ List.replicate (32 - pats.length) 0
  toBytes (blockBytes code) (all.foldl (fun n w => n * 2 ^ b + w) scale)

/-! ### Partials (R266) -/

/-- The trailing zeros of a number, at most `k`. -/
def trailing (k n : Nat) : Nat :=
  match k with
  | 0 => 0
  | k + 1 => if n = 0 then 0 else if n % 2 = 0 then 1 + trailing k (n / 2) else 0

/-- One element of a partial. -/
def encodePartial (func inFmt : Nat) (r : Rec) : List Byte :=
  if 6 ≤ func then toBytes (elemBits inFmt / 8) (r.a.toNat % 2 ^ elemBits inFmt)
  else
    let flags := flag r.nan * 8 + flag r.pinf * 4 + flag r.ninf * 2 + flag r.negz
    let sh := trailing 320 r.val.natAbs
    let sig := r.val / (2 ^ sh : Nat)
    let body := if -(2 ^ 63 : Int) ≤ sig ∧ sig < 2 ^ 63 then
        toBytes 2 (flags * 2048 + sh) ++ toBytes 8 (sig % 2 ^ 64).toNat
      else toBytes 2 (32768 + flags * 2048) ++ toBytes 40 r.a.toNat
    if func = 4 ∨ func = 5 then body ++ toBytes 4 r.idx else body

/-- Read one element of a partial: the record and the bytes after it, or a fault (R266). -/
def decodePartial (func inFmt : Nat) (bs : List Byte) : Option (Rec × List Byte) :=
  if 6 ≤ func then
    let n := elemBits inFmt / 8
    if bs.length < n then none
    else some ({ Rec.zero with negz := false, a := BitVec.ofNat 320 (ofBytes (bs.take n)) }, bs.drop n)
  else
    let h := ofBytes (bs.take 2)
    let wide := bitOf h 15
    let n := (if wide then 42 else 10)
    let sh := bitsOf h 8 0
    let raw := ofBytes ((bs.take n).drop 2)
    let a : Int := if wide then signedOf 320 raw else signedOf 64 raw * (2 ^ sh : Nat)
    let ix := func = 4 ∨ func = 5
    let full := if ix then n + 4 else n
    let idx := if ix then ofBytes ((bs.take full).drop n) else 0
    if bs.length < full then none
    else if bitsOf h 10 9 ≠ 0 ∨ (wide = true ∧ sh ≠ 0) ∨ 319 < sh ∨ 2 ^ 24 ≤ idx then none
    else if a < -(2 ^ 319 : Int) ∨ (2 ^ 319 : Int) ≤ a then none
    else some ({ nan := bitOf h 14, pinf := bitOf h 13, ninf := bitOf h 12, negz := bitOf h 11, idx := idx
                 a := BitVec.ofInt 320 a }, bs.drop full)

/-- Read the elements of a partial sub-frame: exactly `n` and nothing more. -/
def decodePartials (func inFmt : Nat) : Nat → List Byte → Option (List Rec)
  | 0, bs => if bs.isEmpty then some [] else none
  | n + 1, bs =>
    match decodePartial func inFmt bs with
    | none => none
    | some (r, rest) => (decodePartials func inFmt n rest).map (r :: ·)

/-! ### Arithmetic on values (R267, R281) -/

/-- Round a finite exact value to p bits in an exponent range, with infinity beyond it. -/
def Fmt.roundVal (f : Fmt) (mode : Nat) (v : Val) : Val :=
  match v with
  | .fin neg n q => (f.round mode neg n 1 q 0).1
  | v => v

/-- The values of recipes: a 64-bit significand and the exponent range of binary128 (R281). -/
def eFmt : Fmt := ⟨15, 63, 64, -16382, 16383, 16383, true, 0⟩

/-- The step format of R267. -/
def stepFmt (inFmt : Nat) : Fmt :=
  if inFmt = 0x18 then ⟨11, 52, 53, -1022, 1023, 1023, true, 0⟩ else ⟨8, 23, 24, -126, 127, 127, true, 0⟩

/-- The exact sum of two finite values with a common unit, as a signed integer and its unit. -/
def alignSum (x y : Bool × Nat × Int) : Int × Int :=
  let q := min x.2.2 y.2.2
  let at_ (z : Bool × Nat × Int) : Int := (if z.1 then -1 else 1) * (z.2.1 * 2 ^ (z.2.2 - q).toNat : Nat)
  (at_ x + at_ y, q)

/-- A signed integer times 2^q as a value; an exact 0 has sign `zneg`. -/
def Val.ofScaled (z q : Int) (zneg : Bool) : Val :=
  if z = 0 then .zero zneg else .fin (decide (z < 0)) z.natAbs q

/-- IEEE 754-2019 addition before rounding: an exact zero sum of opposite signs is −0 only under ROUND 4. -/
def Val.addExact (mode : Nat) (x y : Val) : Val :=
  match x, y with
  | .nan, _ | _, .nan => .nan
  | .inf a, .inf b => if a = b then .inf a else .nan
  | .inf a, _ => .inf a
  | _, .inf b => .inf b
  | .zero a, .zero b => .zero (if a = b then a else mode == 4)
  | .zero _, v => v
  | v, .zero _ => v
  | .fin a n q, .fin b k r =>
    let (z, u) := alignSum (a, n, q) (b, k, r)
    Val.ofScaled z u (mode == 4)

def Val.neg (x : Val) : Val :=
  match x with
  | .nan => .nan
  | .inf a => .inf (!a)
  | .zero a => .zero (!a)
  | .fin a n q => .fin (!a) n q

def Val.abs (x : Val) : Val :=
  match x with
  | .nan => .nan
  | .inf _ => .inf false
  | .zero _ => .zero false
  | .fin _ n q => .fin false n q

/-- Is a value's sign negative? -/
def Val.isNeg (x : Val) : Bool :=
  match x with
  | .nan => false
  | .inf a => a
  | .zero a => a
  | .fin a _ _ => a

def Val.isZero (x : Val) : Bool := match x with | .zero _ => true | _ => false
def Val.isNan (x : Val) : Bool := match x with | .nan => true | _ => false
def Val.isInf (x : Val) : Bool := match x with | .inf _ => true | _ => false

/-- The exact product. -/
def Val.mulExact (x y : Val) : Val :=
  match x, y with
  | .nan, _ | _, .nan => .nan
  | .inf _, .zero _ | .zero _, .inf _ => .nan
  | .inf a, v => .inf (a != v.isNeg)
  | v, .inf b => .inf (v.isNeg != b)
  | .zero a, v => .zero (a != v.isNeg)
  | v, .zero b => .zero (v.isNeg != b)
  | .fin a n q, .fin b k r => .fin (a != b) (n * k) (q + r)

/-- The order of R262 on values that are no NaN. -/
def Val.lt (x y : Val) : Bool :=
  match x, y with
  | .inf true, .inf true => false
  | .inf true, _ => true
  | _, .inf true => false
  | .inf false, _ => false
  | _, .inf false => true
  | .zero a, .zero b => a && !b
  | .zero _, .fin b _ _ => !b
  | .fin a _ _, .zero _ => a
  | .fin a n q, .fin b k r => decide ((alignSum (a, n, q) (!b, k, r)).1 < 0)
  | _, _ => false

/-- Minimum and maximum: NaN if either is. -/
def Val.minmax (max : Bool) (x y : Val) : Val :=
  if x.isNan || y.isNan then .nan
  else if max then (if x.lt y then y else x) else (if y.lt x then y else x)

/-- A value times 2^k. -/
def Val.scale (x : Val) (k : Int) : Val :=
  match x with
  | .fin a n q => .fin a n (q + k)
  | v => v

/-- The integer square root, bit by bit from `b` down. -/
def isqrt (n : Nat) : Nat → Nat → Nat
  | 0, r => r
  | b + 1, r => let t := r + 2 ^ b; isqrt n b (if t * t ≤ n then t else r)

/-- A square root of n × 2^q close enough that every rounding of it is that of the exact root: 200 bits and a sticky bit. -/
def sqrtOf (n : Nat) (q : Int) : Nat × Int :=
  let (n, q) := if q % 2 = 0 then (n, q) else (2 * n, q - 1)
  let k := 400
  let big := n * 2 ^ k
  let r := isqrt big (Nat.log2 big / 2 + 1) 0
  (if r * r = big then 2 * r else 2 * r + 1, q / 2 - (k / 2 : Nat) - 1)

end Sys2Proof.Machine
end

