-- ==== Sys2Proof/Machine/Recipes.lean ====
section
/-! DEFINITION. Recipes and their programs (spec/10_recipes.md R278 to R291, R295, R548). -/

namespace Sys2Proof.Machine

/-! ### Records (R290) -/

/-- The fields of a recipe record's header that programs and table need: its lengths, and its rank table's place and length. -/
structure RecipeHeader where
  index : Nat
  preLen : Nat
  postLen : Nat
  combLen : Nat
  ranked : Bool
  digest : BitVec 32
  offset : Nat
  entries : Nat
  deriving DecidableEq, Repr

/-- Read the header of a record of 352 bytes, its first byte highest. -/
def RecipeHeader.decode (w : BitVec 2816) : RecipeHeader :=
  let h := w.toNat >>> 2560
  { index := bitsOf h 255 244, preLen := bitsOf h 243 239, postLen := bitsOf h 238 234, combLen := bitsOf h 233 229
    ranked := bitOf h 228, digest := BitVec.ofNat 32 (bitsOf h 223 192), offset := bitsOf h 191 160, entries := bitsOf h 159 136 }

/-- Instruction word `i` of a record's 48, and constant `i` of its 16. -/
def recordWord (w : BitVec 2816) (i : Nat) : BitVec 32 := BitVec.ofNat 32 (w.toNat >>> (32 * (47 - i)))
def recordConst (w : BitVec 2816) (i : Nat) : BitVec 64 := BitVec.ofNat 64 (w.toNat >>> (1536 + 64 * (15 - i)))

/-- The rank table that a header names in the recipe region: 4 KiB units of 512 entries. -/
def RecipeHeader.table (h : RecipeHeader) (region : List (BitVec 64)) : Option (List (BitVec 64)) :=
  if h.ranked then some ((region.drop (512 * h.offset)).take h.entries) else none

/-- Read a record: what lies beyond a program's length is ignored. -/
def Recipe.decode (region : List (BitVec 64)) (w : BitVec 2816) : Recipe :=
  let h := RecipeHeader.decode w
  let words (from_ n : Nat) : List (BitVec 32) := (List.range n).map (fun i => recordWord w (from_ + i))
  { pre := words 0 h.preLen, post := words 16 h.postLen, comb := words 32 h.combLen
    consts := (List.range 16).map (recordConst w), table := h.table region, offset := h.offset, digest := h.digest }

/-- The digest of a record and its rank table: the leftmost 32 bits of the SHA-256 with the record's own field zero. -/
def recordDigest (region : List (BitVec 64)) (w : BitVec 2816) : BitVec 32 :=
  let h := RecipeHeader.decode w
  let bare := w.toNat - h.digest.toNat * 2 ^ 2752
  let table := ((h.table region).getD []).flatMap (fun x => toBytes 8 x.toNat)
  (sha256 (toBytes 352 bare ++ table)).extractLsb' 224 32

/-- A recipe of sixteen zero constants. -/
def builtin (post : List (BitVec 32)) (digest : BitVec 32) : Recipe :=
  { pre := [0x40000000], post := post, comb := [], consts := List.replicate 16 0, table := none, offset := 0, digest := digest }

/-- The built-in recipes with the digests that R548's table gives (notes/assumptions/142.md). -/
def builtinRecipe (i : Nat) : Option Recipe :=
  match i with
  | 0 => some (builtin [0x48000000] 0x5C0FE1A7)
  | 1 => some (builtin [0x48000000, 0x4C000004] 0x93A40B6E)
  | 2 => some (builtin [0x48000000, 0x4C000001] 0x1E7C52D9)
  | 3 => some (builtin [0x48000000, 0x4C000002] 0xB06D8F31)
  | 4 => some (builtin [0x50000001, 0x48000000] 0x47E2A95C)
  | 5 => some (builtin [0x50000002, 0x48000000] 0xD81B3C07)
  | _ => none

/-- The recipe that an index names (R280). -/
def Module.recipe (m : Module) (i : Nat) : Option Recipe :=
  match builtinRecipe i with
  | some r => some r
  | none => if 16 ≤ i then Tbl.find m.rde.recipes i else none

/-- An instruction's fields (R286). -/
structure RInstr where
  opc : Nat
  d : Nat
  a : Nat
  b : Nat
  bk : Bool
  c : Nat
  imm : Nat
  deriving DecidableEq, Repr

def RInstr.decode (w : BitVec 32) : RInstr :=
  let n := w.toNat
  { opc := bitsOf n 31 26, d := bitsOf n 25 23, a := bitsOf n 22 20, b := bitsOf n 19 17, bk := bitOf n 16
    c := bitsOf n 15 12, imm := bitsOf n 11 0 }

/-- IMM as a signed value. -/
def RInstr.simm (i : RInstr) : Int := signedOf 12 i.imm

/-- binary64. -/
def fmt64 : Fmt := ⟨11, 52, 53, -1022, 1023, 1023, true, 0⟩

/-- A constant (R290): a binary64 value. K16, which no record holds, is open. -/
def Recipe.const (r : Recipe) (c : Nat) : Val :=
  fmt64.decode (if c < 16 then r.consts.getD c 0 else Config.constant16).toNat

/-- The rank value of a rank (R291): the canonical NaN at or beyond the table's end, and so without a table. -/
def Recipe.rankValue (r : Recipe) (rank : Nat) : Val :=
  match (r.table.getD [])[rank]? with
  | some w => fmt64.decode w.toNat
  | none => .nan

/-- The eight registers T, R1–R4, C, W, Z (R281). -/
abbrev ERegs := List Val

def ERegs.start (t c w : Val) : ERegs :=
  [t, .zero false, .zero false, .zero false, .zero false, c, w, .zero false]

def ERegs.read (rs : ERegs) (i : Nat) : Val := rs.getD i (.zero false)

/-- Writes to W and Z are discarded (R281). -/
def ERegs.write (rs : ERegs) (i : Nat) (v : Val) : ERegs := if 6 ≤ i then rs else rs.set i v

/-- Round a value to the format that CVT names, kept in E (R287). An integer format saturates, a float format without infinity
makes NaN of one (R257, R261); what a block-scaled format makes of a finite value, and an integer one of a NaN, is open
(notes/assumptions/139.md). -/
def cvt (code : Nat) (v : Val) : Val :=
  match intBits code with
  | some b => match v with
    | .fin neg n q => Val.ofInt (signedOf b (satInt b (roundInt 0 neg n 1 q 0)).1)
    | .inf neg => Val.ofInt (signedOf b (if neg then 2 ^ (b - 1) else 2 ^ (b - 1) - 1))
    | .zero _ => .zero false
    | .nan => Val.ofInt (signedOf b ((Config.nanCvt code).toNat % 2 ^ b))
  | none => match fmtOf code, v with
    | some f, .inf neg => if f.hasInf then .inf neg else .nan
    | some f, .fin neg n q =>
      if isMx code then
        let w := (Config.mxCvt code neg n q).toNat
        (scaleElem (w / 256) (decodeElem code (w % 256))).1
      else f.roundVal 0 v
    | _, v => v

/-- The result of an instruction of all stages, before its rounding, where it writes one (R287). `mode` is the rounding of its
stage, which gives an exact zero sum its sign (R281). -/
def RInstr.result (i : RInstr) (r : Recipe) (mode : Nat) (rs : ERegs) : Option Val :=
  let a := rs.read i.a
  let b := if i.bk then r.const i.c else rs.read i.b
  let d := rs.read i.d
  match i.opc with
  | 0x01 => some a
  | 0x02 => some (a.addExact mode b)
  | 0x03 => some (a.addExact mode b.neg)
  | 0x04 => some (a.mulExact b)
  | 0x05 => some ((a.mulExact b).addExact mode d)
  | 0x06 => some (a.minmax false b)
  | 0x07 => some (a.minmax true b)
  | 0x08 => some a.abs
  | 0x09 => some a.neg
  | 0x0A => some (a.scale i.simm)
  | 0x0B =>
    let t := match i.imm % 4 with
      | 0 => b.isNeg && !b.isZero
      | 1 => b.isZero
      | 2 => b.isNan
      | _ => b.isInf
    some (if t then a else d)
  | 0x0C => some (cvt (i.imm % 32) a)
  | _ => none

/-- Run one instruction of all stages: `f` and `mode` are the format and the mode to which the stage rounds (R281). Opcodes not
listed run as NOP. -/
def RInstr.step (i : RInstr) (r : Recipe) (f : Fmt) (mode : Nat) (rs : ERegs) : ERegs :=
  match i.result r mode rs with
  | some v => rs.write i.d (f.roundVal mode v)
  | none => rs

/-- A term after ACC: its value, whether rounding changed it, and whether it became an infinity (R282). -/
structure Term where
  v : Val
  rounded : Bool
  overflow : Bool
  deriving DecidableEq, Repr

/-- ACC with ORDERED at 0 (R282). -/
def accTerm (int : Bool) (v : Val) : Term :=
  match v with
  | .fin neg n q =>
    if int then
      let z := roundInt 0 neg n 1 q 0
      let top : Int := 2 ^ 63 - 1
      let z' := max (-top) (min top z)
      let exact := decide (0 ≤ q) || n % 2 ^ (-q).toNat == 0
      { v := Val.ofInt z', rounded := !exact || decide (z' ≠ z), overflow := false }
    else
      let (k, ex) := roundAt (-149) 0 neg n 1 q 0
      if 2 ^ 277 ≤ k then { v := .inf neg, rounded := true, overflow := true }
      else { v := if k = 0 then .zero neg else .fin neg k (-149), rounded := !ex, overflow := false }
  | .inf neg =>
    if int then { v := Val.ofInt (if neg then -(2 ^ 63 - 1) else 2 ^ 63 - 1), rounded := true, overflow := false }
    else { v := .inf neg, rounded := false, overflow := false }
  | v => { v := v, rounded := false, overflow := false }

/-- ACC with ORDERED at 1: one rounding to the step format (R282). -/
def accStep (inFmt mode : Nat) (v : Val) : Term :=
  let v' := (stepFmt inFmt).roundVal mode v
  let same := match v, v' with
    | .fin a n q, .fin b k r => (alignSum (a, n, q) (!b, k, r)).1 == 0
    | x, y => x == y
  { v := v', rounded := !same, overflow := false }

/-- ACC with ORDERED at 1 in a recipe. The built-in step adds integers exactly and gives them the result of ORDERED 0 (R267), so
before it they take ACC as there (notes/assumptions/156.md). -/
def Recipe.accOrdered (r : Recipe) (inFmt mode : Nat) (v : Val) : Term :=
  if isInt inFmt && r.comb.isEmpty then accTerm true v else accStep inFmt mode v

/-- Run PRE on one term (R278): the operand of its ACC. -/
def Recipe.runPre (r : Recipe) (x w : Val) : Val :=
  let rs := r.pre.foldl (fun (st : ERegs × Option Val) word =>
    let i := RInstr.decode word
    if i.opc = 0x10 then (st.1, some (st.1.read i.a)) else (i.step r eFmt 0 st.1, st.2)) (ERegs.start x (.zero false) w, none)
  rs.2.getD x

/-- The place of OUT in a POST program. -/
def Recipe.outAt (r : Recipe) : Nat := r.post.findIdx (fun w => (RInstr.decode w).opc == 0x12)

/-- A value's class, sign, significand and exponent, as an open value may depend on them. -/
def Val.parts (v : Val) : Nat × Bool × Nat × Int :=
  match v with
  | .nan => (0, false, 0, 0)
  | .inf neg => (1, neg, 0, 0)
  | .zero neg => (2, neg, 0, 0)
  | .fin neg n q => (3, neg, n, q)

/-- CLIPX on an exact record's value (R283): an infinite bound leaves its side unchanged. What a NaN bound makes of a value is
open (notes/assumptions/139.md). -/
def clipx (lo hi v : Val) : Val :=
  if v.isNan then .nan
  else if lo.isNan || hi.isNan then
    let p := v.parts
    eFmt.decode (Config.nanClip p.1 p.2.1 p.2.2.1 p.2.2.2).toNat
  else if !lo.isInf && v.lt lo then lo
  else if !hi.isInf && hi.lt v then hi
  else v

/-- What POST does before OUT: the value OUT rounds, H, and the registers. -/
structure PostHead where
  v : Val
  h : Nat
  regs : ERegs
  deriving DecidableEq, Repr

def Recipe.postHead (r : Recipe) (v : Val) : PostHead :=
  (r.post.take r.outAt).foldl (fun st word =>
    let i := RInstr.decode word
    if i.opc = 0x11 then { st with v := clipx (r.const i.c) (r.const (i.c + 1)) st.v }
    else if i.opc = 0x14 then { st with h := i.imm }
    else { st with regs := i.step r eFmt 0 st.regs })
    { v := v, h := 0, regs := ERegs.start (.zero false) (.zero false) (.zero false) }

/-- OUT's scaling. -/
def Recipe.outImm (r : Recipe) : Int :=
  match r.post[r.outAt]? with
  | some w => (RInstr.decode w).simm
  | none => 0

/-- SIDE's immediate, where POST holds SIDE. -/
def Recipe.side (r : Recipe) : Option Nat :=
  (r.post.find? (fun w => (RInstr.decode w).opc == 0x13)).map (fun w => (RInstr.decode w).imm)

/-- SIDE's operand for an element whose output value is `o` (R284). -/
def Recipe.sideOperand (r : Recipe) (regs : ERegs) (o : Val) : Option Val :=
  ((r.post.drop (r.outAt + 1)).foldl (fun (st : ERegs × Option Val) word =>
    let i := RInstr.decode word
    if i.opc = 0x13 then (st.1, some (st.1.read i.a)) else (i.step r eFmt 0 st.1, st.2)) (regs.set 0 o, none)).2

/-- One COMBINE step (R285), or the built-in step of R267 where the recipe has none. A program's instructions, STEP among them,
round to the step format, that of integer inputs too (R281); the built-in step adds integers exactly (R267). -/
def Recipe.combine (r : Recipe) (func inFmt mode : Nat) (c x w : Val) : Val :=
  let f := stepFmt inFmt
  if r.comb.isEmpty then
    match func with
    | 0 | 1 => if isInt inFmt then c.addExact mode x else f.roundVal mode (c.addExact mode x)
    | 2 | 4 => c.minmax false x
    | _ => c.minmax true x
  else
    (r.comb.foldl (fun rs word =>
      let i := RInstr.decode word
      if i.opc = 0x15 then rs.write 5 (f.roundVal mode (rs.read i.a)) else i.step r f mode rs) (ERegs.start x c w)).read 5

/-! ### What RDE_RCP_INFO shows (R289, R301) -/

/-- The cost of a program: half its slots, rounded up, at least 1. -/
def programCost (ws : List (BitVec 32)) : Nat :=
  max 1 (((ws.map (fun w => if (RInstr.decode w).opc = 0x05 then 2 else 1)).sum + 1) / 2)

/-- Does PRE hold only the instructions of R293's EXACT? -/
def Recipe.exact (r : Recipe) : Bool :=
  r.pre.all (fun w => [0x01, 0x08, 0x09, 0x06, 0x07, 0x0B, 0x10].contains (RInstr.decode w).opc)

end Sys2Proof.Machine
end

