-- ==== Sys2Proof/Machine/ColCore.lean ====
section
/-! DEFINITION. Groups, descriptors and operations of the collective engine (spec/08_collective_operations.md R213 to R238,
R242): numbering, the operation window, the frames the module sends, and how an operation ends. -/

namespace Sys2Proof.Machine

/-! ### Descriptors and segments (R218, R224) -/

def Descriptor.frameElems (d : Descriptor) : Nat := 2 ^ d.frameLog2

/-- P: slots of a whole segment. -/
def Descriptor.perSeg (d : Descriptor) : Nat := 65536 / d.frameElems

def Descriptor.arith (d : Descriptor) : Bool := decide (d.kind ≤ 2)
def Descriptor.copies (d : Descriptor) : Bool := d.kind == 3 || d.kind == 4
def Descriptor.barrier (d : Descriptor) : Bool := d.kind == 5

/-- Is the function SUM or AVG? -/
def Descriptor.sums (d : Descriptor) : Bool := decide (d.func ≤ 1)

/-- Does a segment keep a residue (R268)? -/
def Descriptor.keepsResidue (d : Descriptor) : Bool := d.arith && d.sums && !d.ordered

/-- Does the function carry an index (R262)? -/
def Descriptor.indexed (d : Descriptor) : Bool := d.func == 4 || d.func == 5

/-- n_k: elements of a segment. -/
def Descriptor.segElems (d : Descriptor) (k : Nat) : Nat := if d.barrier then 0 else min 65536 (d.elements - 65536 * k)

/-- S_k: slots of a segment. -/
def Descriptor.segSlots (d : Descriptor) (k : Nat) : Nat :=
  if d.barrier then (if k = 0 then 1 else 0) else (d.segElems k + d.frameElems - 1) / d.frameElems

/-- Segments of an operation. -/
def Descriptor.segments (d : Descriptor) : Nat := if d.barrier then 1 else (d.elements + 65535) / 65536

/-- Elements of a slot. -/
def Descriptor.slotElems (d : Descriptor) (k i : Nat) : Nat :=
  if d.barrier then 0 else min d.frameElems (d.segElems k - i * d.frameElems)

/-- Slots of the whole operation. -/
def Descriptor.slots (d : Descriptor) : Nat :=
  if d.barrier then 1 else (d.elements + d.frameElems - 1) / d.frameElems

/-- The size of an element in 1/32 bytes (R252). -/
def elemSize32 (code : Nat) : Nat := if isMx code then blockBytes code else 4 * elemBits code

/-- The element size that R220 limits. -/
def Descriptor.elemSize32 (d : Descriptor) : Nat :=
  max (Sys2Proof.Machine.elemSize32 d.inFmt) (Sys2Proof.Machine.elemSize32 d.outFmt + (if d.indexed then 128 else 0))

/-- The combinations that R265 refuses. -/
def Descriptor.refused (d : Descriptor) : Bool :=
  !isFmt d.inFmt || !isFmt d.outFmt
    || ((d.inFmt == 0x18 || d.outFmt == 0x18) && !d.ordered)
    || (d.outFmt == 0x18 && d.inFmt != 0x18)
    || (isInt d.inFmt != isInt d.outFmt)
    || (decide (6 ≤ d.func) && (!isInt d.inFmt || d.outFmt != d.inFmt))
    || (d.indexed && (isMx d.inFmt || isMx d.outFmt))
    || (d.round == 5 && (!d.sums || isInt d.outFmt || d.ordered))

/-! ### Groups and members (R214) -/

/-- The entries of a definition: its local members, then its children. -/
def GroupTables.entries (t : GroupTables) (g : GroupDef) : List MemberEntry :=
  (List.range (g.nLocal + g.nChild)).map (fun i => MemberEntry.decode (Tbl.get t.members 0 (g.memberBase + i)))

/-- The definition at an index. -/
def GroupTables.groupDef (t : GroupTables) (i : Nat) : GroupDef := GroupDef.decode (Tbl.get t.defs 0 i)

/-- The group to which the directory maps a frame in the active version (R142). -/
def Module.findGroup (m : Module) (f : Frame) : Option Found :=
  (m.col.active.directory (f.h.dst.toNat % 2 ^ 20)).map (fun i =>
    { defIdx := i, gdef := m.col.active.groupDef i, members := m.col.active.entries (m.col.active.groupDef i) })

/-- Ranks at or under an entry. -/
def MemberEntry.covers (e : MemberEntry) (r : Nat) : Bool :=
  decide (e.rank ≤ r) && decide (r < e.rank + (if e.child then e.below else 1))

def Op.locals (op : Op) : List MemberEntry := op.members.filter (fun e => !e.child)
def Op.children (op : Op) : List MemberEntry := op.members.filter (fun e => e.child)

/-- N: members of the whole tree. -/
def Op.n (op : Op) : Nat := op.gdef.total

/-- The home sector. -/
def Op.home (op : Op) : Nat := op.gdef.home

/-- The lowest rank at or under the module: SOURCE of what it sends up (R223). -/
def Op.upSource (op : Op) : Nat :=
  match op.members with
  | [] => 0
  | e :: rest => rest.foldl (fun n x => min n x.rank) e.rank

/-- The recipe that the engine runs (R279). -/
def Module.opRecipe (m : Module) (op : Op) : Recipe :=
  if 6 ≤ op.desc.func then builtin [0x48000000] 0x5C0FE1A7
  else (m.recipe op.desc.recipe).getD (builtin [0x48000000] 0x5C0FE1A7)

/-! ### Operation slots and windows (R226, R227) -/

def Module.op (m : Module) (slot : Nat) : Option Op := Tbl.find m.col.ops slot

def Module.putOp (m : Module) (slot : Nat) (op : Op) : Module :=
  { m with col := { m.col with ops := Tbl.put m.col.ops slot op } }

/-- The slot of the operation of a definition and number. -/
def Module.opSlot (m : Module) (defIdx num : Nat) : Option Nat :=
  (m.col.ops.find? (fun x => x.2.defIdx == defIdx && x.2.op == num)).map Prod.fst

/-- The lowest free slot of the 4096. -/
def Module.freeSlot (m : Module) : Option Nat :=
  ((List.range (m.col.ops.length + 1)).find? (fun i => (m.op i).isNone)).filter (fun i => decide (i < 4096))

def OpWindow.fresh : OpWindow := { low := 0, done := [] }

def Module.opWindow (m : Module) (defIdx : Nat) : OpWindow := Tbl.get m.col.windows OpWindow.fresh defIdx

/-- Where an operation number stands in a group's window (R226). -/
inductive WindowPlace where
  | inside
  | late
  | early
  deriving DecidableEq, Repr

def OpWindow.place (w : OpWindow) (op : Nat) : WindowPlace :=
  let d := (op + 65536 - w.low) % 65536
  if 32768 ≤ d then .late
  else if 64 ≤ d then .early
  else if w.done.contains op then .late else .inside

/-- Advance OP_LOW past retired numbers. -/
def OpWindow.advance (w : OpWindow) : Nat → OpWindow
  | 0 => w
  | fuel + 1 =>
    if w.done.contains w.low then
      ({ low := (w.low + 1) % 65536, done := w.done.filter (· ≠ w.low) } : OpWindow).advance fuel
    else w

/-- Retire a number. -/
def OpWindow.retire (w : OpWindow) (op : Nat) : OpWindow :=
  match w.place op with
  | .inside => ({ w with done := op :: w.done } : OpWindow).advance 65
  | _ => w

/-- Retire an operation number of a definition, where it still has the JOB_EPOCH the operation ran under. -/
def Module.retireNum (m : Module) (defIdx jobEpoch num : Nat) : Module :=
  if (m.col.active.groupDef defIdx).jobEpoch = jobEpoch then
    { m with col := { m.col with windows := Tbl.put m.col.windows defIdx ((m.opWindow defIdx).retire num) } }
  else m

/-! ### The frames the collective engine sends (R223, R225) -/

/-- A group-type frame of the module's own. -/
def Module.colFrame (m : Module) (groupId num ftype phase seq : Nat) (x : CollExt) (data : List Byte) : Frame :=
  { hdr := Header.encode
      { ver := 1, ftype := BitVec.ofNat 4 ftype, phase := BitVec.ofNat 1 phase, esc := 0, ord := 0, hops := 63
        seq := BitVec.ofNat 24 seq, flow := BitVec.ofNat 16 num, dst := BitVec.ofNat 32 groupId, src := m.loc
        inter := 0, xlen := 8 }
    body := toBytes 64 x.encode ++ data }

/-- An extension with nothing but the descriptor and its fingerprint. -/
def CollExt.plain (fp : BitVec 64) (descBits : BitVec 256) (kind : Nat) : CollExt :=
  { fingerprint := fp, descriptor := descBits, source := 0, kind := kind, segment := 0, sub := 0, subsM1 := 0
    placeEpoch := 0, elems := 0, subOff := 0, code := 0, count := 0, rankX := 0 }

/-- Send a frame toward the parent, on VC2. -/
def Module.sendUp (m : Module) (op : Op) (f : Frame) : Module := m.originate op.home op.gdef.parent 2 f f

/-- Send a frame from the home sector to some entries, on VC3. -/
def Module.sendDown (m : Module) (home : Nat) (es : List MemberEntry) (f : Frame) : Module :=
  m.each es (fun m e => m.originate home e.lport 3 f f)

/-- Of an operation's own flow the frame with SEQ `n` has gone: the next frame to which R224 gives no SEQ takes the one after the
furthest (R139, notes/assumptions/22.md). -/
def Module.sentSeq (m : Module) (slot n : Nat) : Module :=
  match m.op slot with
  | none => m
  | some op =>
    let next := (n + 1) % 2 ^ 24
    m.putOp slot { op with seq := if op.seq = 0 ∨ (next + 2 ^ 24 - op.seq) % 2 ^ 24 < 2 ^ 23 then next else op.seq }

/-- Members acknowledged below the module. -/
def Op.ackSum (op : Op) : Nat := (op.acks.map Prod.snd).sum

/-- The lowest rank logged and their number (R237). -/
def Op.logged2 (op : Op) : Nat × Nat :=
  match op.logged with
  | [] => (0, 0)
  | (_, r) :: rest => (rest.foldl (fun n x => min n x.2) r, op.logged.length)

/-- An ABORT frame: phase 0 a request to the parent, phase 1 down the tree (R236). -/
def Module.abortFrame (m : Module) (op : Op) (phase code count rankX : Nat) : Frame :=
  m.colFrame op.gdef.groupId op.op 6 phase op.seq
    { CollExt.plain op.fp op.descBits 6 with source := if phase = 0 then op.upSource else 0, code := code
                                             count := count, rankX := rankX } []

/-! ### Segments' holdings (R228, R231) -/

/-- The array of a sector's die. -/
def praOf (sector : Nat) : Nat := sector / 2

/-- An array with nothing under way. -/
def PraArray.initial : PraArray :=
  { enabled := false, reenable := false, seed := 0, blocks := 0, openBlocks := [], retired := [], ringless := [], causes := 0
    inFlight := [], compare := [], viols := [], captured := [], hist := [] }

def Module.praAt (m : Module) (a : Nat) : PraArray := Tbl.get m.pra PraArray.initial a

def Module.putPra (m : Module) (a : Nat) (p : PraArray) : Module := { m with pra := Tbl.put m.pra a p }

/-- Discard an array's terms of an operation. -/
def Module.dropTerms (m : Module) (a slot : Nat) : Module :=
  let p := m.praAt a
  m.putPra a { p with inFlight := p.inFlight.filter (fun t => t.slot ≠ slot)
                      compare := p.compare.filter (fun t => t.slot ≠ slot)
                      openBlocks := p.openBlocks.filter (fun b => b.slot ≠ slot) }

/-- Discard an array's terms of one segment that moves: a whole shadowed block is still compared (R323). -/
def Module.dropSegTerms (m : Module) (a slot seg : Nat) : Module :=
  let p := m.praAt a
  let gone (s k : Nat) : Bool := s == slot && k == seg
  let cut := (p.inFlight.filter (fun t => gone t.slot t.seg)).map (·.block)
    ++ (p.openBlocks.filter (fun b => gone b.slot b.seg)).map (·.num)
  m.putPra a { p with inFlight := p.inFlight.filter (fun t => !gone t.slot t.seg)
                      compare := p.compare.filter (fun t => !(gone t.slot t.seg && cut.contains t.block))
                      openBlocks := p.openBlocks.filter (fun b => !gone b.slot b.seg) }

/-- Drop every segment of an operation. -/
def Module.dropSegs (m : Module) (slot : Nat) : Module :=
  match m.op slot with
  | none => m
  | some op =>
    let m := m.each op.segs (fun m x => m.freeChunks x.2.chunks)
    let m := if op.pra then m.dropTerms (praOf op.home) slot else m
    m.putOp slot { op with segs := [] }

/-! ### How operations end (R232 to R238) -/

/-- Free a slot and retire its number (R232), counting OP_DONE or OP_ABORT. -/
def Module.retireOp (m : Module) (slot : Nat) (done : Bool) : Module :=
  match m.op slot with
  | none => m
  | some op =>
    let m := m.dropSegs slot
    let m := { m with col := { m.col with ops := Tbl.del m.col.ops slot } }
    let m := m.retireNum op.defIdx op.gdef.jobEpoch op.op
    m.raise (if done then .col_OP_DONE else .col_OP_ABORT) op.home

/-- The event that a code counts when a module detects it (R246). -/
def codeEvent (code : Nat) : Option Ev :=
  match code with
  | 1 => some .col_TIMEOUT
  | 3 => some .col_FENCE_REFUSED
  | 5 => some .col_NO_RESOURCE
  | 7 => some .col_TREE_BREAK
  | _ => none

def Module.countCode (m : Module) (code home : Nat) : Module :=
  match codeEvent code with
  | some e => m.raise e home
  | none => m

/-- Send ABORT down the tree and retire the operation (R236). -/
def Module.abortDown (m : Module) (slot code count rankX : Nat) : Module :=
  match m.op slot with
  | none => m
  | some op => (m.sendDown op.home op.members (m.abortFrame op 1 code count rankX)).retireOp slot false

/-- Send an abort request to the parent (R236). -/
def Module.askAbort (m : Module) (slot code count rankX : Nat) : Module :=
  match m.op slot with
  | none => m
  | some op => (m.sentSeq slot op.seq).sendUp op (m.abortFrame op 0 code count rankX)

/-- An abort request goes to the parent, and the segments are dropped (R236). -/
def Module.requestAbort (m : Module) (slot code count rankX : Nat) : Module :=
  let m := m.dropSegs slot
  match m.op slot with
  | none => m
  | some op => (m.putOp slot { op with state := 3 }).askAbort slot code count rankX

/-- An error detected at this module (R236): the root aborts, another module asks its parent. `count` is COUNT where it is
not the ranks logged. -/
def Module.failOp (m : Module) (slot code : Nat) (count : Option Nat := none) : Module :=
  match m.op slot with
  | none => m
  | some op =>
    if op.state = 3 then m
    else
      let m := m.countCode code op.home
      let (rx, n) := op.logged2
      if op.gdef.root then m.abortDown slot code (count.getD n) rx else m.requestAbort slot code (count.getD n) rx

/-- A module cut off from the root aborts its own subtree (R236). -/
def Module.cutOp (m : Module) (slot code : Nat) : Module :=
  match m.op slot with
  | none => m
  | some op =>
    let (rx, n) := op.logged2
    (m.countCode code op.home).abortDown slot code n rx

/-- An operation broken by a tree link (R238): through the parent's link the module is cut off, otherwise it is the upper
side. -/
def Module.breakOp (m : Module) (slot lport : Nat) : Module :=
  match m.op slot with
  | none => m
  | some op => if !op.gdef.root && op.gdef.parent == lport then m.cutOp slot 7 else m.failOp slot 7

/-- The tree links of an operation (R238). -/
def Op.treeLinks (op : Op) : List Nat :=
  op.members.map (·.lport) ++ (if op.gdef.root then [] else [op.gdef.parent])

/-! ### Acknowledgement (R232) -/

/-- Are the acknowledgements of an operation in: at the root TOTAL_MEMBERS, at another module one from each entry, with counts
summing to BELOW? -/
def Op.acked (op : Op) : Bool :=
  if op.gdef.root then decide (op.n ≤ op.ackSum)
  else op.members.all (fun e => (Tbl.find op.acks e.lport).isSome) && op.ackSum == op.gdef.below

/-- In AWAIT_ACK with every acknowledgement in, the root sends DONE and retires the operation, and another module sends its
ACK to its parent. -/
def Module.checkAcks (m : Module) (slot : Nat) : Module :=
  match m.op slot with
  | none => m
  | some op =>
    if op.state = 2 ∧ op.acked = true then
      if op.gdef.root then
        (m.sendDown op.home op.members (m.colFrame op.gdef.groupId op.op 5 1 op.seq
          { CollExt.plain op.fp op.descBits 5 with count := op.n } [])).retireOp slot true
      else
        (m.sentSeq slot op.seq).sendUp op (m.colFrame op.gdef.groupId op.op 5 0 op.seq
          { CollExt.plain op.fp op.descBits 4 with source := op.upSource, count := op.gdef.below } [])
    else m

/-- Every segment is out: on to AWAIT_ACK (R233). -/
def Module.awaitAcks (m : Module) (slot : Nat) : Module :=
  match m.op slot with
  | none => m
  | some op => if op.state = 1 then (m.putOp slot { op with state := 2 }).checkAcks slot else m

/-! ### Engines (R228, R456) -/

/-- Does an engine serve: it is active, or a spare in service, and no sector reset has it (R298)? -/
def Module.rdeServes (m : Module) (e : Nat) : Bool :=
  let role := m.getF (K.rdeStatus_ROLE e)
  decide (e < 18) && (role == 0 || role == 2) && !m.power.sectorsDown.contains (m.getF (K.rdeStatus_SERVES e))

/-- The engine that stands for a number of RDE_MASK: itself, or the spare that replaces it (R456). -/
def Module.standIn (m : Module) (e : Nat) : Option Nat :=
  if m.rdeServes e then some e
  else ([16, 17] : List Nat).find? (fun x => m.getF (K.rdeStatus_ROLE x) == 2 && m.getF (K.rdeStatus_REPLACES x) == e && m.rdeServes x)

/-- The engines of RDE_MASK in service, in ascending order (R228). -/
def Module.enginesFor (m : Module) (g : GroupDef) : List Nat :=
  let named := if g.rdeMask = 0 then [2 * g.home, 2 * g.home + 1] else natsWhere 16 (fun e => bitOf g.rdeMask e)
  let got := named.filterMap m.standIn
  natsWhere 18 (fun e => got.contains e)

/-- The engine of segment k, leaving one out where another serves (R228, R241). -/
def Module.engineFor (m : Module) (g : GroupDef) (k : Nat) (without : Option Nat) : Option Nat :=
  let es := m.enginesFor g
  let es' := es.filter (fun e => some e != without)
  let es := if es'.isEmpty then es else es'
  es[k % es.length]?

/-- Segments that an engine holds or that wait for it: slot, segment number and segment. -/
def Module.engineSegs (m : Module) (e : Nat) : List (Nat × Nat × Seg) :=
  m.col.ops.flatMap (fun x => (x.2.segs.filter (fun y => y.2.engine == some e && !y.2.sent)).map (fun y => (x.1, y.1, y.2)))

/-- The windows of an engine that hold a segment. -/
def Module.windowsUsed (m : Module) (e : Nat) : List Nat := (m.engineSegs e).filterMap (fun x => x.2.2.window)

/-- An engine's lowest free window. -/
def Module.freeWindow (m : Module) (e : Nat) : Option Nat :=
  (List.range 4).find? (fun w => !(m.windowsUsed e).contains w)

/-- The operation and segment of a group frame at ingress. -/
def Module.segOf (m : Module) (f : QFrame) : Option (Nat × Nat) :=
  match f.dest with
  | .engine g => (m.opSlot g.defIdx f.frame.h.flow.toNat).map (fun slot => (slot, f.frame.col.segment))
  | _ => none

/-- Does a contribution for a segment wait at the head of an ingress FIFO (R229)? -/
def Module.waitsAt (m : Module) (slot k : Nat) : Bool :=
  m.buf.ingress.any (fun x => match x.2.head? with
    | some f => m.segOf f == some (slot, k)
    | none => false)

/-- Does a segment without a window have a contribution that waits for one: retained and not yet added, or at ingress? -/
def Module.wantsWindow (m : Module) (x : Nat × Nat × Seg) : Bool :=
  x.2.2.window.isNone && !x.2.2.moving && (decide (x.2.2.taken < x.2.2.got.length) || m.waitsAt x.1 x.2.1)

/-- Does an earlier-placed segment of the engine wait for a window (R229, R276)? -/
def Module.earlierWaits (m : Module) (e order : Nat) : Bool :=
  (m.engineSegs e).any (fun x => decide (x.2.2.order < order) && m.wantsWindow x)

/-- May an engine work: the governor has given it a level (R493)? -/
def Module.rdeAdmits (m : Module) (e : Nat) : Bool := m.admits (.engine (Fin.ofNat 18 e))

end Sys2Proof.Machine
end

