-- ==== Sys2Proof/Machine/ColSeg.lean ====
section
/-! DEFINITION. Segments at a module: placement, retention and staging, windows, the adding of contributions and partials,
the groups of the photonic array, moves to another engine, and when a segment is complete
(spec/08_collective_operations.md R228 to R230, R240; spec/09_exact_reduction_arithmetic.md R252 to R268;
spec/10_recipes.md R276 to R282; spec/11_photonic_reduction_array.md R302 to R305). -/

namespace Sys2Proof.Machine

/-! ### Retention and staging (R228, R277, R331, R332) -/

/-- May ORDERED staging use the Carafe pool (R178)? -/
def Module.stagePoolOpen (m : Module) (s : Nat) : Bool := m.hbm.stagePool && !m.buf.poolStageLost.contains s

/-- Staging and spill want the last of the pool at once (R178): where spill holds part of it, the resource-priority table
decides. -/
def Module.stageContest (m : Module) (s : Nat) : Module :=
  if m.stagePoolOpen s && !m.poolLost s && decide (0 < m.poolSpill s) then m.contestPool s else m

/-- Chunks taken, for retention or staging: from its region, and for staging then from the Carafe pool (R178, R331). `none` says
that there is no room, which is counted as REGION_FULL. -/
def Module.takeChunks (m : Module) (s : Nat) (ordered : Bool) (use : ChunkUse) (n : Nat) : Module × Option (List Nat) :=
  let r := if ordered then 2 else 1
  let free := m.regionBytes s r / 4096 - m.regionUsed s r
  if n ≤ free then
    let x := m.newChunks s r false use n
    (x.1, some x.2)
  else
    let want := n - free
    let m := if ordered && m.stagePoolOpen s && !m.poolRoom s want then m.stageContest s else m
    if ordered && m.stagePoolOpen s && m.poolRoom s want then
      let x := m.newChunks s r false use free
      let y := x.1.newChunks s 0 true use want
      (y.1, some (x.2 ++ y.2))
    else (m.regionFull s, none)

/-- Would staging of `n` chunks more use a Carafe pool that a map-out has left too small for what it holds (R178, R342)? -/
def Module.poolOver (m : Module) (s n : Nat) : Bool :=
  m.stagePoolOpen s && !m.regionRoom s 2 n && decide (m.poolBytes s < (m.poolChunks s).length * 4096)

/-- Must a retention or staging write of `n` new chunks wait in its ingress buffer: a map-out has left its region, or the pool that
it would use, too small for what they hold (R342), or what is due on the next stack keeps it from being issued (R334)? -/
def Module.holdsWrite (m : Module) (s : Nat) (ordered : Bool) (n : Nat) : Bool :=
  let r := if ordered then 2 else 1
  m.regionOver s r || (ordered && m.poolOver s n) || !m.canWrite s r

/-- Can ORDERED operations be staged in a sector (R220 check 5, R331)? -/
def Module.staging (m : Module) (s : Nat) : Bool :=
  m.hasHbm s && (decide (0 < m.regionBytes s 2) || (m.stagePoolOpen s && decide (0 < m.poolBytes s)))

/-! ### The array's groups (R302 to R305) -/

/-- Is a recipe PRA_OK (R302)? -/
def Recipe.praOk (r : Recipe) : Bool :=
  match r.pre.map RInstr.decode with
  | [acc] => acc.opc == 0x10 && acc.a == 0
  | [mul, acc] => mul.opc == 4 && mul.d == 0 && mul.a == 0 && mul.b == 6 && !mul.bk && acc.opc == 0x10 && acc.a == 0
  | _ => false

/-- Does the array of the home sector's die serve an operation (R302)? -/
def Module.praServes (m : Module) (home : Nat) (d : Descriptor) : Bool :=
  let a := praOf home
  let st := m.getF (K.praStatus_STATE a)
  m.profile == 0 && (m.praAt a).enabled && m.isOn (K.praCtrl_EN a) && (st == 2 || st == 3) && d.usePra && !d.ordered
    && d.arith && d.sums && isMx d.inFmt && decide (4 ≤ d.outFmt) && decide (d.outFmt ≤ 10)
    && (match m.recipe d.recipe with
        | some r => r.praOk
        | none => false)

/-- The carriers of an array in service. -/
def Module.carriers (m : Module) (a : Nat) : List Nat := natsWhere 32 (fun c => bitOf (m.getF (K.praCarrier_UP a)) c)

/-- Insert in ascending order. -/
def insertNat (n : Nat) : List Nat → List Nat
  | [] => [n]
  | x :: xs => if n ≤ x then n :: x :: xs else x :: insertNat n xs

/-- The local ranks in ascending order. -/
def Op.localRanks (op : Op) : List Nat := (op.locals.map (·.rank)).foldl (fun l r => insertNat r l) []

/-- The ranks of conversion group g: as many as there are carriers in service, by ascending rank. -/
def Module.groupRanks (m : Module) (op : Op) (g : Nat) : List Nat :=
  let c := (m.carriers (praOf op.home)).length
  (op.localRanks.drop (g * c)).take c

/-- The group of a local rank. -/
def Module.groupOfRank (m : Module) (op : Op) (r : Nat) : Nat :=
  op.localRanks.findIdx (· == r) / (m.carriers (praOf op.home)).length

/-- g_r: 1, or the rank-table value of a weighted recipe (R304). -/
def Module.praWeight (m : Module) (op : Op) (r : Nat) : Val :=
  let rc := m.opRecipe op
  if rc.pre.length = 1 then .fin false 1 0 else rc.rankValue r

/-- Is a group left to the engine: a weight is NaN or infinite, or every weight is 0 and no conversion is made (R305)? -/
def Module.badGroup (m : Module) (op : Op) (ranks : List Nat) : Bool :=
  ranks.any (fun r => (m.praWeight op r).isNan || (m.praWeight op r).isInf) || ranks.all (fun r => (m.praWeight op r).isZero)

/-- Does the array take a local rank's contributions to a segment? -/
def Module.praTakes (m : Module) (op : Op) (r : Nat) : Bool :=
  op.pra && !(m.carriers (praOf op.home)).isEmpty && !m.badGroup op (m.groupRanks op (m.groupOfRank op r))

/-! ### Adding (R253 to R255, R262, R263, R268, R282) -/

/-- A segment just placed. -/
def Seg.initial (k order : Nat) (engine : Option Nat) (window : Option Nat) (corrupt : Option Bool) : Seg :=
  { k := k, order := order, engine := engine, epoch := 0, window := window, moving := false, recomputed := false
    got := [], taken := 0, added := [], subs := [], runs := [], recs := [], rin := 0, corrupt := corrupt, bytes := 0
    chunks := [], readLost := false, counted := [], preRound := false, inOver := false, sideHeld := false, ready := false
    sent := false }

/-- Join a record to an element's. -/
def Seg.join (sg : Seg) (op : Op) (pos : Nat) (r : Rec) : Seg :=
  let r' := match Tbl.find sg.recs pos with
    | some old => r.join op.desc.func old
    | none => r
  { sg with recs := Tbl.put sg.recs pos r'
            rin := if op.desc.keepsResidue then (sg.rin + r.residue pos) % residueP else sg.rin }

/-- The position of an element in its segment. -/
def Op.pos (op : Op) (slot subOff : Nat) : Nat := slot * op.desc.frameElems + subOff

/-- The terms of a contribution: PRE and ACC on each decoded element, or the bare pattern for AND, OR and XOR; beside them
whether an MX element overflowed. -/
def Module.terms (m : Module) (op : Op) (d : Delivery) : List (Rec × Term) × Bool :=
  let inF := op.desc.inFmt
  if 6 ≤ op.desc.func then
    ((scalarPatterns (elemBits inF) d.elems d.data).map (fun w =>
      ({ Rec.zero with negz := false, a := BitVec.ofNat 320 w }, { v := .nan, rounded := false, overflow := false })), false)
  else
    let rc := m.opRecipe op
    let w := rc.rankValue d.source
    let (vs, tooMuch) := decodeData inF d.elems d.data
    (vs.map (fun x => let t := accTerm (isInt inF) (rc.runPre x w); (Rec.ofVal (isInt inF) d.source t.v, t)), tooMuch)

/-- Number the elements of a list. -/
def numbered {α : Type} (l : List α) : List (Nat × α) := (List.range l.length).zip l

/-- Add some elements of a local contribution, by their place in the frame. -/
def Module.addTerms (m : Module) (op : Op) (sg : Seg) (d : Delivery) (pick : Nat → Bool) : Seg :=
  let (ts, tooMuch) := m.terms op d
  let sg := (numbered ts).foldl (fun sg x =>
    if pick x.1 then
      let sg := sg.join op (op.pos d.slot x.1) x.2.1
      { sg with preRound := sg.preRound || x.2.2.rounded, inOver := sg.inOver || x.2.2.overflow }
    else sg) sg
  { sg with inOver := sg.inOver || tooMuch }

/-- Add one delivery to its segment (R255, R266). A contribution that the array takes is decoded but not added here: its slot
waits in retention for its group's conversion terms (R305, R306). An ORDERED contribution is only staged (R267). -/
def Module.addDelivery (m : Module) (op : Op) (sg : Seg) (d : Delivery) : Seg :=
  if op.desc.ordered then { sg with added := (d.source, d.slot, 0) :: sg.added }
  else if d.child then
    let rs := (decodePartials op.desc.func op.desc.inFmt d.elems d.data).getD []
    let sg := (numbered rs).foldl (fun sg x => sg.join op (op.pos d.slot (d.subOff + x.1)) x.2) sg
    { sg with added := (d.source, d.slot, d.sub) :: sg.added }
  else if m.praTakes op d.source then { sg with inOver := sg.inOver || (m.terms op d).2 }
  else
    let sg := m.addTerms op sg d (fun _ => true)
    { sg with added := (d.source, d.slot, 0) :: sg.added }

/-- Does a set of terms cover a rank's element? -/
def covers (ts : List PraTerm) (slot seg fslot elem r : Nat) : Bool :=
  ts.any (fun t => t.slot == slot && t.seg == seg && t.fslot == fslot && t.elem == elem && t.ranks.contains r)

/-- Of some ranks those whose element nothing covers yet. -/
def Module.freeRanks (m : Module) (a slot : Nat) (sg : Seg) (fslot elem : Nat) (ranks : List Nat) : List Nat :=
  let p := m.praAt a
  ranks.filter (fun r =>
    !sg.added.contains (r, fslot, 8 + elem) && !sg.added.contains (r, fslot, 0)
      && !covers (p.inFlight ++ p.compare.filter (fun t => t.epoch == sg.epoch)) slot sg.k fslot elem r)

/-- Of a contribution that the array no longer takes, its group having changed, the engine sums what no term covers (R305). -/
def Module.addUncovered (m : Module) (slot : Nat) (op : Op) (sg : Seg) (d : Delivery) : Seg :=
  let es := (List.range d.elems).filter (fun e => !(m.freeRanks (praOf op.home) slot sg d.slot e [d.source]).isEmpty)
  let sg' := m.addTerms op sg d es.contains
  { sg' with added := es.map (fun e => (d.source, d.slot, 8 + e)) ++ sg'.added }

/-- The events that an engine counts at most once for a segment, by their RDE_EVT bit (R270, R299). -/
def segEvent (bit : Nat) : Ev :=
  match bit with
  | 0 => .rde_INPUT_OVERFLOW
  | 4 => .rde_PRE_ROUND
  | 5 => .rde_WINDOW_WAIT
  | 6 => .rde_RECOMPUTE
  | _ => .rde_SIDE_HOLD

/-- The events that the additions to a segment have met, as RDE_EVT bits. -/
def Seg.met (sg : Seg) : List Nat := (if sg.inOver then [0] else []) ++ (if sg.preRound then [4] else [])

/-- Of some RDE_EVT bits, those that the segment's engine has not yet counted for it. -/
def Seg.news (sg : Seg) (bits : List Nat) : List Nat :=
  match sg.engine with
  | none => []
  | some e => bits.filter (fun b => !sg.counted.contains (e, b))

/-- The segment's engine counts some events (R270). -/
def Module.countSeg (m : Module) (sg : Seg) (bits : List Nat) : Module :=
  m.each (sg.news bits) (fun m b => m.raise (segEvent b) (sg.engine.getD 0))

/-- A segment whose engine has counted some events. -/
def Seg.note (sg : Seg) (bits : List Nat) : Seg :=
  { sg with counted := sg.counted ++ (sg.news bits).map (fun b => (sg.engine.getD 0, b)) }

/-! ### Rank values (R291, R336) -/

/-- The unit of the recipe region that holds a rank's value for an operation, where its recipe's table has one. -/
def Module.rankUnit (m : Module) (op : Op) (rank : Nat) : Option Nat :=
  let rc := m.opRecipe op
  if rank < (rc.table.getD []).length then some (rc.offset + rank / 512) else none

/-- Has HBM lost both copies of a rank's value? -/
def Module.rankLost (m : Module) (op : Op) (rank : Nat) : Bool :=
  match m.rankUnit op rank with
  | some u => m.hbm.lostUnits.contains (op.home, u)
  | none => false

/-- Fetch a rank's value, a line of 64 B, as a contribution is directed (R291, R334). -/
def Module.fetchRank (m : Module) (op : Op) (rank : Nat) : Module :=
  match (m.rankUnit op rank).bind (fun u => m.unitCopy op.home u 0) with
  | some c => m.issueAt (octetStack c.sector c.octet) 1 64 (lineCost 64) false
  | none => m

/-- A segment's engine reads back what is retained or staged for it and not yet taken, with it the rank values, which are not
retained (R277). -/
def Module.readBackSeg (m : Module) (op : Op) (sg : Seg) : Module :=
  let before := ((sg.got.take sg.taken).map (fun d => d.data.length)).sum
  (m.readChunks (sg.chunks.drop (before / 4096))).each (sg.got.drop sg.taken) (fun m d =>
    if d.child then m else m.fetchRank op d.source)

/-- Do some deliveries need a rank's value that is lost? -/
def Module.ranksLost (m : Module) (op : Op) (ds : List Delivery) : Bool := ds.any (fun d => !d.child && m.rankLost op d.source)

/-! ### Completion (R230) -/

/-- Is a delivery of this source, slot and sub-frame in: added, or retained? -/
def Seg.has (sg : Seg) (source slot sub : Nat) : Bool :=
  sg.added.contains (source, slot, sub) || sg.got.any (fun d => d.source == source && d.slot == slot && d.sub == sub)

/-- Is every element of a source's slot in the records: the slot itself, or conversion terms that cover all of it (R305)?
A term's cover of element e stands as sub-frame 8 + e. -/
def Seg.addedAll (sg : Seg) (op : Op) (source slot : Nat) : Bool :=
  sg.added.contains (source, slot, 0)
    || (op.pra && decide (0 < op.desc.slotElems sg.k slot)
        && (List.range (op.desc.slotElems sg.k slot)).all (fun e => sg.added.contains (source, slot, 8 + e)))

/-- Is a child's slot whole? -/
def Seg.childSlot (sg : Seg) (source slot : Nat) : Bool :=
  match Tbl.find sg.subs (source, slot) with
  | none => false
  | some n => (List.range (n + 1)).all (fun j => sg.added.contains (source, slot, j))

/-- Is a segment of an operation with arithmetic complete (R230)? -/
def Op.segComplete (op : Op) (sg : Seg) : Bool :=
  let slots := List.range (op.desc.segSlots sg.k)
  if op.desc.ordered then
    op.gdef.root && (List.range op.n).all (fun r => slots.all (fun i => sg.added.contains (r, i, 0)))
  else
    op.locals.all (fun e => slots.all (fun i => sg.addedAll op e.rank i))
      && op.children.all (fun e => slots.all (fun i => sg.childSlot e.rank i))

/-! ### Placement and windows (R228, R276, R364) -/

def Op.seg (op : Op) (k : Nat) : Option Seg := Tbl.find op.segs k

def Op.putSeg (op : Op) (sg : Seg) : Op := { op with segs := Tbl.put op.segs sg.k sg }

/-- The schedule's binding of a group (R361). -/
def Module.binding (m : Module) (defIdx : Nat) : Option Binding := m.lock.bindings.find? (fun b => b.group == defIdx)

/-- A rehearsal residue error takes the next segment placed on its engine that keeps a residue; with the last the injection
ends (R465). -/
def Module.takeInjection (m : Module) (op : Op) (e : Nat) : Module × Option Bool :=
  let n := Tbl.get m.rde.inject 0 e
  if op.desc.keepsResidue && decide (0 < n) then
    let m := { m with rde := { m.rde with inject := Tbl.put m.rde.inject e (n - 1) } }
    (if n = 1 then ({ m with mpc := { m.mpc with injection := none } }).setF K.mpcInjStat_BUSY 0 else m, some m.rde.injectQuar)
  else (m, none)

/-- Place a segment of a bound group in its engine's next window in turn (R364): `none` where the engine does not serve, for its
binding is not moved (R368), or where the window is still taken. -/
def Module.placeBound (m : Module) (op : Op) (k : Nat) (b : Binding) : Module × Option Seg :=
  let t := Tbl.get m.rde.turn 0 op.defIdx
  let w := b.windows.getD (t % b.windows.length) 0
  if !m.rdeServes b.engine then (m, none)
  else if (m.windowsUsed b.engine).contains w then (m.raiseLocked .sched_SCHED_OVERRUN op.home, none)
  else
    let order := m.col.placed
    let m := { m with col := { m.col with placed := order + 1 }, rde := { m.rde with turn := Tbl.put m.rde.turn op.defIdx (t + 1) } }
    let (m, bad) := m.takeInjection op b.engine
    (m, some (Seg.initial k order (some b.engine) (some w) bad))

/-- Place a new segment (R228): `none` where no engine serves. -/
def Module.placeSeg (m : Module) (op : Op) (k : Nat) : Module × Option Seg :=
  match if m.timetable then m.binding op.defIdx else none with
  | some b => m.placeBound op k b
  | none =>
    match m.engineFor op.gdef k none with
    | none => (m, none)
    | some e =>
      let order := m.col.placed
      let m := { m with col := { m.col with placed := order + 1 } }
      let w := if m.earlierWaits e order then none else m.freeWindow e
      let (m, bad) := m.takeInjection op e
      (m, some (Seg.initial k order (some e) w bad))

/-- What the chunks of a segment hold. -/
def Op.chunkUse (op : Op) (slot k : Nat) : ChunkUse := if op.desc.ordered then .staged slot k else .retained slot k

/-- New chunks that `n` more bytes of a segment take (R277). -/
def Seg.need (sg : Seg) (n : Nat) : Nat := chunksOf (sg.bytes + n) - sg.chunks.length

/-- Retain or stage the bytes of a delivery (R277): `none` where the region is full. -/
def Module.retain (m : Module) (slot : Nat) (op : Op) (sg : Seg) (n : Nat) : Module × Option Seg :=
  if sg.need n = 0 then (m, some { sg with bytes := sg.bytes + n })
  else
    match m.takeChunks op.home op.desc.ordered (op.chunkUse slot sg.k) (sg.need n) with
    | (m, some nos) => (m, some { sg with bytes := sg.bytes + n, chunks := sg.chunks ++ nos })
    | (m, none) => (m, none)

/-! ### Moves (R240, R277) -/

/-- Clear what an engine has added, keeping what is retained. -/
def Seg.cleared (sg : Seg) : Seg :=
  { sg with added := [], taken := 0, recs := [], rin := 0, preRound := false, inOver := false, sideHeld := false, ready := false }

/-- Move one open segment off its engine (R240). Where nothing is retained, or a retained chunk has been lost (R336), its
operation ends with NO_RESOURCE. -/
def Module.moveSeg (m : Module) (slot k : Nat) (without : Option Nat) : Module :=
  match m.op slot with
  | none => m
  | some op =>
    match op.seg k with
    | none => m
    | some sg =>
      match m.engineFor op.gdef k without with
      | none => m.failOp slot 5
      | some e =>
        if !m.hasHbm op.home || sg.readLost then (m.raise .col_MIGRATE op.home).failOp slot 5
        else
          let m := m.raise .col_MIGRATE op.home
          let m := if op.pra then m.dropSegTerms (praOf op.home) slot k else m
          let (m, bad) := m.takeInjection op e
          m.putOp slot (op.putSeg { sg.cleared with engine := some e, epoch := sg.epoch + 1, window := none, moving := true
                                                    corrupt := bad })

/-- Move every open segment of an engine that leaves service (R240). -/
def Module.moveAll (m : Module) (e : Nat) : Module :=
  m.each (m.engineSegs e) (fun m x => m.moveSeg x.1 x.2.1 (some e))

/-- Does a segment's engine take its deliveries: it has a window, is no longer moving, and the governor admits it (R493)? -/
def Module.takes (m : Module) (sg : Seg) : Bool :=
  sg.window.isSome && !sg.moving && (match sg.engine with
    | some e => m.rdeAdmits e
    | none => false)

/-- The engine takes the deliveries that it has not yet taken, in the order they came (R276, R277), and what the array has left
to it of those that it had (R305). What nothing retains leaves the segment, except a contribution that waits for the array. -/
def Module.catchUp (m : Module) (slot : Nat) (op : Op) (sg : Seg) : Seg :=
  let left := if op.pra then (sg.got.take sg.taken).filter (fun d => !d.child && !m.praTakes op d.source) else []
  let sg' := left.foldl (fun sg d => m.addUncovered slot op sg d) sg
  let sg' := (sg.got.drop sg.taken).foldl (fun sg d => m.addDelivery op sg d) sg'
  if m.hasHbm op.home || op.pra then { sg' with taken := sg.got.length } else { sg' with got := [], taken := 0 }

/-- RECOMPUTE, where the engine takes again what was retained under an older placement (R277). -/
def Seg.again (sg : Seg) : List Nat := if (sg.got.drop sg.taken).any (fun d => decide (d.epoch < sg.epoch)) then [6] else []

/-- Does a duplicated path of the engine see some deliveries: PRE for a contribution, the record update for what is no sum (R263,
R269, R294)? -/
def Op.compared (op : Op) (ds : List Delivery) : Bool := !op.desc.ordered && ds.any (fun d => !d.child || !op.desc.sums)

end Sys2Proof.Machine
end

