-- ==== Sys2Proof/Machine/ColRound.lean ====
section
/-! DEFINITION. A complete segment on its way out: the ordered combine, POST, the one rounding, side results, the residue
check, the result frames, and partials to the parent (spec/08_collective_operations.md R221 to R225, R231, R241;
spec/09_exact_reduction_arithmetic.md R257 to R270; spec/10_recipes.md R283 to R285;
spec/17_spares_repair_and_resilience.md R455, R456). -/

namespace Sys2Proof.Machine

/-! ### The value of each element -/

/-- One element before POST: its value, its index, and its bit pattern for AND, OR and XOR. -/
structure ElemIn where
  v : Val
  idx : Nat
  bits : Nat
  deriving DecidableEq, Repr

/-- The value of an element from its record (R255, R262, R263). -/
def Seg.exactElem (sg : Seg) (op : Op) (pos : Nat) : ElemIn :=
  let r := Tbl.get sg.recs Rec.zero pos
  { v := r.toVal (isInt op.desc.inFmt), idx := r.idx, bits := r.a.toNat % 2 ^ elemBits op.desc.inFmt }

/-- The terms of a staged contribution, each after PRE and one rounding to the step format (R282), and whether an MX element
overflowed (R253). -/
def Module.stepTerms (m : Module) (op : Op) (d : Delivery) : List Term × Bool :=
  let rc := m.opRecipe op
  let (vs, tooMuch) := decodeData op.desc.inFmt d.elems d.data
  (vs.map (fun x => rc.accOrdered op.desc.inFmt op.desc.round (rc.runPre x (rc.rankValue d.source))), tooMuch)

/-- The values of one element by ascending rank, or its patterns. -/
def Module.rankValues (m : Module) (op : Op) (sg : Seg) (slot at_ : Nat) : List (Val × Nat) :=
  (List.range op.n).map (fun r =>
    match sg.got.find? (fun d => d.source == r && d.slot == slot) with
    | none => (.nan, 0)
    | some d =>
      if 6 ≤ op.desc.func then (.nan, (scalarPatterns (elemBits op.desc.inFmt) d.elems d.data).getD at_ 0)
      else ((((m.stepTerms op d).1[at_]?).map (·.v)).getD .nan, 0))

/-- What PRE meets in a staged segment, as RDE_EVT bits (R253, R282). -/
def Module.stepMet (m : Module) (op : Op) (sg : Seg) : List Nat :=
  if !op.desc.ordered || decide (6 ≤ op.desc.func) then []
  else
    let xs := sg.got.map (m.stepTerms op)
    (if xs.any (·.2) then [0] else []) ++ (if xs.any (fun x => x.1.any (·.rounded)) then [4] else [])

/-- Do two values hold the same place in the order of R262? -/
def Val.same (x y : Val) : Bool := !x.isNan && !y.isNan && !x.lt y && !y.lt x

/-- The index of an ORDERED extremum (R262): the lowest rank that holds it, or the lowest NaN. -/
def orderedIndex (v : Val) (xs : List Val) : Nat :=
  xs.findIdx (fun x => if v.isNan then x.isNan else x.same v)

/-- The fixed-order combine of one element (R267, R285). -/
def Module.orderedElem (m : Module) (op : Op) (sg : Seg) (slot at_ : Nat) : ElemIn :=
  let rc := m.opRecipe op
  let d := op.desc
  let xs := m.rankValues op sg slot at_
  match xs with
  | [] => { v := .nan, idx := 0, bits := 0 }
  | (x0, b0) :: rest =>
    let v := ((numbered rest).foldl (fun c x => rc.combine d.func d.inFmt d.round c x.2.1 (rc.rankValue (x.1 + 1))) x0)
    let bits := rest.foldl (fun b x =>
      if d.func = 6 then b &&& x.2 else if d.func = 7 then b ||| x.2 else b ^^^ x.2) b0
    { v := v, idx := orderedIndex v (xs.map Prod.fst), bits := bits }

/-- Every element of a segment, in order. -/
def Module.elemsIn (m : Module) (op : Op) (sg : Seg) : List ElemIn :=
  (List.range (op.desc.segElems sg.k)).map (fun pos =>
    if op.desc.ordered then m.orderedElem op sg (pos / op.desc.frameElems) (pos % op.desc.frameElems)
    else sg.exactElem op pos)

/-! ### POST and the rounding (R257 to R261, R267, R283) -/

/-- An element after POST's head: what OUT rounds, its divisor and draw, and the registers that SIDE may read. -/
structure Headed where
  inp : BlockIn
  h : Nat
  regs : ERegs
  idx : Nat
  bits : Nat
  deriving DecidableEq, Repr

/-- The stochastic draw of an element (R264). -/
def Op.draw (op : Op) (i : Nat) : Nat :=
  if op.desc.round = 5 then srDraw op.gdef.stochSeed op.gdef.groupId op.gdef.jobEpoch op.op i else 0

def Op.head (op : Op) (rc : Recipe) (k pos : Nat) (x : ElemIn) : Headed :=
  let d := op.desc
  let p := rc.postHead x.v
  let avg := d.func == 1
  let (v, den) :=
    if d.ordered && avg && !isInt d.inFmt then
      (match p.v with
       | .fin neg n q => (((stepFmt d.inFmt).round d.round neg n op.n q 0).1, 1)
       | v => (v, 1))
    else if d.ordered then (p.v, if avg then op.n else 1)
    else (p.v.zeroRule d.round, if avg then op.n else 1)
  { inp := { v := v, den := den, imm := rc.outImm, u := op.draw (65536 * k + pos) }, h := p.h, regs := p.regs, idx := x.idx
    bits := x.bits }

/-- Round a scalar element. -/
def Op.outScalar (op : Op) (x : Headed) : OutElem :=
  if 6 ≤ op.desc.func then
    { pattern := x.bits, val := Val.ofInt (signedOf (elemBits op.desc.outFmt) x.bits), special := false, overflow := false }
  else roundOut op.desc.outFmt op.desc.round x.inp.den x.inp.imm x.inp.u x.inp.v

/-- The bytes of a scalar element, with its index where the function carries one (R252). -/
def Op.scalarBytes (op : Op) (pattern idx : Nat) : List Byte :=
  toBytes (elemBits op.desc.outFmt / 8) pattern ++ (if op.desc.indexed then toBytes 4 idx else [])

/-! ### Side results (R284) -/

/-- Does the segment hold the operation's side element? -/
def Op.holdsSide (op : Op) (rc : Recipe) (k : Nat) : Bool :=
  rc.side.isSome && decide (op.desc.func < 6) && k + 1 == op.desc.segments

/-- Round to the step format where the operation is ORDERED. -/
def Op.stepRound (op : Op) (v : Val) : Val :=
  if op.desc.ordered then (stepFmt op.desc.inFmt).roundVal op.desc.round v else v

/-- Add a term to a side sum. -/
def Op.sideAdd (op : Op) (imm : Nat) (x y : Val) : Val :=
  if imm % 4 = 2 then x.minmax true y else op.stepRound (x.addExact 0 y)

/-- The side quantity of one operand. -/
def Op.sideTerm (op : Op) (imm : Nat) (v : Val) : Val :=
  if imm % 4 = 0 then op.stepRound (v.mulExact v).abs else v.abs

/-- The side sum of some output values. -/
def Op.sideSum (op : Op) (rc : Recipe) (imm : Nat) (xs : List (Headed × OutElem)) : Val :=
  xs.foldl (fun s x => match rc.sideOperand x.1.regs x.2.val with
    | some v => op.sideAdd imm s (op.sideTerm imm v)
    | none => s) (.zero false)

/-- The side value: the total of the segments' sums in ascending order, or its exact square root. -/
def Op.sideValue (op : Op) (imm : Nat) (sums : List Val) : Val :=
  let t := sums.foldl (op.sideAdd imm) (.zero false)
  if imm % 4 = 0 ∧ bitOf imm 2 = true then
    match t with
    | .fin false n q => let r := sqrtOf n q; .fin false r.1 r.2
    | v => v
  else t

/-- The sums of the segments before the last, where they are all in. -/
def Op.sideOthers (op : Op) : Option (List Val) :=
  (List.range (op.desc.segments - 1)).mapM (fun k => Tbl.find op.side k)

/-! ### A rounded segment -/

/-- What a rounded segment is: its data by bytes of element or block, its elements, and its side sum. -/
structure Rounded where
  data : List Byte
  special : Bool
  overflow : Bool
  sum : Val
  deriving DecidableEq, Repr

/-- Round the elements of a scalar format. -/
def Op.roundScalar (op : Op) (rc : Recipe) (k : Nat) (xs : List Headed) : Rounded :=
  let last := op.holdsSide rc k
  let body := if last then xs.dropLast else xs
  let outs := body.map (fun x => (x, op.outScalar x))
  let bytes := outs.flatMap (fun x => op.scalarBytes x.2.pattern x.1.idx)
  let sum := match rc.side with
    | some imm => op.sideSum rc imm outs
    | none => .zero false
  let sideOut := if last then
      let imm := rc.side.getD 0
      let v := op.sideValue imm ((op.sideOthers.getD []) ++ [sum])
      some (roundOut op.desc.outFmt op.desc.round 1 0 (op.draw (op.desc.elements - 1)) v)
    else none
  { data := bytes ++ (match sideOut with | some o => op.scalarBytes o.pattern 0 | none => [])
    special := outs.any (·.2.special) || sideOut.any (·.special)
    overflow := outs.any (·.2.overflow) || sideOut.any (·.overflow), sum := sum }

/-- The side element of a block that it shares, under the block's scale (R284). -/
def sideShared (code mode scale : Nat) (x : BlockIn) : OutElem :=
  match fmtOf code with
  | none => { pattern := 0, val := .nan, special := false, overflow := false }
  | some f =>
    if 8 ≤ code ∧ scale = 0xFF then { pattern := 0, val := .nan, special := true, overflow := false }
    else if f.badIn x.v then
      if 8 ≤ code then { pattern := f.encode (f.maxVal false), val := f.maxVal false, special := false, overflow := false }
      else { pattern := f.encode .nan, val := .nan, special := true, overflow := false }
    else f.blockElem mode ((scale : Int) - 127) x

/-- Cut a list into blocks of 32. -/
def blocksOf {α : Type} : Nat → List α → List (List α)
  | 0, _ => []
  | n + 1, xs => if xs.isEmpty then [] else xs.take 32 :: blocksOf n (xs.drop 32)

/-- Round the elements of a block-scaled format (R259). -/
def Op.roundBlocks (op : Op) (rc : Recipe) (k : Nat) (xs : List Headed) : Rounded :=
  let code := op.desc.outFmt
  let mode := op.desc.round
  let h := (xs.head?.map (·.h)).getD 0
  let last := op.holdsSide rc k
  let body := if last then xs.dropLast else xs
  let done := (blocksOf (body.length + 1) body).map (fun b => (b, mxBlock code mode h (b.map (·.inp))))
  let outs := done.flatMap (fun b => b.1.zip b.2.2.1)
  let sum := match rc.side with
    | some imm => op.sideSum rc imm outs
    | none => .zero false
  let pack (b : List Headed × Nat × List OutElem × Bool) : List Byte := packBlock code b.2.1 (b.2.2.1.map (·.pattern))
  let plain := done.flatMap pack
  let special := outs.any (·.2.special)
  let tooMuch := done.any (·.2.2.2)
  if last then
    let side : BlockIn := { v := op.sideValue (rc.side.getD 0) ((op.sideOthers.getD []) ++ [sum]), den := 1, imm := 0
                            u := op.draw (op.desc.elements - 1) }
    match done.getLast? with
    | some b =>
      if b.1.length < 32 then
        let o := sideShared code mode b.2.1 side
        { data := done.dropLast.flatMap pack ++ packBlock code b.2.1 (b.2.2.1.map (·.pattern) ++ [o.pattern])
          special := special || o.special, overflow := tooMuch, sum := sum }
      else
        let alone := mxBlock code mode h [side]
        { data := plain ++ packBlock code alone.1 (alone.2.1.map (·.pattern))
          special := special || alone.2.1.any (·.special), overflow := tooMuch || alone.2.2, sum := sum }
    | none =>
      let alone := mxBlock code mode h [side]
      { data := packBlock code alone.1 (alone.2.1.map (·.pattern)), special := alone.2.1.any (·.special)
        overflow := alone.2.2, sum := sum }
  else { data := plain, special := special, overflow := tooMuch, sum := sum }

/-- Round a complete segment at the root. -/
def Module.roundSeg (m : Module) (op : Op) (sg : Seg) : Rounded :=
  let rc := m.opRecipe op
  let xs := (numbered (m.elemsIn op sg)).map (fun x => op.head rc sg.k x.1 x.2)
  if isMx op.desc.outFmt then op.roundBlocks rc sg.k xs else op.roundScalar rc sg.k xs

/-- Bytes of `n` result elements. -/
def Op.outBytes (op : Op) (n : Nat) : Nat :=
  dataBytes op.desc.outFmt n + (if op.desc.indexed then 4 * n else 0)

/-! ### Who is due a slot (R221, R231) -/

def Op.due (op : Op) (k i : Nat) (e : MemberEntry) : Bool :=
  match op.desc.kind with
  | 1 => e.covers ((65536 * k + i * op.desc.frameElems) / (op.desc.elements / op.n))
  | 2 => e.covers op.desc.rootRank
  | _ => true

/-- A RESULT frame of the root's own. -/
def Module.resultFrame (m : Module) (op : Op) (k i : Nat) (data : List Byte) : Frame :=
  m.colFrame op.gdef.groupId op.op 4 1 (k * op.desc.perSeg + i)
    { CollExt.plain op.fp op.descBits 2 with segment := k, elems := op.desc.slotElems k i } data

/-- Send a rounded segment to its recipients, in ascending SEQ. -/
def Module.sendResults (m : Module) (slot : Nat) (op : Op) (k : Nat) (data : List Byte) : Module :=
  (m.sentSeq slot (k * op.desc.perSeg + (op.desc.segSlots k - 1))).each (List.range (op.desc.segSlots k)) (fun m i =>
    let from_ := op.outBytes (i * op.desc.frameElems)
    let bytes := (data.drop from_).take (op.outBytes (op.desc.slotElems k i))
    m.sendDown op.home (op.members.filter (op.due k i)) (m.resultFrame op k i bytes))

/-! ### Partials (R222, R224, R266) -/

/-- Cut encoded elements into sub-frames of at most 8072 data bytes: elements and their bytes, first first. -/
def packSubs (es : List (List Byte)) : List (Nat × List Byte) :=
  es.foldl (fun acc e =>
    match acc.getLast? with
    | some (n, bs) => if bs.length + e.length ≤ 8072 then acc.dropLast ++ [(n + 1, bs ++ e)] else acc ++ [(1, e)]
    | none => [(1, e)]) []

/-- Has an entry a slot of segment k due? -/
def Op.dueSeg (op : Op) (k : Nat) (e : MemberEntry) : Bool := (List.range (op.desc.segSlots k)).any (fun i => op.due k i e)

/-- Has every earlier segment that a recipient of segment k is due been sent, so that each gets its results in ascending SEQ
(R225)? -/
def Op.inTurn (op : Op) (k : Nat) : Bool :=
  op.members.all (fun e => !op.dueSeg k e || (List.range k).all (fun j =>
    !op.dueSeg j e || ((op.seg j).map (·.sent)).getD false))

/-- Send the partial of one slot. -/
def Module.sendPartial (m : Module) (slot : Nat) (op : Op) (sg : Seg) (i : Nat) : Module :=
  let d := op.desc
  let subs := packSubs ((List.range (d.slotElems sg.k i)).map (fun e =>
    encodePartial d.func d.inFmt (Tbl.get sg.recs Rec.zero (op.pos i e))))
  (numbered subs).foldl (fun (st : Module × Nat) x =>
    let f := st.1.colFrame op.gdef.groupId op.op 3 0 ((sg.k * d.perSeg + i) * 8 + x.1)
      { CollExt.plain op.fp op.descBits 1 with
          source := op.upSource, segment := sg.k, sub := x.1, subsM1 := subs.length - 1, elems := x.2.1, subOff := st.2 } x.2.2
    (st.1.sendUp op f, st.2 + x.2.1)) (m.sentSeq slot ((sg.k * d.perSeg + i) * 8 + (subs.length - 1)), 0) |>.1

/-! ### A segment leaves (R231, R233) -/

/-- The segment is out: its retention and window are free, and the operation goes on to AWAIT_ACK after its last. -/
def Module.segOut (m : Module) (slot k : Nat) : Module :=
  match m.op slot with
  | none => m
  | some op =>
    match op.seg k with
    | none => m
    | some sg =>
      let m := m.freeChunks sg.chunks
      let op := op.putSeg { sg with sent := true, window := none, got := [], taken := 0, added := [], subs := [], runs := []
                                    recs := [], bytes := 0, chunks := [], sideHeld := false, ready := false }
      let op := { op with segDone := op.segDone + 1 }
      let m := m.putOp slot op
      if op.segDone = op.desc.segments then m.awaitAcks slot else m

/-- Round and send a complete segment at the root, its side sum joining the operation's total. -/
def Module.finishRoot (m : Module) (slot k : Nat) : Module :=
  match m.op slot with
  | none => m
  | some op =>
    match op.seg k with
    | none => m
    | some sg =>
      let r := m.roundSeg op sg
      let e := sg.engine.getD 0
      let m := if r.special then m.raise .rde_ACC_SPECIAL e else m
      let m := if r.overflow then m.raise .rde_ACC_OVERFLOW e else m
      let m := m.putOp slot { op with side := Tbl.put op.side k r.sum }
      (m.sendResults slot op k r.data).segOut slot k

/-- Send the segments that are ready and whose turn it is (R225), the first first. -/
def Module.sendReady (m : Module) (slot : Nat) : Nat → Module
  | 0 => m
  | fuel + 1 =>
    match m.op slot with
    | none => m
    | some op =>
      match op.segs.find? (fun x => x.2.ready && op.inTurn x.1) with
      | none => m
      | some x => (m.finishRoot slot x.1).sendReady slot fuel

/-- A complete segment leaves the root in its turn (R225): with it those that have waited for it. -/
def Module.leaveRoot (m : Module) (slot : Nat) (op : Op) (sg : Seg) : Module :=
  if op.inTurn sg.k then (m.finishRoot slot sg.k).sendReady slot op.segs.length
  else m.putOp slot (op.putSeg { sg with ready := true })

/-! ### The residue check (R268, R241) and quarantine (R455, R456) -/

/-- R_out of a segment. -/
def Seg.residueOut (sg : Seg) : Nat := (sg.recs.map (fun x => x.2.residue x.1)).sum % residueP

/-- The die of an engine (R23). -/
def rdeDie (e : Nat) : Nat := if e = 16 then 0 else if e = 17 then 2 else e / 4

/-- The temperature of a die's hottest sensor (R499). -/
def Module.dieTemp (m : Module) (die : Nat) : Nat := m.getF (K.pwrDieTemp_TEMP die)

/-- The failures of an engine in the last 24 h that count toward quarantine (R455). -/
def Module.fails24 (m : Module) (e : Nat) : Nat :=
  ((Tbl.get m.rde.fails [] e).filter (fun x => x.counts && decide (m.elapsed - x.at_ < 86400 * perSec))).length

/-- Record a residue failure of an engine (R300, R455): the eight newest, and those of the last 24 h. RESIDUE_MISMATCH counts
it where it is the engine's `first` for the segment (R270). -/
def Module.noteFailure (m : Module) (e : Nat) (op : Op) (diff : Nat) (counts first : Bool) : Module :=
  let f : RdeFail := { temp := m.dieTemp (rdeDie e), inFmt := op.desc.inFmt, recipe := op.desc.recipe, diff := diff
                       at_ := m.elapsed, counts := counts }
  let all := f :: Tbl.get m.rde.fails [] e
  let keep := all.take 8 ++ (all.drop 8).filter (fun x => decide (m.elapsed - x.at_ < 86400 * perSec))
  let m := { m with rde := { m.rde with fails := Tbl.put m.rde.fails e keep } }
  if first then m.raise .rde_RESIDUE_MISMATCH e (m.dieTemp (rdeDie e) * 65536 + op.op) else m

/-- The spare of an engine's die pair (R9). -/
def spareOf (e : Nat) : Nat := if e < 8 ∨ e = 16 then 16 else 17

/-- An engine leaves service, quarantined (ROLE 3) or failed (ROLE 4), and its pair's spare stands in where it is in
reserve (R456). `keep` says that the repair table records it: a rehearsal quarantine is not recorded (R466). -/
def Module.engineOut (m : Module) (e role : Nat) (keep : Bool) : Module :=
  let serves := m.getF (K.rdeStatus_SERVES e)
  let sp := spareOf e
  let claim := decide (sp ≠ e) && m.getF (K.rdeStatus_ROLE sp) == 1
  let m := (m.setF (K.rdeStatus_ROLE e) role).setF (K.rdeStatus_SERVES e) 0xF
  let m := if claim then
      ((m.setF (K.rdeStatus_ROLE sp) 2).setF (K.rdeStatus_SERVES sp) serves).setF (K.rdeStatus_REPLACES sp) e
    else m
  let m := m.moveAll e
  if keep then m.record (if role = 3 then 0x07 else 0x08) e (if claim then sp else 0xFFFF) else m

/-- An engine is quarantined (R455), by a rehearsal where not `real` (R466). -/
def Module.quarantine (m : Module) (e : Nat) (real : Bool) : Module :=
  let m := { m with rde := { m.rde with
    rehearsed := if real then m.rde.rehearsed else m.rde.rehearsed ++ [e], quarantined := Tbl.put m.rde.quarantined e m.elapsed } }
  m.engineOut e 3 real

/-- The segment whose failure caused a quarantine goes straight to the spare (R456). -/
def Module.toSpare (m : Module) (slot k e : Nat) : Module :=
  match m.op slot with
  | none => m
  | some op =>
    match op.seg k with
    | none => m
    | some sg =>
      if m.getF (K.rdeStatus_ROLE (spareOf e)) = 2 ∧ m.getF (K.rdeStatus_REPLACES (spareOf e)) = e then
        m.putOp slot (op.putSeg { sg with engine := some (spareOf e) })
      else m

/-- A segment that fails its check (R241): recomputed once on another engine; a third failure of an engine within 24 h
quarantines it. -/
def Module.residueFail (m : Module) (slot k diff : Nat) : Module :=
  match m.op slot with
  | none => m
  | some op =>
    match op.seg k with
    | none => m
    | some sg =>
      let e := sg.engine.getD 0
      let m := m.noteFailure e op diff (sg.corrupt.getD true) (!sg.counted.contains (e, 3))
      let again := sg.recomputed || !m.hasHbm op.home
      let m := m.raise .col_RESIDUE_RECOMPUTE op.home
      let m := if again then m.failOp slot 4
        else m.putOp slot (op.putSeg { sg with recomputed := true, counted := sg.counted ++ [(e, 3)] })
      if 3 ≤ m.fails24 e && (m.getF (K.rdeStatus_ROLE e) == 0 || m.getF (K.rdeStatus_ROLE e) == 2) then
        (m.quarantine e sg.corrupt.isNone).toSpare slot k e
      else if again then m else m.moveSeg slot k (some e)

/-- A complete segment leaves its engine (R231): its residue is checked, then the root rounds and sends it, or holds it for
the side total, and another module sends its exact partial. `erred` says that a duplicated path disagreed (R269, R294). While
the segment moves, only the engine that it has left can complete it: what that engine formed is discarded (R234, R243). -/
def Module.completeSeg (m : Module) (slot k : Nat) (erred : Bool) : Module :=
  match m.op slot with
  | none => m
  | some op =>
    match op.seg k with
    | none => m
    | some sg =>
      if op.state ≠ 1 ∨ sg.sent = true then m
      else if sg.moving then m.raise .col_COLL_STALE_PLACE op.home
      else if op.segComplete sg = false ∨ sg.window = none ∨ sg.sideHeld = true ∨ sg.ready = true then m
      else
        let pre := m.stepMet op sg
        let m := (if op.desc.ordered then m.readBackSeg op { sg with taken := 0 } else m).countSeg sg pre
        let sg := sg.note pre
        let op := op.putSeg sg
        let m := m.putOp slot op
        let rin := if sg.corrupt.isSome then (sg.rin + 1) % residueP else sg.rin
        let diff := if op.desc.keepsResidue then (rin + residueP - sg.residueOut) % residueP else 0
        if op.desc.ordered && (List.range op.n).any (m.rankLost op) then m.failOp slot 5
        else if erred || diff != 0 then m.residueFail slot k (diff % 2 ^ 32)
        else if op.gdef.root then
          if op.holdsSide (m.opRecipe op) k && op.sideOthers.isNone then
            (m.countSeg sg [7]).putOp slot (op.putSeg { sg.note [7] with sideHeld := true })
          else m.leaveRoot slot op sg
        else
          (m.each (List.range (op.desc.segSlots k)) (fun m i => m.sendPartial slot op sg i)).segOut slot k

/-! ### What an engine takes (R240, R276, R493) -/

/-- A segment's engine takes what has come for it, where it may; `erred` says that a duplicated path of it disagreed (R269). A rank
value that HBM has lost ends the operation (R336). -/
def Module.engineTakes (m : Module) (slot : Nat) (op : Op) (sg : Seg) (erred : Bool) : Module :=
  if !m.takes sg then m.putOp slot (op.putSeg sg)
  else
    let sg' := m.catchUp slot op sg
    let bits := sg'.met ++ sg.again
    let m := (m.countSeg sg' bits).putOp slot (op.putSeg (sg'.note bits))
    if m.ranksLost op (sg.got.drop sg.taken) then m.failOp slot 5
    else if erred && op.compared (sg.got.drop sg.taken) then m.residueFail slot sg.k 0
    else m

/-- Give a segment a window; its engine reads back what is retained for it, and takes it. -/
def Module.openWindow (m : Module) (slot k w : Nat) (erred : Bool) : Module :=
  match m.op slot with
  | none => m
  | some op =>
    match op.seg k with
    | none => m
    | some sg =>
      let sg := { sg.cleared with window := some w }
      (m.readBackSeg op sg).engineTakes slot op sg erred

/-- The governor admits an engine (R493): it takes what has come for the segments in its windows. -/
def Module.engineStarts (m : Module) (e : Nat) : Module :=
  m.each (m.engineSegs e) (fun m x =>
    match m.op x.1 with
    | none => m
    | some op =>
      match op.seg x.2.1 with
      | none => m
      | some sg => (m.readBackSeg op sg).engineTakes x.1 op sg false)

end Sys2Proof.Machine
end

