-- ==== Sys2Proof/Machine/ColRecv.lean ====
section
/-! DEFINITION. The frames that reach the collective engine: their checks, how an operation starts, and what each kind of
frame does (spec/08_collective_operations.md R217 to R238, R242, R463 of spec/17_spares_repair_and_resilience.md). -/

namespace Sys2Proof.Machine

/-! ### Fences and standby -/

/-- Is the module draining for a planned reset (R242)? -/
def Module.planned (m : Module) : Bool :=
  match m.power.request with
  | some r => r.notice
  | none => false

/-- Is a group's JOB_EPOCH outside a test rehearsal in force (R440)? -/
def Module.outsideTest (m : Module) (g : GroupDef) : Bool :=
  match m.sec.rehearsal with
  | some r => r.window == 1 && !r.epochs.contains g.jobEpoch
  | none => false

/-- Does the module behave as fenced toward a group (R242, R440, R441)? -/
def Module.fenced (m : Module) (g : GroupDef) : Bool :=
  m.sec.state.fenced || m.sec.state.expelled || m.planned || m.outsideTest g

/-! ### The checks of a starting operation (R220) -/

/-- Check 5: the recipe, the staging and the engines. -/
def Module.resources (m : Module) (g : GroupDef) (d : Descriptor) : Bool :=
  (m.recipe d.recipe).isSome && (!d.ordered || m.staging g.home) && !(m.enginesFor g).isEmpty

/-- The first check of R220 that fails, as its code. -/
def Module.checkDesc (m : Module) (g : GroupDef) (fp : BitVec 64) (bits : BitVec 256) (dst : Nat) : Option Nat :=
  let d := Descriptor.decode bits
  let n := g.total
  if fingerprintOf bits ≠ fp then some 9
  else if 5 < d.kind ∨ 8 < d.func ∨ 5 < d.round ∨ d.frameLog2 < 5 ∨ 10 < d.frameLog2
      ∨ 8072 * 32 < d.frameElems * d.elemSize32 ∨ (d.elements = 0 ∧ d.kind ≠ 5) ∨ 2 ^ 36 < d.elements ∨ d.group ≠ dst then some 9
  else if d.refused then some 9
  else if (d.kind = 1 ∨ d.kind = 3) ∧ d.elements % (n * d.frameElems) ≠ 0 then some 9
  else if (d.kind = 3 ∨ d.kind = 4) ∧ (d.func ≠ 0 ∨ d.outFmt ≠ d.inFmt) then some 9
  else if (d.kind = 2 ∨ d.kind = 4) ∧ n ≤ d.rootRank then some 9
  else if d.arith && !m.resources g d then some 5
  else none

/-! ### Starting (R227) -/

/-- A new operation's record. -/
def Op.start (defIdx : Nat) (g : GroupDef) (members : List MemberEntry) (num : Nat) (x : CollExt) : Op :=
  { defIdx := defIdx, gdef := g, members := members, op := num, desc := Descriptor.decode x.descriptor
    descBits := x.descriptor, fp := x.fingerprint, state := 1, pra := false, acks := [], segs := [], copied := []
    results := [], segDone := 0, side := [], logged := [], seq := 0 }

/-- What a frame-forwarding module owes its parent in all, or the root returns: slots of ALL_GATHER, BROADCAST and BARRIER,
and of ORDERED contributions at a module that is not the root (R222, R230). -/
def Op.owed (op : Op) : Nat :=
  let d := op.desc
  if d.barrier then op.locals.length
  else if d.kind = 4 then if op.gdef.root || op.members.any (fun e => e.covers d.rootRank) then d.slots else 0
  else if d.kind = 3 then if op.gdef.root then d.slots else d.slots / op.n * op.gdef.below
  else d.slots * op.gdef.below

/-- Does the module only pass an operation's frames on? -/
def Op.passes (op : Op) : Bool := !op.desc.arith || (op.desc.ordered && !op.gdef.root)

/-- An operation that owes nothing more goes on to AWAIT_ACK. -/
def Module.checkCopied (m : Module) (slot : Nat) : Module :=
  match m.op slot with
  | none => m
  | some op => if op.passes && op.state == 1 && op.copied.length == op.owed then m.awaitAcks slot else m

/-- Start an operation (R227): the fence, a slot, the descriptor, the array (R302) and the tree links (R238). -/
def Module.startOp (m : Module) (found : Found) (num dst : Nat) (x : CollExt) : Module :=
  let defIdx := found.defIdx
  let g := found.gdef
  let op := Op.start defIdx g found.members num x
  let code := if m.fenced g then some 3 else m.checkDesc g x.fingerprint x.descriptor dst
  match m.freeSlot with
  | none =>
    let code := if m.fenced g then 3 else 5
    let m := m.countCode code g.home
    if g.root then
      ((m.sendDown op.home op.members (m.abortFrame op 1 code 0 0)).retireNum defIdx g.jobEpoch num).raise .col_OP_ABORT g.home
    else m.sendUp op (m.abortFrame op 0 code 0 0)
  | some slot =>
    let m := m.putOp slot op
    match code with
    | some c => m.failOp slot c
    | none =>
      let up := op.treeLinks.all m.isUp
      let serves := up && m.praServes g.home op.desc
      let m := m.putOp slot { op with pra := serves }
      let m := if op.desc.usePra && !serves && decide (praOf g.home < m.getF K.glbCap1_PRAS) then
          m.raise .pra_PRA_FALLBACK (praOf g.home)
        else m
      if up then m.checkCopied slot
      else if !g.root && !m.isUp g.parent then m.cutOp slot 7
      else m.failOp slot 7

/-! ### Contributions and partials -/

/-- The slot that a SEQ names in a segment (R224): `none` where it names none. -/
def Op.slotOf (op : Op) (k seq : Nat) (partial_ : Bool) : Option (Nat × Nat) :=
  let d := op.desc
  let base := k * d.perSeg
  if d.barrier then if k = 0 ∧ seq = 0 then some (0, 0) else none
  else if partial_ then
    let x := (seq + 2 ^ 24 - base * 8 % 2 ^ 24) % 2 ^ 24
    if x / 8 < d.segSlots k then some (x / 8, x % 8) else none
  else
    let x := (seq + 2 ^ 24 - base % 2 ^ 24) % 2 ^ 24
    if x < d.segSlots k then some (x, 0) else none

/-- The rank that owns a slot of ALL_GATHER or BROADCAST (R230). -/
def Op.owner (op : Op) (k i : Nat) : Nat :=
  if op.desc.kind = 4 then op.desc.rootRank else (65536 * k + i * op.desc.frameElems) / (op.desc.elements / op.n)

/-- Is a contribution or partial of a kind that the descriptor expects from its source (R230)? -/
def Op.expects (op : Op) (child partial_ : Bool) : Bool :=
  if op.desc.arith && !op.desc.ordered then child == partial_
  else !partial_ && !(op.desc.barrier && child)

/-- Does a contribution's data fill its slot exactly (R224)? -/
def Op.fits (op : Op) (k i : Nat) (x : CollExt) (data : List Byte) : Bool :=
  x.elems == op.desc.slotElems k i && data.length == dataBytes op.desc.inFmt x.elems

/-- Is a partial sub-frame well formed (R224, R266), and does it agree with what its slot has announced? -/
def Op.subFits (op : Op) (sg : Option Seg) (k i : Nat) (x : CollExt) (sub : Nat) (data : List Byte) : Bool :=
  sub == x.sub && decide (sub ≤ x.subsM1) && decide (0 < x.elems)
    && decide (x.subOff + x.elems ≤ op.desc.slotElems k i)
    && (decide (sub ≠ 0) || x.subOff == 0)
    && (decide (sub ≠ x.subsM1) || x.subOff + x.elems == op.desc.slotElems k i)
    && (decodePartials op.desc.func op.desc.inFmt x.elems data).isSome
    && (match sg.bind (fun s => Tbl.find s.subs (x.source, i)) with
        | some n => n == x.subsM1
        | none => true)

/-- Do a slot's sub-frames follow one another where two neighbours are in (R224)? -/
def subsMeet (got : List (Nat × Nat × Nat)) : Bool :=
  got.all (fun a => got.all (fun b => b.1 ≠ a.1 + 1 || b.2.1 == a.2.1 + a.2.2))

/-- The sub-frames of a child's slot that are in: number, first element, elements. -/
def Seg.run (sg : Seg) (source slot : Nat) : List (Nat × Nat × Nat) := Tbl.get sg.runs [] (source, slot)

/-- What became of a contribution at ingress: taken, or it waits there, its operation started and its segment placed (R227,
R229). -/
inductive Taken where
  | taken (m : Module)
  | waits (m : Module)
  deriving DecidableEq, Repr

/-- How a contribution or partial crosses to its engine: whether a copy of it directed under an older placement reaches an
engine too (R240), and whether a duplicated path of the engine disagrees over it (R269, R294). -/
structure Crossing where
  stale : Bool := false
  erred : Bool := false
  deriving DecidableEq, Repr

/-- A segment that waits for a window takes a free one of its engine's, unless an earlier-placed one waits (R276). -/
def Module.seekWindow (m : Module) (sg : Seg) : Seg :=
  if sg.window.isNone && !sg.moving then
    { sg with window := sg.engine.bind (fun e => if m.earlierWaits e sg.order then none else m.freeWindow e) }
  else sg

/-- A delivery joins its segment. -/
def Seg.receive (sg : Seg) (d : Delivery) (subsM1 : Nat) : Seg :=
  let sg := { sg with got := sg.got ++ [{ d with epoch := sg.epoch }] }
  if d.child then
    { sg with subs := Tbl.put sg.subs (d.source, d.slot) subsM1
              runs := Tbl.put sg.runs (d.source, d.slot) ((d.sub, d.subOff, d.elems) :: sg.run d.source d.slot) }
  else sg

/-- Deliver a contribution or partial to its segment (R228, R276): retained where retention exists, and taken by the engine
where the segment holds a window. What can be neither retained nor taken now waits at ingress (R229, R334, R342, R493). -/
def Module.deliver (m : Module) (slot : Nat) (op : Op) (k : Nat) (d : Delivery) (subsM1 : Nat) (x : Crossing) : Taken :=
  let placed := match op.seg k with
    | some sg => (m, some sg)
    | none => m.placeSeg op k
  match placed with
  | (m, none) => .taken (m.failOp slot 5)
  | (m, some sg) =>
    if m.ranksLost op [d] then .taken (m.failOp slot 5) else
    let m := if x.stale && decide (0 < sg.epoch) then m.raise .col_COLL_STALE_PLACE op.home else m
    let keeps := m.hasHbm op.home
    let sg := m.seekWindow sg
    if (if keeps then decide (sg.need d.data.length ≠ 0) && m.holdsWrite op.home op.desc.ordered (sg.need d.data.length) else !m.takes sg) then
      .waits (m.putOp slot (op.putSeg sg))
    else
      let kept := if keeps then m.retain slot op sg d.data.length else (m, some sg)
      match kept with
      | (m, none) => .taken (m.failOp slot 5)
      | (m, some sg) =>
        let sg := sg.receive d subsM1
        let waits := if sg.window.isNone && !sg.moving then [5] else []
        let m := if d.child then m else m.fetchRank op d.source
        .taken ((m.countSeg sg waits).engineTakes slot op (sg.note waits) x.erred)

/-- Pass a contribution on unchanged (R221, R222), or return it from the root as a result frame (R221). -/
def Module.passOn (m : Module) (slot : Nat) (op : Op) (k i : Nat) (x : CollExt) (f : Frame) : Module :=
  if op.copied.contains (x.source, k * op.desc.perSeg + i) then m.raise .col_COLL_DUP op.home
  else
    let op' := { op with copied := (x.source, k * op.desc.perSeg + i) :: op.copied }
    let mine := op'.copied.filter (fun c => c.2 / op.desc.perSeg == k)
    let all := if op.gdef.root && op.desc.copies then op.desc.segSlots k else 0
    let op' := if op.gdef.root && op.desc.copies && mine.length == all then { op' with segDone := op.segDone + 1 } else op'
    let m := m.putOp slot op'
    let m := if op.desc.barrier then m
      else if op.gdef.root then
        (m.sentSeq slot (k * op.desc.perSeg + i)).sendDown op.home (op.members.filter (op.due k i)) (m.resultFrame op k i f.data)
      else m.sendUp op f
    m.checkCopied slot

/-- A contribution or partial of a running operation. One that is no frame of its slot ends the operation, whether or not its
segment has been released: R224 and R33 give no order, and the model takes R224 first (notes/assumptions/136.md). A contribution of
ALL_GATHER or BROADCAST from a rank that does not own its slot, which R230 does not expect, is taken as no frame of its slot
(notes/assumptions/176.md). -/
def Module.takeContribution (m : Module) (slot : Nat) (op : Op) (e : MemberEntry) (x : CollExt) (f : Frame) (c : Crossing) : Taken :=
  let partial_ := x.kind == 1
  if op.state = 3 then .taken (m.raise .col_COLL_LATE op.home)
  else if !op.expects e.child partial_ then .taken (m.failOp slot 9)
  else
    match op.slotOf x.segment f.h.seq.toNat partial_ with
    | none => .taken (m.failOp slot 9)
    | some (i, sub) =>
      let sg := op.seg x.segment
      let good := if partial_ then op.subFits sg x.segment i x sub f.data
        else op.fits x.segment i x f.data && (!op.desc.copies || op.owner x.segment i == x.source)
      if !good then .taken (m.failOp slot 9)
      else if op.passes then .taken (m.passOn slot op x.segment i x f)
      else
        let s := sg.getD (Seg.initial x.segment 0 none none none)
        if s.sent then .taken (m.raise .col_COLL_LATE op.home)
        else if s.has x.source i sub then .taken (m.raise .col_COLL_DUP op.home)
        else if partial_ && !subsMeet ((sub, x.subOff, x.elems) :: s.run x.source i) then .taken (m.failOp slot 9)
        else m.deliver slot op x.segment
          { epoch := 0, source := x.source, child := e.child, slot := i, sub := sub, subOff := x.subOff, elems := x.elems
            data := f.data } x.subsM1 c

/-! ### Results, ACK, DONE and aborts -/

/-- Is a result frame's data what its slot needs (R224, R252)? A BARRIER has no results. -/
def Op.resultFits (op : Op) (k i : Nat) (x : CollExt) (data : List Byte) : Bool :=
  !op.desc.barrier && x.elems == op.desc.slotElems k i && data.length == op.outBytes x.elems

/-- A result frame from the parent (R231): forwarded to the local members and children due it. -/
def Module.takeResult (m : Module) (slot : Nat) (op : Op) (x : CollExt) (f : Frame) : Module :=
  if op.state = 3 then m.raise .col_COLL_LATE op.home
  else
    match op.slotOf x.segment f.h.seq.toNat false with
    | none => m.failOp slot 9
    | some (i, _) =>
      if !op.resultFits x.segment i x f.data then m.failOp slot 9
      else if op.results.contains (x.segment, i) then m.raise .col_COLL_DUP op.home
      else
        (m.putOp slot { op with results := (x.segment, i) :: op.results }).sendDown op.home (op.members.filter (op.due x.segment i)) f

/-- An ACK from below (R232). -/
def Module.takeAck (m : Module) (slot : Nat) (op : Op) (lport : Nat) (x : CollExt) : Module :=
  if op.state = 3 then m.raise .col_COLL_LATE op.home
  else if (Tbl.find op.acks lport).isSome then m.raise .col_COLL_DUP op.home
  else (m.putOp slot { op with acks := Tbl.put op.acks lport x.count }).checkAcks slot

/-- An abort request from below (R236): forwarded once, or turned into ABORT at the root. -/
def Module.takeRequest (m : Module) (slot : Nat) (op : Op) (x : CollExt) : Module :=
  if op.gdef.root then m.abortDown slot x.code x.count x.rankX
  else if op.state = 3 then m
  else m.requestAbort slot x.code x.count x.rankX

/-- DONE from the parent (R232): forwarded, the operation retired. -/
def Module.takeDone (m : Module) (slot : Nat) (op : Op) (f : Frame) : Module :=
  (m.sendDown op.home op.members f).retireOp slot true

/-- ABORT from the parent (R236): forwarded, the operation retired. -/
def Module.takeAbort (m : Module) (slot : Nat) (op : Op) (f : Frame) : Module :=
  (m.sendDown op.home op.members f).retireOp slot false

/-! ### The fingerprint (R237) -/

/-- Count a frame whose fingerprint differs, log its source where the log has room, and end its operation with DESC_MISMATCH. Its
log entry carries CHILD beside the sector in INSTANCE (R526). -/
def Module.mismatch (m : Module) (slot : Nat) (op : Op) (child : Bool) (source : Nat) : Module :=
  let m := (m.count Ev.col_DESC_MISMATCH.num op.home 1).show .col_DESC_MISMATCH op.home
  if op.logged.length < 16 ∧ op.logged.contains (child, source) = false then
    let op' := { op with logged := op.logged ++ [(child, source)] }
    let log : MismatchLog := { op := op.op, defIdx := op.defIdx, ranks := op'.logged }
    let m := { m with col := { m.col with logs := Tbl.put m.col.logs op.home log } }
    let m := m.pend .col_DESC_MISMATCH (op.home + 8 * flag child) source
    (m.putOp slot op').failOp slot 2
  else m.failOp slot 2

/-! ### Any group-type frame (R217, R226, R234, R463) -/

/-- Does a frame travel away from the root? -/
def downward (x : CollExt) (phase : BitVec 1) : Bool := x.kind == 2 || x.kind == 5 || (x.kind == 6 && phase == 1)

/-- The entry that a frame from below arrived from, its SOURCE right (R217). -/
def memberFor (members : List MemberEntry) (lport : Nat) (x : CollExt) : Option MemberEntry :=
  match members.find? (fun e => e.lport == lport) with
  | none => none
  | some e =>
    let ok := if !e.child then x.source == e.rank
      else if x.kind = 0 then e.covers x.source
      else if x.kind = 3 then true
      else x.source == e.rank
    if ok then some e else none

/-- A frame for a running operation. -/
def Module.opFrame (m : Module) (slot lport : Nat) (e : Option MemberEntry) (f : Frame) (c : Crossing) : Taken :=
  let x := f.col
  match m.op slot with
  | none => .taken m
  | some op =>
    if x.fingerprint ≠ op.fp then .taken (m.mismatch slot op ((e.map (·.child)).getD false) x.source)
    else
      match x.kind, e with
      | 0, some en | 1, some en => m.takeContribution slot op en x f c
      | 2, _ => .taken (m.takeResult slot op x f)
      | 4, _ => .taken (m.takeAck slot op lport x)
      | 5, _ => .taken (m.takeDone slot op f)
      | 6, none => .taken (m.takeAbort slot op f)
      | 6, some _ => .taken (m.takeRequest slot op x)
      | _, _ => .taken m

/-- Does a first frame start its operation (R227)? A contribution, a partial, a start frame or an abort request does; so
does a result of an operation that only copies, and an ACK of a BARRIER, at a module that R227's frames never reach
(R233: the first in-window frame; notes/assumptions/23.md). -/
def startsOp (x : CollExt) (phase : BitVec 1) : Bool :=
  let d := Descriptor.decode x.descriptor
  match x.kind with
  | 0 | 1 | 3 => true
  | 2 => d.copies
  | 4 => d.barrier
  | 6 => phase == 0
  | _ => false

/-- A collective frame that the directory has handed to the engine, with the definition of the version that it was looked up
against (R27). `Taken.waits` says that it stays at ingress (R229). -/
def Module.collect (m : Module) (lport : Nat) (f : Frame) (found : Found) (c : Crossing) : Taken :=
  let x := f.col
  let h := f.h
  let defIdx := found.defIdx
  let g := found.gdef
  let num := h.flow.toNat
  if !m.col.live.contains defIdx then .taken (m.raise .col_COLL_STALE_JOB g.home)
  else
    let running := m.opSlot defIdx num
    let gd := ((running.bind m.op).map (·.gdef)).getD g
    let members := ((running.bind m.op).map (·.members)).getD found.members
    let down := downward x h.phase
    let entry := if down then none else memberFor members lport x
    if (if down then gd.root || gd.parent != lport else entry.isNone) then .taken (m.raise .col_COLL_FOREIGN g.home)
    else
      let gap := ((Descriptor.decode x.descriptor).jobEpoch + 65536 - gd.jobEpoch) % 65536
      if 32768 ≤ gap then .taken (m.raise .col_COLL_STALE_JOB g.home)
      else if gap ≠ 0 then
        let m := m.raise .col_COLL_STALE_JOB g.home
        .taken (match running with
          | some slot => m.failOp slot 8
          | none => m)
      else
        match running with
        | some slot => m.opFrame slot lport entry f c
        | none =>
          match (m.opWindow defIdx).place num with
          | .late => .taken (m.raise .col_COLL_LATE g.home)
          | .early => .taken (m.raise .sector_COLL_EARLY g.home)
          | .inside =>
            if x.kind = 6 ∧ h.phase = 1 then
              .taken (((m.sendDown g.home members f).retireNum defIdx g.jobEpoch num).raise .col_OP_ABORT g.home)
            else if startsOp x h.phase then
              let m := m.startOp found num h.dst.toNat x
              match m.opSlot defIdx num with
              | some slot =>
                if x.kind = 3 ∨ (m.op slot).any (fun o => o.state == 3) = true then .taken m
                else m.opFrame slot lport entry f c
              | none => .taken m
            else .taken (m.raise .col_COLL_LATE g.home)

end Sys2Proof.Machine
end

