-- ==== Sys2Proof/Machine/Endpoint.lean ====
section
/-! DEFINITION. The in-band endpoint: its queue by priority, the gathering of bodies, replies, and who may ask
(spec/15_management_and_structure_image.md R404 to R409, R424, R425, R428). -/

namespace Sys2Proof.Machine

/-- The priority of a class (R405): 0 for an unknown one. -/
def classPriority (cls : Nat) : Nat :=
  match cls with
  | 1 | 2 => 1
  | 3 => 2
  | 4 | 10 => 4
  | 5 | 6 | 7 | 8 | 9 => 3
  | _ => 0

/-! ### Replies (R407) -/

/-- A CONTROL frame of the module's own (R139). FLOW is 0 (notes/assumptions/26.md). -/
def Module.controlFrame (m : Module) (dst : Loc) (h : CtlHeader) (body : List Byte) : Frame :=
  { hdr := Header.encode
      { ver := 1, ftype := 7, phase := 0, esc := 0, ord := 0, hops := 63
        seq := BitVec.ofNat 24 (Tbl.get m.mpc.seqs 0 dst.toNat), flow := 0, dst := dst, src := m.loc, inter := 0, xlen := 4 }
    body := toBytes 32 h.encode ++ body }

/-- Send a CONTROL frame into the fabric: the pipeline of S0 looks it up. -/
def Module.sendControl (m : Module) (dst : Loc) (h : CtlHeader) (body : List Byte) : Module :=
  let f := m.controlFrame dst h body
  let m := { m with mpc := { m.mpc with seqs := Tbl.put m.mpc.seqs dst.toNat ((f.h.seq.toNat + 1) % 2 ^ 24) } }
  match m.lookup 0 f with
  | (m, some (f', lport, vc)) => m.originate 0 lport vc f f'
  | (m, none) => m

/-- Cut a body into frames of at most 8064 bytes. -/
def bodyChunks : Nat → List Byte → List (List Byte)
  | 0, _ => []
  | n + 1, bs => if bs.length ≤ 8064 then [bs] else bs.take 8064 :: bodyChunks n (bs.drop 8064)

/-- Send a reply's frames. -/
def Module.sendReply (m : Module) (r : Reply) : Module :=
  let parts := bodyChunks (r.body.length / 8064 + 1) r.body
  let m := m.emit (.reply r)
  m.each ((List.range parts.length).zip parts) (fun m x =>
    m.sendControl r.src
      { cls := r.cls, isReply := true, reqId := r.reqId, status := r.status.toNat, bodyLen := x.2.length, chunk := x.1
        chunksM1 := parts.length - 1 } x.2)

/-- The last 64 replies of each requester. -/
def keepReplies (r : Reply) (old : List Reply) : List Reply :=
  let mine := (old.filter (fun x => x.src == r.src)).take 63
  r :: old.filter (fun x => x.src ≠ r.src || mine.contains x)

/-- Is a list of chunks that of this request? -/
def isOf (src : Loc) (reqId : BitVec 16) (x : Loc × BitVec 16 × List Nat) : Bool := x.1 == src && x.2.1 == reqId

/-- The chunks of an answered request that are still to come: they draw no reply of their own (R407). -/
def Module.awaitChunks (m : Module) (src : Loc) (reqId : BitVec 16) (chunks : List Nat) : Module :=
  let rest := m.mpc.awaited.filter (fun x => !isOf src reqId x)
  { m with mpc := { m.mpc with awaited := if chunks.isEmpty then rest else rest ++ [(src, reqId, chunks)] } }

/-- Answer a request (R407): the reply is kept, and a repeat that waited for it receives it too (R428). -/
def Module.answer (m : Module) (src : Loc) (reqId : BitVec 16) (cls status : Nat) (body : List Byte) : Module :=
  let r : Reply := { src := src, reqId := reqId, cls := cls, status := BitVec.ofNat 8 status, body := body }
  let again := m.mpc.repeats.filter (isOf src reqId)
  let m := { m with mpc := { m.mpc with
    replies := keepReplies r m.mpc.replies, repeats := m.mpc.repeats.filter (fun x => !isOf src reqId x) } }
  ((m.awaitChunks src reqId (again.flatMap (·.2.2))).sendReply r).each again (fun m _ => (m.raise .mpc_DUP_REPLY 0).sendReply r)

/-- The place of a chunk in its body, clamped (R16), and the other chunks. -/
def CtlHeader.place (h : CtlHeader) : Nat := min h.chunk h.chunksM1

def CtlHeader.others (h : CtlHeader) : List Nat := (List.range (h.chunksM1 + 1)).filter (· ≠ h.place)

/-! ### Permissions (R409) -/

/-- The permission mask of a requester: `none` where it is not listed. -/
def Module.permOf (m : Module) (src : Loc) : Option Nat :=
  (m.mpc.requesters.find? (fun e => e.2.1 == src)).map (fun e => e.2.2)

/-- Has a requester a permission bit? -/
def Module.permits (m : Module) (src : Loc) (bit : Nat) : Bool :=
  match m.permOf src with
  | some p => bitOf p bit
  | none => false

/-- Answer DENIED and count it. -/
def Module.deny (m : Module) (r : CtlReq) : Module := (m.raise .mpc_DENIED 0).answer r.src r.reqId r.cls 1 []

/-! ### The queue (R425) -/

/-- Frames of a priority in the queue, the chunks of bodies under way among them. Those of a PATCH body leave it as they are
gathered (notes/assumptions/182.md). -/
def Module.queued (m : Module) (prio : Nat) : Nat :=
  ((m.mpc.queue.filter (fun r => classPriority r.cls == prio)).map (·.frames)).sum
    + ((m.mpc.gather.filter (fun g => classPriority g.cls == prio && g.cls != 8)).map (fun g => g.got.length)).sum

/-- Is there room for a frame of a priority? -/
def Module.endpointRoom (m : Module) (prio : Nat) : Bool :=
  let tooMuch (p : Nat) : Nat := m.queued p - 256
  match prio with
  | 3 => decide (m.queued 3 < 2048)
  | 4 => decide (m.queued 4 < 1024)
  | p => decide (m.queued p < 256) || decide (tooMuch 1 + tooMuch 2 < 512)

/-- Is a command that the FLY block holds this request's? -/
def FlyCmd.isFor (c : FlyCmd) (src : Loc) (reqId : BitVec 16) : Bool :=
  match c.origin with
  | .frame s i => s == src && i == reqId
  | _ => false

/-- Did this request bring a quorum command? -/
def QOrigin.isFor (o : QOrigin) (src : Loc) (reqId : BitVec 16) : Bool :=
  match o with
  | .frame s i => s == src && i == reqId
  | .smbus => false

/-- Is a request of this requester and REQ_ID still on its way: queued, or with the FLY block, the SEC block or
the patch that it brought? -/
def Module.underWay (m : Module) (src : Loc) (reqId : BitVec 16) : Bool :=
  m.mpc.queue.any (fun r => r.src == src && r.reqId == reqId)
    || (m.fly.queue ++ m.fly.running.toList).any (fun c => c.isFor src reqId)
    || (m.sec.verified.toList.any (fun c => c.origin.isFor src reqId))
    || (m.sec.attesting.toList.any (fun c => c.1.isFor src reqId))
    || (match m.img.patch with
        | some p => p.src == src && p.reqId == reqId
        | none => false)

/-- A patch is being gathered or applied (R420). -/
def Module.patching (m : Module) : Bool := m.img.gathering || m.img.patch.isSome

/-- Is a request a command for the SEC block to verify: a QUORUM body other than ATTEST? -/
def CtlReq.verifies (r : CtlReq) : Bool := r.cls == 2 && field r.body 0 1 != 0

/-- A quorum command is being verified: one whose body is complete waits for its verdict, or has passed and waits for its effect
(R444, R447). -/
def Module.verifying (m : Module) : Bool := m.sec.verified.isSome || m.mpc.queue.any CtlReq.verifies

/-- Queue a whole request. -/
def Module.enqueueReq (m : Module) (r : CtlReq) : Module :=
  { m with mpc := { m.mpc with queue := m.mpc.queue ++ [r] } }

/-- A chunk of a body (R407). A CHUNK beyond CHUNKS_M1 clamps to it (R16). -/
def Module.takeChunk (m : Module) (src : Loc) (h : CtlHeader) (part : List Byte) : Module :=
  let same (g : Gather) : Bool := g.src == src && g.reqId == h.reqId
  let g := (m.mpc.gather.find? same).getD
    { src := src, reqId := h.reqId, cls := h.cls, chunksM1 := h.chunksM1, got := [], first := m.elapsed }
  let i := min h.chunk g.chunksM1
  let g := if (Tbl.find g.got i).isNone then { g with got := Tbl.put g.got i part } else g
  let rest := m.mpc.gather.filter (fun x => !same x)
  if g.got.length = g.chunksM1 + 1 then
    ({ m with mpc := { m.mpc with gather := rest } }).enqueueReq
      { src := src, reqId := h.reqId, cls := g.cls, arrived := g.first, count := m.timeNow
        frames := if g.cls = 8 then 1 else g.chunksM1 + 1
        body := (List.range (g.chunksM1 + 1)).flatMap (fun i => Tbl.get g.got [] i) }
  else { m with mpc := { m.mpc with gather := rest ++ [g] } }

/-- The chunks that a body lacks beside one that has just come. -/
def Gather.lacks (g : Gather) (h : CtlHeader) : List Nat :=
  (List.range (g.chunksM1 + 1)).filter (fun i => i ≠ min h.chunk g.chunksM1 && (Tbl.find g.got i).isNone)

/-- A chunk that finds its priority at its limit: the request is answered BUSY, and what has come of its body is dropped
(R425, notes/assumptions/145.md). -/
def Module.refuseChunk (m : Module) (src : Loc) (h : CtlHeader) (g : Gather) : Module :=
  let m := { m with mpc := { m.mpc with gather := m.mpc.gather.filter (fun x => !(x.src == src && x.reqId == h.reqId)) } }
  let m := if g.cls = 8 then ({ m with img := { m.img with gathering := false } }).raise .img_PATCH_REFUSED 0 else m
  ((m.raise .mpc_MPC_BUSY 0).answer src h.reqId g.cls 2 []).awaitChunks src h.reqId (g.lacks h)

/-- A request is answered at its first chunk. -/
def Module.answerFirst (m : Module) (src : Loc) (h : CtlHeader) (status : Nat) : Module :=
  (m.answer src h.reqId h.cls status []).awaitChunks src h.reqId h.others

/-- A chunk of a request that has been answered: one still to come of it draws nothing, and any other begins a repeat (R407). -/
def Module.repeatChunk (m : Module) (src : Loc) (h : CtlHeader) (r : Reply) : Module :=
  let chunks := (m.mpc.awaited.filter (isOf src h.reqId)).flatMap (·.2.2)
  if chunks.contains h.place then m.awaitChunks src h.reqId (chunks.erase h.place)
  else ((m.awaitChunks src h.reqId h.others).raise .mpc_DUP_REPLY 0).sendReply r

/-- A chunk of a request that is on its way: of a repeat that is known, or of one more (R428). -/
def Module.repeatWaits (m : Module) (src : Loc) (h : CtlHeader) : Module :=
  match m.mpc.repeats.find? (fun x => isOf src h.reqId x && x.2.2.contains h.place) with
  | some x => { m with mpc := { m.mpc with repeats := (src, h.reqId, x.2.2.erase h.place) :: m.mpc.repeats.erase x } }
  | none => { m with mpc := { m.mpc with repeats := m.mpc.repeats ++ [(src, h.reqId, h.others)] } }

/-- A CONTROL frame for the module reaches the endpoint (R407, R420, R425): `none` where its priority's space is full and it
waits at its ingress (R156). A BODY_LEN beyond 8064 or beyond the data present clamps (R16, R404). Replies, and SYNC frames, which the port stamp units take (R392), enter no queue. -/
def Module.controlArrive (m : Module) (f : Frame) : Option Module :=
  let h := f.ctl
  let src := f.h.src
  let part := f.data.take (min 8064 h.bodyLen)
  let prio := classPriority h.cls
  let room (cls : Nat) : Bool := m.endpointRoom (classPriority cls)
  if h.isReply || h.cls == 3 then some m
  else if let some g := m.mpc.gather.find? (fun g => g.src == src && g.reqId == h.reqId) then
    if room g.cls then some (m.takeChunk src h part)
    else if classPriority g.cls ≤ 2 then none
    else some (m.refuseChunk src h g)
  else
    match m.mpc.replies.find? (fun r => r.src == src && r.reqId == h.reqId) with
    | some r => some (m.repeatChunk src h r)
    | none =>
      if m.underWay src h.reqId then some (m.repeatWaits src h)
      else if prio = 0 then some (m.answerFirst src h 4)
      else if !room h.cls then
        if prio ≤ 2 then none else some ((m.raise .mpc_MPC_BUSY 0).answerFirst src h 2)
      else if h.cls = 8 ∧ m.patching = true then some ((m.raise .img_PATCH_REFUSED 0).answerFirst src h 2)
      else
        let m := if h.cls = 8 then { m with img := { m.img with gathering := true } } else m
        if h.chunksM1 = 0 then
          some (m.enqueueReq { src := src, reqId := h.reqId, cls := h.cls, body := part, arrived := m.elapsed, count := m.timeNow
                               frames := 1 })
        else some (m.takeChunk src h part)

/-- The cores of the MPC in service (R432). -/
def Module.coresUp (m : Module) : List Nat := natsWhere 5 (fun c => bitOf (m.getF K.mpcStatus_CORES_UP) c)

/-- Does an MPC overload injection occupy cores 1 to 3 (R465 kind 7)? -/
def Module.coresHeld (m : Module) : Bool :=
  match m.mpc.injection with
  | some i => i.kind == 7
  | none => false

/-- Is there a core to serve a priority (R424, R459): core 0's for priorities 1 and 2, another for 3 to 5, a single core for
every priority? -/
def Module.coreFor (m : Module) (prio : Nat) : Bool :=
  let up := m.coresUp
  if prio ≤ 2 ∨ up.length = 1 then up.contains m.mpc.core0
  else up.any (· ≠ m.mpc.core0) && !m.coresHeld

/-- Does the core that serves one priority serve another too (R424, R459)? -/
def Module.together (m : Module) (prio p : Nat) : Bool := m.coresUp.length == 1 || decide (prio ≤ 2) == decide (p ≤ 2)

/-- What the core that serves a priority takes up next: the oldest request of the highest priority present (R424). -/
def Module.nextReq (m : Module) (prio : Nat) : Option CtlReq :=
  (([1, 2, 3, 4] : List Nat).filter (m.together prio)).findSome? (fun p => m.mpc.queue.find? (fun r => classPriority r.cls == p))

/-- Take a queued request of a class out of the queue, where it is what a core takes up next. -/
def Module.takeReq (m : Module) (src : Loc) (reqId : BitVec 16) (cls : Nat) : Option (Module × CtlReq) :=
  let same (r : CtlReq) : Bool := r.src == src && r.reqId == reqId && r.cls == cls
  if m.coreFor (classPriority cls) then
    match m.nextReq (classPriority cls) with
    | some r => if same r then some ({ m with mpc := { m.mpc with queue := m.mpc.queue.filter (fun x => !same x) } }, r) else none
    | none => none
  else none

end Sys2Proof.Machine
end

