-- ==== Sys2Proof/Machine/SramRows.lean ====
section
/-! DEFINITION. Packet SRAM rows and their repair (spec/17_spares_repair_and_resilience.md R452 to R454, R470). -/

namespace Sys2Proof.Machine

/-- A row that has never failed. -/
def RowState.sound : RowState := { remaps := 0, retired := false, moving := none, rehearsed := false }

def Module.sramRow (m : Module) (s bank row : Nat) : RowState := Tbl.get m.sram.rows RowState.sound (s, bank, row)

def Module.putSramRow (m : Module) (s bank row : Nat) (r : RowState) : Module :=
  { m with sram := { m.sram with rows := Tbl.put m.sram.rows (s, bank, row) r } }

/-- The bank and row of a word of a sector's packet SRAM, 65,536 words a bank and 32 a row (notes/assumptions/31.md). -/
def sramBank (word : Nat) : Nat := word / 65536
def sramRowOf (word : Nat) : Nat := word % 65536 / 32

/-- The spare that a failing row takes: its row group's, or its bank's (R453); 8 stands for the bank spare. -/
def Module.rowSpare (m : Module) (s bank row : Nat) : Option Nat :=
  [row / 256, 8].find? (fun g => !m.sram.used.contains (s, bank, g))

/-- The location of a row, as R468 gives it, and as R527's DETAIL does. -/
def sramLocation (s bank row : Nat) : Nat := s * 2 ^ 20 + bank * 2 ^ 11 + row
def sramDetail (bank row : Nat) : Nat := bank * 2 ^ 11 + row

/-- A row fails: it is remapped, or at its third failure, or with no spare free, retired (R453). `injected` marks a
rehearsal's, which is never recorded (R451, R465). -/
def Module.rowFails (m : Module) (s bank row : Nat) (injected : Bool) : Module :=
  let r := m.sramRow s bank row
  if r.retired || r.moving.isSome then m
  else
    let r := { r with rehearsed := injected }
    match (if 2 ≤ r.remaps then none else m.rowSpare s bank row) with
    | some g =>
      let m := { m with sram := { m.sram with used := m.sram.used ++ [(s, bank, g)] } }
      (m.putSramRow s bank row { r with remaps := r.remaps + 1, moving := some g }).raise .sector_SRAM_REMAP s
        (sramDetail bank row)
    | none =>
      let m := (m.putSramRow s bank row { r with retired := true }).addSat (K.bufSramStat_RETIRED_ROWS s) 1 0xFFFF
      let m := m.raise .sector_SRAM_RETIRE s (sramDetail bank row)
      if injected then m else m.record 0x0A (sramLocation s bank row) 0xFFFF

/-- The row map points at the spare (R454). -/
def Module.remapDone (m : Module) (s bank row : Nat) : Module :=
  let r := m.sramRow s bank row
  match r.moving with
  | none => m
  | some g =>
    let m := m.putSramRow s bank row { r with moving := none }
    if r.rehearsed then m else m.record 0x09 (sramLocation s bank row) g

/-- Give a row back to its state before a remap. -/
def Module.undoRemap (m : Module) (s bank row g : Nat) : Module :=
  let r := m.sramRow s bank row
  let m := { m with sram := { m.sram with used := m.sram.used.erase (s, bank, g) } }
  m.putSramRow s bank row { r with remaps := r.remaps - 1, moving := none }

/-- A sector reset abandons the remaps that run in its SRAM (R470). -/
def Module.sramReset (m : Module) (s : Nat) : Module :=
  let moving := m.sram.rows.filter (fun x => x.2.moving.isSome && x.1.1 == s)
  let m := m.each moving (fun m x => m.undoRemap x.1.1 x.1.2.1 x.1.2.2 (x.2.moving.getD 0))
  { m with sram := { m.sram with ceRun := m.sram.ceRun.filter (fun x => x.1.1 ≠ s) } }

end Sys2Proof.Machine
end

