-- ==== Sys2Proof/Machine/Reseq.lean ====
section
/-! DEFINITION. Frames handed back to the pipeline (spec/05_forwarding_and_detour.md R163), and the resequencer
(spec/06_buffers_resequencing_backpressure.md R183 to R187, R191). -/

namespace Sys2Proof.Machine

/-! ### Handing back (R163) -/

/-- Where a frame waits for admission: its ingress FIFO, or the module's own waiting place for its output. -/
def QFrame.waitsAt (f : QFrame) : Nat × Nat :=
  if f.inLport < 2048 then (f.inLport, f.linkVc)
  else match f.dest with
    | .out l v => (ownFifo l, v)
    | _ => (ownFifo 0, f.linkVc)

/-- A frame with its received PHASE, INTER and HOPS restored (R163). What moved to the escape channel stays there (R160). -/
def QFrame.asArrived (f : QFrame) : Frame :=
  f.frame.withH { f.frame.h with phase := f.rcvd.h.phase, inter := f.rcvd.h.inter, hops := f.rcvd.h.hops }

/-- Look a frame up again as it arrived, in the pipeline of its ingress sector: one REQUEUE. Where the governor has given the
pipeline no level, the frame waits at its ingress for the lookup (R493). -/
def Module.relook (m : Module) (f : QFrame) : Module × Option QFrame :=
  let s := originOf f.inLport
  let m := m.raise .fwd_REQUEUE s
  let back := { f with credits := 0, deep := false, chunks := [], back := true }
  if f.inLport < 2048 ∧ m.admits (.pipe (Fin.ofNat 8 s)) = false then
    (m, some { back with rcvd := f.asArrived, dest := .lookup f.asArrived.len })
  else
    match m.lookup s f.asArrived with
    | (m, none) => (m, none)
    | (m, some (f', l, v)) => (m, some { back with frame := f', dest := .out l v })

/-- Put frames where they wait, in order: ahead of what has arrived there, behind what was handed back before them (R191). -/
def Module.waitAgain (m : Module) (fs : List QFrame) : Module :=
  m.each fs (fun m f =>
    let w := f.waitsAt
    let was := m.fifo w.1 w.2
    m.putFifo w.1 w.2 (was.takeWhile (·.back) ++ [f] ++ was.dropWhile (·.back)))

/-- Hand frames back in queue order. -/
def Module.handBack (m : Module) (fs : List QFrame) : Module :=
  let r := fs.foldl (fun (st : Module × List QFrame) f =>
    let x := (st.1.tollOut f).relook f
    (x.1, match x.2 with
      | some f' => st.2 ++ [f']
      | none => st.2)) (m, [])
  r.1.waitAgain r.2

/-- May a location-type frame stand in the queue of a link (R127, R163)? -/
def Module.standsFor (m : Module) (lport : Nat) : Bool :=
  m.isLport lport && (m.linkState lport == 3 || m.linkState lport == 5)

/-! ### Contexts (R183, R184, R187) -/

/-- The context of a flow on an output. -/
def Module.ctx (m : Module) (lport : Nat) (flow : Flow) : Option Ctx :=
  m.buf.ctxs.find? (fun c => c.lport == lport && c.flow == flow)

/-- Put a context in the place of what the flow had. -/
def Module.putCtx (m : Module) (c : Ctx) : Module :=
  let rest := m.buf.ctxs.filter (fun x => !(x.lport == c.lport && x.flow == c.flow))
  { m with buf := { m.buf with ctxs := rest ++ [c] } }

/-- Close a context. -/
def Module.closeCtx (m : Module) (c : Ctx) : Module :=
  { m with buf := { m.buf with ctxs := m.buf.ctxs.filter (fun x => !(x.lport == c.lport && x.flow == c.flow)) } }

/-- Is a frame resequenced on this output (R183)? SLOT counts as UNICAST outside TIMETABLE (R138). -/
def Module.reseqs (m : Module) (f : Frame) (lport : Nat) : Bool :=
  let t := f.h.ftype.toNat
  f.h.ord == 1 && (t == 1 || t == 2 || (t == 8 && !m.timetable)) && m.peerLoc lport == f.h.dst

/-- The distance of a SEQ from E (R185). -/
def Ctx.dist (c : Ctx) (seq : BitVec 24) : Nat := (seq - c.expect).toNat

def Ctx.holds (c : Ctx) (seq : BitVec 24) : Bool := c.held.any (fun f => f.frame.h.seq == seq)

/-- A held frame leaves the context's holding: its chunks are given back. -/
def Module.unhold (m : Module) (f : QFrame) (lport : Nat) : Module :=
  if f.onDie then m else (m.freeChunks f.chunks).noteFull (portOf lport)

/-! ### Release (R185, R173, R191) -/

/-- What the reads of held frames find as they are released (R173), by SEQ; `none` where it is open. -/
abbrev ReadErrs := Option (List (BitVec 24 × Secded))

def errOf (errs : List (BitVec 24 × Secded)) (seq : BitVec 24) : Secded :=
  ((errs.find? (fun e => e.1 == seq)).map Prod.snd).getD .clean

/-- What the read of a held frame on die finds (R173). -/
def Module.readHeld (m : Module) (f : QFrame) (errs : ReadErrs) : Module × Secded :=
  match errs with
  | some es => (m, errOf es f.frame.h.seq)
  | none => (m.drawn, if bitOf m.openWord.toNat 0 then .clean else if bitOf m.openWord.toNat 1 then .single else .double)

/-- The chunks of a held frame as chunks of its queue: the frame stands in the last of them. -/
def QFrame.asChunks (f : QFrame) : List Chunk :=
  (List.range f.chunks.length).map (fun i =>
    let last := decide (i + 1 = f.chunks.length)
    { frames := if last then [{ f with chunks := [] }] else []
      bytes := if last then f.frame.len - 4096 * i else 4096, cont := decide (0 < i), closed := true, handBack := false
      index := f.chunks.getD i 0 })

/-- A held frame that stands in the Carafe is put into its queue where it stands. -/
def Module.adoptChunks (m : Module) (l v : Nat) (f : QFrame) : Module :=
  let before := m.q l v
  let m := { m with hbm := { m.hbm with
    chunks := m.hbm.chunks.map (fun (c : HbmChunk) => if f.chunks.contains c.no then { c with use := .carafe l v } else c) } }
  (m.putQ l v { before with carafe := before.carafe ++ f.asChunks, spilling := true }).settleQ l v before

/-- The row that holds the uncorrectable word of a frame fails (R452); which word of the frame it is, and where a frame read
back from the Carafe stands, is open. -/
def Module.failRowOf (m : Module) (s : Nat) (f : QFrame) : Module :=
  let d := m.openWord.toNat
  let word := (if f.spilled then d else f.bufAddr.toNat + d % ((f.frame.len + 3) / 4)) % 2 ^ 25
  m.drawn.rowFails s (sramBank word) (sramRowOf word) false

/-- What comes of a held frame at E: it is out, its read was uncorrectable, or there is no place for it yet. -/
inductive Release where
  | out (m : Module)
  | bad (m : Module)
  | waits (m : Module) (f : QFrame)

/-- A held frame on die is read and put into its queue, unless its words cannot be corrected (R173). -/
def Module.readOut (m : Module) (l v : Nat) (f : QFrame) (errs : ReadErrs) (carafe : Bool) : Release :=
  let s := sectorOf l
  match m.readHeld f errs with
  | (m, .double) => .bad (((m.raise .buf_SRAM_UE s).failRowOf s f).tollOut f)
  | (m, .single) => .out ((m.raise .buf_SRAM_CE s).enqueue l v f carafe)
  | (m, .clean) => .out (m.enqueue l v f carafe)

/-- A held frame that finds no room in the Carafe waits: a pool lost to staging and a full Carafe are counted once for it (R178,
R332). -/
def Module.noRoom (m : Module) (l n : Nat) (f : QFrame) : Release :=
  let x := m.noteNoRoom (portOf l) n f
  .waits x.1 x.2

/-- Release a held frame to its output queue: from SRAM, where it has its place already, but not past a Carafe part (R176); from
its own chunks of the Carafe; or from the deep region, as an arriving frame. Where its link has left state 3 UP meanwhile, it is
handed back as the queue's own frames were (R163). -/
def Module.release (m : Module) (f : QFrame) (errs : ReadErrs) : Release :=
  match f.dest with
  | .out l v =>
    let s := sectorOf l
    let len := f.frame.len
    if !m.standsFor l then .out ((m.unhold f l).handBack [f])
    else if f.onDie then
      if !(m.q l v).spills then m.readOut l v f errs false
      else
        let n := (m.q l v).chunksFor len
        let m := m.wantPool (portOf l) n
        if m.carafeRoom (portOf l) n && m.writeBudget s && m.canWrite s 0 then m.readOut l v f errs true
        else m.noRoom l n f
    else if !f.deep then .out ((m.adoptChunks l v f).settleSpill l v)
    else if f.chunks.all m.canRead then
      let m := m.contested l v len
      match m.place l v len with
      | .wait => if v ≤ 1 then .waits m f else m.noRoom l ((m.q l v).chunksFor len) f
      | at_ =>
        .out (((m.readChunks f.chunks).unhold f l).enqueue l v { f with chunks := [], deep := false } (at_ == .carafe))
    else .waits m f
  | _ => .out m

/-- The held SEQ nearest from a number on. -/
def nearestSeq (from_ : BitVec 24) : List (BitVec 24) → Option (BitVec 24)
  | [] => none
  | x :: rest =>
    match nearestSeq from_ rest with
    | none => some x
    | some y => if (x - from_).toNat ≤ (y - from_).toNat then some x else some y

/-- The SEQ nearest from E that a context holds. -/
def Ctx.nearest (c : Ctx) (from_ : BitVec 24) : Option (BitVec 24) := nearestSeq from_ (c.held.map (fun f => f.frame.h.seq))

/-- Release the consecutive run from E (R185), passing SEQs whose held frame was discarded for SRAM_UE, each with one
RESEQ_SKIP (R191). A context that is ending passes every gap. The run stops where a frame finds no place yet. -/
def Module.releaseRun (m : Module) (c : Ctx) (errs : ReadErrs) : Nat → Module × Ctx
  | 0 => (m, c)
  | fuel + 1 =>
    match c.held.find? (fun f => f.frame.h.seq == c.expect) with
    | some f =>
      let next := { c with held := c.held.filter (fun x => x.frame.h.seq ≠ c.expect), gone := c.gone.filter (· ≠ c.expect)
                           expect := c.expect + 1 }
      match (m.putCtx next).release f errs with
      | .out m => m.releaseRun next errs fuel
      | .bad m => (m.raise .buf_RESEQ_SKIP c.sector).releaseRun next errs fuel
      | .waits m f' =>
        (m, { c with held := c.held.map (fun x => if x.frame.h.seq = c.expect then f' else x) })
    | none =>
      if c.gone.contains c.expect then
        (m.raise .buf_RESEQ_SKIP c.sector).releaseRun
          { c with gone := c.gone.filter (· ≠ c.expect), expect := c.expect + 1 } errs fuel
      else if c.ending then
        match c.nearest c.expect with
        | some s => m.releaseRun { c with expect := s } errs fuel
        | none => (m, c)
      else (m, c)

/-- Release what stands at E, and keep the context, unless it was ending and holds nothing more. -/
def Module.runCtx (m : Module) (c : Ctx) (errs : ReadErrs) : Module :=
  let r := (m.putCtx c).releaseRun c errs (2 * (c.held.length + c.gone.length) + 1)
  if r.2.ending && r.2.held.isEmpty then r.1.closeCtx r.2 else r.1.putCtx r.2

/-- Does a context wait for a place for the frame at E? -/
def Ctx.blocked (c : Ctx) : Bool := !c.opening && c.holds c.expect

/-- Contexts of an output whose frame at E found no place try again. -/
def Module.resume (m : Module) (lport : Nat) : Module :=
  m.each (m.buf.ctxs.filter (fun c => c.lport == lport && c.blocked)) (fun m c => m.runCtx c none)

/-- The number from which an opening context counts (R184). -/
def Ctx.base (c : Ctx) : BitVec 24 := if c.opening then c.first - BitVec.ofNat 24 (c.window / 2) else c.expect

/-- The context with E at its nearest held SEQ; what was discarded before it E has passed. -/
def Ctx.settled (c : Ctx) : Ctx :=
  match c.nearest c.base with
  | some s =>
    { c with expect := s, opening := false, gone := c.gone.filter (fun g => decide ((s - c.base).toNat < (g - c.base).toNat)) }
  | none => { c with opening := false }

/-- Skip (R186). -/
def Module.skipCtx (m : Module) (c : Ctx) (errs : ReadErrs) : Module :=
  (m.raise .buf_RESEQ_SKIP c.sector).runCtx c.settled errs

/-- The end of RESEQ_OPEN (R184). -/
def Module.endOpening (m : Module) (c : Ctx) (errs : ReadErrs) : Module :=
  if c.held.isEmpty then m.closeCtx c else m.runCtx c.settled errs

/-- A context is discarded for SRAM_UE (R185): its held frames are released in SEQ order, with one RESEQ_SKIP. -/
def Module.discardCtx (m : Module) (c : Ctx) : Module :=
  (m.raise .buf_RESEQ_SKIP c.sector).runCtx { c.settled with ending := true, gone := [] } none

/-! ### An ordered frame arrives (R184 to R187) -/

/-- What comes of a frame: it is taken, or it waits for want of a place, of a Tollgate bucket or of a context. -/
inductive Arrival where
  | taken (m : Module)
  | noPlace (m : Module) (f : QFrame)
  | noToll (m : Module)
  | noCtx (m : Module)

/-- A held frame's place among a context's frames. -/
def Module.keep (m : Module) (c : Ctx) (f : QFrame) (lport : Nat) : Module :=
  ((m.crossXbar f lport).tollIn f).putCtx { c with held := c.held ++ [f], deep := c.deep || f.deep, usedAt := m.elapsed }

/-- The frames that a context holds on die or in its port's Carafe share (R187). -/
def Ctx.shallow (c : Ctx) : Nat := (c.held.filter (fun f => !f.deep)).length

/-- Hold a frame on die or in its port's Carafe share (R176, R184), or beyond 512 frames in the deep region (R187). -/
def Module.holdIn (m : Module) (c : Ctx) (f : QFrame) (lport vc : Nat) : Arrival :=
  let h := f.frame.h
  let n := chunksOf f.frame.len
  let f' := { f with held := true, admitAt := m.elapsed, bufAddr := m.openAddr false }
  let inChunks (g : QFrame) (no : Nat) : QFrame := { g with chunks := (List.range n).map (· + no), bufAddr := m.openAddr true }
  if 512 ≤ c.shallow then
    if !m.canWrite c.sector 3 then .noPlace m f
    else
      let g := inChunks { f' with deep := true } m.hbm.nextNo
      let m := if c.deep then m.drawn else m.drawn.raise .buf_DEEP_CTX c.sector
      .taken ((m.newChunks c.sector 3 false (.deep lport h.src h.dst h.flow h.seq) n).1.keep c g lport)
  else if (vc ≤ 1 ∨ (m.q lport vc).spills = false) ∧ m.sramRoom (portOf lport) vc f.frame.len = true then
    .taken (m.drawn.keep c f' lport)
  else if vc ≤ 1 then .noPlace m f
  else
    let m := m.wantPool (portOf lport) n
    if m.carafeRoom (portOf lport) n && m.writeBudget c.sector && m.canWrite c.sector 0 then
      let g := inChunks { f' with spilled := true } m.hbm.nextNo
      .taken ((m.drawn.each (List.range n) (fun m _ =>
        m.takeCarafe lport vc (.held lport h.src h.dst h.flow h.seq))).keep c g lport)
    else
      let x := m.noteNoRoom (portOf lport) n f
      .noPlace x.1 x.2

/-- May the context hold one more frame: on die, or outside TIMETABLE in the deep region (R187, R332)? -/
def Module.mayHold (m : Module) (c : Ctx) (f : QFrame) : Bool :=
  decide (c.shallow < 512) || (!m.timetable && m.regionRoom c.sector 3 (chunksOf f.frame.len))

/-- A frame of an open context, judged by its distance from E (R185). A context that may hold no more skips at once
(R187, R332), and the frame is judged again: `skips` says how often. In a deep region that a map-out has left over-full the frame
waits (R342), and so it does while the context waits for a place itself. -/
def Module.judge (m : Module) (c : Ctx) (f : QFrame) (lport vc : Nat) (errs : ReadErrs) (skips : Nat) : Arrival :=
  let seq := f.frame.h.seq
  if c.ending then .noPlace m f
  else if c.opening = false ∧ c.window ≤ c.dist seq then .taken (m.raise .buf_RESEQ_LATE c.sector)
  else if c.holds seq then .taken (m.raise .buf_RESEQ_DUP c.sector)
  else if !m.tollOk f.frame lport vc then .noToll m
  else if c.opening = false ∧ c.dist seq = 0 then
    match m.tryAdmit lport vc f with
    | .taken m => .taken (m.runCtx { c with expect := c.expect + 1, usedAt := m.elapsed } errs)
    | .refused m f => .noPlace m f
  else if m.mayHold c f then m.holdIn c f lport vc
  else if c.blocked || (!m.timetable && m.regionOver c.sector 3) then .noPlace m f
  else
    match skips with
    | 0 => .noPlace m f
    | skips + 1 =>
      let m := (if m.timetable then m else m.regionFull c.sector).skipCtx c errs
      match m.ctx lport f.frame.flow with
      | none => .noPlace m f
      | some c => m.judge c f lport vc errs skips

/-- The least recently used context of a sector that holds no frame. -/
def Module.idleCtx (m : Module) (s : Nat) : Option Ctx :=
  (m.buf.ctxs.filter (fun c => c.sector == s && c.held.isEmpty)).foldl (fun best c =>
    match best with
    | none => some c
    | some b => if c.usedAt < b.usedAt then some c else some b) none

/-- Open a context for a flow's first frame. -/
def Module.openCtx (m : Module) (f : QFrame) (lport vc : Nat) (errs : ReadErrs) : Arrival :=
  let s := sectorOf lport
  let w := 2 ^ m.getF (K.bufCtrl_RESEQ_LOG2W s)
  let c : Ctx :=
    { sector := s, lport := lport, flow := f.frame.flow, opening := true, first := f.frame.h.seq, expect := f.frame.h.seq
      window := w, timeout := m.getF (K.bufReseqCfg_TIMEOUT s), held := [], gone := [], deep := false, ending := false
      usedAt := m.elapsed }
  if (m.buf.ctxs.filter (fun c => c.sector == s)).length < 16384 then m.judge c f lport vc errs 0
  else match m.idleCtx s with
    | some old => (m.closeCtx old).judge c f lport vc errs 0
    | none => .noCtx m

/-- An ordered frame at its last module. -/
def Module.reseqArrive (m : Module) (f : QFrame) (lport vc : Nat) (errs : ReadErrs) : Arrival :=
  match m.ctx lport f.frame.flow with
  | some c => m.judge c f lport vc errs 1
  | none => m.openCtx f lport vc errs

end Sys2Proof.Machine
end

