-- ==== Sys2Proof/Machine/Admission.lean ====
section
/-! DEFINITION. An accepted frame in the pipeline (spec/05_forwarding_and_detour.md R140 to R158), the bridge's host ports
(spec/15_management_and_structure_image.md R410), and the admission of what waits at an ingress
(spec/06_buffers_resequencing_backpressure.md R176 to R181). -/

namespace Sys2Proof.Machine

/-! ### Token buckets -/

/-- The tokens of a bucket now: `num` tokens every `units` of time, up to a depth. -/
def tokensNow (had at_ now num units depth : Nat) : Nat := min depth (had + (now - at_) * num / units)

/-- Up to when they are reckoned: now where the bucket is full, else when the last whole token came, so that no part of one is
lost. -/
def tokensAt (had at_ now num units depth : Nat) : Nat :=
  let got := (now - at_) * num / units
  if depth ≤ had + got then now else at_ + (got * units + num - 1) / num

/-! ### The accept point -/

/-- A frame at the ingress of a port, `n` credits of its buffer taken. -/
def Module.atIngress (m : Module) (lport vc : Nat) (rcvd f : Frame) (dest : Dest) (n : Nat) : QFrame :=
  m.newFrame rcvd f lport vc dest n

/-- Queue a frame at its ingress. -/
def Module.waitIngress (m : Module) (f : QFrame) : Module :=
  m.putFifo f.inLport f.linkVc (m.fifo f.inLport f.linkVc ++ [f])

/-- The copies of a MULTICAST frame along its group's tree: from below, one to the parent and one to each other entry of
the tree, the latter with PHASE 1; from the parent, one to each entry (notes/assumptions/27.md). -/
def Module.copies (m : Module) (found : Found) (lport : Nat) (f : Frame) : List (Frame × Nat × Nat) :=
  let g := found.gdef
  let down := ((found.members.map (·.lport)).eraseDups).filter (· ≠ lport)
  let fd := f.withH { f.h with phase := 1 }
  let up := if f.h.phase = 0 ∧ g.root = false ∧ g.parent ≠ lport then [(f, g.parent, vcOf m.profile f.h)] else []
  up ++ down.map (fun l => (fd, l, vcOf m.profile fd.h))

/-- Queue the copies; the last one holds the frame's credits. A tree that names no other output takes none
(notes/assumptions/27.md). -/
def Module.queueCopies (m : Module) (lport vc : Nat) (rcvd : Frame) (n : Nat) : List (Frame × Nat × Nat) → Module
  | [] => m.returnCredits lport vc n
  | [(f, l, v)] => m.waitIngress (m.atIngress lport vc rcvd f (.out l v) n)
  | (f, l, v) :: rest => (m.waitIngress (m.atIngress lport vc rcvd f (.out l v) 0)).queueCopies lport vc rcvd n rest

/-- The pipeline takes a frame that came as `len` bytes: parse, HOPS, VC, group directory, own address, lookup (R140 to R158).
A discard frees the frame's buffer at once. -/
def Module.pipeline (m : Module) (lport vc : Nat) (f : Frame) (len n : Nat) : Module :=
  let s := sectorOf lport
  let drop (m : Module) : Module := m.returnCredits lport vc n
  let h := f.h
  let t := h.ftype.toNat
  if !m.parses f len then drop (m.raise .fwd_PARSE_FAIL s)
  else if h.hops = 0 then drop (m.raise .fwd_HOPS_EXPIRED s)
  else
    let m := if vcOf m.profile h = vc then m else m.raise .fwd_VC_MISMATCH s
    if isGroupType t then
      match m.findGroup f with
      | none => drop (m.raise .fwd_GROUP_MISS s)
      | some g =>
        let f' := f.withH { h with hops := h.hops - 1 }
        if t = 2 ∧ m.col.live.contains g.defIdx = false then drop (m.raise .col_COLL_STALE_JOB g.gdef.home)
        else if t = 2 then m.queueCopies lport vc f n (m.copies g lport f')
        else m.waitIngress (m.atIngress lport vc f f' (.engine g) n)
    else if h.dst = m.loc then
      if t = 7 then m.waitIngress (m.atIngress lport vc f f .endpoint n)
      else drop (m.raise .fwd_SELF_ADDR s)
    else
      match m.lookup s f with
      | (m, none) => drop m
      | (m, some (f', l, v)) => m.waitIngress (m.atIngress lport vc f f' (.out l v) n)

/-- The pipeline takes a frame at once where the governor has given its sector a level and nothing waits before it, and else the
frame waits for its lookup (R493). -/
def Module.enterPipe (m : Module) (lport vc : Nat) (f : Frame) (len n : Nat) : Module :=
  if m.admits (.pipe (Fin.ofNat 8 (sectorOf lport))) && (m.fifo lport vc).all (fun x => match x.dest with
      | .lookup _ => false
      | _ => true) then m.pipeline lport vc f len n
  else m.waitIngress (m.atIngress lport vc f f (.lookup len) n)

/-- The head frame of an ingress FIFO is looked up, and stays before what is behind it. -/
def Module.lookupHead (m : Module) (lport vc : Nat) (f : QFrame) (rest : List QFrame) (len : Nat) : Module :=
  if m.admits (.pipe (Fin.ofNat 8 (sectorOf lport))) then
    let m := (m.putFifo lport vc []).pipeline lport vc f.rcvd len f.credits
    m.putFifo lport vc (m.fifo lport vc ++ rest)
  else m

/-- The bridge judges a frame on a host port (R410): a permitted CONTROL frame waits for the token bucket. -/
def Module.hostReceive (m : Module) (lport vc : Nat) (f : Frame) (n : Nat) : Module :=
  if f.h.ftype = 7 ∧ vc = 0 ∧ f.h.src = m.peerLoc lport ∧ m.mpc.group.contains f.h.dst = true then
    { m with mpc := { m.mpc with hostWait := m.mpc.hostWait ++ [(lport, n, f)] } }
  else (m.raise .mpc_HOST_REFUSED 0).returnCredits lport vc n

/-- Host frames the bucket holds now: 1 M frames/s, 1024 deep (R410). -/
def Module.hostTokens (m : Module) : Nat := tokensNow m.mpc.hostTokens m.mpc.hostAt m.elapsed 1 perUs 1024

/-- The bucket admits the oldest frame that waits on a host port. -/
def Module.hostAdmit (m : Module) (lport : Nat) : Module :=
  match m.mpc.hostWait.find? (fun w => w.1 == lport) with
  | none => m
  | some w =>
    if m.hostTokens = 0 then m
    else
      let m := { m with mpc := { m.mpc with hostWait := m.mpc.hostWait.erase w, hostTokens := m.hostTokens - 1
                                            hostAt := tokensAt m.mpc.hostTokens m.mpc.hostAt m.elapsed 1 perUs 1024 } }
      m.enterPipe lport 0 w.2.2 w.2.2.len w.2.1

/-- A frame that the link layer has accepted (R350): its traffic is counted, an expelled module discards what is not
addressed to it, but on a port that still drains (R127, R441), and the pipeline, or the bridge on a host port, takes it. -/
def Module.accept (m : Module) (lport vc : Nat) (payload : List Byte) : Module :=
  let f := payloadFrame payload
  let n := creditUnits payload.length
  let m := (m.count (0x420 + vc) lport 1).count (0x428 + vc) lport payload.length
  if m.sec.state.expelled && m.linkState lport != 5 && !(f.h.ftype == 7 && f.h.dst == m.loc) then
    (m.raise .sec_EXPEL_DISCARD 0).returnCredits lport vc n
  else if m.link.hostPorts.contains lport then m.hostReceive lport vc f n
  else m.enterPipe lport vc f payload.length n

/-! ### Admission -/

/-- The longest window of a logical port, in core cycles. -/
def Module.longestWindow (m : Module) (lport : Nat) : Nat :=
  ((m.lock.windows.filter (fun w => w.2.2.lport == lport)).map (fun w => w.2.2.len)).foldl max 0

/-- Core cycles that a frame takes on a link of `n` lanes (R363): ⌈1.8 × (1.28 / n) × (B + n)⌉. -/
def slotCycles (n len : Nat) : Nat := if n = 0 then 2 ^ 22 else (2304 * (paddedLen len / 32 + n) + 1000 * n - 1) / (1000 * n)

/-- Is a SLOT frame of TIMETABLE longer than its port's longest window (R362)? -/
def Module.slotTooLong (m : Module) (lport vc : Nat) (f : Frame) : Bool :=
  vc == 6 && decide (m.longestWindow lport < slotCycles (m.laneCount lport) f.len)

/-- A head frame waits: BACKPRESSURE once for it (R180). -/
def Module.waitHead (m : Module) (lport vc : Nat) (f : QFrame) (rest : List QFrame) : Module :=
  let m := if f.backHeld then m else m.raise .buf_BACKPRESSURE (sectorOf lport)
  m.putFifo lport vc ({ f with backHeld := true } :: rest)

/-- The head frame leaves its ingress, its credits with it. -/
def Module.leaveIngress (m : Module) (lport vc : Nat) (f : QFrame) (rest : List QFrame) : Module :=
  (m.putFifo lport vc rest).returnCredits lport vc f.credits

/-! ### Turns (R180) -/

/-- Could a head frame enter its output queue now: neither the Tollgate nor a want of room stops it? -/
def Module.couldEnter (m : Module) (f : QFrame) (out ovc : Nat) : Bool :=
  m.tollOk f.frame out ovc && m.place out ovc f.frame.len != .wait

/-- The ingress ports at which a head frame waits for an output queue that it could enter. -/
def Module.waitingPorts (m : Module) (out ovc : Nat) : List Nat :=
  m.buf.ingress.filterMap (fun x =>
    match x.2 with
    | f :: _ =>
      if x.1.1 < 2048 ∧ f.backHeld = true ∧ f.outAt = some (out, ovc) ∧ m.couldEnter f out ovc = true then some (portOf x.1.1)
      else none
    | [] => none)

/-- How many ports come before port `p` in the turn of an output queue, after the port served last. -/
def Module.turnOf (m : Module) (out ovc p : Nat) : Nat := (p + 511 - Tbl.get m.buf.inTurn 511 (out, ovc)) % 512

/-- Is it an ingress port's turn: does no other port with a waiting frame come before it? -/
def Module.hasTurn (m : Module) (out ovc p : Nat) : Bool :=
  (m.waitingPorts out ovc).all (fun x => decide (m.turnOf out ovc p ≤ m.turnOf out ovc x))

/-- An ingress port has had its turn. -/
def Module.tookTurn (m : Module) (out ovc p : Nat) : Module :=
  { m with buf := { m.buf with inTurn := Tbl.put m.buf.inTurn (out, ovc) p } }

/-! ### Heads -/

/-- A full bucket makes a head frame wait: TOLLGATE_HOLD once for it (R179). -/
def Module.holdToll (m : Module) (lport vc : Nat) (f : QFrame) (rest : List QFrame) (out : Nat) : Module :=
  (if f.tollHeld then m else m.raise .buf_TOLLGATE_HOLD (sectorOf out)).waitHead lport vc { f with tollHeld := true } rest

/-- The head frame of an ingress FIFO at its output queue, on its port's turn. -/
def Module.enterOut (m : Module) (lport vc : Nat) (f : QFrame) (rest : List QFrame) (out ovc : Nat) (errs : ReadErrs) : Module :=
  if m.reseqs f.frame out then
    match m.reseqArrive f out ovc errs with
    | .taken m => m.leaveIngress lport vc f rest
    | .noPlace m f => m.waitHead lport vc f rest
    | .noToll m => m.holdToll lport vc f rest out
    | .noCtx m =>
      (if f.ctxHeld then m else m.raise .buf_RESEQ_CTX_WAIT (sectorOf out)).waitHead lport vc { f with ctxHeld := true } rest
  else if !m.tollOk f.frame out ovc then m.holdToll lport vc f rest out
  else
    match m.tryAdmit out ovc f with
    | .taken m => m.leaveIngress lport vc f rest
    | .refused m f => m.waitHead lport vc f rest

/-- The head frame of an ingress FIFO for an output. A port whose head frame leaves has had its turn. -/
def Module.admitOut (m : Module) (lport vc : Nat) (f : QFrame) (rest : List QFrame) (out ovc : Nat) (errs : ReadErrs) : Module :=
  if m.hostKeeps out f.frame then (m.raise .mpc_HOST_REFUSED 0).leaveIngress lport vc f rest
  else if isGroupType f.frame.h.ftype.toNat && !m.takesFrames out then
    (m.raiseLnk .lnk_LINK_DISCARD out).leaveIngress lport vc f rest
  else if !isGroupType f.frame.h.ftype.toNat && !m.standsFor out then
    match m.relook f with
    | (m, none) => m.leaveIngress lport vc f rest
    | (m, some f') => m.putFifo lport vc ({ f' with credits := f.credits } :: rest)
  else if m.slotTooLong out ovc f.frame then
    (m.raiseLocked .sched_SLOT_TOO_LONG (sectorOf out)).leaveIngress lport vc f rest
  else if m.hasTurn out ovc (portOf lport) then
    let m := m.enterOut lport vc f rest out ovc errs
    if (m.fifo lport vc).length ≤ rest.length then m.tookTurn out ovc (portOf lport) else m
  else m.waitHead lport vc f rest

/-- Admit the head of an ingress FIFO, or let it wait. -/
def Module.admitHead (m : Module) (lport vc : Nat) (errs : ReadErrs) : Module :=
  match m.fifo lport vc with
  | [] => m
  | f :: rest =>
    match f.dest with
    | .lookup len => m.lookupHead lport vc f rest len
    | .endpoint =>
      match m.controlArrive f.frame with
      | some m => m.leaveIngress lport vc f rest
      | none => m.waitHead lport vc f rest
    | .engine g =>
      match m.collect lport f.frame g {} with
      | .taken m => m.leaveIngress lport vc f rest
      | .waits m => m.waitHead lport vc f rest
    | .out out ovc => m.admitOut lport vc f rest out ovc errs

/-- ADMISSION: the head of an ingress FIFO is read out of its buffer where it does not wait. The check of its words may find an
error then: a frame with an uncorrectable word is discarded (R173). -/
def Module.admission (m : Module) (lport vc : Nat) (found : Secded) (errs : ReadErrs) : Module :=
  let m' := m.admitHead lport vc errs
  if (m.fifo lport vc).length ≤ (m'.fifo lport vc).length then m'
  else
    match found, m.fifo lport vc with
    | .double, f :: rest =>
      ((m.raise .buf_SRAM_UE (sectorOf lport)).failRowOf (sectorOf lport) f).leaveIngress lport vc f rest
    | .single, _ => m'.raise .buf_SRAM_CE (sectorOf lport)
    | _, _ => m'

/-- The head frame of an ingress FIFO has waited ESC_WAIT (R160): a UNICAST frame, or outside TIMETABLE a SLOT frame, not
yet on the escape channel is looked up again with ESC 1, once the governor has given the pipeline a level (R493). -/
def Module.escapeHead (m : Module) (lport vc : Nat) : Module :=
  match m.fifo lport vc with
  | [] => m
  | f :: rest =>
    let t := f.frame.h.ftype.toNat
    match f.dest with
    | .out _ _ =>
      let s := originOf f.inLport
      if (t = 1 ∨ (t = 8 ∧ m.timetable = false)) ∧ f.frame.h.esc = 0 ∧ m.admits (.pipe (Fin.ofNat 8 s)) = true then
        match (m.raise .fwd_ESCAPE s).lookup s (f.asArrived.withH { f.asArrived.h with esc := 1 }) with
        | (m, none) => m.leaveIngress lport vc f rest
        | (m, some (f', l, v)) => m.putFifo lport vc ({ f with frame := f', dest := .out l v } :: rest)
      else m
    | _ => m

end Sys2Proof.Machine
end

