-- ==== Sys2Proof/Machine/LinkDown.lean ====
section
/-! DEFINITION. A link leaves state 3 UP: its frames, its lanes, its operations, and the states it goes to
(spec/04_links_and_presence.md R116 to R130; spec/05_forwarding_and_detour.md R163;
spec/08_collective_operations.md R238; spec/18_telemetry_and_counters.md R478). -/

namespace Sys2Proof.Machine

/-- Count LINK_DISCARD for one frame of a link. -/
def Module.linkDiscard (m : Module) (lport : Nat) : Module := m.raiseLnk .lnk_LINK_DISCARD lport

/-! ### Frames of a link -/

/-- Discard the retry buffer's contents, counting each (R116, R127, R128); their blocks were spent for nothing. -/
def Module.discardRetry (m : Module) (lport : Nat) : Module :=
  let es := (m.lnk lport).retry
  let m := m.modLnk lport (fun l => { l with retry := [] })
  m.each es (fun m e =>
    let m := if e.lost then m else m.linkDiscard lport
    if e.inUp then m.slots lport 1 (some 5) (linkBlocks e.frame.len) else m)

/-- Operations with this tree link are broken: those in states 1 and 2 (R238), and through the parent's link one in state 3
(R233). -/
def Module.breakTrees (m : Module) (lport : Nat) : Module :=
  let hit := m.col.ops.filter (fun x => ((x.2.state == 1 || x.2.state == 2) && x.2.treeLinks.contains lport)
    || (x.2.state == 3 && !x.2.gdef.root && x.2.gdef.parent == lport))
  m.each hit (fun m x => m.breakOp x.1 lport)

/-- Operations of which frames have been discarded on this link are broken (R163). -/
def Module.breakFrames (m : Module) (lport : Nat) (fs : List QFrame) : Module :=
  let hit := m.col.ops.filter (fun x => fs.any (fun f => f.isGroup && f.frame.h.ftype != 2
    && f.frame.h.dst.toNat % 2 ^ 20 == x.2.gdef.groupId && f.frame.h.flow.toNat == x.2.op))
  m.each hit (fun m x => m.breakOp x.1 lport)

/-- The frames in an output queue and in the module's own waiting place that are bound to the link (R163, R547). -/
def Module.boundFrames (m : Module) (lport vc : Nat) : List QFrame :=
  let q := m.q lport vc
  (q.sram ++ q.carafe.flatMap (·.frames) ++ m.fifo (ownFifo lport) vc).filter (·.bound)

/-- Discard the frames of one VC that are bound to the link, each counted. -/
def Module.loseBound (m : Module) (lport vc : Nat) : Module :=
  let q := m.q lport vc
  let lost := (q.sram ++ q.carafe.flatMap (·.frames)).filter (·.bound)
  let own := m.fifo (ownFifo lport) vc
  if (m.boundFrames lport vc).isEmpty then m
  else
    let m := m.putQ lport vc { q with
      sram := q.sram.filter (fun f => !f.bound)
      carafe := q.carafe.map (fun c => { c with frames := c.frames.filter (fun f => !f.bound) }) }
    let m := if !q.isEmpty && (m.q lport vc).isEmpty then m.emptiedQ lport vc else m
    let m := m.each lost (fun m f => (m.tollOut f).linkDiscard lport)
    (m.putFifo (ownFifo lport) vc (own.filter (fun f => !f.bound))).each (own.filter (·.bound)) (fun m _ => m.linkDiscard lport)

/-- The frames bound to a link are discarded with it, and operations end (R163, R238): all on that tree link, but in a retrain
under R116 only those whose frames are discarded (R243, notes/assumptions/137.md). -/
def Module.loseGroups (m : Module) (lport : Nat) (resumes : Bool := false) : Module :=
  let lost := (List.range 8).flatMap (m.boundFrames lport)
  let m := m.each (List.range 8) (fun m vc => m.loseBound lport vc)
  if resumes then m.breakFrames lport lost else m.breakTrees lport

/-- One output queue of a link that has left state 3 UP (R163): the location frames of its SRAM part are handed back, and its
chunks follow as they are read. The queue's shaper loses its credit (R208). -/
def Module.clearQueue (m : Module) (lport vc : Nat) : Module :=
  let q := m.q lport vc
  if q.isEmpty then m
  else
    let m := m.putQ lport vc { q with sram := [], carafe := q.carafe.map (fun c => { c with closed := true, handBack := true }) }
    ((m.emptiedQ lport vc).settleSpill lport vc).handBack q.sram

/-- The CONTROL frames that the module itself has waiting for the link are looked up again. -/
def Module.clearOwn (m : Module) (lport vc : Nat) : Module :=
  let own := m.fifo (ownFifo lport) vc
  if own.isEmpty then m
  else (m.putFifo (ownFifo lport) vc []).each own (fun m f =>
    match m.relook f with
    | (m, none) => m
    | (m, some f') => m.waitAgain [f'])

/-- Discard everything that stands for a link: queues, held frames, the module's own, and the retry buffer (R127, R128). -/
def Module.discardHeld (m : Module) (lport : Nat) : Module :=
  let m := m.each (List.range 8) (fun m vc =>
    let q := m.q lport vc
    let all := q.sram ++ q.carafe.flatMap (·.frames)
    let m := m.putQ lport vc { q with sram := [], carafe := [], spilling := false }
    let m := m.each q.carafe (fun m c => m.freeChunk (portOf lport) c)
    let m := if q.isEmpty then m else m.emptiedQ lport vc
    let m := m.each all (fun m f => (m.tollOut f).linkDiscard lport)
    let own := m.fifo (ownFifo lport) vc
    (m.putFifo (ownFifo lport) vc []).each own (fun m _ => m.linkDiscard lport))
  let m := m.each (m.buf.ctxs.filter (fun c => c.lport == lport)) (fun m c =>
    (m.closeCtx c).each c.held (fun m f => ((m.unhold f lport).tollOut f).linkDiscard lport))
  m.discardRetry lport


/-! ### Leaving UP -/

/-- The lanes of a link that no circuit, R48 or R60 keeps out: its OFFER. -/
def Module.offer (m : Module) (lport : Nat) : Nat :=
  let n := m.perLport (portOf lport)
  ((natsWhere n (fun k => !(m.link.bars.any (fun b => b.1 == m.firstLane lport + k)))).map (fun k => 2 ^ k)).sum

def Module.setLanes (m : Module) (lport map : Nat) : Module :=
  m.setF (K.lnkLinkState_LANES_UP (blockOf lport) (m.linkIx lport)) map

def Module.setOffered (m : Module) (lport map : Nat) : Module :=
  m.setF (K.lnkLinkState_LANES_OFFERED (blockOf lport) (m.linkIx lport)) map

/-- A bridge host port goes down: its frames that wait for the bucket are discarded (R428). -/
def Module.loseHostFrames (m : Module) (lport : Nat) : Module :=
  let lost := m.mpc.hostWait.filter (fun w => w.1 == lport)
  ({ m with mpc := { m.mpc with hostWait := m.mpc.hostWait.filter (fun w => w.1 != lport) } }).each lost
    (fun m _ => m.linkDiscard lport)

/-- A link goes from state 3 UP, 4 RETRAIN or 5 DRAINING to a state without traffic. From UP its location frames are handed back
and its group frames discarded (R163); from a drain all its frames are discarded (R128). The operations on it are broken (R238),
but in a retrain that `resumes` only those whose frames are lost. -/
def Module.leaveUp (m : Module) (lport st : Nat) (resumes : Bool := false) : Module :=
  let was := m.linkState lport
  let m := ((m.setLinkState lport st).setLanes lport 0).modLnk lport (fun l =>
    { l with training := [], changes := [], asked := none, reqCount := 0, draining := l.draining && st == 5
             drained := l.drained && st == 5 })
  if was = 3 then
    let m := (m.loseHostFrames lport).loseGroups lport resumes
    m.each (List.range 8) (fun m vc => (m.clearQueue lport vc).clearOwn lport vc)
  else if was = 4 then m.loseGroups lport
  else if was = 5 then ((m.loseHostFrames lport).discardHeld lport).breakTrees lport
  else m

/-- The start-up is complete (R507). -/
def Module.isReady (m : Module) : Bool := m.isOn K.pwrStatus_READY

/-- The initial credits that the module advertises at training (R171, R507). -/
def Module.advertised (m : Module) (lport : Nat) : List Nat :=
  (List.range 8).map (fun vc => if m.isReady then m.initialCredits lport vc else if vc = 0 then m.vc0Share lport else 0)

/-- Send the module's own TRAIN of a phase with a map: its OFFER in phase 1, the agreed map in phase 2. Phase 1 carries the
credits too: R129 names them in phase 2 only, and what the field holds in phase 1 is the model's choice
(notes/assumptions/166.md). -/
def Module.sendTrain (m : Module) (lport phase map : Nat) : Module :=
  m.sendSet lport (.train
    { phase := BitVec.ofNat 4 phase, offer := BitVec.ofNat 4 map, loc := m.loc
      port := BitVec.ofNat 9 (portOf lport), q := BitVec.ofNat 2 (lport % 4)
      incarnation := BitVec.ofNat 16 (m.getF K.glbIncarn_INCARNATION)
      credits := (m.advertised lport).map (BitVec.ofNat 16) })

/-- Start the training of a link (R129): PRBS31Q on the lanes offered, then TRAIN phase 1 (notes/assumptions/167.md). With none
left to offer the link is EMPTY (R130). -/
def Module.startTraining (m : Module) (lport st : Nat) : Module :=
  let offer := m.offer lport
  let m := (m.setOffered lport offer).modLnk lport (fun l => { l with agreed := none })
  if offer = 0 then m.leaveUp lport 6
  else ((m.setLinkState lport st).emit (.prbs31q lport offer)).sendTrain lport 1 offer

/-- A link in state 3 UP retrains (R129), keeping its retry buffer. One that drains loses its link instead (R128). -/
def Module.goRetrain (m : Module) (lport : Nat) (resumes : Bool) : Module :=
  if m.linkState lport = 3 then ((m.leaveUp lport 4 resumes).countRetrain lport).startTraining lport 4
  else if m.linkState lport = 5 then m.leaveUp lport 5
  else m

/-- The retry limit or a stall retrains a link (R116). In state 5 DRAINING, for which R130 has no row, it is taken as loss of the
link during a drain (R128): what is held for it is discarded at once, with no retrain and no LOSS_OF_LINK
(notes/assumptions/168.md). -/
def Module.retrain (m : Module) (lport : Nat) : Module := m.goRetrain lport true

/-- Loss of link with light still present (R124, R129). -/
def Module.lossOfLink (m : Module) (lport : Nat) : Module := (m.raiseLink .lnk_LOSS_OF_LINK lport).goRetrain lport false

/-- Loss of light: a link goes to 1 REDUCED (R130); one that was UP or draining raises LOSS_OF_LINK (R124). A port in 0 DARK has
no reduced launch to go to and stays there (notes/assumptions/130.md). -/
def Module.linkDark (m : Module) (lport : Nat) : Module :=
  let was := m.linkState lport
  if was = 0 then m
  else if was = 3 ∨ was = 5 then (m.raiseLink .lnk_LOSS_OF_LINK lport).leaveUp lport 1
  else m.leaveUp lport 1

/-! ### Lanes that leave (R119, R120) -/

/-- The transmit codeword count of a lane (R108): one codeword in 25.6 ns. The lanes of a link are at the same count, for they
send their keepalives at it. -/
def Module.laneCw (m : Module) (lane : Nat) : BitVec 32 :=
  Config.cwBase (m.lportOfLane lane) + BitVec.ofNat 32 (m.elapsed / 2688)

/-- The count at which the lanes of a link stand. -/
def Module.cwCount (m : Module) (lport : Nat) : BitVec 32 := m.laneCw (m.firstLane lport)

/-- A lane that is out of a running link trains on it: PRBS31Q, until both ends report lock (R121), and an EMPTY link to which
it returns trains (R130). What a circuit, R48 or R60 keeps out does not. -/
def Module.trainLane (m : Module) (lane : Nat) : Module :=
  let lport := m.lportOfLane lane
  let k := m.laneIndex lane
  if m.link.bars.any (fun b => b.1 == lane) || (m.lnk lport).training.contains k then m
  else if m.linkState lport = 6 then m.startTraining lport 2
  else if (m.linkState lport = 3 ∨ m.linkState lport = 5) ∧ bitOf (m.lanesUp lport) k = false then
    (m.modLnk lport (fun l => { l with training := l.training ++ [k] })).emit (.prbs31q lport (2 ^ k))
  else m

/-- Announce a lane change with a LANE_MAP (R119, R121): the tag is open. -/
def Module.announce (m : Module) (lport lane : Nat) (add retried : Bool) : Module :=
  let eff := m.cwCount lport + (if add then 256 else 32)
  let tag := m.openWord.setWidth 16
  let map := if add then m.lanesUp lport + (if bitOf (m.lanesUp lport) lane then 0 else 2 ^ lane) else m.lanesUp lport
  let m := m.drawn.sendSet lport (.laneMap
    { map := BitVec.ofNat 4 map, kind := if add then 1 else 0, effective := eff, tag := tag })
  m.modLnk lport (fun l => { l with changes := l.changes ++
    [{ lane := lane, add := add, effective := eff, tag := tag, answered := false, retried := retried, ours := true }] })

/-- The map without a lane. -/
def Module.mapWithout (m : Module) (lport lane : Nat) : Nat :=
  if bitOf (m.lanesUp lport) lane then m.lanesUp lport - 2 ^ lane else m.lanesUp lport

/-- Remove a lane that is in service on other grounds than its loss (R119): on the last lane the link goes to 6 EMPTY. -/
def Module.removeLane (m : Module) (lane : Nat) : Module :=
  let lport := m.lportOfLane lane
  let k := m.laneIndex lane
  if !bitOf (m.lanesUp lport) k then
    let m := m.modLnk lport (fun l => { l with training := l.training.filter (· ≠ k) })
    let st := m.linkState lport
    if (st = 2 ∨ st = 4) ∧ m.offer lport = 0 then m.leaveUp lport 6 else m
  else
    let m := m.raiseLnk .lnk_LANE_REMOVED lport
    if m.mapWithout lport k = 0 then m.leaveUp lport 6
    else (m.setLanes lport (m.mapWithout lport k)).announce lport k false false

/-- A lane is lost (R120): removed, to be added again when both ends report lock on it (R121), or on the last lane in service
loss of link (R124). -/
def Module.loseLane (m : Module) (lane : Nat) : Module :=
  let lport := m.lportOfLane lane
  let k := m.laneIndex lane
  let st := m.linkState lport
  if (st = 3 ∨ st = 5) ∧ bitOf (m.lanesUp lport) k = true then
    if m.mapWithout lport k = 0 then m.lossOfLink lport else (m.removeLane lane).trainLane lane
  else m

/-- Keep a lane out of its link for a circuit, or for R48 or R60, and take it out where it is in service. -/
def Module.barLane (m : Module) (lane : Nat) (why : LaneBar) : Module :=
  let m := { m with link := { m.link with bars := m.link.bars ++ [(lane, why)] } }
  m.removeLane lane

/-- A lane may come back: with the last bar gone it trains and is added (R121). -/
def Module.unbarLane (m : Module) (lane : Nat) (why : LaneBar) : Module :=
  ({ m with link := { m.link with bars := m.link.bars.erase (lane, why) } }).trainLane lane

end Sys2Proof.Machine
end

