-- ==== Sys2Proof/Machine/PraOps.lean ====
section
/-! DEFINITION. The photonic reduction arrays: conversions, references, the shadow check, trips, pauses and calibration
(spec/11_photonic_reduction_array.md R302 to R323, R327, R328). -/

namespace Sys2Proof.Machine

def Module.modPra (m : Module) (a : Nat) (f : PraArray → PraArray) : Module := m.putPra a (f (m.praAt a))

def Module.praState (m : Module) (a : Nat) : Nat := m.getF (K.praStatus_STATE a)

/-! ### Channels and carriers -/

def Module.chanUp (m : Module) (a c : Nat) : Bool :=
  if c < 32 then bitOf (m.getF (K.praChanLo_UP a)) c else bitOf (m.getF (K.praChanHi_UP a)) (c - 32)

def Module.setChan (m : Module) (a c : Nat) (v : Bool) : Module :=
  if c < 32 then m.setBit (K.praChanLo_UP a) c v else m.setBit (K.praChanHi_UP a) (c - 32) v

/-- The groups of an array have changed: the engines sum what it no longer takes of the segments in their windows (R305). -/
def Module.regroup (m : Module) (a : Nat) : Module :=
  let mine := m.col.ops.filter (fun x => x.2.pra && praOf x.2.home == a)
  m.each (mine.flatMap (fun x => x.2.segs.map (fun y => (x.1, y.1)))) (fun m x =>
    match m.op x.1 with
    | none => m
    | some op =>
      match op.seg x.2 with
      | none => m
      | some sg => m.engineTakes x.1 op sg false)

/-- Take a carrier out of service (R319). -/
def Module.loseCarrier (m : Module) (a c : Nat) : Module :=
  if bitOf (m.getF (K.praCarrier_UP a)) c then
    ((m.setBit (K.praCarrier_UP a) c false).raise .pra_CARRIER_LOST a).regroup a
  else m

/-- Retire a channel (R313, R319). -/
def Module.retireChan (m : Module) (a c : Nat) : Module :=
  if (m.praAt a).retired.contains c then m
  else ((m.modPra a (fun p => { p with retired := p.retired ++ [c] })).setChan a c false).raise .pra_CHAN_RETIRED a

/-- A ring of a channel is given up and no spare can serve: the channel is retired for good (R319). -/
def Module.loseChan (m : Module) (a c : Nat) : Module :=
  if (m.praAt a).ringless.contains c then m
  else (m.retireChan a c).modPra a (fun p => { p with ringless := p.ringless ++ [c] })

/-! ### Conversion (R304, R305, R314) -/

/-- Smallest power of two at least a finite value above 0, as its exponent. -/
def ceilLog2 (v : Val) : Int :=
  match v with
  | .fin _ n q => let l : Int := Nat.log2 n; if n = 2 ^ Nat.log2 n then l + q else l + q + 1
  | _ => 0

/-- A retained contribution of a rank to a slot. -/
def Seg.delivery (sg : Seg) (r fslot : Nat) : Option Delivery :=
  sg.got.find? (fun d => !d.child && d.source == r && d.slot == fslot)

/-- S: the largest block scale among some ranks' blocks, 0xFF left out (R304). -/
def Seg.topScale (sg : Seg) (op : Op) (ranks : List Nat) (fslot blk : Nat) : Nat :=
  (ranks.filterMap (fun r => (sg.delivery r fslot).map (fun d =>
    ((d.data.drop (blk * blockBytes op.desc.inFmt)).headD 0).toNat))).foldl (fun b c => if c = 0xFF then b else max b c) 0

/-- log2 of the block half-range F (R304). -/
def Module.halfRange (m : Module) (op : Op) (ranks : List Nat) (s : Nat) : Int :=
  let g := ranks.foldl (fun v r => v.addExact 0 (m.praWeight op r).abs) (Val.zero false)
  let emax := match fmtOf op.desc.inFmt with
    | some f => f.emax
    | none => 0
  ceilLog2 g + emax + 1 + (s : Int) - 127

/-- A conversion term's value (R304 step 6). -/
def PraTerm.val (t : PraTerm) : Val := Val.ofScaled t.code (t.half - 9) false

/-- One rank's part in an element's exact sum: whether the element is special, so that it sets flags and drives 0 (R305), its
record and term as PRE forms them, and the product g × x in 2^−149 as ACC rounds it. -/
structure ExactTerm where
  special : Bool
  rec_ : Rec
  term : Term
  product : Int
  deriving DecidableEq, Repr

/-- The exact terms of some ranks for one element. An element is special as it is decoded, before PRE (R305). -/
def Module.exactTerms (m : Module) (op : Op) (sg : Seg) (ranks : List Nat) (fslot elem : Nat) : List ExactTerm :=
  ranks.filterMap (fun r => (sg.delivery r fslot).bind (fun d =>
    match (decodeData op.desc.inFmt d.elems d.data).1[elem]?, (m.terms op d).1[elem]? with
    | some x, some t =>
      some { special := x.isNan || x.isInf, rec_ := t.1, term := t.2
             product := match (m.opRecipe op).runPre x ((m.opRecipe op).rankValue r) with
               | .fin neg n q => roundInt 0 neg n 1 (q + 149) 0
               | _ => 0 }
    | _, _ => none))

/-- Is a block shadowed (R314)? -/
def Module.shadowed (m : Module) (a b : Nat) : Bool :=
  mix64 ((m.praAt a).seed ^^^ b) >>> (64 - m.getF (K.praCtrl_SHADOW_LOG2 a)) == 0

/-- The number of an element's conversion block, and the array with the element counted in it. -/
def PraArray.enter (p : PraArray) (slot seg fslot index size : Nat) (ranks : List Nat) : PraArray × Nat :=
  let same (b : PraBlock) : Bool := b.slot == slot && b.seg == seg && b.fslot == fslot && b.index == index && b.ranks == ranks
  match p.openBlocks.find? same with
  | some b =>
    let rest := p.openBlocks.filter (fun x => x.num ≠ b.num)
    ({ p with openBlocks := if b.seen + 1 = size then rest else rest ++ [{ b with seen := b.seen + 1 }] }, b.num)
  | none =>
    let b : PraBlock := { slot := slot, seg := seg, fslot := fslot, ranks := ranks, index := index, num := p.blocks, seen := 1 }
    ({ p with blocks := p.blocks + 1, openBlocks := if size = 1 then p.openBlocks else p.openBlocks ++ [b] }, p.blocks)

/-- Mark the cover of an element. -/
def Seg.cover (sg : Seg) (ranks : List Nat) (fslot elem : Nat) : Seg :=
  { sg with added := ranks.map (fun r => (r, fslot, 8 + elem)) ++ sg.added }

/-- Add a term to its element's record, with the flags of its contributors' special elements (R305). -/
def Module.addTerm (m : Module) (t : PraTerm) : Module :=
  match m.op t.slot with
  | none => m
  | some op =>
    match op.seg t.seg with
    | none => m
    | some sg =>
      if sg.epoch ≠ t.epoch ∨ sg.sent = true then m
      else
        let pos := op.pos t.fslot t.elem
        let specials := (m.exactTerms op sg t.ranks t.fslot t.elem).filter (·.special)
        let tv := accTerm false t.val
        let sg' := (specials.foldl (fun s x => s.join op pos x.rec_) sg).join op pos (Rec.ofVal false 0 tv.v)
        let sg' := { sg' with inOver := sg'.inOver || tv.overflow }
        (m.countSeg sg' sg'.met).putOp t.slot (op.putSeg ((sg'.note sg'.met).cover t.ranks t.fslot t.elem))

/-- The elements of block `index` of a slot. -/
def blockSize (slotElems index : Nat) : Nat := min 32 (slotElems - 32 * index)

/-- Sum an element exactly in place of its term (R307, R315). -/
def Module.addExactly (m : Module) (t : PraTerm) : Module :=
  match m.op t.slot with
  | none => m
  | some op =>
    match op.seg t.seg with
    | none => m
    | some sg =>
      if sg.epoch ≠ t.epoch ∨ sg.sent = true then m
      else
        let pos := op.pos t.fslot t.elem
        let sg' := (m.exactTerms op sg t.ranks t.fslot t.elem).foldl (fun s x =>
          let s := s.join op pos x.rec_
          { s with preRound := s.preRound || x.term.rounded, inOver := s.inOver || x.term.overflow }) sg
        (m.countSeg sg' sg'.met).putOp t.slot (op.putSeg ((sg'.note sg'.met).cover t.ranks t.fslot t.elem))

/-- Convert one element of one block over one group (R304). -/
def Module.convert (m : Module) (a slot seg fslot elem group chan : Nat) (code : Int) : Module :=
  match m.op slot with
  | none => m
  | some op =>
    match op.seg seg with
    | none => m
    | some sg =>
      let ranks := m.freeRanks a slot sg fslot elem (m.groupRanks op group)
      if m.praState a ≠ 2 ∨ m.admits (.pra (Fin.ofNat 4 a)) = false ∨ op.pra = false ∨ praOf op.home ≠ a ∨ op.state ≠ 1 ∨ sg.window = none ∨ sg.moving = true
          ∨ sg.sent = true ∨ m.chanUp a chan = false ∨ op.desc.slotElems seg fslot ≤ elem ∨ ranks = []
          ∨ m.badGroup op (m.groupRanks op group) = true
          ∨ (m.groupRanks op group).all (fun r => (sg.delivery r fslot).isSome) = false then m
      else
        let blk := elem / 32
        let s := sg.topScale op ranks fslot blk
        let (p, num) := (m.praAt a).enter slot seg fslot blk (blockSize (op.desc.slotElems seg fslot) blk) ranks
        let t : PraTerm :=
          { slot := slot, seg := seg, fslot := fslot, elem := elem, ranks := ranks, epoch := sg.epoch, block := num
            shadow := m.shadowed a num, chan := chan, code := code, half := m.halfRange op ranks s, scale := s }
        m.putPra a { p with inFlight := p.inFlight ++ [t] }

/-! ### References (R307) -/

/-- A channel's references passed: its terms leave the array, or go to the shadow check. -/
def Module.refPassed (m : Module) (a chan : Nat) : Module :=
  let p := m.praAt a
  let mine := p.inFlight.filter (fun t => t.chan == chan)
  let m := m.putPra a { p with inFlight := p.inFlight.filter (fun t => t.chan ≠ chan)
                               compare := p.compare ++ mine.filter (·.shadow) }
  m.each (mine.filter (fun t => !t.shadow)) Module.addTerm

/-- Sum exactly what nothing covers of a term's block, the elements not yet converted among it (R307). -/
def Module.blockExactly (m : Module) (a : Nat) (t : PraTerm) : Module :=
  match m.op t.slot with
  | none => m
  | some op =>
    m.each (List.range (blockSize (op.desc.slotElems t.seg t.fslot) (t.elem / 32))) (fun m i =>
      match (m.op t.slot).bind (·.seg t.seg) with
      | none => m
      | some sg =>
        let elem := 32 * (t.elem / 32) + i
        match m.freeRanks a t.slot sg t.fslot elem t.ranks with
        | [] => m
        | ranks => m.addExactly { t with elem := elem, ranks := ranks })

/-- A reference failed: the channel's conversions since the last good one are discarded, their blocks summed exactly and, where
shadowed, not compared (R323), and the channel leaves service. -/
def Module.refFailed (m : Module) (a chan : Nat) : Module :=
  let p := m.praAt a
  let bad := (p.inFlight.filter (fun t => t.chan == chan)).map (·.block)
  let hit (t : PraTerm) : Bool := bad.contains t.block
  let gone := (p.inFlight ++ p.compare).filter hit
  let m := m.putPra a { p with inFlight := p.inFlight.filter (fun t => !hit t), compare := p.compare.filter (fun t => !hit t)
                               openBlocks := p.openBlocks.filter (fun b => !bad.contains b.num) }
  (m.each gone (fun m t => m.blockExactly a t)).setChan a chan false

/-! ### The shadow check (R315, R316, R327, R328) -/

/-- Two 32-bit fields as one number. -/
def Module.get64 (m : Module) (lo hi : FKey) : Nat := m.getF hi * 2 ^ 32 + m.getF lo

def Module.set64 (m : Module) (lo hi : FKey) (v : Nat) : Module := (m.setF lo (v % 2 ^ 32)).setF hi (v / 2 ^ 32)

/-- How many times finer than 2^−149 an LSB of a term is, as a power of two: 0 where it is no finer. -/
def PraTerm.finer (t : PraTerm) : Nat := (-149 - (t.half - 9)).toNat

/-- One LSB of a term in units of 2^−149, or of itself where it is finer. -/
def PraTerm.lsb (t : PraTerm) : Nat := 2 ^ (t.half - 9 + 149).toNat

/-- A term's error against the exact sum of its group, in the unit of its LSB: the exact sum takes no special element (R305). -/
def Module.termError (m : Module) (op : Op) (sg : Seg) (t : PraTerm) : Int :=
  let exact := ((m.exactTerms op sg t.ranks t.fslot t.elem).map (fun x => if x.special then 0 else x.product)).sum
  t.code * t.lsb - exact * 2 ^ t.finer

/-- An error in 2^−8 LSB, rounded to nearest (notes/assumptions/24.md). -/
def PraTerm.err8 (t : PraTerm) (e : Int) : Int := roundInt 0 (decide (e < 0)) (256 * e.natAbs) t.lsb 0 0

/-- Has a segment array work: the array takes some local rank's contributions to it, or has covered elements of it? -/
def Module.arrayWork (m : Module) (op : Op) (sg : Seg) : Bool :=
  op.locals.any (fun e => m.praTakes op e.rank) || sg.added.any (fun x => decide (8 ≤ x.2.2))

/-- Move the unsent segments with array work to the engines, the array having tripped (R316). -/
def Module.tripSegs (m : Module) (a : Nat) : Module :=
  m.each (m.col.ops.filter (fun x => x.2.pra && praOf x.2.home == a)) (fun m x =>
    let hit := x.2.segs.filter (fun y => !y.2.sent && m.arrayWork x.2 y.2)
    let m := m.each (hit.map Prod.fst) (fun m k => m.moveSeg x.1 k none)
    match m.op x.1 with
    | some op => m.putOp x.1 { op with pra := false }
    | none => m)

/-- An array trips (R316, R317). -/
def Module.trip (m : Module) (a : Nat) : Module :=
  let m := (m.raise .pra_PRA_TRIP a (m.dieTemp a)).setF (K.praStatus_STATE a) 4
  let m := m.addSat (K.praStatus_TRIPS a) 1 255
  let m := (m.tripSegs a).modPra a (fun p => { p with inFlight := [], openBlocks := [] })
  (m.setF (K.praStatus_PAUSE_WHY a) 0).record 0x0C a 0xFFFF

/-- The bin of an error: of 0.25 LSB, from −8 LSB on, the end bins open (R328). -/
def PraTerm.bin (t : PraTerm) (e : Int) : Nat := clampTo 0 63 (4 * e / (t.lsb : Int) + 32).toNat

/-- Feed one comparison to the statistics. -/
def Module.shadowStat (m : Module) (a : Nat) (e8 : Int) (bin : Nat) : Module :=
  let m := m.set64 (K.praShdNLo_N a) (K.praShdNHi_N a) ((m.get64 (K.praShdNLo_N a) (K.praShdNHi_N a) + 1) % 2 ^ 64)
  let m := m.set64 (K.praShdSumLo_SUM a) (K.praShdSumHi_SUM a)
    (((m.get64 (K.praShdSumLo_SUM a) (K.praShdSumHi_SUM a) : Int) + e8) % 2 ^ 64).toNat
  let m := m.set64 (K.praShdSqLo_SQ a) (K.praShdSqHi_SQ a)
    (min (2 ^ 64 - 1) (m.get64 (K.praShdSqLo_SQ a) (K.praShdSqHi_SQ a) + e8.natAbs * e8.natAbs))
  let m := m.setF (K.praShdMax_MAX a) (max (m.getF (K.praShdMax_MAX a)) (min 0xFFFF e8.natAbs))
  m.modPra a (fun p => { p with hist := Tbl.put p.hist bin (min (2 ^ 32 - 1) (Tbl.get p.hist 0 bin + 1)) })

/-- The oldest shadowed block whose terms are all in is compared (R315). -/
def Module.shadowBlock (m : Module) (a : Nat) : Module :=
  let p := m.praAt a
  let open_ := p.openBlocks.map (·.num) ++ p.inFlight.map (·.block)
  match p.compare.find? (fun t => !open_.contains t.block) with
  | none => m
  | some t0 =>
    let ts := p.compare.filter (fun t => t.block == t0.block)
    let first := ts.foldl (fun b t => if t.elem < b.elem then t else b) t0
    let m := m.putPra a { p with compare := p.compare.filter (fun t => t.block ≠ t0.block) }
    match (m.op t0.slot).bind (fun op => (op.seg t0.seg).map (fun sg => (op, sg))) with
    | none => m
    | some (op, sg) =>
      let es := ts.map (fun t => (t, m.termError op sg t))
      let viol := es.any (fun x => decide (4 * x.1.lsb < x.2.natAbs))
      let m := m.each es (fun m x => m.shadowStat a (x.1.err8 x.2) (x.1.bin x.2))
      let m := if viol || !m.isOn (K.praCapInfo_VIOL a) then
          let m := (((m.setB (K.praCapInfo_VIOL a) viol).setF (K.praCapInfo_TEMP a) (m.dieTemp a)).setF (K.praCapInfo_CHAN a) first.chan).setF
            (K.praCapInfo_IN_FMT a) op.desc.inFmt
          let m := m.setF (K.praCapInfo_SCALE a) t0.scale
          let shown := es.foldl (fun c x => Tbl.put c (x.1.elem % 32) (x.1.code, x.1.err8 x.2)) []
          m.modPra a (fun p => { p with captured := shown })
        else m
      if viol then
        let m := m.raise .pra_SHADOW_VIOL a
        let recent := (m.praAt a).viols.filter (fun v => decide (m.elapsed - v ≤ perSec))
        let m := m.each ts Module.addExactly
        let m := m.modPra a (fun p => { p with viols := (m.elapsed :: recent).take 8 })
        if 3 ≤ recent.length ∧ (m.praState a = 2 ∨ m.praState a = 3) then m.trip a else m
      else m.each ts Module.addTerm

/-! ### Calibration, pauses and re-enable (R313, R317, R318, R323) -/

/-- May an array run at all: the profile is THROUGHPUT and the image enables it (R302)? -/
def Module.praAllowed (m : Module) (a : Nat) : Bool := m.profile == 0 && (m.praAt a).enabled

/-- May a calibration begin: no cause of a pause lasts (R323), and the governor admits the array (R321)? -/
def Module.mayCalibrate (m : Module) (a : Nat) : Bool := (m.praAt a).causes == 0 && m.admits (.pra (Fin.ofNat 4 a))

/-- Begin a calibration (R313): the statistics start again (R327), every channel is verified anew but one that lacks a ring, and
the shadow seed is taken from the time base (R314). -/
def Module.calibrate (m : Module) (a : Nat) : Module :=
  let zero (m : Module) (k : FKey) : Module := m.setF k 0
  let m := m.each [K.praShdNLo_N a, K.praShdNHi_N a, K.praShdSumLo_SUM a, K.praShdSumHi_SUM a, K.praShdSqLo_SQ a,
    K.praShdSqHi_SQ a, K.praShdMax_MAX a, K.praCapInfo_VIOL a, K.praCapInfo_TEMP a, K.praCapInfo_CHAN a,
    K.praCapInfo_IN_FMT a, K.praCapInfo_SCALE a] zero
  let m := m.modPra a (fun p => { p with seed := m.time.count.toNat, blocks := 0, captured := [], hist := [], viols := []
                                         retired := p.ringless, reenable := false })
  m.setF (K.praStatus_STATE a) 1

/-- The causes of a pause that last hold an array in STATE 2 or 3, and PAUSE is counted as it pauses (R318). -/
def Module.settlePause (m : Module) (a : Nat) : Module :=
  let why := (m.praAt a).causes
  if m.praState a = 2 ∧ why ≠ 0 then
    ((m.setF (K.praStatus_STATE a) 3).setF (K.praStatus_PAUSE_WHY a) why).raise .pra_PAUSE a
  else if m.praState a = 3 then
    (m.setF (K.praStatus_STATE a) (if why = 0 then 2 else 3)).setF (K.praStatus_PAUSE_WHY a) why
  else m

/-- Calibration ends (R313): a channel that failed verification is retired, and with fewer than 16 the array has failed. -/
def Module.calibrated (m : Module) (a passed : Nat) : Module :=
  let m := m.each (natsWhere 64 (fun c => !bitOf passed c)) (fun m c => m.retireChan a c)
  let up := natsWhere 64 (fun c => bitOf passed c && !(m.praAt a).retired.contains c)
  let m := m.each up (fun m c => m.setChan a c true)
  let m := (m.setF (K.praStatus_STATE a) (if up.length < 16 then 5 else 2)).raise .pra_CAL_DONE a
  m.settlePause a

/-- A cause of a pause begins (R318). -/
def Module.pausePra (m : Module) (a why : Nat) : Module :=
  (m.modPra a (fun p => { p with causes := p.causes ||| 2 ^ why })).settlePause a

/-- A re-enable that waited calibrates, where nothing more holds it (R321, R323). -/
def Module.tryReenable (m : Module) (a : Nat) : Module :=
  if (m.praAt a).reenable && m.mayCalibrate a then m.calibrate a else m

/-- A cause of a pause ends (R318); a re-enable that waited for it calibrates (R323). -/
def Module.resumePra (m : Module) (a why : Nat) : Module :=
  ((m.modPra a (fun p => { p with causes := p.causes &&& (0xF - 2 ^ why) })).settlePause a).tryReenable a

/-- REENABLE (R317, R323): it does nothing but in a tripped or failed array, whose calibration waits for a pause to end. An array
that may not run goes to rest (R302, notes/assumptions/177.md). -/
def Module.reenablePra (m : Module) (a : Nat) : Module :=
  if m.praState a = 4 ∨ m.praState a = 5 then
    let m := m.modPra a (fun p => { p with viols := [] })
    let m := if m.praState a = 4 then m.record 0x0D a 0xFFFF else m
    if m.praAllowed a then (m.modPra a (fun p => { p with reenable := true })).tryReenable a
    else m.setF (K.praStatus_STATE a) 0
  else m

end Sys2Proof.Machine
end

