-- ==== Sys2Proof/Machine/Rings.lean ====
section
/-! DEFINITION. The rings of the lightpath engines and the circuits that run through them
(spec/02_lightpath_engines.md R42, R46 to R53; spec/03_flyover_circuits.md R80 to R82, R97). -/

namespace Sys2Proof.Machine

/-! ### Ring numbers (R42) -/

/-- The ring of a port's bank at a position. -/
def ringAt (i k j : Nat) : Nat := 20 * i + 5 * k + j

/-- Port, bank and position of a ring below 160. -/
def ringPort (r : Nat) : Nat := r / 20
def ringBank (r : Nat) : Nat := r / 5 % 4
def ringPos (r : Nat) : Nat := r % 5

/-- The pilot tone of a ring in kHz (R49). -/
def ringTone (r : Nat) : Nat := if 160 ≤ r then 80 else (if ringBank r ≤ 1 then 20 else 26) + 12 * ringPos r

/-! ### The search (R46 to R48) -/

/-- The dip that the search recorded of a ring at a wavelength. -/
def Module.dip (m : Module) (e r w : Nat) : Option Nat :=
  match m.lpe.dips.find? (fun d => d.pb == e && d.ring == r) with
  | some d => (d.codes.getD w none).map BitVec.toNat
  | none => some (Config.ringDip e r w).toNat

/-- A ring that records fewer than four dips has failed. -/
def Module.searchFailed (m : Module) (e r : Nat) : Bool := (List.range 4).any (fun w => (m.dip e r w).isNone)

/-- The wavelength slot of a position under a shift; slot 4 is the empty one. -/
def slotOf5 (s j : Nat) : Nat := (j + s) % 5

/-- Does a ring of a bank serve its slot under a shift? -/
def Module.serves (m : Module) (e i k s j : Nat) : Bool :=
  slotOf5 s j != 4 && !m.searchFailed e (ringAt i k j) && (m.dip e (ringAt i k j) (slotOf5 s j)).isSome

/-- Wavelengths that a shift covers. -/
def Module.covered (m : Module) (e i k s : Nat) : Nat := (natsWhere 5 (fun j => m.serves e i k s j)).length

/-- The largest heater code of a shift. -/
def Module.worst (m : Module) (e i k s : Nat) : Nat :=
  ((natsWhere 5 (fun j => slotOf5 s j != 4)).map (fun j => (m.dip e (ringAt i k j) (slotOf5 s j)).getD 0)).foldl max 0

/-- The cyclic shift of a bank: among those that cover all four wavelengths the one of least worst code, else the one that
covers most; ties keep the lowest (R47, R48). -/
def Module.bankShift (m : Module) (e i k : Nat) : Nat :=
  let full := natsWhere 5 (fun s => m.covered e i k s == 4)
  match full with
  | s :: rest => rest.foldl (fun b s => if m.worst e i k s < m.worst e i k b then s else b) s
  | [] => (List.range 5).foldl (fun b s => if m.covered e i k b < m.covered e i k s then s else b) 0

/-- A ring before the search. -/
def Ring.off : Ring :=
  { relocks := 0, held := false, failed := false, locked := false, spare := false, lambda := 0, assigned := 0, heater := 0
    busy := false }

/-- A ring as the search leaves it. The code at which a spare is parked, or at which a Flyover ring with no circuit through it or
a combiner ring with no spare in service rests, is open. -/
def Module.searched (m : Module) (e r : Nat) : Ring :=
  if 160 ≤ r then
    { Ring.off with failed := m.searchFailed e r, lambda := r - 160
                    assigned := BitVec.ofNat 16 ((m.dip e r (r - 160)).getD 0), heater := Config.ringDip e r 4 }
  else
    let s := m.bankShift e (ringPort r) (ringBank r)
    let slot := slotOf5 s (ringPos r)
    if slot = 4 then
      { Ring.off with failed := m.searchFailed e r, spare := true, assigned := Config.ringDip e r 4, heater := Config.ringDip e r 4 }
    else
      let code := BitVec.ofNat 16 ((m.dip e r slot).getD 0)
      let packet := decide (ringBank r ≤ 1)
      { Ring.off with failed := m.searchFailed e r, lambda := slot, assigned := code
                      locked := packet && m.serves e (ringPort r) (ringBank r) s (ringPos r)
                      heater := if packet then code else Config.ringDip e r 4 }

/-- The state of an engine. -/
def Module.engineState (m : Module) (e : Nat) : Nat := m.getF (K.lpeStatus_STATE e)

/-- Has an engine searched its rings since the last start? They stay locked through a sector reset (R504). -/
def Module.hasSearched (m : Module) (e : Nat) : Bool := m.engineState e == 3 || decide (9 ≤ m.startStep)

/-- A ring now. -/
def Module.ring (m : Module) (e r : Nat) : Ring :=
  match Tbl.find m.lpe.rings (e, r) with
  | some x => x
  | none => if m.hasSearched e then m.searched e r else Ring.off

def Module.modRing (m : Module) (e r : Nat) (f : Ring → Ring) : Module :=
  { m with lpe := { m.lpe with rings := Tbl.put m.lpe.rings (e, r) (f (m.ring e r)) } }

/-! ### Circuits (R80 to R82) -/

/-- The state of a slot (R106). -/
def Module.slotState (m : Module) (s : Nat) : Nat := m.getF (K.flySlotCfg_STATE s)

/-- Set a slot's state; states 1 to 5 are valid. -/
def Module.setSlot (m : Module) (s st : Nat) : Module :=
  (m.setF (K.flySlotCfg_STATE s) st).setB (K.flySlotCfg_VALID s) (decide (st ≠ 0))

def Module.slotIn (m : Module) (s : Nat) : Nat := m.getF (K.flySlotCfg_IN_PORT s)
def Module.slotOut (m : Module) (s : Nat) : Nat := m.getF (K.flySlotCfg_OUT_PORT s)
def Module.slotHold (m : Module) (s : Nat) : Bool := m.isOn (K.flySlotCfg_HOLD s)

/-- The slots in states 1 to 5. -/
def Module.slotsInUse (m : Module) : List Nat := natsWhere 256 (fun s => m.slotState s != 0)

/-- The module lane of a port's wavelength. -/
def laneOf (port w : Nat) : Nat := 4 * port + w

/-- The ring of a port's bank that serves a wavelength: searched or held, neither failed nor parked. -/
def Module.workingRing (m : Module) (port k w : Nat) : Option Nat :=
  ((List.range 5).map (fun j => ringAt (port % 8) k j)).find? (fun r =>
    let x := m.ring (port / 8) r
    !x.failed && !x.spare && x.lambda == w && (x.held || m.hasSearched (port / 8)))

/-- Is a ring of a port's bank for a wavelength re-acquiring or being spared? -/
def Module.ringBusy (m : Module) (port k w : Nat) : Bool :=
  match m.workingRing port k w with
  | some r => (m.ring (port / 8) r).busy
  | none => false

/-- Change the ring that serves a wavelength of a port's bank. -/
def Module.modServing (m : Module) (port k w : Nat) (f : Ring → Ring) : Module :=
  match m.workingRing port k w with
  | some r => m.modRing (port / 8) r f
  | none => m

/-- The state to which an interrupted circuit returns: 4 while the island holds it, else 2. -/
def Module.runState (m : Module) (s : Nat) : Nat := if m.isOn K.flyStatus_IN_HOLD && m.slotHold s then 4 else 2

/-- The slots whose circuit runs through a Flyover ring of a port: its drop bank as input, its add bank as output. -/
def Module.slotsThrough (m : Module) (port k w : Nat) : List Nat :=
  m.slotsInUse.filter (fun s => s % 4 == w && ((k == 3 && m.slotIn s == port) || (k == 2 && m.slotOut s == port)))

/-! ### Launch powers (R63), signed, in units of 0.01 dBm -/

/-- A power as a register holds it. -/
def powerWord (p : Int) : Nat := (BitVec.ofInt 16 p).toNat

/-- An open power below −30.00 dBm (R68, R88). -/
def darkPower (v : BitVec 64) : Nat := powerWord (-3001 - ((v.toNat % 29767 : Nat) : Int))

/-- The most that one fibre carries of `own` wavelengths at +3.0 dBm and `circuits` at +4.0 dBm, and never above +10.0 dBm. -/
def launchCap (own circuits : Nat) : Int :=
  match circuits with
  | 0 => [-3001, 300, 601, 777, 902].getD own 902
  | 1 => [400, 653, 813, 929].getD own 929
  | 2 => [701, 846, 955].getD own 955
  | 3 => [877, 979].getD own 979
  | _ => 1000

/-- The most that one fibre carries at its reduced level, −5.0 dBm (R64), beside `circuits` at +4.0 dBm (R68). -/
def reducedCap (circuits : Nat) : Int := [-500, 451, 727, 894].getD circuits 1000

/-- The circuits whose light leaves a port: in states 2 and 4, their add rings not detuned for loss of light. -/
def Module.circuitsOut (m : Module) (port : Nat) : List Nat :=
  m.slotsInUse.filter (fun s => m.slotOut s == port && (m.slotState s == 2 || m.slotState s == 4) && !m.fly.detuned.contains s)

/-- Is a port at its reduced launch (R64, R68)? -/
def Module.reduced (m : Module) (port : Nat) : Bool := m.isOn (K.lpePortApr_REDUCED (port / 8) (port % 8))

/-- The most that a port may launch now: its own wavelengths but those that a circuit has taken, where its engine is in lock, at
full or at reduced launch, and the circuits out of it. -/
def Module.launchMost (m : Module) (port : Nat) : Int :=
  let taken := m.slotsInUse.filter (fun s => m.slotOut s == port)
  let circuits := (m.circuitsOut port).length
  if m.engineState (port / 8) ≠ 3 then launchCap 0 circuits
  else if m.reduced port then reducedCap circuits
  else launchCap (4 - taken.length) circuits

/-- Show a port's transmit power, within its caps. -/
def Module.showTx (m : Module) (port : Nat) (tx : BitVec 16) : Module :=
  m.setF (K.lpePortPwr_TX (port / 8) (port % 8)) (powerWord (min tx.toInt (m.launchMost port)))

/-- The reduced launch of a port: an open power from −7.0 to −5.0 dBm (R64). -/
def Module.reducedLaunch (m : Module) (e i : Nat) : Module :=
  m.drawn.setF (K.lpePortPwr_TX e i) (powerWord (-700 + (m.openWord.toNat % 201 : Nat)))

/-- A port's transmit power changes with its circuits (R78): what it reads then is open, within the caps. -/
def Module.retotal (m : Module) (port : Nat) : Module :=
  if m.engineState (port / 8) = 3 ∧ m.reduced port = true ∧ (m.circuitsOut port).isEmpty = true then
    m.reducedLaunch (port / 8) (port % 8)
  else m.drawn.showTx port (m.openWord.setWidth 16)

/-- Interrupt a circuit (R97). CIRCUIT_INT tells of it whatever the cause (notes/assumptions/163.md). -/
def Module.interrupt (m : Module) (s : Nat) : Module :=
  if m.slotState s = 2 ∨ m.slotState s = 4 then ((m.setSlot s 3).raise .fly_CIRCUIT_INT 0).retotal (m.slotOut s) else m

/-- Restore an interrupted circuit, where its two rings work and loss of light does not keep its add ring detuned (R97). -/
def Module.restore (m : Module) (s : Nat) : Module :=
  let w := s % 4
  let i := m.slotIn s
  let o := m.slotOut s
  if m.slotState s = 3 ∧ (m.workingRing i 3 w).isSome = true ∧ (m.workingRing o 2 w).isSome = true
      ∧ m.ringBusy i 3 w = false ∧ m.ringBusy o 2 w = false ∧ m.fly.detuned.contains s = false then
    (m.setSlot s (m.runState s)).retotal o
  else m

/-! ### The rings of a circuit (R88, R89) -/

/-- Does a modulator ring extinguish its port's own wavelength for a circuit that leaves there? -/
def Module.dropped (m : Module) (e r : Nat) : Bool :=
  decide (r < 160) && ringBank r == 0 && !(m.slotsThrough (8 * e + ringPort r) 2 (m.ring e r).lambda).isEmpty

/-- Does a ring rest with its lock loop open: a modulator at full drop, or a Flyover ring that no circuit uses or that loss of
light keeps detuned? -/
def Module.ringRests (m : Module) (e r : Nat) : Bool :=
  m.dropped e r || (decide (r < 160) && decide (2 ≤ ringBank r)
    && (m.slotsThrough (8 * e + ringPort r) (ringBank r) (m.ring e r).lambda).all (fun s =>
      ringBank r == 2 && m.fly.detuned.contains s))

/-- A ring leaves its wavelength: its lock loop opens, and its heater goes to an open code. -/
def Module.detuneServing (m : Module) (port k w : Nat) : Module :=
  let code := m.openWord.setWidth 16
  m.drawn.modServing port k w (fun x => { x with locked := false, busy := false, heater := code })

/-- A ring is at the code assigned at the search, its lock loop closed; how far the loop steers it from there is not shown
(notes/assumptions/164.md). -/
def Module.lockServing (m : Module) (port k w : Nat) : Module :=
  m.modServing port k w (fun x => { x with locked := true, busy := false, heater := x.assigned })

/-- A set-up's rings: the modulator ring of its output lane goes to full drop, at a code that is open; the drop and the add
ring go to their search codes (R88). -/
def Module.tuneCircuit (m : Module) (s : Nat) : Module :=
  let w := s % 4
  let m := m.detuneServing (m.slotOut s) 0 w
  let m := m.modServing (m.slotIn s) 3 w (fun x => { x with heater := x.assigned })
  m.modServing (m.slotOut s) 2 w (fun x => { x with heater := x.assigned })

/-- A circuit's add ring is kept detuned while its output port is at reduced launch (R64). -/
def Module.keepDetuned (m : Module) (s : Nat) : Module :=
  let m := m.detuneServing (m.slotOut s) 2 (s % 4)
  { m with fly := { m.fly with detuned := if m.fly.detuned.contains s then m.fly.detuned else m.fly.detuned ++ [s] } }

/-- Its lock loops close (R88), but the add ring's where the output port is at reduced launch (notes/assumptions/165.md). -/
def Module.lockCircuit (m : Module) (s : Nat) : Module :=
  let m := m.lockServing (m.slotIn s) 3 (s % 4)
  if m.reduced (m.slotOut s) then m.keepDetuned s else m.lockServing (m.slotOut s) 2 (s % 4)

/-- The island lets go of a ring. -/
def Module.letGo (m : Module) (port k w : Nat) : Module := m.modServing port k w (fun x => { x with held := false })

/-- Its add and drop rings are detuned (R89). -/
def Module.detuneCircuit (m : Module) (s : Nat) : Module :=
  let w := s % 4
  let o := m.slotOut s
  let i := m.slotIn s
  (((m.detuneServing o 2 w).detuneServing i 3 w).letGo o 2 w).letGo i 3 w

/-- A combiner ring leaves its wavelength, or moves with its combiner: its heater is at an open code (R56). -/
def Module.restCombiner (m : Module) (e w : Nat) : Module :=
  let code := m.openWord.setWidth 16
  m.drawn.modRing e (160 + w) (fun x => { x with locked := false, busy := false, heater := code })

/-- A combiner ring couples its spare's light in, its lock loop closed. -/
def Module.lockCombiner (m : Module) (e w : Nat) : Module :=
  m.modRing e (160 + w) (fun x => { x with locked := !x.failed, busy := false, heater := x.assigned })

/-! ### Mis-lock, re-lock and sparing (R51 to R53) -/

/-- The array that an engine's lasers supply (R303). -/
def arrayOf (e : Nat) : Nat := e / 16

/-- The carrier of an array that an engine's wavelength supplies; the arrays take none from the upper eight engines of their
sixteen (R303). -/
def carrierOf (e w : Nat) : Nat := 4 * (e % 16) + w

/-- Does an engine supply carriers of its array? -/
def supplies (e : Nat) : Bool := decide (e % 16 < 8)

/-- The wavelength that a supply combiner ring feeds from its spare laser now (R42, R43). -/
def Module.feeds (m : Module) (e r : Nat) : Option Nat :=
  let n := if r < 162 then 4 else 5
  if 160 ≤ r ∧ m.getF (K.lpeLsrStat_ROLE e n) = 2 ∧ m.getF (K.lpeLsrStat_LAMBDA e n) = r - 160 then some (r - 160) else none

/-- What a ring serves goes out of service: its lane, its circuit, or, of a combiner ring, the lanes of all eight ports and
the array that it supplies (R52). -/
def Module.ringOut (m : Module) (e r : Nat) : Module :=
  let x := m.ring e r
  let p := 8 * e + ringPort r
  if 160 ≤ r then
    match m.feeds e r with
    | some w =>
      let m := m.each (List.range 8) (fun m i => m.loseLane (laneOf (8 * e + i) w))
      if supplies e then m.pausePra (arrayOf e) 1 else m
    | none => m
  else if ringBank r ≤ 1 then m.loseLane (laneOf p x.lambda)
  else m.each (m.slotsThrough p (ringBank r) x.lambda) (fun m s => m.interrupt s)

/-- The array's pause ends when no supply ring of its engines re-acquires (R318). -/
def Module.supplyBack (m : Module) (e : Nat) : Module :=
  let a := arrayOf e
  let busy := (List.range 8).any (fun i => (List.range 4).any (fun j =>
    (m.ring (16 * a + i) (160 + j)).busy && (m.feeds (16 * a + i) (160 + j)).isSome))
  if busy || !supplies e then m else m.resumePra a 1

/-- What a ring serves returns (R52). -/
def Module.ringBack (m : Module) (e r : Nat) : Module :=
  let x := m.ring e r
  let p := 8 * e + ringPort r
  if 160 ≤ r then
    match m.feeds e r with
    | some w => (m.each (List.range 8) (fun m i => m.trainLane (laneOf (8 * e + i) w))).supplyBack e
    | none => m
  else if ringBank r ≤ 1 then m.trainLane (laneOf p x.lambda)
  else m.each (m.slotsThrough p (ringBank r) x.lambda) (fun m s => m.restore s)

/-- A ring in lock is declared mis-locked (R51, R52): its heater goes back to the assigned code. -/
def Module.mislockRing (m : Module) (e r : Nat) : Module :=
  let x := m.ring e r
  if x.locked = false ∨ x.failed = true then m
  else
    let m := m.raise .lpe_MISLOCK e r
    (m.modRing e r (fun x => { x with locked := false, busy := true, heater := x.assigned })).ringOut e r

/-- A ring has acquired its wavelength: it locks, or rests where nothing may use it. -/
def Module.acquire (m : Module) (e r relocks : Nat) : Module :=
  let rests := m.ringRests e r
  let code := m.openWord.setWidth 16
  (m.drawn.modRing e r (fun x =>
    { x with locked := !rests, busy := false, relocks := relocks, heater := if rests then code else x.assigned })).ringBack e r

/-- A ring re-acquires at its assigned code (R52). -/
def Module.relockRing (m : Module) (e r : Nat) : Module :=
  let x := m.ring e r
  if x.busy = false ∨ x.failed = true then m else m.acquire e r (min 255 (x.relocks + 1))

/-- The free spare of a ring's bank. -/
def Module.bankSpare (m : Module) (e r : Nat) : Option Nat :=
  if 160 ≤ r then none
  else ((List.range 5).map (fun j => ringAt (ringPort r) (ringBank r) j)).find? (fun q =>
    let x := m.ring e q
    x.spare && !x.failed)

/-- A wavelength is lost on one port only (R48): the port runs without its lane (R11). -/
def Module.losePortLambda (m : Module) (e r w : Nat) : Module :=
  if r < 160 then
    (m.setBit (K.lpeStatus_PORT_RING_LOSS e) (ringPort r) true).barLane (laneOf (8 * e + ringPort r) w) .wavelength
  else m

/-- Remove a wavelength from the eight ports of an engine (R60), and the carrier that it supplies (R319). -/
def Module.removeLambda (m : Module) (e w : Nat) : Module :=
  if bitOf (m.getF (K.lpeStatus_LAMBDA_LOST e)) w then m
  else
    let m := m.setBit (K.lpeStatus_LAMBDA_LOST e) w true
    let m := m.each (List.range 8) (fun m i => m.barLane (laneOf (8 * e + i) w) .wavelength)
    let m := m.record 0x02 (e * 256 + w) 0xFFFF
    if carrierOf e w < 32 then m.loseCarrier (arrayOf e) (carrierOf e w) else m

/-- A combiner ring has no spare: given up while it feeds a wavelength, it costs all eight ports that wavelength and its array
the carrier (notes/assumptions/120.md). -/
def Module.loseFeed (m : Module) (e r : Nat) : Module :=
  match m.feeds e r with
  | some w => (m.removeLambda e w).supplyBack e
  | none => m

/-- A ring is given up (R53): its bank's spare moves to the dip recorded for the wavelength, or with none the wavelength is
lost on that port. -/
def Module.spareRing (m : Module) (e r : Nat) : Module :=
  let x := m.ring e r
  if x.failed || x.spare then m
  else
    let m := if x.locked then m.ringOut e r else m
    let m := m.modRing e r (fun x => { x with failed := true, locked := false, busy := false, held := false })
    match m.bankSpare e r with
    | some q =>
      let m := m.modRing e q (fun y =>
        { y with spare := false, busy := true, lambda := x.lambda, held := x.held
                 assigned := BitVec.ofNat 16 ((m.dip e q x.lambda).getD 0) })
      (m.raise .lpe_RING_SPARED e r).record 0x03 (e * 256 + r) q
    | none =>
      let m := m.record 0x04 (e * 256 + r) 0xFFFF
      if 160 ≤ r then m.loseFeed e r else m.losePortLambda e r x.lambda

/-- The spare ring locks at its recorded dip and what the failed ring served returns (R53). -/
def Module.spareLocks (m : Module) (e r : Nat) : Module :=
  let x := m.ring e r
  if x.busy = false ∨ x.failed = true then m else m.acquire e r x.relocks

end Sys2Proof.Machine
end

