-- ==== Sys2Proof/Machine/Lasers.lean ====
section
/-! DEFINITION. Lasers, their swaps, and launch power (spec/02_lightpath_engines.md R43, R55 to R67, R76 to R78). -/

namespace Sys2Proof.Machine

/-! ### Lasers -/

def Module.role (m : Module) (e n : Nat) : Nat := m.getF (K.lpeLsrStat_ROLE e n)
def Module.setRole (m : Module) (e n v : Nat) : Module := m.setF (K.lpeLsrStat_ROLE e n) v
def Module.laserLambda (m : Module) (e n : Nat) : Nat := m.getF (K.lpeLsrStat_LAMBDA e n)

/-- The spare of a wavelength (R43). -/
def spareOfLambda (w : Nat) : Nat := if w < 2 then 4 else 5

/-- Does a laser drive its wavelength? -/
def Module.drives (m : Module) (e n : Nat) : Bool := m.role e n == 0 || m.role e n == 2

/-- The laser that drives a wavelength. -/
def Module.driverOf (m : Module) (e w : Nat) : Option Nat :=
  (List.range 6).find? (fun n => m.drives e n && m.laserLambda e n == w)

/-- The swap that runs in an engine. -/
def Module.swapOf (m : Module) (e : Nat) : Option Swap := Tbl.get m.lpe.swaps none e

def Module.putSwap (m : Module) (e : Nat) (w : Option Swap) : Module :=
  ({ m with lpe := { m.lpe with swaps := Tbl.put m.lpe.swaps e w } }).setB (K.lpeStatus_SWAP_BUSY e) w.isSome

def Module.waitingOf (m : Module) (e : Nat) : List Nat := Tbl.get m.lpe.waiting [] e

def Module.setWaiting (m : Module) (e : Nat) (l : List Nat) : Module :=
  { m with lpe := { m.lpe with waiting := Tbl.put m.lpe.waiting e l } }

/-- A fading laser that no spare can replace (R60). -/
def Module.withoutSpare (m : Module) (e n : Nat) : Module :=
  let m := m.raise .lpe_NO_SPARE e n
  let m := { m with lpe := { m.lpe with noSpare := m.lpe.noSpare ++ [(e, n)] } }
  if !m.isOn (K.lpeCtrl_DEGRADE_AT e) || m.isOn (K.lpeLsrStat_EOL_MET e n) then m.removeLambda e (m.laserLambda e n) else m

/-- Claim the spare and begin a swap (R56). -/
def Module.beginSwap (m : Module) (e n : Nat) (commanded : Bool) : Module :=
  let w := m.laserLambda e n
  m.putSwap e (some { old := n, new := spareOfLambda w, lambda := w, phase := .tuning, commanded := commanded, back := false
                      oldFaded := false })

/-- Has a laser's wavelength a spare in reserve, and the combiner ring that would couple it in? -/
def Module.hasSpare (m : Module) (e n : Nat) : Bool :=
  n != spareOfLambda (m.laserLambda e n) && m.role e (spareOfLambda (m.laserLambda e n)) == 1
    && !(m.ring e (160 + m.laserLambda e n)).failed

/-- Has a fade that waits claimed a spare (R56, R58)? -/
def Module.claimed (m : Module) (e spare : Nat) : Bool :=
  (m.waitingOf e).any (fun n => spareOfLambda (m.laserLambda e n) == spare)

/-- FADE is raised for a laser (R55 to R60). Behind a swap, or behind fades that wait for one, it waits its turn. -/
def Module.fade (m : Module) (e n : Nat) : Module :=
  let m := m.raise .lpe_FADE e n
  match m.swapOf e with
  | some w =>
    if w.commanded && w.old == n && !w.back then m.putSwap e (some { w with oldFaded := true })
    else m.setWaiting e (m.waitingOf e ++ [n])
  | none =>
    if !(m.waitingOf e).isEmpty then m.setWaiting e (m.waitingOf e ++ [n])
    else if m.isOn (K.lpeCtrl_AUTO_SWAP e) && m.hasSpare e n then m.beginSwap e n false
    else m.withoutSpare e n

/-- The swap of the longest-waiting fading laser starts when the engine's swap has ended (R58). -/
def Module.nextSwap (m : Module) (e : Nat) : Module :=
  match m.swapOf e, m.waitingOf e with
  | none, n :: rest =>
    let m := m.setWaiting e rest
    if !m.drives e n then m
    else if m.isOn (K.lpeCtrl_AUTO_SWAP e) && m.hasSpare e n then m.beginSwap e n false
    else m.withoutSpare e n
  | _, _ => m

/-- One 100 ms average of a laser (R55, R61). Powers are in 0.01 dBm. A laser whose FADE has led to NO_SPARE, or that waits for
its swap, raises it no second time (notes/assumptions/121.md). -/
def Module.laserAverage (m : Module) (e n : Nat) (tap : BitVec 16) (bias : BitVec 12) : Module :=
  let m := (m.setF (K.lpeLsrPwr_TAP e n) tap.toNat).setF (K.lpeLsrBias_BIAS e n) bias.toNat
  if !m.drives e n then m
  else
    let comm := (Config.laserCommissioned e n (m.laserLambda e n)).toInt
    let most := (Config.laserMaxBias e n).toNat
    let fading := decide (tap.toInt ≤ comm - 100) || decide (9 * most ≤ 10 * bias.toNat)
    let eol := decide (tap.toInt ≤ comm - 250) || decide (most ≤ bias.toNat)
    let run := if fading then Tbl.get m.lpe.fadeRun 0 (e, n) + 1 else 0
    let m := { m with lpe := { m.lpe with fadeRun := Tbl.put m.lpe.fadeRun (e, n) run } }
    let was := m.isOn (K.lpeLsrStat_EOL_MET e n)
    let m := (m.setB (K.lpeLsrStat_FADE_MET e n) (decide (3 ≤ run))).setB (K.lpeLsrStat_EOL_MET e n) eol
    let m := if eol && !was then m.raise .lpe_EOL e n else m
    let m := if run = 3 ∧ m.lpe.noSpare.contains (e, n) = false ∧ (m.waitingOf e).contains n = false
      then m.fade e n else m
    if eol && m.lpe.noSpare.contains (e, n) then m.removeLambda e (m.laserLambda e n) else m

/-! ### A swap's steps (R56 to R59) -/

/-- The spare is tuned. -/
def Module.swapTuned (m : Module) (e : Nat) : Module :=
  match m.swapOf e with
  | some w => if w.phase = .tuning then m.putSwap e (some { w with phase := .seeding }) else m
  | none => m

/-- The spare confirms injection lock: the array that the laser supplies takes no new blocks (R62, R318). -/
def Module.swapLocked (m : Module) (e : Nat) : Module :=
  match m.swapOf e with
  | some w =>
    if w.phase = .seeding then
      let m := m.putSwap e (some { w with phase := .combining 0 })
      if supplies e then m.pausePra (arrayOf e) 0 else m
    else m
  | none => m

/-- A laser goes dark: its bias is 0 (R56, R59), and what its tap reads then is open. -/
def Module.laserDark (m : Module) (e n : Nat) : Module :=
  (m.drawn.setF (K.lpeLsrPwr_TAP e n) (m.openWord.toNat % 65536)).setF (K.lpeLsrBias_BIAS e n) 0

/-- The laser that was to take over goes dark and is marked failed (R59). On the way back of a commanded swap that laser is the
one swapped out (notes/assumptions/119.md). -/
def Module.spareFailed (m : Module) (e : Nat) (w : Swap) : Module :=
  let m := ((m.putSwap e none).setRole e w.new 4).laserDark e w.new
  let m := if 4 ≤ w.new then m.setBit (K.lpeStatus_SPARE_FAIL e) (w.new - 4) true else m
  let m := m.raise .lpe_SPARE_FAIL e w.new
  if !w.commanded || w.oldFaded then m.withoutSpare e w.old else m

/-- The spare is not tuned by 150 ms. -/
def Module.tuneTimeout (m : Module) (e : Nat) : Module :=
  match m.swapOf e with
  | some w => if w.phase = .tuning then m.spareFailed e w else m
  | none => m

/-- No injection lock by 160 ms. -/
def Module.lockTimeout (m : Module) (e : Nat) : Module :=
  match m.swapOf e with
  | some w => if w.phase = .seeding then m.spareFailed e w else m
  | none => m

/-- Does a ring on a wavelength of an engine re-acquire (R58)? -/
def Module.lambdaBusy (m : Module) (e w : Nat) : Bool :=
  m.lpe.rings.any (fun x => x.1.1 == e && x.2.busy && x.2.lambda == w)

/-- The combiner moves one of its 64 steps, the code of its ring with it, or holds (R56, R58). -/
def Module.combine1 (m : Module) (e : Nat) : Module :=
  match m.swapOf e with
  | some w =>
    match w.phase with
    | .combining k =>
      if k < 64 && !m.lambdaBusy e w.lambda then
        (m.putSwap e (some { w with phase := .combining (k + 1) })).restCombiner e w.lambda
      else m
    | _ => m
  | none => m

/-- A laser is at a wavelength, and shows the power commissioned there (R77). -/
def Module.setLambda (m : Module) (e n lambda : Nat) : Module :=
  (m.setF (K.lpeLsrStat_LAMBDA e n) lambda).setF (K.lpeLsrPwr_COMM e n) (Config.laserCommissioned e n lambda).toNat

/-- The new laser drives the wavelength. -/
def Module.takeLambda (m : Module) (e new lambda : Nat) : Module :=
  let m := (m.setRole e new (if new < 4 then 0 else 2)).setLambda e new lambda
  if 4 ≤ new then (m.setBit (K.lpeStatus_SPARE_USE e) (new - 4) true).lockCombiner e lambda else m

/-- A spare is back in reserve, dark, and its combiner ring rests. -/
def Module.toReserve (m : Module) (e n lambda : Nat) : Module :=
  ((((m.setRole e n 1).setLambda e n 0).setBit (K.lpeStatus_SPARE_USE e) (n - 4) false).laserDark e n).restCombiner e lambda

/-- A swap ends (R56): the old laser's bias has ramped to zero, it is retired and the swap recorded. A commanded swap goes back,
the spare returning to reserve, unless its laser has faded meanwhile (R76); each of its two legs raises SWAP_DONE, and between
them the healthy laser stands in reserve (notes/assumptions/118.md). -/
def Module.swapEnds (m : Module) (e : Nat) : Module :=
  match m.swapOf e with
  | some w =>
    if w.phase ≠ .combining 64 then m
    else
      let m := (m.takeLambda e w.new w.lambda).raise .lpe_SWAP_DONE e
      if w.commanded && w.back then (m.toReserve e w.old w.lambda).putSwap e none
      else if w.commanded && !w.oldFaded then
        ((m.setRole e w.old 1).laserDark e w.old).putSwap e
          (some { w with old := w.new, new := w.old, phase := .tuning, back := true })
      else (((m.setRole e w.old 3).laserDark e w.old).record 0x01 (e * 256 + w.lambda) w.new).putSwap e none
  | none => m

/-- A reset abandons a swap (R59): the engine goes on with the laser that the repair table names, which was in service before;
fades are judged afresh. -/
def Module.abandonSwap (m : Module) (e : Nat) : Module :=
  let m := { m.setWaiting e [] with lpe := { (m.setWaiting e []).lpe with
    fadeRun := m.lpe.fadeRun.filter (fun x => x.1.1 != e) } }
  match m.swapOf e with
  | some w =>
    let spare := if w.back then w.old else w.new
    let first := if w.back then w.new else w.old
    let m := ((m.putSwap e none).setRole e first (if first < 4 then 0 else 2)).toReserve e spare w.lambda
    if (match w.phase with
      | .combining _ => supplies e
      | _ => false) then m.resumePra (arrayOf e) 0 else m
  | none => m

/-- Is a rehearsal permission in force that allows an injection kind (R440, R465)? -/
def Module.rehearses (m : Module) (kind : Nat) : Bool :=
  match m.sec.rehearsal with
  | some r => bitOf r.kinds.toNat kind
  | none => false

/-- LPE_SWAP_CMD (R76): under a permission, a healthy laser with its spare in reserve, and claimed by no fade, is swapped out and
back. -/
def Module.swapCommand (m : Module) (e w : Nat) : Module :=
  match m.driverOf e w, m.swapOf e with
  | some n, none =>
    if m.rehearses 1 && m.hasSpare e n && !m.claimed e (spareOfLambda (m.laserLambda e n)) then m.beginSwap e n true
    else m.raise .lpe_SWAP_REFUSED e
  | _, _ => m.raise .lpe_SWAP_REFUSED e

/-! ### Launch power (R63 to R67) -/

/-- A transmit tap above +10.0 dBm: the engine lowers its own wavelengths, to an open power within the caps (R63). -/
def Module.capLimit (m : Module) (e i : Nat) : Module := (m.retotal (8 * e + i)).raise .lpe_CAP_LIMIT e

/-- Has an engine its lasers in lock? They stay so through a sector reset (R504). -/
def Module.engineLit (m : Module) (e : Nat) : Bool :=
  m.engineState e == 3 || (m.engineState e == 4 && decide (9 ≤ m.startStep))

/-- Does a circuit under hold leave a port? -/
def Module.heldOut (m : Module) (port : Nat) : Bool := m.slotsInUse.any (fun s => m.slotOut s == port && m.slotHold s)

/-- Has a port light to manage: its engine in lock and its supply not attenuated to dark, or a held circuit that leaves there
(R67, R68, R504)? -/
def Module.portLit (m : Module) (e i : Nat) : Bool :=
  (m.engineLit e && !m.power.sectorsDown.contains (e / 8))
    || (decide (3 ≤ m.engineState e) && m.heldOut (8 * e + i))

/-- A path's loss: an open one from 5.0 to 9.0 dB (R83). -/
def pathLoss (v : BitVec 64) : Int := 500 + (v.toNat % 401 : Nat)

/-- What leaves where `p` arrives: less the path's loss, and never above the add ring's +4.0 dBm (R63, R83, R85). -/
def outPower (p loss : Int) : Int := max (-32767) (min 400 (p - loss))

/-- The powers of a circuit as they are measured: what arrives on its wavelength, and what leaves over its path's loss, which is
dark behind an add ring that is detuned. -/
def Module.measure (m : Module) (s : Nat) (power : BitVec 16) (loss : Int) : Module :=
  let out := if m.fly.detuned.contains s then darkPower m.openWord else powerWord (outPower power.toInt loss)
  let m := if m.fly.detuned.contains s then m.drawn else m
  (m.setF (K.flySlotPwr_IN s) power.toNat).setF (K.flySlotPwr_OUT s) out

/-- The light of a circuit where none arrives: its input reads dark (R88), and its output, once it has been measured, too. -/
def Module.circuitDark (m : Module) (s : Nat) : Module :=
  let p := BitVec.ofNat 16 (darkPower m.openWord)
  let m' := if m.getF (K.flySlotPwr_OUT s) = 0x8000 then m.drawn.setF (K.flySlotPwr_IN s) p.toNat
    else m.drawn.drawn.measure s p (pathLoss m.drawn.openWord)
  m'.retotal (m.slotOut s)

/-- Light has changed on a port's receive fibre: what its circuits measure then is open. -/
def Module.remeasure (m : Module) (s : Nat) : Module :=
  (m.drawn.drawn.measure s (m.openWord.setWidth 16) (pathLoss m.drawn.openWord)).retotal (m.slotOut s)

/-- The circuits whose light enters at a port: in states 2 to 4. -/
def Module.circuitsIn (m : Module) (port : Nat) : List Nat :=
  m.slotsInUse.filter (fun s => m.slotIn s == port && decide (2 ≤ m.slotState s) && decide (m.slotState s ≤ 4))

/-- The circuits out of a port whose add rings loss of light is to detune: in states 2 to 4. -/
def Module.toDetune (m : Module) (port : Nat) : List Nat :=
  m.slotsInUse.filter (fun s => m.slotOut s == port && decide (2 ≤ m.slotState s) && decide (m.slotState s ≤ 4)
    && !m.fly.detuned.contains s)

/-- A circuit out of a port in loss of light: its add ring is detuned and it is interrupted (R64, R97). -/
def Module.loseOut (m : Module) (s : Nat) : Module := (m.keepDetuned s).interrupt s

/-- Its add ring locks again with APR_EXIT, unless it re-acquires. -/
def Module.regainOut (m : Module) (s : Nat) : Module :=
  if m.fly.detuned.contains s then
    let m := { m with fly := { m.fly with detuned := m.fly.detuned.filter (· ≠ s) } }
    let m := if m.ringBusy (m.slotOut s) 2 (s % 4) then m else m.lockServing (m.slotOut s) 2 (s % 4)
    m.restore s
  else m

/-- Receive power below −14.0 dBm for 500 µs (R64): at the onset of loss of light a port that does not launch reduced light
already, or through which circuits leave, reduces its launch. -/
def Module.lossOfLight (m : Module) (e i : Nat) (rx : BitVec 16) : Module :=
  if !m.portLit e i || decide (-1400 ≤ rx.toInt) then m
  else
    let p := 8 * e + i
    let out := m.toDetune p
    let full := !m.isOn (K.lpePortApr_REDUCED e i) || !out.isEmpty
    let m := (m.setF (K.lpePortPwr_RX e i) rx.toNat).setF (K.lpePortApr_LOS e i) 1
    let m := m.each (m.circuitsIn p) (fun m s => m.circuitDark s)
    if !full then m
    else
      let m := (m.setF (K.lpePortApr_REDUCED e i) 1).setBit (K.lpeStatus_PORT_APR e) i true
      let m := m.raise .lpe_APR_ENTER e
      let m := m.each (m.lportsOf [p]) (fun m l => m.linkDark l)
      (m.each out (fun m s => m.loseOut s)).retotal p

/-- Receive power at −11.0 dBm or above for 100 ms (R65): full launch, within the caps, and the links train. At a receive power
between that and −14.0 dBm the port only leaves loss of light, and at full launch only what arrives is measured anew
(notes/assumptions/122.md). -/
def Module.aprExit (m : Module) (e i : Nat) (rx tx : BitVec 16) : Module :=
  if !m.portLit e i || decide (rx.toInt < -1400) then m
  else
    let p := 8 * e + i
    let m := (m.setF (K.lpePortPwr_RX e i) rx.toNat).setF (K.lpePortApr_LOS e i) 0
    let m := m.each (m.circuitsIn p) (fun m s => m.remeasure s)
    if rx.toInt < -1100 || !m.isOn (K.lpePortApr_REDUCED e i) then m
    else
      let m := (m.setF (K.lpePortApr_REDUCED e i) 0).setBit (K.lpeStatus_PORT_APR e) i false
      let m := m.raise .lpe_APR_EXIT e
      let m := m.each ((m.lportsOf [p]).filter (fun l => m.linkState l == 1)) (fun m l => m.startTraining l 2)
      let m := m.each (m.slotsInUse.filter (fun s => m.slotOut s == p)) (fun m s => m.regainOut s)
      m.showTx p tx

end Sys2Proof.Machine
end

