-- ==== Sys2Proof/Machine/Circuits.lean ====
section
/-! DEFINITION. The FLY block: commands, set-up and tear-down of circuits (spec/03_flyover_circuits.md R86 to R89, R98, R99,
R105, R106). -/

namespace Sys2Proof.Machine

/-! ### Commands (R98, R105) -/

/-- The operation of an OPCODE or OP; a higher value clamps to TEAR-DOWN. -/
def flyOp (n : Nat) : FlyOp :=
  match n with
  | 0 => .query
  | 1 => .setUp
  | _ => .tearDown

def FlyOp.code (o : FlyOp) : Nat :=
  match o with
  | .query => 0
  | .setUp => 1
  | .tearDown => 2

/-- Read the 16 bytes of a Flyover control frame (R98). -/
def FlyCmd.decode (origin : FlyOrigin) (n : Nat) : FlyCmd :=
  { op := flyOp (bitsOf n 127 120), origin := origin, tag := BitVec.ofNat 16 (bitsOf n 119 104)
    slot := Fin.ofNat 256 (bitsOf n 103 96), inPort := Fin.ofNat 512 (bitsOf n 95 87)
    outPort := Fin.ofNat 512 (bitsOf n 86 78), hold := bitOf n 77 }

/-- The 16 bytes of a reply (R98). -/
def FlyCmd.reply (c : FlyCmd) (i o : Nat) (hold : Bool) (state status : Nat) (time : BitVec 64) : List Byte :=
  toBytes 16 (c.op.code * 2 ^ 120 + c.tag.toNat * 2 ^ 104 + c.slot.val * 2 ^ 96 + i % 512 * 2 ^ 87 + o % 512 * 2 ^ 78
    + flag hold * 2 ^ 77 + state % 32 * 2 ^ 72 + status % 256 * 2 ^ 64 + time.toNat)

def FlyCmd.byRegister (c : FlyCmd) : Bool :=
  match c.origin with
  | .register => true
  | _ => false

/-- A command ends with a status (R99): its reply goes to a control frame's requester, its status to FLY_CMD_RESULT where
it is the last that FLY_CMD gave. -/
def Module.flyEnds (m : Module) (c : FlyCmd) (status : Nat) (done : Bool) : Module :=
  let s := c.slot.val
  let time := if status = 0 ∧ done = true then m.time.count else 0
  let query := c.op == .query
  let i := if query then m.slotIn s else c.inPort.val
  let o := if query then m.slotOut s else c.outPort.val
  let hold := if query then m.slotHold s else c.hold
  let m := if status = 0 then m else m.raise .fly_CIRCUIT_REFUSED 0
  let m := m.emit (.circuitReply c (m.slotState s) status time)
  match c.origin with
  | .frame src reqId => m.answer src reqId 7 0 (c.reply i o hold (m.slotState s) status time)
  | .register =>
    if m.fly.queue.any FlyCmd.byRegister || !m.isOn K.flyCmdResult_BUSY then m
    else (m.setF K.flyCmdResult_BUSY 0).setF K.flyCmdResult_STATUS status
  | .image _ => m

/-- A command arrives at the queue of 64 (R86); the command that runs has left it (notes/assumptions/123.md). -/
def Module.flyQueue (m : Module) (c : FlyCmd) : Module :=
  if 64 ≤ m.fly.queue.length then
    let m := m.flyEnds c 7 false
    if c.byRegister then (m.setF K.flyCmdResult_BUSY 0).setF K.flyCmdResult_STATUS 7 else m
  else
    let m := { m with fly := { m.fly with queue := m.fly.queue ++ [c] } }
    if c.byRegister then m.setF K.flyCmdResult_BUSY 1 else m

/-- A circuit command with its origin: from a control frame it is the queued CIRCUIT request's own, judged for permission
(R409) once the image is loaded (R406), and it must be of this kind; from FLY_CMD or the image it is as given. -/
def Module.flyCommand (m : Module) (c : FlyCmd) : Module :=
  match c.origin with
  | .frame src reqId =>
    match m.takeReq src reqId 7 with
    | none => m
    | some (m', r) =>
      let d := FlyCmd.decode c.origin (ofBytes ((r.body ++ List.replicate 16 0).take 16))
      if d.op ≠ c.op then m
      else if !m'.isOn K.imgStatus_LOADED then m'.answer src reqId 7 3 []
      else if !m'.permits src 3 then m'.deny r
      else m'.flyQueue d
  | _ => m.flyQueue c

/-! ### Set-up (R87, R88) -/

/-- The checks of R87, in order: the status of the first that fails, 0 where all pass. -/
def Module.setUpStatus (m : Module) (c : FlyCmd) : Nat :=
  let s := c.slot.val
  let w := s % 4
  let i := c.inPort.val
  let o := c.outPort.val
  let atStart := match c.origin with
    | .image b => b
    | _ => false
  let others := m.slotsInUse.filter (fun t => t % 4 == w)
  if m.isOn K.flyCtrl_ENABLE = false ∨ (m.timetable = true ∧ atStart = false) then 5
  else if m.slotState s ≠ 0 then 1
  else if others.any (fun t => m.slotIn t == i || m.slotOut t == o) then 2
  else if (m.workingRing i 3 w).isNone || (m.workingRing o 2 w).isNone then 3
  else if m.ringBusy i 3 w || m.ringBusy o 2 w || m.ringBusy o 0 w then 4
  else 0

/-- An accepted set-up begins: its lanes leave both packet links (R82), and its rings move (R88). -/
def Module.beginSetUp (m : Module) (c : FlyCmd) : Module :=
  let s := c.slot.val
  let w := s % 4
  let m := (m.setF (K.flySlotCfg_IN_PORT s) c.inPort.val).setF (K.flySlotCfg_OUT_PORT s) c.outPort.val
  let m := (m.setB (K.flySlotCfg_HOLD s) c.hold).setSlot s 1
  let m := { m with fly := { m.fly with running := some c } }
  ((m.barLane (laneOf c.inPort.val w) .circuit).barLane (laneOf c.outPort.val w) .circuit).tuneCircuit s

/-- Does a tear-down name the circuit that stands in its slot (R89)? -/
def Module.names (m : Module) (c : FlyCmd) : Bool :=
  let s := c.slot.val
  m.slotState s != 0 && m.slotIn s == c.inPort.val && m.slotOut s == c.outPort.val

/-- The FLY block takes its next command (R86). -/
def Module.flyStart (m : Module) : Module :=
  match m.fly.running, m.fly.queue with
  | none, c :: rest =>
    let m := { m with fly := { m.fly with queue := rest } }
    match c.op with
    | .query => m.flyEnds c 0 false
    | .setUp =>
      let st := m.setUpStatus c
      if st = 0 then m.beginSetUp c else m.flyEnds c st false
    | .tearDown =>
      if m.names c then
        let m := (({ m with fly := { m.fly with running := some c } }).setSlot c.slot.val 5).detuneCircuit c.slot.val
        m.retotal (m.slotOut c.slot.val)
      else m.flyEnds c 6 false
  | _, _ => m

/-- A set-up completes (R88): the lock loops close, and where input light is present its power and the path's loss are entered.
-/
def Module.circuitUp (m : Module) (light : Option (BitVec 16 × Fin 401)) : Module :=
  match m.fly.running with
  | some c =>
    if c.op ≠ .setUp then m
    else
      let s := c.slot.val
      let m := ({ m with fly := { m.fly with running := none } }).lockCircuit s
      let m := match light with
        | some (p, loss) => m.measure s p (500 + (loss.val : Int))
        | none => m.circuitDark s
      let m := (m.setSlot s 2).raise .fly_CIRCUIT_UP 0
      (m.retotal (m.slotOut s)).flyEnds c 0 true
  | none => m

/-- Free a slot and hand its lanes back; the modulator ring of its output lane locks at its assigned code again (R89). -/
def Module.freeCircuit (m : Module) (s : Nat) : Module :=
  let w := s % 4
  let i := m.slotIn s
  let o := m.slotOut s
  let m := m.lockServing o 0 w
  let m := (m.setSlot s 0).each [K.flySlotCfg_HOLD s, K.flySlotCfg_IN_PORT s, K.flySlotCfg_OUT_PORT s] (fun m k => m.setF k 0)
  let m := (m.setF (K.flySlotPwr_IN s) 0x8000).setF (K.flySlotPwr_OUT s) 0x8000
  let m := { m with fly := { m.fly with detuned := m.fly.detuned.filter (· ≠ s) } }
  (m.unbarLane (laneOf i w) .circuit).unbarLane (laneOf o w) .circuit

/-- A circuit that a reset releases, or a set-up that one abandons: its rings are detuned too (R92, R97). -/
def Module.dropCircuit (m : Module) (s : Nat) : Module := ((m.detuneCircuit s).freeCircuit s).retotal (m.slotOut s)

/-- A tear-down completes (R89). -/
def Module.circuitDown (m : Module) : Module :=
  match m.fly.running with
  | some c =>
    if c.op ≠ .tearDown then m
    else
      let m := { m with fly := { m.fly with running := none } }
      ((m.freeCircuit c.slot.val).raise .fly_CIRCUIT_DOWN 0).flyEnds c 0 true
  | none => m

end Sys2Proof.Machine
end

