-- ==== Sys2Proof/Machine/Tables.lean ====
section
/-! DEFINITION. The route and group tables: shadow writes, reads, the version switch and the copy that follows it
(spec/01_module_architecture.md R27; spec/05_forwarding_and_detour.md R149, R168, R169;
spec/08_collective_operations.md R216, R226, R247; spec/17_spares_repair_and_resilience.md R463). -/

namespace Sys2Proof.Machine

/-! ### Route tables -/

/-- The index a command names, clamped to its table (R169). -/
def fwdIndex (t : FwdTable) (i : Nat) : Nat :=
  match t with
  | .route => min i 16383
  | .set => min i 4095
  | .member => i

/-- An entry of a version as a read returns it: its values clamped, its reserved bits 0 (R16, R147, R148). -/
def RouteTables.entry (t : RouteTables) (k : FwdTable) (i : Nat) : BitVec 64 :=
  match k with
  | .route => (RouteEntry.decode (Tbl.get t.route 0 i)).encode
  | .set => (setEntry (Tbl.get t.set 0 i)).setWidth 64
  | .member => (Member.decode (Tbl.get t.member 0 i)).encode

/-- A version with an entry written. -/
def RouteTables.write (t : RouteTables) (k : FwdTable) (i : Nat) (v : BitVec 64) : RouteTables :=
  match k with
  | .route => { t with route := Tbl.put t.route i v }
  | .set => { t with set := Tbl.put t.set i (v.setWidth 32) }
  | .member => { t with member := Tbl.put t.member i v }

/-- The shadow has been written since the last switch (R168). -/
def Module.dirty (m : Module) : Module := m.setAll 8 K.fwdVer_SHADOW_DIRTY 1

/-- Write a shadow entry in all eight sectors, or keep it until the copy is done (R27). -/
def Module.writeRoute (m : Module) (k : FwdTable) (i : Nat) (v : BitVec 64) : Module :=
  if m.fwd.copying then { m with fwd := { m.fwd with waiting := m.fwd.waiting ++ [.route k i v] } }
  else ({ m with fwd := { m.fwd with shadow := m.fwd.shadow.write k i v } }).dirty

/-! ### Group tables -/

/-- A group definition, or a member entry in the low 64 bits, with its values clamped and its reserved bits 0 (R15, R16, R213,
R214): up to 2048 local members and 512 children, and at least one member where the definition is in use. -/
def legalGroup (member : Bool) (w : BitVec 256) : BitVec 256 :=
  let n := w.toNat
  if member then BitVec.ofNat 256 (n % 2 ^ 64 / 16 * 16)
  else
    let total := bitsOf n 147 124
    BitVec.ofNat 256 (packBits [(68, bitsOf n 255 188), (12, min 2048 (bitsOf n 187 176)), (10, min 512 (bitsOf n 175 166))
      , (18, bitsOf n 165 148), (24, if bitOf n 255 then max 1 total else total), (24, bitsOf n 123 100), (36, 0), (64, bitsOf n 63 0)])

/-- An entry of a version as a read returns it. -/
def GroupTables.entry (t : GroupTables) (member : Bool) (i : Nat) : BitVec 256 :=
  legalGroup member (if member then (Tbl.get t.members 0 i).setWidth 256 else Tbl.get t.defs 0 i)

def GroupTables.write (t : GroupTables) (member : Bool) (i : Nat) (v : BitVec 256) : GroupTables :=
  if member then { t with members := Tbl.put t.members i (v.setWidth 64) } else { t with defs := Tbl.put t.defs i v }

/-- The index a command names, clamped (R247). -/
def grpIndex (member : Bool) (i : Nat) : Nat := if member then i else min i 65535

/-- Write a shadow group entry, or keep it until the copy is done. A definition written into the shadow leaves standby at the
next switch (R463). -/
def Module.writeGroup (m : Module) (member : Bool) (i : Nat) (v : BitVec 256) : Module :=
  let v := legalGroup member v
  if m.fwd.copying then { m with fwd := { m.fwd with waiting := m.fwd.waiting ++ [.group member i v] } }
  else
    let written := if member || m.col.written.contains i then m.col.written else m.col.written ++ [i]
    ({ m with col := { m.col with shadow := m.col.shadow.write member i v, written := written } }).dirty

/-! ### The switch (R149, R226, R463) -/

/-- The definitions that a switch loads with a new JOB_EPOCH: their windows start again at OP_LOW 0 (R226). -/
def newEpochs (old new : GroupTables) : List Nat :=
  (new.defs.filter (fun d =>
    (Tbl.find old.defs d.1).isNone || (new.groupDef d.1).jobEpoch != (old.groupDef d.1).jobEpoch)).map Prod.fst

/-- Switch shadow and active in all sectors on one edge. The shadow then holds the new active contents, and stays closed to
writes until the copy is done (R27). -/
def Module.switchTables (m : Module) : Module :=
  let fresh := newEpochs m.col.active m.col.shadow
  let live := m.col.live ++ m.col.written.filter (fun i => !m.col.live.contains i)
  let m := { m with
    fwd := { m.fwd with active := m.fwd.shadow, copying := true }
    col := { m.col with active := m.col.shadow, live := live, written := []
                        windows := m.col.windows.filter (fun w => !fresh.contains w.1) } }
  let m := match m.fwd.nextSeed with
    | some s =>
      let m := (m.setAll 8 K.fwdSeedLo_SEED (s.toNat % 2 ^ 32)).setAll 8 K.fwdSeedHi_SEED (s.toNat / 2 ^ 32)
      { m with fwd := { m.fwd with nextSeed := none } }
    | none => m
  let m := (m.setAll 8 K.fwdVer_SHADOW_DIRTY 0).setAll 8 K.fwdVer_VERSION (m.getF (K.fwdVer_VERSION m.lead) + 1)
  m.each m.sectors (fun m s => m.raise .fwd_VERSION_SWITCH s)

/-- In TIMETABLE with sector lock held, is what reaches the data plane held to the next period edge (R360)? -/
def Module.holdsWrites (m : Module) : Bool := m.locked

/-- A switch where nothing holds it: while the copy after the last one runs it waits behind the shadow writes that wait (R27,
notes/assumptions/171.md). -/
def Module.switchNow (m : Module) : Module :=
  if m.fwd.copying then { m with fwd := { m.fwd with waiting := m.fwd.waiting ++ [.switch] } } else m.switchTables

/-- A switch that is asked for: at once, or at the next period edge (R360), counted as a held write. -/
def Module.askSwitch (m : Module) : Module :=
  if m.holdsWrites then
    let m := { m with lock := { m.lock with heldSwitch := some (m.getF (K.fwdVer_VERSION m.lead)) } }
    m.each m.sectors (fun m s => m.raise .sched_WRITE_HELD s)
  else m.switchNow

/-- A TABLE request has been served: its reply waits for what it wrote (R27, R408). -/
def Module.tableDone (m : Module) (src : Loc) (reqId : BitVec 16) : Module :=
  if m.fwd.copying && !m.fwd.waiting.isEmpty then
    { m with fwd := { m.fwd with waiting := m.fwd.waiting ++ [.reply src reqId] } }
  else m.answer src reqId 6 0 []

/-- Apply what has waited, in order, up to a switch: its copy holds the rest. -/
def Module.applyWaiting (m : Module) : List HeldTable → Module
  | [] => m
  | .route k i v :: rest => (m.writeRoute k i v).applyWaiting rest
  | .group member i v :: rest => (m.writeGroup member i v).applyWaiting rest
  | .reply src reqId :: rest => (m.answer src reqId 6 0 []).applyWaiting rest
  | .switch :: rest =>
    let m := m.switchTables
    { m with fwd := { m.fwd with waiting := rest } }

/-- The copy completes (R27): what waited is applied on top of it. -/
def Module.copyDone (m : Module) : Module :=
  if m.fwd.copying then
    ({ m with fwd := { m.fwd with copying := false, waiting := [] } }).applyWaiting m.fwd.waiting
  else m

/-! ### FWD_TBL_CMD and COL_GRP_CMD (R169, R247) -/

/-- Start a table command of a sector with its data as it stands. While one runs, another GO is ignored
(notes/assumptions/25.md). A set entry occupies DATA_LO only, and is no 64-bit quantity: it is what the requester has
written there last (R17, R169). -/
def Module.fwdGo (m : Module) (req : Requester) (s op : Nat) (k : FwdTable) (i : Nat) : Module :=
  if m.isOn (K.fwdTblStat_BUSY s) then m
  else
    let data := match k with
      | .set => BitVec.ofNat 64 (m.lowHalf req .fwdTblDataLo s 0 (m.getF (K.fwdTblDataLo_DATA s)))
      | _ => BitVec.ofNat 64 (m.getF (K.fwdTblDataHi_DATA s) * 2 ^ 32 + m.getF (K.fwdTblDataLo_DATA s))
    let m := { m with fwd := { m.fwd with busy := m.fwd.busy ++ [(s, op, k, fwdIndex k i, data)] } }
    m.setF (K.fwdTblStat_BUSY s) 1

/-- A sector's table command completes. During a copy it does not (R27). -/
def Module.fwdDone (m : Module) (s : Nat) : Module :=
  if m.fwd.copying then m
  else
    match m.fwd.busy.find? (fun b => b.1 == s) with
    | none => m
    | some (_, op, k, i, data) =>
      let m := { m with fwd := { m.fwd with busy := m.fwd.busy.filter (fun b => b.1 ≠ s) } }
      let m := m.setF (K.fwdTblStat_BUSY s) 0
      if 2 ≤ op then m.writeRoute k i data
      else
        let v := ((if op = 0 then m.fwd.active else m.fwd.shadow).entry k i).toNat
        (m.setF (K.fwdTblDataLo_DATA s) (v % 2 ^ 32)).setF (K.fwdTblDataHi_DATA s) (v / 2 ^ 32)

/-- The eight data registers of a sector as one record. -/
def Module.grpData (m : Module) (s : Nat) : BitVec 256 :=
  BitVec.ofNat 256 ((List.range 8).foldl (fun n j => n + m.getF (K.colGrpData_DATA s j) * 2 ^ (32 * j)) 0)

def Module.grpGo (m : Module) (s op : Nat) (member : Bool) (i : Nat) : Module :=
  if m.isOn (K.colGrpStat_BUSY s) then m
  else
    let m := { m with col := { m.col with busy := m.col.busy ++ [(s, op, member, grpIndex member i, m.grpData s)] } }
    m.setF (K.colGrpStat_BUSY s) 1

def Module.grpDone (m : Module) (s : Nat) : Module :=
  if m.fwd.copying then m
  else
    match m.col.busy.find? (fun b => b.1 == s) with
    | none => m
    | some (_, op, member, i, data) =>
      let m := { m with col := { m.col with busy := m.col.busy.filter (fun b => b.1 ≠ s) } }
      let m := m.setF (K.colGrpStat_BUSY s) 0
      if 2 ≤ op then m.writeGroup member i data
      else
        let v := ((if op = 0 then m.col.active else m.col.shadow).entry member i).toNat
        m.each (List.range 8) (fun m j => m.setF (K.colGrpData_DATA s j) (v / 2 ^ (32 * j)))

end Sys2Proof.Machine
end

