-- ==== Sys2Proof/Machine/Launch.lean ====
section
/-! DEFINITION. The traffic manager: the virtual-channel scheduler, the launch point, mirroring and precise sampling, the
timing wheel, and the Carafe's chunks (spec/07_shaping_and_vc_weights.md R198 to R208;
spec/06_buffers_resequencing_backpressure.md R177, R188 to R190; spec/13_profiles_and_determinism.md R362;
spec/18_telemetry_and_counters.md R480 to R483). -/

namespace Sys2Proof.Machine

/-! ### Sampling and mirroring -/

/-- The stage-3 draw of a frame (R151). -/
def Module.sampleDraw (m : Module) (f : Frame) : Nat := m.drawFor f.h 3

/-- Saturating nanoseconds. -/
def satNs (units bits : Nat) : Nat := min (units / perNs) (2 ^ bits - 1)

/-- An ingress as a record's 11-bit field; what stands there for a frame without ingress is open (R547). -/
def Module.inField (m : Module) (f : QFrame) : Nat := if f.inLport < 2048 then f.inLport else m.openWord.toNat % 2048

/-- The sampled-frame record (R481). -/
def Module.sampleRecord (m : Module) (lport vc : Nat) (f : QFrame) : BitVec 256 :=
  let h := f.frame.h
  let hash := mix64 ((h.src.toNat * 2 ^ 32 + h.dst.toNat) ^^^ h.flow.toNat) / 2 ^ 32
  BitVec.ofNat 256 (packBits
    [(64, m.time.count.toNat), (32, hash), (11, m.inField f), (11, lport), (3, vc), (13, f.frame.len)
    , (1, flag f.spilled), (1, flag f.held), (1, flag (vc == 1)), (24, h.seq.toNat), (32, f.bufAddr.toNat)
    , (24, satNs (f.admitAt - f.acceptAt) 24), (32, satNs (m.elapsed - f.admitAt) 32), (7, 0)])

/-- The mirror record (R189): 32 bytes of fields and the frame's first 128 bytes. -/
def Module.mirrorRecord (m : Module) (lport vc : Nat) (f : QFrame) : BitVec 1280 :=
  let bytes := (toBytes 24 f.frame.hdr.toNat ++ f.frame.body).take 128
  let padded := bytes ++ List.replicate (128 - bytes.length) 0
  BitVec.ofNat 1280 (packBits
    [(64, m.time.count.toNat), (11, m.inField f), (11, lport), (3, vc), (13, f.frame.len), (1, flag f.spilled)
    , (1, flag f.held), (1, flag (vc == 1)), (151, 0)] * 2 ^ 1024 + ofBytes padded)

/-- Sampling holds the path: enabled, and not the loser (R483). -/
def Module.sampling (m : Module) : Bool := m.isOn K.telCtrl_SMP_EN && !m.isOn K.telStatus_SMP_LOST

def Module.mirroring (m : Module) (s : Nat) : Bool := m.isOn (K.bufCtrl_MIRROR_EN s) && !m.isOn K.telStatus_MIRROR_LOST

/-- Records the sampling bucket holds: 4 M records/s, 1024 deep (R482). -/
def Module.smpTokens (m : Module) : Nat := tokensNow m.tel.tokens m.tel.tokensAt m.elapsed 4 perUs 1024

/-- Up to when those tokens have been reckoned. -/
def Module.smpAt (m : Module) : Nat := tokensAt m.tel.tokens m.tel.tokensAt m.elapsed 4 perUs 1024

/-- A record enters the sampling buffer, or is dropped (R482): `full` says that the sampling path cannot accept it (R29). -/
def Module.takeSample (m : Module) (r : BitVec 256) (full : Bool) : Module :=
  let t := m.smpTokens
  if full = true ∨ t = 0 ∨ 65536 ≤ m.tel.samples.length then m.raise .tel_SAMPLE_DROP 0
  else
    { m with tel := { m.tel with samples := m.tel.samples ++ [(m.tel.nextSeq, r)], nextSeq := m.tel.nextSeq + 1
                                 tokens := t - 1, tokensAt := m.smpAt } }

/-- Mirror records the bucket of the module holds: 2 M records/s, 256 deep (R190). -/
def Module.mirrorTokensNow (m : Module) : Nat := tokensNow m.buf.mirrorTokens m.buf.mirrorAt m.elapsed 2 perUs 256

/-- Up to when those tokens have been reckoned. -/
def Module.mirrorAtNow (m : Module) : Nat := tokensAt m.buf.mirrorTokens m.buf.mirrorAt m.elapsed 2 perUs 256

/-- A mirror record goes to the sink; with none it is dropped (R483), as with an empty bucket or a sampling path that cannot
accept it (R190). -/
def Module.takeMirror (m : Module) (s : Nat) (r : BitVec 1280) (full : Bool) : Module :=
  let t := m.mirrorTokensNow
  if full = true ∨ m.getF K.telSink_LOC = 0 ∨ t = 0 then m.raise .buf_MIRROR_DROP s
  else { m with buf := { m.buf with mirrors := m.buf.mirrors ++ [r], mirrorTokens := t - 1, mirrorAt := m.mirrorAtNow } }

/-- A frame leaves an output queue: is it sampled, is it mirrored (R188, R480)? -/
def Module.observe (m : Module) (lport vc : Nat) (f : QFrame) (full : Bool) : Module :=
  let s := sectorOf lport
  let d := m.sampleDraw f.frame
  let smp := m.sampling && bitOf (m.getF K.telCtrl_SMP_VCS) vc && d % 2 ^ m.getF K.telCtrl_SMP_LOG2N == 0
  let mir := m.mirroring s && bitOf (m.getF (K.bufCtrl_MIRROR_VCS s)) vc
    && d / 2 ^ (64 - m.getF (K.bufCtrl_MIRROR_LOG2N s)) == 0
  let sample := m.sampleRecord lport vc f
  let mirror := m.mirrorRecord lport vc f
  let m := if (smp || mir) && decide (2048 ≤ f.inLport) then m.drawn else m
  let m := if smp then m.takeSample sample full else m
  if mir then m.takeMirror s mirror full else m

/-! ### The scheduler (R204 to R207, R362) -/

/-- Core cycles since the latest period edge, where there has been one: the schedule runs from period 0 on (R356). -/
def Module.periodCycle (m : Module) : Option Nat := m.lock.edgeAt.map (fun t => (m.elapsed - t) * 18 / 1050)

/-- The same in a logical port's sector: one that has yet to rejoin counts no period (R366). -/
def Module.cycleAt (m : Module) (lport : Nat) : Option Nat :=
  if m.lock.rejoining.contains (sectorOf lport) then none else m.periodCycle

/-- The windows of a logical port. -/
def Module.windowsOf (m : Module) (lport : Nat) : List SchedWindow :=
  (m.lock.windows.map (fun w => w.2.2)).filter (fun w => w.lport == lport)

/-- Is a window of the logical port open now? -/
def Module.windowNow (m : Module) (lport : Nat) : Option SchedWindow :=
  (m.cycleAt lport).bind (fun c => (m.windowsOf lport).find? (fun w => decide (w.start ≤ c) && decide (c < w.start + w.len)))

/-- May a VC6 frame leave now (R362): a window is open and it fits before its end? -/
def Module.slotFits (m : Module) (lport len : Nat) : Bool :=
  match m.cycleAt lport, m.windowNow lport with
  | some c, some w => !w.idle && decide (c + slotCycles (m.laneCount lport) len ≤ w.start + w.len)
  | _, _ => false

/-- Core cycles of a period: PERIOD hyperperiods of 20 ns (R361). -/
def Module.periodCycles (m : Module) : Nat := m.getF (K.tmSchedCfg_PERIOD m.lead) * 36

/-- The cycle at which a window starts next, from a cycle of this period: in it, or where it is over in the next one. -/
def Module.nextStart (m : Module) (c : Nat) (w : SchedWindow) : Nat :=
  if c < w.start + w.len then w.start else w.start + m.periodCycles

/-- Does a frame of another VC end before the next scheduled slot (R206), no window being open? Before period 0 no slot is
scheduled. -/
def Module.guardOk (m : Module) (lport len : Nat) : Bool :=
  match m.cycleAt lport with
  | none => true
  | some c => (m.windowNow lport).isNone &&
    (m.windowsOf lport).all (fun w => decide (c + slotCycles (m.laneCount lport) len ≤ m.nextStart c w))

/-- In TIMETABLE, do the windows let a frame of a VC leave now (R206, R362)? -/
def Module.schedOk (m : Module) (lport vc len : Nat) : Bool :=
  !m.timetable || (if vc = 6 then m.slotFits lport len else m.guardOk lport len)

/-- Why a head frame may not leave. -/
inductive Block where
  | ready
  | empty
  | shaper
  | credit
  | sched
  | retry
  deriving DecidableEq, Repr

/-- What the retry buffer holds in bytes (R115). -/
def Module.retryBytes (m : Module) (lport : Nat) : Nat :=
  (((m.lnk lport).retry.filter (fun e => !e.lost)).map (fun e => paddedLen e.frame.len)).sum

/-- Is the head frame of a queue eligible under its shaper (R198, R206, R207)? -/
def Module.shaperOk (m : Module) (lport vc : Nat) : Bool :=
  let sh := (m.q lport vc).shaper
  sh.rate == 0 || sh.eligible || m.isDraining lport || (vc == 6 && m.timetable)

/-- Is the head frame of a VC eligible (R204)? -/
def Module.headState (m : Module) (lport vc : Nat) : Block :=
  match (m.q lport vc).sram.head? with
  | none => .empty
  | some f =>
    let len := f.frame.len
    if !m.shaperOk lport vc then .shaper
    else if !m.schedOk lport vc len then .sched
    else if vcGet (m.lnk lport).held vc < creditUnits len then .credit
    else if m.laneCount lport * 131072 < m.retryBytes lport + paddedLen len then .retry
    else .ready

/-- The weight of a VC in a sector, as the registers hold it. -/
def Module.weights (m : Module) (s : Nat) : List Nat :=
  [ m.getF (K.tmVcw0_VC0 s), m.getF (K.tmVcw0_VC1 s), m.getF (K.tmVcw0_VC2 s), m.getF (K.tmVcw0_VC3 s)
  , m.getF (K.tmVcw1_VC4 s), m.getF (K.tmVcw1_VC5 s), m.getF (K.tmVcw1_VC6 s) ]

/-- The place of a port's scheduler in its round. -/
def Module.turn (m : Module) (lport : Nat) : Turn :=
  Tbl.get m.buf.turns { vc := 0, topped := false, weights := m.weights (sectorOf lport)
                        quantum := m.getF (K.tmCtrl_QUANTUM (sectorOf lport)) } lport

def Module.putTurn (m : Module) (lport : Nat) (t : Turn) : Module :=
  { m with buf := { m.buf with turns := Tbl.put m.buf.turns lport t } }

/-- The charged length of a queue's head. -/
def Module.headCharge (m : Module) (lport vc : Nat) : Nat := (m.headLen lport vc).getD 0

/-- Turn the scheduler until a VC may send (R204): the VC and the deficit it has then. A round begins at VC0 and takes up
the weights and the QUANTUM then in force (R205, R418). -/
def Module.seek (m : Module) (lport : Nat) : Nat → Module × Option Nat
  | 0 => (m, none)
  | fuel + 1 =>
    let t := m.turn lport
    let s := sectorOf lport
    let t := if t.vc = 0 ∧ t.topped = false then { t with weights := m.weights s, quantum := m.getF (K.tmCtrl_QUANTUM s) } else t
    let next : Turn := if 6 ≤ t.vc then { t with vc := 0, topped := false } else { t with vc := t.vc + 1, topped := false }
    if m.headState lport t.vc = .ready then
      let q := m.q lport t.vc
      let d := if t.topped then q.deficit else q.deficit + t.weights.getD t.vc 0 * (t.quantum * 64)
      let m := (m.putQ lport t.vc { q with deficit := d }).putTurn lport { t with topped := true }
      if m.headCharge lport t.vc ≤ d then (m, some t.vc) else (m.putTurn lport next).seek lport fuel
    else (m.putTurn lport next).seek lport fuel

/-- Frames that the guard of a scheduled slot defers count SLOT_GUARD once each (R206): head frames that their shapers let go,
whether or not link credit or retry room would let them start (notes/assumptions/174.md). -/
def Module.noteGuard (m : Module) (lport : Nat) : Module :=
  if !m.timetable then m
  else m.each (List.range 6) (fun m vc =>
    match (m.q lport vc).sram with
    | f :: rest =>
      if m.shaperOk lport vc && (m.windowNow lport).isNone && !m.guardOk lport f.frame.len && !f.guarded then
        (m.putQ lport vc { m.q lport vc with sram := { f with guarded := true } :: rest }).raise .tm_SLOT_GUARD (sectorOf lport)
      else m
    | [] => m)

/-- In TIMETABLE, inside a window of a port, only VC6 is served, and outside the other VCs (R362); else the round. -/
def Module.seekReady (m : Module) (lport : Nat) : Module × Option Nat :=
  if (List.range 7).all (fun vc => m.headState lport vc != .ready) then (m, none)
  else if m.headState lport 6 = .ready ∧ m.timetable = true then (m, some 6)
  else m.seek lport 4096

/-! ### The launch point -/

/-- Take the head frame out of a queue's SRAM part and refill its shaper (R200): `charge` says that it leaves. The refill adopts
what is pending before a queue that has emptied loses its credit (R202). -/
def Module.dequeue (m : Module) (lport vc : Nat) (rest : List QFrame) (l : Nat) (charge : Bool) : Module :=
  let q := m.q lport vc
  let sh := if charge && !(vc == 6 && m.timetable) && q.shaper.rate ≠ 0 && !m.isDraining lport then
      { q.shaper with credit := q.shaper.credit - (l * creditPerByte : Nat) } else q.shaper
  let m := m.putQ lport vc { q with sram := rest, shaper := sh, deficit := if charge then q.deficit - l else q.deficit }
  let m := m.refillQ lport vc
  if (m.q lport vc).isEmpty then m.emptiedQ lport vc else m

/-- Grant a frame to the egress link layer: link header, retry buffer, credit, counters (R113, R114, R117, R474). -/
def Module.sendData (m : Module) (lport vc : Nat) (f : QFrame) (l : Nat) : Module :=
  let link := m.lnk lport
  let len := f.frame.len
  let m := m.transmit lport none (.data lport (link.header link.nextLseq vc len false) f.frame)
  let m := m.putLnk lport { link with
    retry := link.retry ++ [{ lseq := link.nextLseq, vc := vc, frame := f.frame, inUp := m.linkState lport == 3, lost := false }]
    nextLseq := link.nextLseq + 1
    held := vcSet link.held vc (vcGet link.held vc - creditUnits len)
    slotDebt := link.slotDebt + linkBlocks len }
  ((m.count (0x400 + vc) lport 1).count (0x408 + vc) lport len).count (0x410 + vc) lport l

/-- A hardware stamp: the value of the time base at the tick, its fraction dropped (R30, R390). -/
def Module.stamp (m : Module) : BitVec 64 := m.time.count

/-- A frame of the module's own with class SYNC carries its transmit stamp (R391): TA in a SYNC_REQ, TB in a SYNC_RESP. The stamp
of the exchange in flight is t1, by its link and TAG (R392). -/
def Module.stampSync (m : Module) (lport : Nat) (f : QFrame) : Module × QFrame :=
  let d := ofBytes (f.frame.data.take 32)
  let op := bitsOf d 255 248
  if f.frame.h.ftype = 7 ∧ f.frame.ctl.cls = 3 ∧ 2048 ≤ f.inLport ∧ (op = 0x10 ∨ op = 0x11) then
    let t := m.stamp
    let at_ := if op = 0x10 then 2 ^ 128 else 2 ^ 64
    let d := d - d / at_ % 2 ^ 64 * at_ + t.toNat * at_
    let mine (r : SyncRun) : Bool := r.lport == lport && r.tag.toNat == bitsOf d 247 232
    let m := if op = 0x10 then
        { m with time := { m.time with sync := m.time.sync.map (fun r => if mine r then { r with t1 := t } else r) } } else m
    (m, { f with frame := { f.frame with body := f.frame.ext ++ toBytes 32 d } })
  else (m, f)

/-- FRAME_LAUNCH: the scheduler of a logical port grants one eligible head frame (R204). The check of its words as they
are read may find an error (R173): a frame with an uncorrectable word is discarded and not charged (R199). `full` says that the
sampling path can accept no record (R29). -/
def Module.launch (m : Module) (lport : Nat) (found : Secded) (full : Bool) : Module :=
  if !m.standsFor lport then m
  else
    let m := m.noteGuard lport
    match m.seekReady lport with
    | (m, none) => m
    | (m, some vc) =>
      match (m.q lport vc).sram with
      | [] => m
      | f :: rest =>
        let s := sectorOf lport
        let l := m.charged (portOf lport) f.frame.len
        let done (m : Module) : Module := (m.resume lport).drainOwn lport vc ((m.fifo (ownFifo lport) vc).length + 1)
        match found with
        | .double => done ((((m.raise .buf_SRAM_UE s).failRowOf s f).dequeue lport vc rest l false).tollOut f)
        | found =>
          let m := if found = .single then m.raise .buf_SRAM_CE s else m
          let m := m.observe lport vc f full
          let m := m.dequeue lport vc rest l true
          let (m, f) := (m.tollOut f).stampSync lport f
          done (m.sendData lport vc f l)

/-! ### The wheel (R201) -/

/-- Put an entry among others in the order of a number. -/
def insertBy (n : α → Nat) (x : α) : List α → List α
  | [] => [x]
  | y :: rest => if n x < n y then x :: y :: rest else y :: insertBy n x rest

/-- The shapers of a sector whose wheel entries stand in a slot, those carried into it first, in the order in which they were
carried. The order of those that are due for the first time, which R201 leaves open, is that of the queue table
(notes/assumptions/173.md). -/
def Module.dueIn (m : Module) (s slot : Nat) : List (Nat × Nat) :=
  let mine := m.buf.queues.filter (fun x => sectorOf x.1.1 == s)
  let late := mine.filter (fun x => decide (0 < x.2.shaper.late) && x.2.shaper.wheel.isSome)
  let here := mine.filter (fun x => x.2.shaper.late == 0 &&
    (match x.2.shaper.wheel with
     | some (_, sl, _) => sl == slot
     | none => false))
  (late.foldr (insertBy (fun x => x.2.shaper.late)) [] ++ here).map Prod.fst

/-- The wheel of a sector reaches the slot of the wheel clock. An entry with laps left loses one; due entries refill, 16 a
core cycle, 230 in a slot's 8 ns, and the others are carried into the next slot, each counting WHEEL_LATE once. -/
def Module.wheelSlot (m : Module) (s : Nat) : Module :=
  let slot := m.buf.wheel / slotUnits % 4096
  let all := m.dueIn s slot
  let laps (k : Nat × Nat) : Nat :=
    match (m.q k.1 k.2).shaper.wheel with
    | some (_, _, n) => if 0 < (m.q k.1 k.2).shaper.late then 0 else n
    | none => 0
  let m := m.each (all.filter (fun k => decide (0 < laps k))) (fun m k =>
    let q := m.q k.1 k.2
    m.putQ k.1 k.2 { q with shaper := { q.shaper with wheel := q.shaper.wheel.map (fun w => (w.1, w.2.1, w.2.2 - 1)) } })
  let due := all.filter (fun k => laps k == 0)
  let m := m.each (due.take 230) (fun m k => m.refillQ k.1 k.2)
  m.each (due.drop 230) (fun m k =>
    let q := m.q k.1 k.2
    if 0 < q.shaper.late then m
    else
      let m := m.putQ k.1 k.2 { q with shaper := { q.shaper with late := m.buf.carryNo + 1 } }
      ({ m with buf := { m.buf with carryNo := m.buf.carryNo + 1 } }).raise .tm_WHEEL_LATE s)

/-- A write of RATE or BURST is held pending until the next refill (R202). -/
def Shaper.ask (sh : Shaper) (rate burst : Option Nat) : Shaper :=
  let now := sh.pending.getD (sh.rate, sh.burst)
  { sh with pending := some (rate.getD now.1, burst.getD now.2) }

/-- Move a queue's wheel entry to the next slot (R202 APPLY). -/
def Shaper.apply (sh : Shaper) (wheel : Nat) : Shaper :=
  match sh.wheel with
  | some (t, _, _) => { sh with wheel := some (t, (wheel / slotUnits + 1) % 4096, 0) }
  | none => sh

/-- Ask for new values of a shaper. -/
def Module.askShaper (m : Module) (lport vc : Nat) (rate burst : Option Nat) (apply : Bool) : Module :=
  let q := m.q lport vc
  let sh := q.shaper.ask rate burst
  m.putQ lport vc { q with shaper := if apply then sh.apply m.buf.wheel else sh }

/-! ### The Carafe's chunks (R177) -/

/-- The oldest chunk that is filling closes, 1 µs after its first frame. Its unused bytes stay charged. -/
def Module.closeChunk (m : Module) (lport vc : Nat) : Module :=
  let q := m.q lport vc
  if q.carafe.all (·.closed) then m else m.putQ lport vc { q with carafe := closeFirst q.carafe }

/-- Read back the oldest chunk (R177): its frames enter SRAM, or where their link has left state 3 UP are handed back (R163,
R191). What stands behind it, in the Carafe or in a resequencing context, may go on. -/
def Module.readBack (m : Module) (lport vc : Nat) : Module :=
  let q := m.q lport vc
  match q.carafe with
  | [] => m
  | c :: rest =>
    if !m.mayReadBack lport vc then m
    else
      let m := ((m.putQ lport vc { q with carafe := rest }).readChunks [c.index]).spend (sectorOf lport)
      let m := (m.freeChunk (portOf lport) c).settleSpill lport vc
      let stays (f : QFrame) : Bool := !c.handBack || f.bound
      let q' := m.q lport vc
      let m := (m.putQ lport vc { q' with sram := q'.sram ++ c.frames.filter stays }).settleQ lport vc q
      (m.handBack (c.frames.filter (fun f => !stays f))).resume lport

end Sys2Proof.Machine
end

