-- ==== Sys2Proof/Machine/LinkOps.lean ====
section
/-! DEFINITION. The link layer: codewords, link-level retry, credits, keepalives, lane changes, spare electrical lanes,
training and drains (spec/04_links_and_presence.md R107 to R130; spec/16_security_and_quorum.md R441;
spec/19_power_thermal_startup.md R507). -/

namespace Sys2Proof.Machine

/-- Does a link carry traffic: state 3 UP or 5 DRAINING with a lane in service? -/
def Module.carries (m : Module) (lport : Nat) : Bool :=
  m.isLport lport && (m.linkState lport == 3 || m.linkState lport == 5) && m.lanesUp lport != 0

/-- An injected link loss keeps a link's lanes dark, and what they receive is ignored (R465 kind 0). -/
def Module.deaf (m : Module) (lport : Nat) : Bool :=
  match m.mpc.injection with
  | some i => i.kind == 0 && i.target.toNat == lport
  | none => false

/-- Does a link receive frames now? -/
def Module.hears (m : Module) (lport : Nat) : Bool := m.carries lport && !m.deaf lport

/-! ### Codewords (R109, R474) -/

/-- Has a circuit taken a lane (R82)? What it carries the module neither decodes nor counts (R90). -/
def Module.laneTaken (m : Module) (lane : Nat) : Bool := m.link.bars.contains (lane, .circuit)

/-- The receiver of a lane. -/
def Module.rxLane (m : Module) (lane : Nat) : RxLane := Tbl.get m.link.rx (RxLane.start lane) lane

def Module.putRx (m : Module) (lane : Nat) (r : RxLane) : Module :=
  { m with link := { m.link with rx := Tbl.put m.link.rx lane r } }

/-- The next 5440 bits on a lane of a link that trains or runs: they are aligned to the codewords, decoded, descrambled and
unpacked, and each codeword counts. The blocks of an uncorrectable one are discarded. -/
def Module.codeword (m : Module) (lane : Nat) (w : BitVec 5440) : Module :=
  let lport := m.lportOfLane lane
  let st := m.linkState lport
  if st < 2 ∨ 5 < st ∨ m.deaf lport = true ∨ m.laneTaken lane = true then m
  else
    let r := m.rxLane lane
    let m := (m.count 0x462 lane 1).putRx lane (r.take w)
    match judgeCodeword (r.aligned w) with
    | .clean => m
    | .corrected => (m.count 0x460 lane 1).addSat (K.lnkLaneFec_CORR (lane / 32) (lane % 32)) 1 0xFFFF
    | .uncorrectable =>
      ((m.count 0x461 lane 1).addSat (K.lnkLaneFec_UNCORR (lane / 32) (lane % 32)) 1 0xFFFF).modLnk lport
        (fun l => { l with lostBlock := true })

/-! ### Retry (R113 to R116) -/

/-- Is `a` at or before `b` in sequence order? -/
def seqLe (a b : BitVec 16) : Bool := decide ((b - a).toNat < 2 ^ 15)

/-- An ACK releases every frame up to and including its number (R110, R114); their blocks were delivered (R478). -/
def Module.takeAckNo (m : Module) (lport : Nat) (ack : BitVec 16) : Module :=
  let l := m.lnk lport
  let gone := l.retry.filter (fun e => seqLe e.lseq ack)
  let m := m.putLnk lport { l with
    retry := l.retry.filter (fun e => !seqLe e.lseq ack)
    reqCount := if gone.any (fun e => e.lseq == l.reqLseq) then 0 else l.reqCount }
  m.each gone (fun m e => if e.inUp then m.slots lport 0 none (linkBlocks e.frame.len) else m)

/-- Send a RETRY_REQ naming the expected LSEQ (R113). -/
def Module.askRetry (m : Module) (lport : Nat) (reason : BitVec 8) : Module :=
  let m := (m.modLnk lport (fun l => { l with asked := some reason })).raiseLnk .lnk_RETRY lport
  m.sendSet lport (.retryReq (m.lnk lport).expected reason)

/-- Ask where no request waits already. A replayed frame with a bad CRC while one waits is not taken for another gap of the
replay, for R113 does not say it is: its request goes out again with the next gap or after 2 µs (notes/assumptions/169.md). -/
def Module.askOnce (m : Module) (lport : Nat) (reason : BitVec 8) : Module :=
  if (m.lnk lport).asked.isSome then m else m.askRetry lport reason

/-- The REASON of a request (R111): an uncorrectable codeword where one has come since the last frame accepted, else what the
frame itself shows. -/
def Link.reason (l : Link) (seen : BitVec 8) : BitVec 8 := if l.lostBlock then 3 else seen

/-- A replayed frame behind a gap (R113): the first of its replay asks again, those after it are only discarded. -/
def Module.replayGap (m : Module) (lport : Nat) (lseq : BitVec 16) : Module :=
  let l := m.lnk lport
  let same := match l.behind with
    | some b => decide (b ≠ lseq) && seqLe b lseq
    | none => false
  let m := m.putLnk lport { l with behind := some lseq }
  if same then m else m.askRetry lport (l.reason 2)

/-- A DATA link frame (R113, R117, R118). -/
def Module.dataFrame (m : Module) (lport : Nat) (h : LinkHeader) (crc : BitVec 32) (payload : List Byte) : Module :=
  if !m.hears lport then m
  else
    let l := m.lnk lport
    if crc != h.crc payload then m.askOnce lport (l.reason 1)
    else if h.lseq = l.expected then
      let need := creditUnits payload.length
      let had := vcGet l.granted h.vc.val
      let m := m.putLnk lport { l with expected := l.expected + 1, asked := none, lostBlock := false, behind := none
                                       granted := vcSet l.granted h.vc.val (had - need) }
      let m := if had < need then m.raiseLnk .lnk_CREDIT_VIOLATION lport else m
      let m := (m.takeAckNo lport h.ack).takeCredits lport h.cvc.val h.ccount.toNat
      m.accept lport h.vc.val payload
    else if seqLe h.lseq l.expected then m.raiseLnk .link_LINK_DUP lport
    else if h.replay then m.replayGap lport h.lseq
    else m.askOnce lport (l.reason 2)

/-- 2 µs with nothing arriving after a request (R113). -/
def Module.retryTimeout (m : Module) (lport : Nat) : Module :=
  match (m.lnk lport).asked with
  | some reason => if m.carries lport then m.askRetry lport reason else m
  | none => m

/-- Replay in order from a named LSEQ (R114). -/
def Module.replay (m : Module) (lport : Nat) (lseq : BitVec 16) : Module :=
  m.each ((m.lnk lport).retry.filter (fun e => seqLe lseq e.lseq && !e.lost)) (fun m e =>
    (m.transmit lport none (.data lport ((m.lnk lport).header e.lseq e.vc e.frame.len true) e.frame)).overhead lport
      (linkBlocks e.frame.len))

/-- An ordered set that fails its CRC is discarded and counted (R111). -/
def Module.badSet (m : Module) (lport : Nat) : Module := m.raiseLnk .link_OS_CRC_FAIL lport

/-- A RETRY_REQ arrives (R114, R116). -/
def Module.retryReq (m : Module) (lport : Nat) (crc : BitVec 32) (lseq : BitVec 16) (reason : BitVec 8) : Module :=
  if !m.hears lport then m
  else if crc != (OrderedSet.retryReq lseq reason).crc then m.badSet lport
  else
    let l := m.lnk lport
    let n := if lseq = l.reqLseq then l.reqCount + 1 else 1
    let m := (m.putLnk lport { l with reqLseq := lseq, reqCount := n }).raiseLnk .lnk_RETRY lport
    if m.getF (K.lnkCtrl_RETRY_LIMIT (blockOf lport)) ≤ n then m.retrain lport else m.replay lport lseq

/-- No progress in ACK for STALL × 10 µs (R116). -/
def Module.stall (m : Module) (lport : Nat) : Module :=
  if m.carries lport && !(m.lnk lport).retry.isEmpty then m.retrain lport else m

/-- A CREDIT frame; one with a bad CRC is discarded, and the next CCUM restores its credits (R114, R117). -/
def Module.creditFrame (m : Module) (lport : Nat) (crc : BitVec 32) (ack : BitVec 16) (cvc : Fin 8) (ccount : BitVec 13) : Module :=
  if m.hears lport && crc == creditCrc ack cvc ccount then (m.takeAckNo lport ack).takeCredits lport cvc.val ccount.toNat else m

/-! ### Keepalives (R112, R124, R127, R441, R507) -/

/-- STATE and DRAIN_LEFT of the keepalives that a link sends. -/
def Module.kaState (m : Module) (lport : Nat) : Nat × Nat :=
  let l := m.lnk lport
  if l.drained then (3, 0)
  else if l.draining then (2, min 65535 ((l.drainEnd - m.elapsed) / (10 * perUs)))
  else if m.sec.state.expelled || !m.isReady then (2, 0)
  else (1, 0)

/-- The highest lane of a link in service. -/
def topLane (map : Nat) : Nat := if bitOf map 3 then 3 else if bitOf map 2 then 2 else if bitOf map 1 then 1 else 0

/-- A lane in service sends its KEEPALIVE (R112). The lanes of a link that send at one boundary carry one keepalive index
(notes/assumptions/28.md). -/
def Module.keepaliveSend (m : Module) (lport k : Nat) : Module :=
  if !m.carries lport || !bitOf (m.lanesUp lport) k then m
  else
    let l := m.lnk lport
    let (st, left) := m.kaState lport
    let cvc := l.kaIndex % 8
    let m := m.sendSet lport (.keepalive
      { state := BitVec.ofNat 4 st, laneMap := BitVec.ofNat 4 (m.lanesUp lport), lane := BitVec.ofNat 2 k, loc := m.loc
        port := BitVec.ofNat 9 (portOf lport), q := BitVec.ofNat 2 (lport % 4)
        incarnation := BitVec.ofNat 16 (m.getF K.glbIncarn_INCARNATION), cwcount := m.laneCw (m.firstLane lport + k)
        ack := l.expected - 1, cvc := Fin.ofNat 8 cvc, ccum := BitVec.ofNat 32 (vcGet l.ccum cvc)
        drainLeft := BitVec.ofNat 16 left })
    if k = topLane (m.lanesUp lport) then m.modLnk lport (fun l => { l with kaIndex := l.kaIndex + 1 }) else m

def Module.setPeerState (m : Module) (lport st : Nat) : Module :=
  m.setF (K.lnkLinkState_PEER_STATE (blockOf lport) (m.linkIx lport)) st

/-- How long the module holds back what comes on a lane of a link, so that codewords of one count meet (R108): as long as the
lane was ahead of the latest of the lanes in service, by the counts of the last keepalives. A codeword is 2688 units. -/
def Module.laneDelay (m : Module) (lport k : Nat) : Nat :=
  let ahead (j : Nat) : Int :=
    match (m.rxLane (m.firstLane lport + j)).mark, (m.rxLane (m.firstLane lport + k)).mark with
    | some (a, ta), some (b, tb) => (ta - tb : Int) - 2688 * (a - b).toInt
    | _, _ => 0
  ((natsWhere 4 (bitOf (m.lanesUp lport))).foldl (fun d j => max d (ahead j)) 0).toNat

/-- A partner's KEEPALIVE (R108, R112, R117, R124): its count aligns its lane with the others. One with STATE 2 takes the port out of every candidate set. -/
def Module.keepaliveReceive (m : Module) (lport : Nat) (crc : BitVec 32) (k : Keepalive) : Module :=
  if !m.hears lport then m
  else if crc != (OrderedSet.keepalive k).crc then m.badSet lport
  else
    let was := m.getF (K.lnkLinkState_PEER_STATE (blockOf lport) (m.linkIx lport))
    let lane := m.firstLane lport + k.lane.toNat
    let m := m.putRx lane { m.rxLane lane with mark := some (k.cwcount, m.elapsed) }
    let m := (m.setPeerState lport k.state.toNat).takeAckNo lport k.ack
    let lack := (k.ccum.toNat + 2 ^ 32 - vcGet (m.lnk lport).tally k.cvc.val) % 2 ^ 32
    let m := if 0 < lack ∧ lack < 2 ^ 31 then
        (m.takeCredits lport k.cvc.val lack).raiseLnk .lnk_CREDIT_HEAL lport else m
    if k.state = 2 then
      let news := was != 2 || !(m.lnk lport).outOfSets
      let m := m.modLnk lport (fun l => { l with outOfSets := true })
      if news then m.raiseLnk .lnk_GOING_DOWN_RX lport else m
    else m

/-! ### Lane changes (R119 to R121) -/

/-- The lanes in one map and not in another. -/
def lanesIn (map without : Nat) : List Nat := natsWhere 4 (fun k => bitOf map k && !bitOf without k)

/-- Answer a LANE_MAP with KIND 2 (R119, R121). -/
def Module.echoMap (m : Module) (lport : Nat) (l : LaneMap) : Module := m.sendSet lport (.laneMap { l with kind := 2 })

/-- The partner removes lanes (R119); they may be added again (R121). -/
def Module.mapRemove (m : Module) (lport : Nat) (crc : BitVec 32) (l : LaneMap) : Module :=
  if !m.hears lport then m
  else if crc != (OrderedSet.laneMap l).crc then m.badSet lport
  else
    let gone := lanesIn (m.lanesUp lport) l.map.toNat
    let left := m.lanesUp lport - (gone.map (2 ^ ·)).sum
    if left = 0 then m
    else
      let m := ((m.setLanes lport left).raiseN .lnk_LANE_REMOVED (blockOf lport) gone.length).echoMap lport l
      m.each gone (fun m k => m.trainLane (m.firstLane lport + k))

/-- The partner adds lanes (R121): those that train and that nothing keeps out. -/
def Module.mapAdd (m : Module) (lport : Nat) (crc : BitVec 32) (l : LaneMap) : Module :=
  if !m.hears lport then m
  else if crc != (OrderedSet.laneMap l).crc then m.badSet lport
  else
    let new := lanesIn l.map.toNat (m.lanesUp lport)
    let ok := new.all (fun k => (m.lnk lport).training.contains k && bitOf (m.offer lport) k)
    if !ok || new.isEmpty then m
    else
      let cs := new.map (fun k => ({ lane := k, add := true, effective := l.effective, tag := l.tag, answered := true
                                     retried := false, ours := false } : LaneChange))
      (m.modLnk lport (fun x => { x with changes := x.changes ++ cs })).echoMap lport l

/-- The partner's KIND 2 answers a change of the module's own. -/
def Module.mapEcho (m : Module) (lport : Nat) (crc : BitVec 32) (l : LaneMap) : Module :=
  if !m.hears lport then m
  else if crc != (OrderedSet.laneMap l).crc then m.badSet lport
  else m.modLnk lport (fun x => { x with
    changes := x.changes.map (fun c => if c.ours && c.tag == l.tag then { c with answered := true } else c) })

/-- Put a lane in service that has trained. -/
def Module.laneIn (m : Module) (lport k : Nat) : Module :=
  if bitOf (m.lanesUp lport) k then m
  else
    let m := (m.setLanes lport (m.lanesUp lport + 2 ^ k)).raiseLnk .lnk_LANE_ADDED lport
    m.modLnk lport (fun l => { l with training := l.training.filter (· ≠ k) })

/-- A LANE_MAP's EFFECTIVE count is reached: a removal's transmit side ends, and an answered add takes effect. -/
def Module.mapEffective (m : Module) (lport : Nat) (tag : BitVec 16) : Module :=
  let due := (m.lnk lport).changes.filter (fun c => c.tag == tag && (!c.add || c.answered))
  let m := m.modLnk lport (fun l => { l with changes := l.changes.filter (fun c => !due.contains c) })
  m.each (due.filter (·.add)) (fun m c =>
    if m.carries lport && (m.lnk lport).training.contains c.lane && bitOf (m.offer lport) c.lane then m.laneIn lport c.lane
    else m)

/-- Both ends report codeword lock on a training lane (R121). -/
def Module.laneLock (m : Module) (lane : Nat) : Module :=
  let lport := m.lportOfLane lane
  let k := m.laneIndex lane
  let l := m.lnk lport
  if m.hears lport && l.training.contains k && !l.changes.any (fun c => c.add && c.lane == k) then
    m.announce lport k true false
  else m

/-- No answer to an add by its EFFECTIVE count (R121): one retry, then the lane stays out. -/
def Module.addTimeout (m : Module) (lport : Nat) (tag : BitVec 16) : Module :=
  match (m.lnk lport).changes.find? (fun c => c.add && c.ours && c.tag == tag && !c.answered) with
  | none => m
  | some c =>
    let m := m.modLnk lport (fun l => { l with changes := l.changes.filter (· ≠ c) })
    if c.retried then
      (m.modLnk lport (fun l => { l with training := l.training.filter (· ≠ c.lane) })).raiseLnk .lnk_LANE_ADD_FAIL lport
    else m.announce lport c.lane true true

/-! ### Spare electrical lanes (R123, R134) -/

/-- The LNK_ELANE field of a spare, 0 or 1. -/
def elaneKey (pb : Nat) (transmit : Bool) (spare : Nat) : FKey :=
  match transmit, spare with
  | true, 0 => K.lnkElane_TX_S0 pb
  | true, _ => K.lnkElane_TX_S1 pb
  | false, 0 => K.lnkElane_RX_S0 pb
  | false, _ => K.lnkElane_RX_S1 pb

def elaneFailKey (pb : Nat) (transmit : Bool) : FKey :=
  if transmit then K.lnkElane_TX_FAIL pb else K.lnkElane_RX_FAIL pb

/-- Has a spare failed? -/
def Module.eSpareFailed (m : Module) (pb : Nat) (transmit : Bool) (spare : Nat) : Bool :=
  bitOf (m.getF (elaneFailKey pb transmit)) spare

/-- The data lane for which a spare stands or adapts. -/
def Module.eSpareFor (m : Module) (pb : Nat) (transmit : Bool) (spare : Nat) : Option Nat :=
  match m.link.eSpares.find? (fun x => x.1 == pb && x.2.1 == transmit && x.2.2.1 == spare) with
  | some x => some x.2.2.2
  | none =>
    let v := m.getF (elaneKey pb transmit spare)
    if v < 32 then some v else none

/-- The lowest-numbered free spare. -/
def Module.freeESpare (m : Module) (pb : Nat) (transmit : Bool) : Option Nat :=
  (List.range 2).find? (fun s => !m.eSpareFailed pb transmit s && (m.eSpareFor pb transmit s).isNone)

/-- Claim a spare for a data lane; with none free its module lane leaves its link (R123). -/
def Module.claimESpare (m : Module) (pb : Nat) (transmit : Bool) (lane : Nat) : Module :=
  match m.freeESpare pb transmit with
  | some s => { m with link := { m.link with eSpares := m.link.eSpares ++ [(pb, transmit, s, lane)] } }
  | none => (m.raise .lnk_SPARE_EXHAUSTED pb).loseLane (32 * pb + lane)

/-- An electrical lane is failing: 0–31 a data lane, 32 and 33 the spares. With SPARE_AUTO 0 nothing is claimed. -/
def Module.elaneFailing (m : Module) (pb : Nat) (transmit : Bool) (lane : Nat) : Module :=
  let auto := m.isOn (K.lnkCtrl_SPARE_AUTO pb)
  if lane < 32 then
    if auto && !(List.range 2).any (fun s => m.eSpareFor pb transmit s == some lane) then m.claimESpare pb transmit lane
    else m
  else
    let s := lane - 32
    let was := m.eSpareFor pb transmit s
    let m := m.setBit (elaneFailKey pb transmit) s true
    match was with
    | none => m
    | some d =>
      if auto then
        let m := { m with link := { m.link with
          eSpares := m.link.eSpares.filter (fun x => !(x.1 == pb && x.2.1 == transmit && x.2.2.1 == s)) } }
        (m.setF (elaneKey pb transmit s) 0x3F).claimESpare pb transmit d
      else m

/-- The spare has adapted and is selected (R123). -/
def Module.elaneSpared (m : Module) (pb : Nat) (transmit : Bool) (lane : Nat) : Module :=
  match m.link.eSpares.find? (fun x => x.1 == pb && x.2.1 == transmit && x.2.2.2 == lane) with
  | none => m
  | some x =>
    let s := x.2.2.1
    let m := { m with link := { m.link with eSpares := m.link.eSpares.erase x } }
    let m := (m.setF (elaneKey pb transmit s) lane).raise .lnk_SPARE_LANE pb
    m.record 5 (pb * 256 + flag transmit * 64 + lane) (32 + s)

/-! ### Training (R116, R125, R129) -/

/-- Does the partner that trained differ from the image's cabling (R125)? -/
def Module.miswired (m : Module) (lport : Nat) : Bool :=
  match Tbl.find m.link.cabling lport with
  | none => true
  | some (loc, at_) =>
    let b := blockOf lport
    let l := m.linkIx lport
    loc != 0 && !(m.peerLoc lport == loc && 4 * m.getF (K.lnkLinkPeerb_PORT b l) + m.getF (K.lnkLinkPeerb_Q b l) == at_)

/-- TRAIN phase 1: the partner's identity (R125). -/
def Module.trainIdentity (m : Module) (lport : Nat) (t : Train) : Module :=
  let b := blockOf lport
  let l := m.linkIx lport
  let seen := m.getF (K.lnkLinkPeerb_INCARNATION b l)
  let changed := seen != 0 && seen != t.incarnation.toNat
  let m := (m.setF (K.lnkLinkPeera_LOC b l) t.loc.toNat).setF (K.lnkLinkPeerb_INCARNATION b l) t.incarnation.toNat
  let m := (m.setF (K.lnkLinkPeerb_PORT b l) t.port.toNat).setF (K.lnkLinkPeerb_Q b l) t.q.toNat
  let m := if changed then
      (m.modLnk lport (fun x => { x with peerChanged := true })).raiseLink .lnk_PEER_RESTART lport else m
  if m.miswired lport then m.raiseLink .lnk_MISWIRE lport else m

/-- The map of a partner's TRAIN agrees the lanes: the intersection of both OFFERs, which the module's phase 2 names with its
initial credits (R129). -/
def Module.agree (m : Module) (lport : Nat) (t : Train) : Module :=
  let both := ((lanesIn (m.offer lport) (15 - t.offer.toNat)).map (2 ^ ·)).sum
  (m.modLnk lport (fun l => { l with told := m.advertised lport, agreed := some both })).sendTrain lport 2 both

/-- A partner's TRAIN (R129): each is answered with phase 2 (notes/assumptions/167.md). -/
def Module.trainReceive (m : Module) (lport : Nat) (crc : BitVec 32) (t : Train) : Module :=
  let st := m.linkState lport
  if !m.isLport lport || !(st == 2 || st == 4) || m.deaf lport then m
  else if crc != (OrderedSet.train t).crc then m.badSet lport
  else if t.phase = 1 then (m.trainIdentity lport t).agree lport t
  else if t.phase = 2 then
    (m.modLnk lport (fun l => { l with
      peerInit := (List.range 8).map (fun vc => (t.credits.getD vc 0).toNat) })).agree lport t
  else m

/-- Grant a link the credits that its layout still owes it, from step 12 on (R507). -/
def Module.grantRest (m : Module) (lport : Nat) : Module :=
  if m.isReady then
    let owed := (List.range 8).map (fun vc => m.initialCredits lport vc)
    let given := (m.lnk lport).given
    let m := m.modLnk lport (fun l => { l with given := owed })
    m.each (List.range 8) (fun m vc => m.returnCredits lport vc (vcGet owed vc - vcGet given vc))
  else m

/-- The lanes on which a training may end: those agreed, or offered where phase 2 has not told, that nothing has taken since
(R34, R129). -/
def Module.agreedLanes (m : Module) (lport : Nat) : Nat :=
  let map := ((m.lnk lport).agreed).getD (m.getF (K.lnkLinkState_LANES_OFFERED (blockOf lport) (m.linkIx lport)))
  ((lanesIn (m.offer lport) (15 - map % 16)).map (2 ^ ·)).sum

/-- Queues that hold frames when their link comes up start with no credit (R202, R207). -/
def Module.activateAll (m : Module) (lport : Nat) : Module :=
  m.each (List.range 8) (fun m vc => if (m.q lport vc).isEmpty then m else m.activateQ lport vc)

/-- May the lanes of a link train: its port block's lanes have a level (R493)? -/
def Module.mayTrain (m : Module) (lport : Nat) : Bool :=
  let u := GovUnit.lanes (Fin.ofNat 64 (blockOf lport))
  m.fixedLevel u || m.admits u

/-- Can the receiver deskew the lanes by CWCOUNT (R108)? Up to 400 ns it can; beyond them it is open. -/
def Module.deskews (m : Module) (skew : Nat) : Bool := decide (skew ≤ 400) || bitOf m.openWord.toNat 0

/-- Training completes on the lanes that locked (R129), with a skew in ns between them. Where the partner's INCARNATION is
unchanged the retry buffer is replayed and the tallies run on; else both ends start again (R116), with LSEQ from 0
(notes/assumptions/127.md). Lanes left out train on. -/
def Module.linkUp (m : Module) (lport : Nat) (locked skew : Nat) : Module :=
  let st := m.linkState lport
  let lanes := ((natsWhere 4 (fun k => bitOf (m.agreedLanes lport) k && bitOf locked k)).map (2 ^ ·)).sum
  let can := m.deskews skew
  let m := if skew ≤ 400 then m else m.drawn
  if !can || !m.isLport lport || !m.mayTrain lport || !(st == 2 || st == 4) || m.deaf lport || lanes == 0 then m
  else
    let l := m.lnk lport
    let again := l.peerChanged || l.fresh
    let rest := lanesIn (m.offer lport) lanes
    let m := if again then (m.discardRetry lport).loseGroups lport else m
    let m := ((m.setLinkState lport 3).setLanes lport lanes).raiseLink .lnk_LINK_UP lport
    let m := m.modLnk lport (fun l => { l with
      training := [], changes := [], asked := none, reqCount := 0, peerChanged := false, fresh := false
      lostBlock := false, behind := none, outOfSets := m.miswired lport })
    let m := m.each rest (fun m k => m.trainLane (m.firstLane lport + k))
    let m := if again then
        m.modLnk lport (fun l => { l with
          nextLseq := 0, expected := 0, held := l.peerInit, tally := List.replicate 8 0, granted := l.told
          given := l.told, ccum := List.replicate 8 0 })
      else
        match (m.lnk lport).retry.head? with
        | some e => m.replay lport e.lseq
        | none => m
    (m.activateAll lport).grantRest lport

/-- 50 ms without LINK_UP (R129). -/
def Module.trainingTimeout (m : Module) (lport : Nat) : Module :=
  let st := m.linkState lport
  if m.isLport lport && (st == 2 || st == 4) then (m.countRetrain lport).startTraining lport st else m

/-! ### Drains (R127, R128, R242, R441) -/

/-- The shapers of a logical port that drains are treated as disabled (R207). -/
def Module.stopShapers (m : Module) (lport : Nat) : Module :=
  { m with buf := { m.buf with queues := m.buf.queues.map (fun x =>
    if x.1.1 = lport then (x.1, { x.2 with shaper := x.2.shaper.stopped m.buf.wheel }) else x) } }

/-- A port begins to drain. One that is training, or whose link is not up, has nothing to drain and goes dark (R128) when
a planned reset, and not an expulsion, asks. -/
def Module.startDrain (m : Module) (reset : Bool) (lport : Nat) : Module :=
  let st := m.linkState lport
  if st = 3 then
    let ends := m.elapsed + m.getF (K.lnkCtrl_DRAIN_MS (blockOf lport)) * perMs
    (((m.setLinkState lport 5).modLnk lport (fun l => { l with draining := true, drainEnd := ends })).stopShapers lport).raiseLnk
      .lnk_GOING_DOWN_TX lport
  else if reset && (st == 2 || st == 4) then (m.discardHeld lport).leaveUp lport 0
  else m

/-- Does a planned reset that has been asked for take this port down? -/
def Module.resetTakes (m : Module) (lport : Nat) : Bool :=
  match m.power.request with
  | some r =>
    match r.kind with
    | .sector s => r.notice && sectorOf lport == s
    | _ => r.notice
  | none => false

/-- An operation in flight ends at a drained point (R242): a request to the parent and ABORT to the subtree, with
ABORTED_BY_MANAGER. -/
def Module.drainOp (m : Module) (slot : Nat) : Module :=
  match m.op slot with
  | none => m
  | some op =>
    let (rx, n) := op.logged2
    let m := m.countCode 6 op.home
    let m := if op.gdef.root then m else m.askAbort slot 6 n rx
    m.abortDown slot 6 n rx

/-- The operations in flight that a predicate picks end at a drained point. -/
def Module.drainOps (m : Module) (p : Op → Bool) : Module :=
  let hit := m.col.ops.filter (fun x => (1 ≤ x.2.state && x.2.state ≤ 3) && p x.2)
  m.each hit (fun m x => m.drainOp x.1)

/-- A port reaches its drained point (R127): what is still held for it is discarded. In a planned reset it then sends STATE
3; at the drained point of an expulsion it retrains (R441). -/
def Module.drainedPoint (m : Module) (lport : Nat) : Module :=
  let l := m.lnk lport
  if m.linkState lport ≠ 5 ∨ l.draining = false ∨ l.drained = true then m
  else if m.resetTakes lport then
    ((m.discardHeld lport).modLnk lport (fun l => { l with drained := true })).drainOps (fun op => op.treeLinks.contains lport)
  else ((m.leaveUp lport 4).countRetrain lport).startTraining lport 4

/-- 1 µs after the drained point the port goes dark (R127). -/
def Module.drainDark (m : Module) (lport : Nat) : Module :=
  if m.linkState lport = 5 ∧ (m.lnk lport).drained = true then m.leaveUp lport 0 else m

end Sys2Proof.Machine
end

