-- ==== Sys2Proof/Machine/Repair.lean ====
section
/-! DEFINITION. The packet SRAM scrubber and the crossbar's planes
(spec/06_buffers_resequencing_backpressure.md R173 to R175, R191; spec/17_spares_repair_and_resilience.md R452). -/

namespace Sys2Proof.Machine

/-! ### The scrubber -/

/-- What a word of packet SRAM may hold (R170): a frame in an ingress buffer, an output queue or the resequencer, a frame's copy
in a retry buffer, a context's state, a mirror record, or a frame of a Carafe chunk that has not closed. -/
inductive SramUse where
  | ingress (lport vc i : Nat)
  | queue (lport vc i : Nat)
  | held (lport : Nat) (flow : Flow) (seq : BitVec 24)
  | retry (lport : Nat) (lseq : BitVec 16)
  | ctx (lport : Nat) (flow : Flow)
  | mirror (i : Nat)
  | staging (lport vc i : Nat)

/-- The frames that stand in a sector's packet SRAM. -/
def Module.sramUses (m : Module) (s : Nat) : List SramUse :=
  let fifos := m.buf.ingress.filter (fun x => x.1.1 < 2048 && sectorOf x.1.1 == s)
  let queues := m.buf.queues.filter (fun x => sectorOf x.1.1 == s)
  let ctxs := m.buf.ctxs.filter (fun c => c.sector == s)
  let links := m.link.links.filter (fun x => sectorOf x.1 == s)
  fifos.flatMap (fun x => (List.range x.2.length).map (fun i => .ingress x.1.1 x.1.2 i))
    ++ queues.flatMap (fun x => (List.range x.2.sram.length).map (fun i => .queue x.1.1 x.1.2 i))
    ++ ctxs.flatMap (fun c => .ctx c.lport c.flow :: (c.held.filter (·.onDie)).map (fun f => .held c.lport c.flow f.frame.h.seq))
    ++ links.flatMap (fun x => (x.2.retry.filter (fun e => !e.lost)).map (fun e => .retry x.1 e.lseq))
    ++ (List.range m.buf.mirrors.length).map .mirror
    ++ queues.flatMap (fun x => (List.range x.2.filling.length).map (fun i => .staging x.1.1 x.1.2 i))

/-- A frame that has not left its queue's open chunk is discarded: its bytes stay charged to the share. -/
def Module.loseStaged (m : Module) (lport vc i : Nat) : Module :=
  let q := m.q lport vc
  match dropFilling q.carafe i with
  | (cs, some f) => ((m.putQ lport vc { q with carafe := cs }).tollOut f).settleQ lport vc q
  | _ => m

/-- Discard what holds an uncorrectable word (R173): a frame, which a context passes when its turn comes (R191), a context with its
state (R185), or a mirror record. -/
def Module.loseUse (m : Module) (u : SramUse) : Module :=
  match u with
  | .ingress lport vc i =>
    match (m.fifo lport vc)[i]? with
    | none => m
    | some f => (m.putFifo lport vc ((m.fifo lport vc).eraseIdx i)).returnCredits lport vc f.credits
  | .queue lport vc i =>
    let q := m.q lport vc
    match q.sram[i]? with
    | none => m
    | some f =>
      let m := ((m.putQ lport vc { q with sram := q.sram.eraseIdx i }).tollOut f).settleQ lport vc q
      (if i = 0 && !(m.q lport vc).isEmpty then m.refillQ lport vc else m).resume lport
  | .held lport flow seq =>
    match m.ctx lport flow with
    | none => m
    | some c =>
      let gone := c.held.filter (fun f => f.frame.h.seq == seq)
      let c := { c with held := c.held.filter (fun f => f.frame.h.seq ≠ seq), gone := c.gone ++ [seq] }
      let m := m.each gone (fun m f => m.tollOut f)
      if c.opening then m.putCtx c else m.runCtx c none
  | .retry lport lseq => m.modLnk lport (fun l =>
    { l with retry := l.retry.map (fun e => if e.lseq = lseq then { e with lost := true } else e) })
  | .ctx lport flow =>
    match m.ctx lport flow with
    | none => m
    | some c => if c.ending then m else m.discardCtx c
  | .mirror i => { m with buf := { m.buf with mirrors := m.buf.mirrors.eraseIdx i } }
  | .staging lport vc i => m.loseStaged lport vc i

/-- The scrubber reads a word (R173): what an uncorrectable one holds, if a frame at all, is open. A word corrected on three
consecutive passes marks a stuck bit (R452). -/
def Module.sramScrub (m : Module) (s word : Nat) (found : Secded) : Module :=
  let run (n : Nat) : Module := { m with sram := { m.sram with
    ceRun := if n = 0 then Tbl.del m.sram.ceRun (s, word) else Tbl.put m.sram.ceRun (s, word) n } }
  match found with
  | .clean => run 0
  | .single =>
    let n := Tbl.get m.sram.ceRun 0 (s, word) + 1
    let m := (run (if n = 3 then 0 else n)).raise .buf_SRAM_CE s
    if n = 3 then m.rowFails s (sramBank word) (sramRowOf word) false else m
  | .double =>
    let m := (run 0).raise .buf_SRAM_UE s
    let uses := m.sramUses s
    let m' := m.drawn
    let m := match uses[m.openWord.toNat % (uses.length + 1)]? with
      | some u => m'.loseUse u
      | none => m'
    m.rowFails s (sramBank word) (sramRowOf word) false

/-! ### Crossbar planes (R174, R175) -/

/-- The planes that carry cells. -/
def Module.planes (m : Module) : Nat := m.getF (K.bufStatus_PLANES_ACTIVE m.lead)

def Module.setPlanes (m : Module) (mask spare : Nat) : Module :=
  (m.setAll 8 K.bufStatus_PLANES_ACTIVE mask).setAll 8 K.bufStatus_SPARE_PLANE spare

/-- An event of the crossbar, which every sector shows (notes/assumptions/32.md). -/
def Module.raiseAll (m : Module) (e : Ev) : Module := m.each (List.range (m.liveCount .buf)) (fun m s => m.raise e s)

/-- A plane fails: no new cell is sent on it, and the spare begins to train. A plane that carries nothing and does not train
shows no failure. -/
def Module.planeFail (m : Module) (p : Nat) : Module :=
  let spare := m.getF (K.bufStatus_SPARE_PLANE m.lead)
  let mask := m.planes
  if bitOf mask p then
    let m := (m.setPlanes (mask - 2 ^ p) spare).raiseAll .buf_PLANE_FAIL
    if spare ≤ 8 ∧ m.buf.planeTraining = none then { m with buf := { m.buf with planeTraining := some (p, spare) } }
    else m.record 0x06 p 0xFFFF
  else
    match m.buf.planeTraining with
    | some (q, sp) =>
      if sp = p then
        let m := ({ m with buf := { m.buf with planeTraining := none } }).setPlanes mask 0xF
        (m.raiseAll .buf_PLANE_FAIL).record 0x06 q 0xFFFF
      else m
    | none => m

/-- The spare plane becomes active (R175). -/
def Module.planeSpared (m : Module) : Module :=
  match m.buf.planeTraining with
  | none => m
  | some (q, sp) =>
    let m := ({ m with buf := { m.buf with planeTraining := none } }).setPlanes (m.planes + 2 ^ sp) 0xF
    (m.raiseAll .buf_PLANE_SPARED).record 0x06 q sp

end Sys2Proof.Machine
end

