-- ==== Sys2Proof/Machine/HbmOps.lean ====
section
/-! DEFINITION. The HBM stacks: errors, lost chunks, heat, and channels mapped out (spec/12_hbm_memory.md R335 to R342). -/

namespace Sys2Proof.Machine

/-! ### What a lost chunk costs (R336) -/

/-- A chunk of a queue: its frames are discarded, with the frame that begins in it and ends in a later one. -/
def Module.loseCarafe (m : Module) (lport vc no : Nat) : Module :=
  let q := m.q lport vc
  let i := q.carafe.findIdx (fun c => c.index == no)
  match q.carafe[i]? with
  | none => m
  | some c =>
    let after := dropCont (q.carafe.drop (i + 1))
    let m := (m.putQ lport vc { q with carafe := q.carafe.take i ++ after.1 }).raise .buf_CARAFE_UE (sectorOf lport)
    let m := (m.freeChunk (portOf lport) c).settleSpill lport vc
    (m.each (c.frames ++ after.2) (fun m f => m.tollOut f)).settleQ lport vc q

/-- A chunk of a held frame: the frame is discarded. Its context passes its SEQ as it would any that has not come (R186). -/
def Module.loseHeld (m : Module) (lport : Nat) (flow : Flow) (no : Nat) : Module :=
  match m.ctx lport flow with
  | none => m
  | some c =>
    let gone := c.held.filter (fun f => f.chunks.contains no)
    let left := { c with held := c.held.filter (fun f => !f.chunks.contains no) }
    let m := (m.putCtx left).each gone (fun m f => ((m.unhold f lport).tollOut f).settleSpill lport (match f.dest with
      | .out _ v => v
      | _ => 0))
    if c.ending then m.runCtx left none else m

/-- Has the engine added a retained delivery? -/
def Seg.hasAdded (sg : Seg) (op : Op) (d : Delivery) : Bool :=
  if d.child then sg.added.contains (d.source, d.slot, d.sub) else sg.addedAll op d.source d.slot

/-- The deliveries of which some byte lies in the `i`-th chunk of what they take one after another (R277); `at_` is the first
byte's place. -/
def deliveriesIn (i : Nat) : Nat → List Delivery → List Delivery
  | _, [] => []
  | at_, d :: rest =>
    let end_ := at_ + d.data.length
    if at_ < 4096 * (i + 1) ∧ 4096 * i < end_ then d :: deliveriesIn i end_ rest else deliveriesIn i end_ rest

/-- A chunk of a segment's retention: a contribution not yet added ends the operation, and those added already are missed only by a
move. -/
def Module.loseRetained (m : Module) (slot k no : Nat) : Module :=
  match m.op slot with
  | none => m
  | some op =>
    match op.seg k with
    | none => m
    | some sg =>
      if (deliveriesIn (sg.chunks.findIdx (· == no)) 0 sg.got).all (sg.hasAdded op) then
        m.putOp slot (op.putSeg { sg with readLost := true })
      else m.failOp slot 5

/-- One copy of a unit of the recipe region: rewritten from the other, or with both lost gone until the next start. -/
def Module.loseUnit (m : Module) (s u copy : Nat) : Module :=
  match m.unitCopy s u (1 - copy) with
  | some c => m.newChunk s 4 false (some (octetStack s c.octet)) (.recipe u copy)
  | none => { m with hbm := { m.hbm with lostUnits := m.hbm.lostUnits ++ [(s, u)] } }

/-- What the use of a lost chunk makes of it. -/
def Module.loseWhat (m : Module) (c : HbmChunk) : Module :=
  match c.use with
  | .carafe lport vc => m.loseCarafe lport vc c.no
  | .held lport src dst flow _ => (m.raise .buf_CARAFE_UE (sectorOf lport)).loseHeld lport (src, dst, flow) c.no
  | .deep lport src dst flow _ => m.loseHeld lport (src, dst, flow) c.no
  | .retained slot k => m.loseRetained slot k c.no
  | .staged slot _ => m.failOp slot 5
  | .recipe u copy => m.loseUnit c.sector u copy

/-- A chunk is lost. -/
def Module.loseChunk (m : Module) (no : Nat) : Module :=
  match m.hbmChunk no with
  | none => m
  | some c => ((m.freeChunks [no]).raise .hbm_CHUNK_LOST (octetStack c.sector c.octet)).loseWhat c

/-- A chunk is copied to another octet; one that finds no room is lost (R340). -/
def Module.moveChunk (m : Module) (no : Nat) : Module :=
  match m.hbmChunk no with
  | none => m
  | some c =>
    let avoid := match c.use with
      | .recipe u copy => (m.unitCopy c.sector u (1 - copy)).map (fun x => octetStack c.sector x.octet)
      | _ => none
    match m.nextOctet c.sector avoid with
    | none => m.loseChunk no
    | some (j, n) =>
      let m := { m with hbm := { m.hbm with
        chunks := m.hbm.chunks.map (fun (x : HbmChunk) => if x.no = no then { x with octet := j } else x)
        turn := Tbl.put m.hbm.turn c.sector (j, n) } }
      (m.issue (octetStack c.sector c.octet) 2 4096 false).issue (octetStack c.sector j) 2 4096 true

/-- Is a chunk the one that a queue still fills on die, not yet written (R177)? -/
def Module.onlyFilling (m : Module) (c : HbmChunk) : Bool :=
  match c.use with
  | .carafe lport vc => (m.q lport vc).carafe.any (fun x => x.index == c.no && !x.closed)
  | _ => false

/-- The chunks that an evacuation has copied; `none` where it is open which. -/
abbrev Copied := Option (List Nat)

/-- Has an evacuation copied a chunk? -/
def Module.hasCopied (m : Module) (copied : Copied) (no : Nat) : Module × Bool :=
  match copied with
  | some nos => (m, nos.contains no)
  | none => (m.drawn, bitOf m.openWord.toNat 0)

/-- The chunks of an octet with a failed channel: those not yet written or copied take another octet, and the others are lost. -/
def Module.clearOctet (m : Module) (s j : Nat) (copied : Copied) : Module :=
  m.each (m.octetChunks s j) (fun m c =>
    if m.onlyFilling c then m.moveChunk c.no
    else
      match m.hasCopied copied c.no with
      | (m, true) => m.moveChunk c.no
      | (m, false) => m.loseChunk c.no)

/-! ### Channels (R340, R342) -/

/-- The octet of a channel, in its sector. -/
def octetOf (k ch : Nat) : Nat := k % 4 * 4 + ch / 8

/-- A channel fails: its octet closes, and the sector's regions scale with the channels in service. A hard failure loses the octet's
chunks at once; a soft one leaves them to the evacuation, but in an octet that is being evacuated those that have not been copied
are lost. A rehearsal's failure is not recorded. -/
def Module.failChannel (m : Module) (k ch : Nat) (hard rehearsal : Bool) (copied : Copied) : Module :=
  let h := m.stack k
  if h.isOut ch then m
  else
    let again := m.octetClosed (k / 4) (octetOf k ch)
    let m := (m.putStack k { h with failing := h.failing ++ [(ch, hard, rehearsal)] }).raise .hbm_CHAN_FAIL k ch
    let m := if hard then m else m.setF (K.hbmStatus_EVACUATING k) 1
    let m := if hard || again then m.clearOctet (k / 4) (octetOf k ch) (if again then copied else some []) else m
    if m.channelsIn k = 0 then (m.raise .hbm_STACK_FAIL k).setF (K.hbmStatus_STATE k) 4 else m

/-- HBM_UE of a channel in the last hour. -/
def Module.ueHour (m : Module) (k ch : Nat) : List Nat :=
  (Tbl.get (m.stack k).ue [] ch).filter (fun t => decide (m.elapsed - t < 3600 * perSec))

/-- Has a channel failed softly: more than 8 HBM_UE in an hour, with MAPOUT_AUTO 1? -/
def Module.softFails (m : Module) (k ch : Nat) : Bool :=
  m.isOn (K.hbmCtrl_MAPOUT_AUTO k) && decide (8 < (m.ueHour k ch).length)

/-- A stack is in use: ready, not in self-refresh. -/
def Module.stackReady (m : Module) (k : Nat) : Bool := m.getF (K.hbmStatus_STATE k) == 2

/-- CHAN_FAIL: the base die loses a channel's interface, or the channel has failed softly. -/
def Module.chanFail (m : Module) (k ch : Nat) (hard : Bool) (copied : List Nat) : Module :=
  if m.getF (K.hbmStatus_STATE k) < 2 then m
  else if hard || m.softFails k ch then m.failChannel k ch hard false (some copied)
  else m

/-- The evacuation of an octet ends (notes/assumptions/140.md): its chunks take other octets, and those that could not be read are
lost. -/
def Module.evacuated (m : Module) (s j : Nat) (unread : List Nat) : Module :=
  m.each (m.octetChunks s j) (fun m c => if unread.contains c.no then m.loseChunk c.no else m.moveChunk c.no)

/-- The octet of a failed channel reopens without it (R340): the map-out is recorded. -/
def Module.chanMapped (m : Module) (k ch : Nat) (unread : List Nat) : Module :=
  match (m.stack k).failing.find? (fun x => x.1 == ch) with
  | none => m
  | some (c, hard, rehearsal) =>
    let m := m.evacuated (k / 4) (octetOf k ch) unread
    let h := m.stack k
    let left := h.failing.filter (fun x => x.1 ≠ ch)
    let m := m.putStack k { h with failing := left, mapped := h.mapped ++ [(c, hard, rehearsal)] }
    let m := (m.raise .hbm_CHAN_MAPPED k ch).setB (K.hbmStatus_EVACUATING k) (left.any (fun x => !x.2.1))
    if rehearsal then m else m.record 0x0B (k * 32 + ch) 0xFFFF

/-! ### Errors (R335) -/

/-- A word of a channel could not be corrected: HBM_UE, and the chunk that holds it, if one does, is lost. The ninth in an hour
fails the channel. -/
def Module.hbmUe (m : Module) (k ch chunk : Nat) : Module :=
  let h := m.stack k
  let m := m.putStack k { h with ue := Tbl.put h.ue ch (m.elapsed :: m.ueHour k ch) }
  let m := (m.raise .hbm_HBM_UE k).addSat (K.hbmEcc_UE k) 1 0xFFFF
  let here := (m.octetChunks (k / 4) (octetOf k ch)).any (fun c => c.no == chunk)
  let m := if here then m.loseChunk chunk else m
  if m.softFails k ch then m.failChannel k ch false false none else m

/-- The scrubber reads a word: `chunk` is the number of the chunk that holds it, and `last` says that a pass ends with it. -/
def Module.hbmScrub (m : Module) (k ch : Nat) (found : Secded) (chunk : Nat) (last : Bool) : Module :=
  if !m.stackReady k || (m.stack k).isOut ch then m
  else
    let m := if last then m.putStack k { m.stack k with scrubLate := false } else m
    match found with
    | .clean => m
    | .single =>
      let h := m.stack k
      let m := m.putStack k { h with ce := Tbl.put h.ce ch (min 0xFFFF (Tbl.get h.ce 0 ch + 1)) }
      (m.raise .hbm_HBM_CE k).addSat (K.hbmEcc_CE k) 1 0xFFFF
    | .double => m.hbmUe k ch chunk

/-- A scrub pass has not completed within 8 h: the scrubber takes its bandwidth at priority 2 until it ends. -/
def Module.scrubLate (m : Module) (k : Nat) : Module :=
  if m.stackReady k then (m.putStack k { m.stack k with scrubLate := true }).raise .hbm_SCRUB_LATE k else m

/-- The read-back of a queue's oldest chunk meets an uncorrectable word in one of its bursts (R177, R335). -/
def Module.readBackBad (m : Module) (lport vc burst : Nat) : Module :=
  match (m.q lport vc).carafe with
  | [] => m
  | c :: _ =>
    if !m.mayReadBack lport vc then m
    else
      let m := (m.readChunks [c.index]).spend (sectorOf lport)
      match m.hbmChunk c.index with
      | none => m
      | some x =>
        let ch := (burstsOver (m.octetChannels x.sector x.octet)).getD burst 0
        (m.hbmUe (octetStack x.sector x.octet) ch c.index).resume lport

/-! ### Heat (R337, R339) -/

/-- Step a stack's admitted fraction at a temperature. -/
def Module.stepAdmit (m : Module) (k temp : Nat) : Module :=
  let hot := m.getF (K.hbmCtrl_HOT k)
  let a := m.getF (K.hbmStatus_ADMIT k)
  if hot ≤ temp then if 1 < a then (m.setF (K.hbmStatus_ADMIT k) (a - 1)).raise .hbm_THROTTLE k else m
  else if temp + 3 ≤ hot ∧ a < 4 then m.setF (K.hbmStatus_ADMIT k) (a + 1)
  else m

/-- The temperature at which a stack is treated: the last reported, or HOT + 10 °C while its sensor is silent. -/
def Module.tempNow (m : Module) (k : Nat) : Nat :=
  if (m.stack k).silent then m.getF (K.hbmCtrl_HOT k) + 10 else m.getF (K.hbmTemp_TEMP k)

/-- Act on the temperature of a stack: its refresh, its alarm, and from STATE 2 its throttling (R342). -/
def Module.heed (m : Module) (k : Nat) : Module :=
  let t := m.tempNow k
  let m := m.setB (K.hbmStatus_REFRESH_2X k) (decide (85 < t))
  let m := if t < m.getF (K.hbmCtrl_HOT k) then m.setF (K.hbmStatus_HOT_ALARM k) 0 else m
  if m.stackReady k then m.stepAdmit k t else m

/-- The base die reads a stack's sensor. -/
def Module.hbmTemp (m : Module) (k temp : Nat) : Module :=
  if m.getF (K.hbmStatus_STATE k) = 0 then m
  else
    let m := (m.setF (K.hbmTemp_TEMP k) temp).setF (K.hbmTemp_MAX k) (max temp (m.getF (K.hbmTemp_MAX k)))
    (m.putStack k { m.stack k with silent := false }).heed k

/-- A sensor has been silent for 10 ms: its stack is taken as at HOT + 10 °C until it reports again
(notes/assumptions/141.md). -/
def Module.hbmSilent (m : Module) (k : Nat) : Module :=
  if m.getF (K.hbmStatus_STATE k) = 0 then m else (m.putStack k { m.stack k with silent := true }).heed k

/-- A stack at 25 % for 100 ms and still hot. -/
def Module.hbmHot (m : Module) (k : Nat) : Module :=
  if m.stackReady k && m.getF (K.hbmStatus_ADMIT k) == 1 && decide (m.getF (K.hbmCtrl_HOT k) ≤ m.tempNow k) then
    ((m.raise .hbm_HBM_HOT k (m.getF (K.hbmTemp_TEMP k))).setF (K.hbmStatus_HOT_ALARM k) 1).alert K.glbAlert_HBM_HOT
  else m

/-! ### Restart -/

/-- A reset abandons evacuations; a channel mapped out stays so where the repair table has it (R340, R342). -/
def HbmStack.restarted (h : HbmStack) (recorded : List Nat) : HbmStack :=
  { HbmStack.initial with mapped := h.mapped.filter (fun x => recorded.contains x.1) }

/-- A sector reset abandons the evacuations of its stacks too (R342). -/
def Module.abandonEvacuation (m : Module) (k : Nat) : Module :=
  (m.putStack k { m.stack k with failing := (m.stack k).failing.filter (fun x => x.2.1) }).setF (K.hbmStatus_EVACUATING k) 0

/-- A stack trains (R341): the channels that fail twice are mapped out. In TIMETABLE it is only initialised, and kept in
self-refresh (R338). -/
def Module.trainStack (m : Module) (k : Nat) (failed : List Nat) : Module :=
  if m.timetable then m.setF (K.hbmStatus_STATE k) 3
  else
    let bad := (failed.eraseDups).filter (fun c => !(m.stack k).isOut c)
    let m := m.each bad (fun m c =>
      let h := m.stack k
      (((m.raise .hbm_TRAIN_FAIL k).raise .hbm_CHAN_FAIL k c).putStack k { h with mapped := h.mapped ++ [(c, true, false)] }).record
        0x0B (k * 32 + c) 0xFFFF)
    let m := m.each bad (fun m c => m.raise .hbm_CHAN_MAPPED k c)
    if m.channelsIn k = 0 then (m.raise .hbm_STACK_FAIL k).setF (K.hbmStatus_STATE k) 4 else m.setF (K.hbmStatus_STATE k) 2

end Sys2Proof.Machine
end

