-- ==== Sys2Proof/Machine/Time.lean ====
section
/-! DEFINITION. The time base, its corrections and stamps (spec/14_clocks_and_time.md R386 to R396), the passing of ticks,
and the idle slots of the links (spec/18_telemetry_and_counters.md R478). -/

namespace Sys2Proof.Machine

/-! ### The increment -/

/-- INC in units of 2^−32 ns, and its legal range of 1.998 ns to 2.002 ns (R386). -/
def incLeast : Nat := 8581344658
def incMost : Nat := 8598524526

def Module.inc (m : Module) : Nat := m.getF K.timIncHi_NS * 2 ^ 32 + m.getF K.timIncLo_FRAC

/-- Take up a written INC, clamped. -/
def Module.setInc (m : Module) (v : Nat) : Module :=
  let v := clampTo incLeast incMost v
  (m.setF K.timIncHi_NS (v / 2 ^ 32)).setF K.timIncLo_FRAC (v % 2 ^ 32)

/-- The source of a domain, and its ramp step as a divisor: 8 where it does not ramp. -/
def Module.domSource (m : Module) (d : Nat) : Nat := m.getF (K.clkDomStat_SOURCE d)
def Module.domRamp (m : Module) (d : Nat) : Nat := if m.getF (K.clkDomStat_RAMP d) = 0 then 8 else m.getF (K.clkDomStat_RAMP d)

/-- Does domain 4 run? -/
def Module.ticks (m : Module) : Bool := m.domSource 4 != 4

/-- What a tick adds: INC × 8/k to the nearest unit during a ramp (R382), and the slew beside it. -/
def Module.tickInc (m : Module) : Nat := (2 * m.inc * 8 + m.domRamp 4) / (2 * m.domRamp 4)
def Module.tickSlew (m : Module) : Nat := m.tickInc / 2048

/-- The units of `elapsed` in a tick. -/
def Module.tickUnits (m : Module) : Nat := if m.ticks then 1680 / m.domRamp 4 else 210

/-! ### The passing of ticks -/

/-- The count with its fraction, in 2^−32 ns. -/
def TimeUnit.fixed (t : TimeUnit) : Nat := t.count.toNat * 2 ^ 32 + t.frac.toNat

def TimeUnit.ofFixed (t : TimeUnit) (n : Nat) : TimeUnit :=
  { t with count := BitVec.ofNat 64 (n / 2 ^ 32), frac := BitVec.ofNat 32 n }

/-- The part of a correction that `n` ticks apply. -/
def slewPart (slew : Int) (most : Nat) : Int := if slew < 0 then max slew (-(most : Int)) else min slew most

/-- End a slew that has nothing left to apply. One that ends on the always-on island is told when the reset ends (R389). -/
def Module.endSlew (m : Module) : Module :=
  if m.time.slew = 0 && m.isOn K.timStatus_SLEWING && m.time.islandFrom.isNone then (m.setF K.timStatus_SLEWING 0).raise .tim_SLEW_DONE 0 else m

/-- The time base over `n` ticks (R386, R388): a step that is due takes the place of the first. -/
def Module.passTime (m : Module) (n : Nat) : Module :=
  if n = 0 then m
  else if m.time.stepDue then
    let m := { m with time := { (m.time.ofFixed (m.time.stepValue.toNat * 2 ^ 32 + (n - 1) * m.tickInc)) with
                                  stepDue := false, running := true } }
    ((m.setF K.timStatus_SET 1).setF K.timStatus_ARMED 0).raise .tim_STEPPED 0
  else
    let part := slewPart m.time.slew (n * m.tickSlew)
    let fixed := (m.time.fixed : Int) + (n * m.tickInc : Nat) + part
    ({ m with time := { (m.time.ofFixed fixed.toNat) with slew := m.time.slew - part, running := true } }).endSlew

/-- The lanes on which a link still sends: those in service, and those whose removal is not yet effective (R119). -/
def Module.sendingLanes (m : Module) (lport : Nat) : Nat :=
  m.laneCount lport + ((m.lnk lport).changes.filter (fun c => c.ours && !c.add)).length

/-- Does a head frame of a link stand that a condition holds back, whatever else holds it? -/
def Module.headHeld (m : Module) (lport : Nat) (why : Nat → Frame → Bool) : Bool :=
  (List.range 8).any (fun vc =>
    match (m.q lport vc).sram.head? with
    | some f => why vc f.frame
    | none => false)

/-- Class and subclass of an idle slot (R478). R204 asks for no room in the retry buffer: a frame that lacks only that is
eligible. -/
def Module.idleClass (m : Module) (lport : Nat) : Nat × Option Nat :=
  if (List.range 8).all (fun vc => (m.q lport vc).isEmpty) then (2, none)
  else if (List.range 8).any (fun vc => m.headState lport vc == .ready || m.headState lport vc == .retry) then (1, some 4)
  else if m.headHeld lport (fun vc f => !m.schedOk lport vc f.len) then (3, some 8)
  else if m.headHeld lport (fun vc f => decide (vcGet (m.lnk lport).held vc < creditUnits f.len)) then (3, some 6)
  else (3, some 7)

/-- The slots of one link in a span of time: those that what was sent has taken are told already, the rest carry IDLE (R111).
A slot is 1.28 ns on each lane. The classes are told only in state 3 UP (R478). -/
def Module.passSlots (m : Module) (lport units : Nat) : Module :=
  let l := m.lnk lport
  let have_ := l.slotRest + units * m.sendingLanes lport * 10
  let n := have_ / 1344
  let idle := n - l.slotDebt
  let m := m.putLnk lport { l with slotRest := have_ % 1344, slotDebt := l.slotDebt - n }
  if idle = 0 then m
  else
    let c := m.idleClass lport
    let m := m.transmit lport none (.idle lport idle)
    if m.linkState lport = 3 then m.slots lport c.1 c.2 idle else m

/-- In step 8 the engines pass from warm-up to the search at an open moment, all at once (R46, R74). -/
def Module.passWarm (m : Module) : Module :=
  if m.startStep = 8 then
    let go := bitOf m.openWord.toNat 0
    m.drawn.each (List.range 64) (fun m e =>
      if go && m.getF (K.lpeStatus_STATE e) == 1 then m.setF (K.lpeStatus_STATE e) 2 else m)
  else m

/-- `n` ticks of the time base pass: 2 ns each, or as domain 4 ramps. While domain 4 stands still, `elapsed` alone goes on;
the always-on island keeps the count in a core reset (R389). -/
def Module.pass (m : Module) (n : Nat) : Module :=
  let units := n * m.tickUnits
  let m := ({ m with elapsed := m.elapsed + units }).passWarm
  let island := m.time.islandFrom.isSome
  let m := if m.ticks then { m with buf := { m.buf with wheel := m.buf.wheel + units } } else m
  let m := if m.ticks || island then m.passTime n else m
  m.each ((m.link.links.map Prod.fst).filter (fun l => m.carries l)) (fun m l => m.passSlots l units)

/-! ### Steps and corrections (R387, R388) -/

/-- TIM_SET: step the count, once. -/
def Module.setTime (m : Module) (v : BitVec 64) : Module :=
  if m.isOn K.timStatus_SET then m.raise .tim_SET_REFUSED 0
  else
    let m := { m with time := { m.time with stepValue := v } }
    if m.isOn K.timCtrl_SET_SRC then
      ({ m with time := { m.time with stepDue := false } }).setF K.timStatus_ARMED 1
    else ({ m with time := { m.time with stepDue := true } }).setF K.timStatus_ARMED 0

/-- TIM_ADJ: a signed correction in nanoseconds. -/
def Module.adjTime (m : Module) (v : BitVec 64) : Module :=
  let total := v.toInt * 2 ^ 32 + m.time.slew
  if !m.isOn K.timStatus_SET || decide (m.getF K.timJumpMax_NS * 2 ^ 32 < total.natAbs) then m.raise .tim_JUMP_REFUSED 0
  else ({ m with time := { m.time with slew := total } }).setF K.timStatus_SLEWING 1 |>.endSlew

/-- The remaining correction in whole nanoseconds, toward zero, as TIM_ADJ reads it (R402). -/
def Module.slewNs (m : Module) : BitVec 64 := BitVec.ofInt 64 (m.time.slew.tdiv (2 ^ 32))

/-- Run to the end of a slew: the ticks that it still takes pass. -/
def Module.finishSlew (m : Module) : Module :=
  if !m.isOn K.timStatus_SLEWING || m.time.stepDue || !(m.ticks || m.time.islandFrom.isSome) then m
  else m.pass ((m.time.slew.natAbs + m.tickSlew - 1) / m.tickSlew)

/-! ### Pulses (R393, R394) -/

/-- Has the time-base pulse lost SYNC_IN to alignment (R367, R422 resource 0)? -/
def Module.pulseLost (m : Module) : Bool := m.lost 0 && !bitOf (m.getF K.imgPrio_WINNER) 0

/-- Is an edge of PPS_IN within 1 ms of the one it took before (R542)? -/
def Module.pulseSoon (m : Module) : Bool :=
  match m.time.ppsAt with
  | some t => decide (m.elapsed < t + perMs)
  | none => false

/-- A rising edge on PPS_IN, or on SYNC_IN. The latched count is that of the edge to within 0 to +2 ns: its last part is
open. A use of SYNC_IN that has lost the pin to alignment is disabled (R367). -/
def Module.pulseEdge (m : Module) (syncIn : Bool) : Module :=
  if m.isOn K.timCtrl_PULSE_SRC != syncIn || (if syncIn then m.pulseLost else m.pulseSoon) || !m.time.running then m
  else
    let at_ := m.time.count + BitVec.ofNat 64 (m.openWord.toNat % 3)
    let m := (m.drawn.setF K.timPpsLo_NS at_.toNat).setF K.timPpsHi_NS (at_.toNat / 2 ^ 32)
    let m := { m with time := { m.time with ppsSeen := true, ppsAt := if syncIn then m.time.ppsAt else some m.elapsed } }
    let m := m.raise .tim_PPS_IN_EDGE 0
    if m.isOn K.timStatus_ARMED then
      ({ m with time := { m.time with stepDue := true } }).setF K.timStatus_ARMED 0
    else m

/-- 1.1 s have passed since an edge without another (R393). -/
def Module.pulseMissing (m : Module) : Module :=
  if m.time.running && m.time.ppsSeen then ({ m with time := { m.time with ppsSeen := false } }).raise .tim_PPS_MISSING 0 else m

/-- PPS_OUT runs while SET is 1 and PPS_OUT_EN is 1. -/
def Module.ppsRuns (m : Module) : Bool := m.isOn K.timStatus_SET && m.isOn K.timCtrl_PPS_OUT_EN

/-- Has the count reached a multiple of 10^9 with the latest ticks: the pin rises 5.0 ns after that tick? -/
def Module.ppsDue (m : Module) : Bool := decide (m.time.fixed % (10 ^ 9 * 2 ^ 32) < 4 * (m.tickInc + m.tickSlew))

/-- PPS_OUT rises. -/
def Module.risePps (m : Module) : Module :=
  if m.ppsRuns && m.ppsDue && m.time.ppsOut.isNone then { m with time := { m.time with ppsOut := some m.elapsed } } else m

/-- PPS_OUT falls: it has been high for 100 ms. -/
def Module.fallPps (m : Module) : Module :=
  match m.time.ppsOut with
  | some t => if t + 100 * perMs ≤ m.elapsed then { m with time := { m.time with ppsOut := none } } else m
  | none => m

/-- PPS_OUT is low where it may not run. -/
def Module.gatePps (m : Module) : Module := if m.ppsRuns then m else { m with time := { m.time with ppsOut := none } }

/-! ### Sync frames (R391, R392) -/

/-- The 32 bytes of a sync frame: its stamps are written as it leaves. -/
def syncBody (op : Nat) (tag : BitVec 16) (set : Bool) (ta : BitVec 64) : List Byte :=
  toBytes 32 (op * 2 ^ 248 + tag.toNat * 2 ^ 232 + flag set * 2 ^ 192 + ta.toNat * 2 ^ 128)

/-- Send a sync frame on a link to the location of its partner. REQ_ID holds the TAG (notes/assumptions/33.md). -/
def Module.sendSync (m : Module) (lport : Nat) (dst : Loc) (reply : Bool) (tag : BitVec 16) (body : List Byte) : Module :=
  let h : CtlHeader := { cls := 3, isReply := reply, reqId := tag, status := 0, bodyLen := 32, chunk := 0, chunksM1 := 0 }
  let f := m.controlFrame dst h body
  let m := { m with mpc := { m.mpc with seqs := Tbl.put m.mpc.seqs dst.toNat ((f.h.seq.toNat + 1) % 2 ^ 24) } }
  m.originate (sectorOf lport) lport 0 f f

/-- TIM_SYNC_CMD. -/
def Module.syncCmd (m : Module) (data : Nat) : Module :=
  if !bitOf data 31 || m.isOn K.timSyncStat_BUSY then m
  else
    let tag := BitVec.ofNat 16 (bitsOf data 26 11)
    let lport := bitsOf data 10 0
    let m := { m with time := { m.time with sync := some { lport := lport, tag := tag, t1 := 0 } } }
    let m := ((m.setF K.timSyncStat_BUSY 1).setF K.timSyncStat_TIMEOUT 0).setF K.timSyncStat_TAG tag.toNat
    m.sendSync lport (m.peerLoc lport) false tag (syncBody 0x10 tag (m.isOn K.timStatus_SET) 0)

/-- A SYNC_REQ arrives: the stamp unit answers it, to the link partner's location (R391, R392). A link that does not carry frames
answers nothing (R396). -/
def Module.syncReq (m : Module) (lport : Nat) (tag : BitVec 16) : Module :=
  if m.hears lport then
    m.sendSync lport (m.peerLoc lport) true tag (syncBody 0x11 tag (m.isOn K.timStatus_SET) m.stamp)
  else m

/-- Set one of the four stamps. -/
def Module.setStamp (m : Module) (n : Nat) (t : BitVec 64) : Module :=
  (m.setF (K.timSyncTLo_NS n) (t.toNat % 2 ^ 32)).setF (K.timSyncTHi_NS n) (t.toNat / 2 ^ 32)

/-- The SYNC_RESP of the exchange in flight arrives. -/
def Module.syncResp (m : Module) (lport : Nat) (tag : BitVec 16) (peerSet : Bool) (t2 t3 : BitVec 64) : Module :=
  match m.time.sync with
  | none => m
  | some r =>
    if r.lport ≠ lport ∨ r.tag ≠ tag ∨ m.hears lport = false then m
    else
      let t4 := m.stamp
      let m := { m with time := { m.time with sync := none } }
      let m := (((m.setStamp 0 r.t1).setStamp 1 t2).setStamp 2 t3).setStamp 3 t4
      let m := (m.setF K.timSyncStat_BUSY 0).setB K.timSyncStat_PEER_SET peerSet
      m.raise .tim_SYNC_DONE 0

/-- 100 µs without a response. -/
def Module.syncTimeoutTim (m : Module) : Module :=
  match m.time.sync with
  | none => m
  | some _ =>
    let m := { m with time := { m.time with sync := none } }
    (m.setF K.timSyncStat_BUSY 0).setF K.timSyncStat_TIMEOUT 1

end Sys2Proof.Machine
end

