-- ==== Sys2Proof/Machine/Lock.lean ====
section
/-! DEFINITION. Sector lock: the reset-alignment protocol and its loss
(spec/13_profiles_and_determinism.md R354 to R367). What the lock does, every sector shows. -/

namespace Sys2Proof.Machine

/-- An event of sector lock, in every sector. -/
def Module.raiseSched (m : Module) (e : Ev) : Module := m.each m.sectors (fun m s => m.raise e s)

/-- TM_SCHED_STAT.STATE (R370). -/
def Module.lockState (m : Module) : Nat := m.getF (K.tmSchedStat_STATE m.lead)

/-- Enter a state; LOCKED is 1 in STATE 5 alone. -/
def Module.setLock (m : Module) (st : Nat) : Module :=
  let m := { m with lock := { m.lock with rejoining := [] } }
  (m.setAll 8 K.tmSchedStat_STATE st).setAll 8 K.tmSchedStat_LOCKED (flag (st == 5))

/-- Step 11 is complete. -/
def Module.aligned (m : Module) : Module := if m.startStep = 11 then m.goStep 12 else m

/-- Sector lock is lost (R365): the module goes on forwarding. -/
def Module.loseLock (m : Module) : Module :=
  if m.timetable && decide (2 ≤ m.lockState) && decide (m.lockState ≤ 5) then
    (((m.setLock 6).raiseSched .sched_LOCK_LOST).aligned)
  else m

/-- Step 11 (R355, R356): outside TIMETABLE the copies of the time base are loaded on one tick; in TIMETABLE the protocol
starts, a master on its own edge. -/
def Module.startAlignment (m : Module) : Module :=
  if m.startStep ≠ 11 ∨ m.isOn K.pwrStatus_STALLED = true then m
  else if m.timetable then
    if m.lockState ≤ 1 then m.setLock (if m.isOn (K.tmSchedCfg_MASTER m.lead) then 3 else 2) else m
  else m.aligned

/-- A SYNC_IN pulse that stays high for a number of samples of the crystal (R356, R357). Alignment that has lost SYNC_IN to
the time-base pulse takes none (R367). -/
def Module.syncInPulse (m : Module) (samples : Nat) : Module :=
  if !m.timetable || (m.lost 0 && bitOf (m.getF K.imgPrio_WINNER) 0) then m
  else
    match m.lockState with
    | 2 =>
      if samples < 50 then m.raiseSched .sched_SYNC_GLITCH
      else (m.setLock 3).setAll 8 K.tmSchedStat_EXT 1
    | 3 | 4 | 5 | 6 => m.raiseSched .sched_SYNC_IGNORED
    | _ => m

/-- SYNC_WAIT ends without a pulse (R358). -/
def Module.syncWaitEnds (m : Module) : Module :=
  if m.timetable && m.lockState == 2 then
    ((m.raiseSched .sched_SYNC_TIMEOUT).setLock 3).setAll 8 K.tmSchedStat_EXT 0
  else m

/-- The SYNC_OUT pin: high from 20 ns after the alignment edge for 2.00 µs (R356). -/
def Module.syncOut (m : Module) : Bool :=
  match m.lock.edgeE with
  | none => false
  | some t => decide (t + 20 * perNs ≤ m.elapsed) && decide (m.elapsed < t + 2020 * perNs)

/-- The alignment edge E (R356): the dividers of domains 0, 1 and 4 restart and ramp (R382), and SYNC_OUT follows. -/
def Module.alignmentEdge (m : Module) : Module :=
  if m.timetable && m.lockState == 3 then
    let m := (m.setLock 4).each [0, 1, 4] (fun m d => m.setF (K.clkDomStat_RAMP d) 1)
    { m with lock := { m.lock with edgeE := some m.elapsed, verified := false } }
  else m

/-- Alignment fails in STATE 3 or 4 (R356, R509): the protocol restarts, and the third failure loses the lock. -/
def Module.alignFails (m : Module) : Module :=
  if m.timetable && (m.lockState == 3 || m.lockState == 4) then
    let n := m.lock.failures + 1
    let m := { m with lock := { m.lock with failures := n, verified := false } }
    if 3 ≤ n then m.loseLock else m.setLock 3
  else m

/-- A pointer difference changes during verification. -/
def Module.verifyFail (m : Module) : Module := if m.lock.verified || m.lockState != 4 then m else m.alignFails

/-- 1 ms of stable pointer differences. -/
def Module.verifyEnd (m : Module) : Module :=
  if m.timetable && m.lockState == 4 then { m with lock := { m.lock with verified := true } } else m

/-- Period 0 begins in every sector (R356). -/
def Module.periodZero (m : Module) : Module :=
  if m.timetable && m.lockState == 4 && m.lock.verified then
    let m := m.setLock 5
    ({ m with lock := { m.lock with periods := 0, edgeAt := some m.elapsed } }).aligned
  else m

end Sys2Proof.Machine
end

