-- ==== Sys2Proof/Machine/Restart.lean ====
section
/-! DEFINITION. What a reset keeps and discards, and the repair table's records at a start
(spec/03_flyover_circuits.md R92 to R97; spec/17_spares_repair_and_resilience.md R450;
spec/19_power_thermal_startup.md R501 to R505). -/

namespace Sys2Proof.Machine

/-! ### The repair table at a start (R450) -/

/-- A laser serves a wavelength; the one that did before is retired. -/
def Module.restoreLaser (m : Module) (e w n : Nat) : Module :=
  let m := match m.driverOf e w with
    | some old => if old = n then m else m.setRole e old 3
    | none => m
  m.takeLambda e n w

/-- A wavelength stays removed from an engine's eight ports, and its carrier out. -/
def Module.restoreLoss (m : Module) (e w : Nat) : Module :=
  let m := m.setBit (K.lpeStatus_LAMBDA_LOST e) w true
  let m := m.each (List.range 8) (fun m i => m.barLane (laneOf (8 * e + i) w) .wavelength)
  if carrierOf e w < 32 then m.setBit (K.praCarrier_UP (arrayOf e)) (carrierOf e w) false else m

/-- A ring stays failed, its bank's spare in its place where that does not serve already and one is free. -/
def Module.restoreRing (m : Module) (e r : Nat) : Module :=
  let x := m.ring e r
  let m := m.modRing e r (fun x => { x with failed := true, locked := false })
  if x.failed || x.spare || (m.workingRing (8 * e + ringPort r) (ringBank r) x.lambda).isSome then m
  else
    match m.bankSpare e r with
    | some q =>
      let code := BitVec.ofNat 16 ((m.dip e q x.lambda).getD 0)
      m.modRing e q (fun y => { y with spare := false, locked := decide (ringBank r ≤ 1), lambda := x.lambda, assigned := code
                                       heater := if ringBank r ≤ 1 then code else y.heater })
    | none => m.losePortLambda e r x.lambda

/-- A spare electrical lane stands for a data lane; a spare that stood for it before has failed. -/
def Module.restoreELane (m : Module) (pb : Nat) (transmit : Bool) (lane s : Nat) : Module :=
  let before := (List.range 2).filter (fun t => t ≠ s && m.getF (elaneKey pb transmit t) == lane)
  let m := m.each before (fun m t => (m.setBit (elaneFailKey pb transmit) t true).setF (elaneKey pb transmit t) 0x3F)
  m.setF (elaneKey pb transmit s) lane

/-- A crossbar plane stays out, the spare in its place. -/
def Module.restorePlane (m : Module) (p spare : Nat) : Module :=
  let mask := if bitOf m.planes p then m.planes - 2 ^ p else m.planes
  if spare < 9 then m.setPlanes (if bitOf mask spare then mask else mask + 2 ^ spare) 0xF
  else m.setPlanes mask (m.getF (K.bufStatus_SPARE_PLANE m.lead))

/-- An engine stays out in a role, its pair's spare in its place. -/
def Module.restoreEngine (m : Module) (e role sp : Nat) : Module :=
  let serves := m.getF (K.rdeStatus_SERVES e)
  let m := (m.setF (K.rdeStatus_ROLE e) role).setF (K.rdeStatus_SERVES e) 0xF
  if sp = spareOf e ∧ m.getF (K.rdeStatus_ROLE sp) = 1 then
    ((m.setF (K.rdeStatus_ROLE sp) 2).setF (K.rdeStatus_SERVES sp) serves).setF (K.rdeStatus_REPLACES sp) e
  else m

/-- A row stays remapped, or retired. -/
def Module.restoreRow (m : Module) (s bank row : Nat) (spare : Option Nat) : Module :=
  let r := m.sramRow s bank row
  match spare with
  | some g =>
    let m := { m with sram := { m.sram with used := m.sram.used ++ [(s, bank, g)] } }
    m.putSramRow s bank row { r with remaps := r.remaps + 1 }
  | none => (m.putSramRow s bank row { r with retired := true }).addSat (K.bufSramStat_RETIRED_ROWS s) 1 0xFFFF

/-- A channel stays mapped out. Whether it had failed hard is open where only the table tells of it. -/
def Module.restoreChannel (m : Module) (k ch : Nat) : Module :=
  let h := m.stack k
  if h.isOut ch then m
  else m.drawn.putStack k { h with mapped := h.mapped ++ [(ch, bitOf m.openWord.toNat 0, false)] }

/-- Is the spare core in reserve? -/
def Module.spareReady (m : Module) : Bool := !bitOf (m.getF K.mpcStatus_CORES_UP) 4 && !m.mpc.spareOut

/-- The lowest core in service, or none (5), takes core 0's role (R459). -/
def Module.lowestTakes0 (m : Module) : Module := { m with mpc := { m.mpc with core0 := (m.coresUp.head?).getD 5 } }

/-- A core is out: its role goes to the spare core where that is in reserve, and core 0's, with no spare left, to the lowest
in service (R458, R459). -/
def Module.coreOut (m : Module) (c : Nat) : Module :=
  let was0 := m.mpc.core0 == c
  let spare := m.mpc.coreMoving.isNone && m.spareReady && c != 4
  let m := { m.setBit K.mpcStatus_CORES_UP c false with mpc := { m.mpc with spareOut := m.mpc.spareOut || c == 4 } }
  if spare then { m with mpc := { m.mpc with coreMoving := some c } }
  else if was0 then m.lowestTakes0
  else m

/-- The spare core fails in reserve or on its way: it takes no role any more, and a core 0 that waited for it is replaced as with
no spare left (R459). -/
def Module.spareFails (m : Module) : Module :=
  let was := m.mpc.coreMoving
  let m := { m with mpc := { m.mpc with coreMoving := none, spareOut := true } }
  match was with
  | some c => if m.mpc.core0 = c then m.lowestTakes0 else m
  | none => m

/-- The spare core has taken a failed core's role. -/
def Module.coreIn (m : Module) : Module :=
  match m.mpc.coreMoving with
  | none => m
  | some c =>
    let m := { m with mpc := { m.mpc with coreMoving := none, core0 := if m.mpc.core0 = c then 4 else m.mpc.core0 } }
    m.setBit K.mpcStatus_CORES_UP 4 true

/-- Re-apply one record; one that names no resource is ignored. -/
def Module.reapply (m : Module) (r : Repair) : Module :=
  let l := r.location
  let e := l / 256
  match r.kind with
  | 0x01 => if e < 64 ∧ l % 256 < 4 ∧ r.data < 6 then m.restoreLaser e (l % 256) r.data else m
  | 0x02 => if e < 64 ∧ l % 256 < 4 then m.restoreLoss e (l % 256) else m
  | 0x03 => if e < 64 ∧ l % 256 < 164 then m.restoreRing e (l % 256) else m
  | 0x04 => if e < 64 ∧ l % 256 < 164 then m.restoreRing e (l % 256) else m
  | 0x05 =>
    if e < 64 ∧ l % 64 < 32 ∧ 32 ≤ r.data ∧ r.data < 34 then m.restoreELane e (bitOf l 6) (l % 64) (r.data - 32) else m
  | 0x06 => if l % 32 < 9 then m.restorePlane (l % 32) r.data else m
  | 0x07 => if l % 32 < 18 then m.restoreEngine (l % 32) 3 r.data else m
  | 0x08 => if l % 32 < 18 then m.restoreEngine (l % 32) 4 r.data else m
  | 0x09 => if l < 2 ^ 23 then m.restoreRow (l / 2 ^ 20) (l / 2 ^ 11 % 512) (l % 2 ^ 11) (some r.data) else m
  | 0x0A => if l < 2 ^ 23 then m.restoreRow (l / 2 ^ 20) (l / 2 ^ 11 % 512) (l % 2 ^ 11) none else m
  | 0x0B => if l < 1024 then m.restoreChannel (l / 32) (l % 32) else m
  | 0x0C => if l % 32 < 4 then m.setF (K.praStatus_STATE (l % 32)) 4 else m
  | 0x0E => if l % 32 = 4 ∧ m.spareReady = true then m.spareFails else if l % 32 < 5 then (m.coreOut (l % 32)).coreIn else m
  | _ => m

/-- Re-apply the records in force of some kinds. -/
def Module.reapplyKinds (m : Module) (kinds : List Nat) : Module :=
  m.each (m.repairs.filter (fun r => kinds.contains r.kind)) (fun m r => m.reapply r)

/-! ### Circuits at a reset (R92, R93, R97) -/

/-- Does a reset hold the circuits whose HOLD bit is 1 (R92)? -/
def Module.holdsThrough (m : Module) (k : ResetKind) : Bool :=
  match k with
  | .core => true
  | .sector _ => true
  | .warm => m.isOn K.flyCtrl_HOLD_WARM
  | _ => false

/-- The slots that the always-on island holds through a reset of the whole module. -/
def Module.heldSlots (m : Module) (k : ResetKind) : List Nat :=
  if m.holdsThrough k then
    natsWhere 256 (fun s => m.slotHold s && decide (2 ≤ m.slotState s) && decide (m.slotState s ≤ 4))
  else []

/-- The circuits that run, held or interrupted: those that a release detunes. -/
def Module.runningSlots (m : Module) : List Nat :=
  natsWhere 256 (fun s => decide (2 ≤ m.slotState s) && decide (m.slotState s ≤ 4))

/-- The two rings of a circuit: its drop ring and its add ring. -/
def Module.slotRings (m : Module) (s : Nat) : List (Nat × Nat) :=
  let w := s % 4
  let at_ (port k : Nat) : List (Nat × Nat) := ((m.workingRing port k w).map (fun r => (port / 8, r))).toList
  at_ (m.slotIn s) 3 ++ at_ (m.slotOut s) 2

/-! ### What survives (R503) -/

/-- The light of the held circuits' output ports, which the island watches (R67). -/
def Module.keepsLight (m : Module) (held : List Nat) (f : FKey) : Bool :=
  (f.reg == .lpePortApr || f.reg == .lpePortPwr) && held.any (fun s => m.slotOut s == 8 * f.i + f.j)

/-- The registers of the always-on island. -/
def islandReg (r : RegName) : Bool :=
  match r.blk with
  | .pwr | .clk | .glb => true
  | _ => r == .mpcSmb

/-- Does a register field keep its value through a reset other than power-on? The trips of an array stand (R317), the held
circuits keep their slots, and in a core reset the time base keeps SET, INC and its slew (R389). -/
def Module.keepsField (m : Module) (k : ResetKind) (held : List Nat) (f : FKey) : Bool :=
  islandReg f.reg
    || (f.reg == .praStatus && (f.lo == 24 || (f.lo == 0 && m.praState f.i == 4)))
    || ((f.reg == .flySlotCfg || f.reg == .flySlotPwr) && held.contains f.j) || m.keepsLight held f
    || (k == .core && m.time.running
        && (f == K.timStatus_SET || f == K.timStatus_SLEWING || f == K.timIncLo_FRAC || f == K.timIncHi_NS))

/-- The captures and held writes of the registers that a reset keeps. -/
def keepsIsland {α : Type} (t : Tbl (Requester × RegName × Nat × Nat) α) : Tbl (Requester × RegName × Nat × Nat) α :=
  t.filter (fun x => islandReg x.1.2.1)

/-- The rings of the held circuits, marked HELD, as they are, and the spares of their banks, with which the island can replace
them (R93). Relocks are counted from the start on (R79). -/
def Module.heldRings (m : Module) (held : List Nat) : Tbl (Nat × Nat) Ring :=
  held.foldl (fun t s => (m.slotRings s).foldl (fun t er =>
    let t := Tbl.put t er { m.ring er.1 er.2 with held := true, relocks := 0 }
    match m.bankSpare er.1 er.2 with
    | some q => Tbl.put t (er.1, q) { m.ring er.1 q with relocks := 0 }
    | none => t) t) []

/-- The lanes that held circuits keep out of their packet links. -/
def Module.heldBars (m : Module) (held : List Nat) : List (Nat × LaneBar) :=
  held.flatMap (fun s => [(laneOf (m.slotIn s) (s % 4), .circuit), (laneOf (m.slotOut s) (s % 4), .circuit)])

/-- The strength of a reset (R505). -/
def ResetKind.strength (k : ResetKind) : Nat :=
  match k with
  | .powerOn => 4
  | .cold => 3
  | .warm => 2
  | .core => 2
  | .sector _ => 1

/-- The next incarnation (R521). -/
def nextIncarnation (n : Nat) : Nat := if n = 0xFFFF then 1 else n + 1

/-- The clocks at a reset of the whole module: domains 0, 1, 2 and 4 stop and the MPC runs from the internal oscillator. A cold
or warm reset restores the domains moved to their backups (R503), a cold one also qualifies the crystal anew. -/
def Module.stopClocks (m : Module) (k : ResetKind) : Module :=
  let m := m.each [0, 1, 2, 4] (fun m d => (m.setF (K.clkDomStat_SOURCE d) 4).setF (K.clkDomStat_RAMP d) 0)
  let m := (m.setF (K.clkDomStat_SOURCE 3) 2).setF (K.clkDomStat_RAMP 3) 0
  let m := if k = .core then m
    else
      let m := m.each [0, 1, 2, 3, 4, 7] (fun m d => (m.setBit K.clkStatus_FAILED d false).setF (K.clkDomStat_FAIL_DIES d) 0)
      m.setF K.clkStatus_HOLDOVER 0
  if k = .cold then m.setF K.clkStatus_XTAL_OK 0 else m

/-- The records that a reset leaves to be written: that of a quarantine or an engine's failure stands only where it was written
(R470). -/
def Module.keptRecords (m : Module) : List (BitVec 64 × BitVec 64) :=
  m.mpc.repairWait.filter (fun x => !([0x07, 0x08].contains (Repair.ofBody x.1).kind))

/-- The module in a cold, warm or core reset, at its start (R503). -/
def Module.restarted (m : Module) (k : ResetKind) (cause : Nat) : Module :=
  let z := Module.reset
  let held := m.heldSlots k
  let rings := m.heldRings held
  let channels (i : Nat) : List Nat :=
    (m.repairs.filter (fun r => r.kind == 0x0B && r.location / 32 == i)).map (fun r => r.location % 32)
  let m' : Module := { z with
    elapsed := m.elapsed, flash := m.flash, out := m.out, fresh := m.fresh
    regs := m.regs.filter (fun x => m.keepsField k held x.1)
    loHeld := keepsIsland m.loHeld, captured := keepsIsland m.captured
    time := if k = .core ∧ m.time.running = true then
        { m.time with stepDue := false, islandFrom := some (m.time.islandFrom.getD m.elapsed), ppsSeen := false, ppsAt := none
                      ppsOut := none, sync := none }
      else z.time
    power := { m.power with
      request := none, nextSectors := [], inReset := some k, sectorsDown := [], dark := true, levels := [], lastRaise := []
      steps := [], slewWaits := [], capWaits := [] }
    log := m.log
    lpe := { z.lpe with rings := rings, dips := m.lpe.dips.filter (fun d => rings.any (fun x => x.1 == (d.pb, d.ring))) }
    fly := { z.fly with detuned := m.fly.detuned.filter held.contains }
    link := { z.link with bars := m.heldBars held }
    hbm := { z.hbm with stack := m.hbm.stack.map (fun x => (x.1, x.2.restarted (channels x.1))) }
    mpc := { z.mpc with
      repairWait := m.keptRecords, repairHalf := m.mpc.repairHalf, repairUsed := m.mpc.repairUsed
      smbAddr := m.mpc.smbAddr, smbFlash := m.mpc.smbFlash, smbFault := m.mpc.smbFault }
    sec := { z.sec with
      state := m.sec.state, debug := k == .core && m.sec.debug, svn := m.sec.svn, firmwareKey := m.sec.firmwareKey }
    img := { z.img with marker := m.img.marker, touched := m.img.touched }
    clock := { z.clock with rehearsed := if k = .core then m.clock.rehearsed else [] } }
  let m' := (m'.stopClocks k).setF K.pwrRstCause_CAUSE cause
  let m' := m'.each [K.pwrStatus_READY, K.pwrStatus_STALLED, K.pwrStatus_GOV_HOLD, K.pwrStatus_CAP_HOLD] (fun m f => m.setF f 0)
  let m' := m'.setF K.pwrStatus_STEP 3
  let m' := if held.isEmpty then m' else m'.setF K.flyStatus_IN_HOLD 1
  m'.each held (fun m s =>
    let o := m.slotOut s
    let m := (m.setSlot s (if m.slotState s = 3 then 3 else 4)).each [m.slotIn s / 8, o / 8] (fun m e => m.setF (K.lpeStatus_STATE e) 4)
    (m.setBit (K.lpeStatus_PORT_APR (o / 8)) (o % 8) (m.isOn (K.lpePortApr_REDUCED (o / 8) (o % 8)))).retotal o)

/-- Is a tear-down running? The island completes it through a reset of the whole module but a power-on reset (R97). -/
def Module.tearsDown (m : Module) : Bool :=
  match m.fly.running with
  | some c => c.op == .tearDown
  | none => false

/-- A latched thermal trip keeps the module in reset until PORST_N (R500). -/
def HoldCause.isTrip (h : HoldCause) : Bool :=
  match h with
  | .thermtrip _ => true
  | _ => false

/-- The module in a power-on reset (R503): the repair table, the security state and what boot flash holds are kept, and the
memory of a thermal trip unless VDD_AON fell. -/
def Module.powerOn (m : Module) (cause : Nat) (aonFell : Bool) : Module :=
  let z := Module.reset
  let seen := m.getF K.pwrRstCause_THERMTRIP_SEEN
  let m' : Module := { z with
    elapsed := m.elapsed, flash := m.flash, out := m.out, fresh := m.fresh
    regs := m.regs.filter (fun x => x.1.reg == .praStatus && (x.1.lo == 24 || (x.1.lo == 0 && x.2 == 4)))
    power := { z.power with
      pwrOk := m.power.pwrOk, porstN := m.power.porstN, warmrstN := m.power.warmrstN, thermtripN := m.power.thermtripN
      strapProfile := m.power.strapProfile, strapAddr := m.power.strapAddr
      holds := m.power.holds.filter HoldCause.isTrip }
    hbm := { z.hbm with stack := m.hbm.stack.map (fun x => (x.1, x.2.restarted
      ((m.repairs.filter (fun r => r.kind == 0x0B && r.location / 32 == x.1)).map (fun r => r.location % 32)))) }
    mpc := { z.mpc with repairWait := m.keptRecords, repairHalf := m.mpc.repairHalf, repairUsed := m.mpc.repairUsed }
    sec := { z.sec with state := m.sec.state, svn := m.sec.svn, firmwareKey := m.sec.firmwareKey }
    img := { z.img with touched := m.img.touched } }
  let m' := (m'.setF K.pwrRstCause_THERMTRIP_SEEN (if aonFell then 0 else seen)).setF K.pwrRstCause_CAUSE cause
  m'.drawn.setF K.glbIncarn_INCARNATION (nonzero16 (m'.openWord.setWidth 16))

/-! ### Entering a reset (R502) -/

/-- The circuits that a reset does not hold are released, and HOLD_LOST counted for each (R92). -/
def Module.holdsLost (m : Module) (n : Nat) : Module := m.raiseN .fly_HOLD_LOST 0 n

/-- A residue injection ends with the segments already corrupted (R465). -/
def Module.endResidue (m : Module) : Module :=
  match m.mpc.injection with
  | some i =>
    if i.kind = 3 then
      ({ m with mpc := { m.mpc with injection := none }, rde := { m.rde with inject := [] } }).setF K.mpcInjStat_BUSY 0
    else m
  | none => m

/-- A rehearsal permission ends (R440): at its DURATION, by command, or at a reset. -/
def Module.endRehearsal (m : Module) : Module :=
  match m.sec.rehearsal with
  | some _ =>
    ({ m with sec := { m.sec with rehearsal := none, rehearsalEnd := 0 } }).endResidue.raise .sec_REHEARSAL_OFF 0
  | none => m

/-- Reset is asserted in the whole module. -/
def Module.enterReset (m : Module) (k : ResetKind) (cause : Nat) (aonFell : Bool) : Module :=
  let held := m.heldSlots k
  let lost := m.runningSlots.length - held.length
  let m := m.endRehearsal
  match k with
  | .powerOn => (m.powerOn cause aonFell).holdsLost lost
  | _ =>
    let m := if held.isEmpty || m.isOn K.flyStatus_IN_HOLD then m else m.raise .fly_HOLD_ENTER 0
    let down := m.tearsDown
    let m := (m.restarted k cause).holdsLost lost
    if down then m.raise .fly_CIRCUIT_DOWN 0 else m

end Sys2Proof.Machine
end

