-- ==== Sys2Proof/Machine/Power.lean ====
section
/-! DEFINITION. Requests for resets, the pins that reset, rails, the load-step governor and heat
(spec/19_power_thermal_startup.md R490 to R505; spec/21_signals_package_electrical.md R538, R542 to R545). -/

namespace Sys2Proof.Machine

/-! ### Requests (R127, R128, R505) -/

/-- The ports that a reset takes down. -/
def Module.takenDown (m : Module) (k : ResetKind) : List Nat :=
  match k with
  | .sector s => m.sectorLports s
  | _ => m.lports

/-- Has start-up stopped for want of a qualified crystal: a power-on or cold reset alone takes the module on (R376)? -/
def Module.wantsCold (m : Module) : Bool := m.isOn K.pwrStatus_STALLED && m.startStep == 5

/-- A reset is asked for: a weaker or equal one than what is pending, or than the reset the module is in, is ignored; a
stronger one replaces it and keeps its drain. -/
def Module.requestReset (m : Module) (r : ResetReq) : Module :=
  let strongest := max (match m.power.inReset with
    | some k => k.strength
    | none => 0) (match m.power.request with
    | some q => q.kind.strength
    | none => 0)
  if r.kind.strength ≤ strongest ∨ (m.wantsCold = true ∧ r.kind.strength < ResetKind.cold.strength) then m
  else
    let drains := match m.power.request with
      | some q => q.notice
      | none => false
    let m := { m with power := { m.power with request := some { r with notice := r.notice || drains } } }
    if r.notice && m.power.inReset.isNone then m.each (m.takenDown r.kind) (fun m l => m.startDrain true l) else m

/-- An accepted PWR_RST_CMD counts RESET_REQ. -/
def Module.acceptReset (m : Module) (r : ResetReq) : Module :=
  let m' := m.requestReset r
  if m'.power.request = m.power.request then m else m'.raise .pwr_RESET_REQ 0

/-- May PWR_RST_CMD ask for this reset: an expelled module takes only a cold one without notice (R505)? -/
def Module.mayReset (m : Module) (k : ResetKind) (notice : Bool) : Bool :=
  !m.sec.state.expelled || (k == .cold && !notice)

/-- PWR_RST_CMD for the whole module. -/
def Module.resetCmd (m : Module) (k : ResetKind) (cause : Nat) (notice : Bool) : Module :=
  if m.mayReset k notice then m.acceptReset { kind := k, cause := cause, notice := notice } else m

/-- Does another sector's reset run? -/
def Module.sectorBusy (m : Module) (s : Nat) : Bool :=
  (m.power.sectorsDown.any (· ≠ s)) || (match m.power.request with
    | some q =>
      match q.kind with
      | .sector t => t != s
      | _ => false
    | none => false)

/-- Is a reset of the whole module pending or draining? -/
def Module.wholePending (m : Module) : Bool := m.power.request.any (fun q => decide (1 < q.kind.strength))

/-- PWR_RST_CMD for one sector (R504, R505, R509): refused before READY, ignored beside a stronger reset; while another sector's
runs, it waits. -/
def Module.sectorCmd (m : Module) (s : Nat) : Module :=
  if m.wholePending || !m.mayReset (.sector s) true || !m.isReady || m.power.sectorsDown.contains s || m.power.nextSectors.contains s then m
  else if m.sectorBusy s then
    ({ m with power := { m.power with nextSectors := m.power.nextSectors ++ [s] } }).raise .pwr_RESET_REQ 0
  else m.acceptReset { kind := .sector s, cause := 0, notice := true }

/-- The next sector reset that waits begins. -/
def Module.nextSectorReset (m : Module) : Module :=
  match m.power.nextSectors with
  | [] => m
  | s :: rest =>
    ({ m with power := { m.power with nextSectors := rest } }).requestReset { kind := .sector s, cause := 0, notice := true }

/-! ### Entry -/

/-- What keeps the module in reset after its entry. -/
def Module.holdReset (m : Module) (h : HoldCause) : Module :=
  if m.power.holds.contains h then m else { m with power := { m.power with holds := m.power.holds ++ [h] } }

def Module.releaseReset (m : Module) (h : HoldCause) : Module :=
  { m with power := { m.power with holds := m.power.holds.filter (· ≠ h) } }

/-- A cold reset without notice, held by a cause; a module that is in a reset already only stays in it. -/
def Module.coldNow (m : Module) (cause : Nat) (h : HoldCause) : Module :=
  let strong := match m.power.inReset with
    | some k => decide (3 ≤ k.strength)
    | none => false
  (if strong then m else m.enterReset .cold cause false).holdReset h

/-! ### Pins (R491, R538, R542) -/

/-- Power-good: the straps are sampled and start-up begins (R491, R538). -/
def Module.powerGood (m : Module) (profile : BitVec 2) (addr : BitVec 3) : Module :=
  if m.power.inReset ≠ some .powerOn ∨ m.power.thermtripN = false then m
  else
    let m := { m with power := { m.power with
      pwrOk := true, porstN := true, inReset := none, strapProfile := profile, strapAddr := addr } }
    let m := (m.setF K.glbStrap_PROFILE profile.toNat).setF K.glbStrap_SMB_ADDR addr.toNat
    (m.setF K.mpcSmb_ADDR (0x40 + addr.toNat)).setF K.pwrStatus_STEP 1

/-- PWR_OK falls for 100 ns or longer. -/
def Module.pwrOkFall (m : Module) (ns : Nat) : Module :=
  if ns < 100 then m
  else ({ m with power := { m.power with pwrOk := false } }).enterReset .powerOn 0 false

/-- Is a pulse taken that must last `least` ns: one below 100 ns is not, and what becomes of one in between is open? -/
def Module.pulseTaken (m : Module) (ns least : Nat) : Bool :=
  decide (least ≤ ns) || (decide (100 ≤ ns) && bitOf m.openWord.toNat 0)

/-- PORST_N is held low for 1 ms. A latched THERMTRIP_N is released with it, and the trip is seen after the restart (R512). -/
def Module.porst (m : Module) (ns : Nat) : Module :=
  if !m.pulseTaken ns 1000000 then m.drawn
  else
    let trips := m.power.holds.filterMap (fun h => match h with
      | .thermtrip die => some die
      | _ => none)
    let m := { m.drawn with power := { m.power with porstN := false, thermtripN := true, holds := [] } }
    (m.enterReset .powerOn 1 false).each trips (fun m die => m.raise .pwr_THERMTRIP 0 die)

/-- WARMRST_N is low for 1 µs. -/
def Module.warmrst (m : Module) (ns : Nat) : Module :=
  if !m.pulseTaken ns 1000 then m.drawn
  else
    ({ m.drawn with power := { m.power with warmrstN := false } }).requestReset { kind := .warm, cause := 4, notice := true }

/-- WARMRST_N is released: a module held in reset by it resumes at step 3 (R542). -/
def Module.warmrstEnds (m : Module) : Module :=
  ({ m with power := { m.power with warmrstN := true } }).releaseReset .warmrst

/-! ### Rails (R490, R492, R514) -/

/-- Nominal voltages in mV and ratings in 0.1 A. -/
def railNominal (n : Nat) : Nat := [700, 800, 1050, 400, 900, 3300, 1800, 750].getD n 0
def railRating (n : Nat) : Nat := [24000, 2000, 7000, 6000, 6000, 1300, 30, 300].getD n 0

/-- Is a voltage outside a tolerance in parts per thousand? -/
def railOutside (n mv permille : Nat) : Bool :=
  decide (railNominal n * permille < 1000 * ((mv : Int) - (railNominal n : Int)).natAbs)

/-- The module's power over the last 1 ms in units of 0.1 mW: the sum over the rails. -/
def Module.powerNow (m : Module) : Nat :=
  ((List.range 8).map (fun n => m.getF (K.pwrRailV_MV n) * m.getF (K.pwrRailI_CURRENT n))).sum

/-- What a rail's reading shows in its registers. -/
def Module.showRail (m : Module) (n : Nat) (r : RailReading) : Module :=
  let m := (m.setF (K.pwrRailV_MV n) r.mv.toNat).setF (K.pwrRailI_CURRENT n) r.mean.toNat
  let m := m.setF (K.pwrRailI_MAX n) (max r.current.toNat (m.getF (K.pwrRailI_MAX n)))
  let w := min 0xFFFF (m.powerNow / 10000)
  (m.setF K.pwrTotal_WATTS w).setF K.pwrTotal_MAX_W (max w (m.getF K.pwrTotal_MAX_W))

/-- One check of a rail (R492): each is 1 µs after the one before. In a power-on reset only a fall of VDD_AON tells, which ends the
memory of a thermal trip (R503, R513). -/
def Module.railCheck (m : Module) (n : Nat) (r : RailReading) : Module :=
  let low := railOutside n r.mv.toNat 80 && decide (r.mv.toNat < railNominal n)
  if m.power.inReset = some .powerOn then (if n = 7 ∧ low = true then m.setF K.pwrRstCause_THERMTRIP_SEEN 0 else m)
  else
    let m := m.showRail n r
    let warn := if railOutside n r.mv.toNat 35 then min 11 (Tbl.get m.power.warnFor 0 n + 1) else 0
    let out := if railOutside n r.mv.toNat 80 then min 11 (Tbl.get m.power.faultFor 0 n + 1) else 0
    let m := { m with power := { m.power with
      warnFor := Tbl.put m.power.warnFor n warn, faultFor := Tbl.put m.power.faultFor n out } }
    let m := if warn = 10 then m.raise .pwr_RAIL_WARN 0 (r.mv.toNat * 256 + n) else m
    let tooMuch := decide (railRating n < r.current.toNat) && !m.power.holds.contains (.rail n)
    if out = 10 ∨ tooMuch = true then
      let m := m.raise .pwr_RAIL_FAULT 0 (r.mv.toNat * 256 + n)
      if n = 7 then m.enterReset .powerOn 6 (decide (r.mv.toNat < railNominal 7) && decide (out = 10))
      else m.coldNow 6 (.rail n)
    else m

/-! ### The load-step governor (R493 to R496) -/

/-- Levels of a unit, its current a level in 0.01 A, and the least time between levels. -/
def GovUnit.top (u : GovUnit) : Nat :=
  match u with
  | .pipe _ => 8
  | .engine _ => 4
  | .pra _ => 16
  | .lanes _ => 2

def GovUnit.cost (u : GovUnit) : Nat :=
  match u with
  | .pipe _ => 826
  | .engine _ => 321
  | .pra _ => 19
  | .lanes _ => 229

def GovUnit.between (u : GovUnit) : Nat :=
  match u with
  | .pipe _ => perUs / 2
  | .engine _ => perUs / 2
  | .pra _ => 25 * perUs / 4
  | .lanes _ => 5 * perUs

/-- Raises, or lowers, of the last 1 µs in 0.01 A. -/
def Module.recentSteps (m : Module) (up : Bool) : Nat :=
  ((m.power.steps.filter (fun x => decide (m.elapsed - x.1 < perUs) && (decide (0 < x.2) == up))).map (fun x => x.2.natAbs)).sum

/-- A unit takes another level. -/
def Module.setLevel (m : Module) (u : GovUnit) (l : Nat) (step : Int) : Module :=
  { m with power := { m.power with
      levels := Tbl.put m.power.levels u l
      steps := m.power.steps.filter (fun x => decide (m.elapsed - x.1 < perUs)) ++ [(m.elapsed, step)] } }

/-- Does POWER_CAP govern a unit's raises: in TIMETABLE only an engine's (R496)? -/
def Module.capped (m : Module) (u : GovUnit) : Bool := !m.timetable || u.isEngine

/-- The power to which POWER_CAP is held, in 0.1 mW: by the rails' readings (R495), but in TIMETABLE by the work already admitted
(R364, notes/assumptions/180.md). -/
def Module.powerEstimate (m : Module) : Nat :=
  if m.timetable then Config.admittedPower ((m.power.levels.map (fun x => x.2 * x.1.cost)).sum) else m.powerNow

/-- In TIMETABLE a raise of an engine waits behind those that wait for current since earlier, and behind those of lower number that
started with it (R496). -/
def Module.behind (m : Module) (u : GovUnit) : Bool :=
  let since := (Tbl.find m.power.slewWaits u).getD m.elapsed
  m.timetable && (match u with
    | .engine e => m.power.slewWaits.any (fun x =>
      match x.1 with
      | .engine f => decide (x.2 < since) || (x.2 == since && decide (f < e))
      | _ => false)
    | _ => false)

/-- Is a unit's raise beyond what the 150 A of 1 µs leave (R494)? -/
def Module.slewed (m : Module) (u : GovUnit) : Bool := decide (15000 < m.recentSteps true + u.cost) || m.behind u

/-- The governor shows what waits. -/
def Module.showWaits (m : Module) : Module :=
  (m.setB K.pwrStatus_GOV_HOLD (!m.power.slewWaits.isEmpty)).setB K.pwrStatus_CAP_HOLD (!m.power.capWaits.isEmpty)

/-- Do the core and RDE domains run? -/
def Module.coresRun (m : Module) : Bool := m.domSource 0 != 4 && m.domSource 1 != 4

/-- What a raise starts: an engine at its first level takes what waits for it, an array's pause for the governor ends (R318). -/
def Module.raised (m : Module) (u : GovUnit) : Module :=
  match u with
  | .engine e => if m.level u = 1 then m.engineStarts e.val else m
  | .pra a => m.resumePra a.val 3
  | _ => m

/-- A unit waits no longer. -/
def Module.endWaits (m : Module) (u : GovUnit) : Module :=
  ({ m with power := { m.power with
      slewWaits := Tbl.del m.power.slewWaits u, capWaits := m.power.capWaits.filter (· ≠ u) } }).showWaits

/-- A raise waits for the slew limit, for POWER_CAP, or for both: each is counted as it begins. -/
def Module.holdRaise (m : Module) (u : GovUnit) (slew cap : Bool) : Module :=
  let since := Tbl.find m.power.slewWaits u
  let m := if slew && since.isNone then m.raise .pwr_GOV_HOLD 0 else m
  let m := if cap && !m.power.capWaits.contains u then m.raise .pwr_POWER_CAP_HOLD 0 else m
  let slews := if slew then Tbl.put m.power.slewWaits u (since.getD m.elapsed) else Tbl.del m.power.slewWaits u
  let rest := m.power.capWaits.filter (· ≠ u)
  ({ m with power := { m.power with slewWaits := slews, capWaits := if cap then rest ++ [u] else rest } }).showWaits

/-- A unit with work beyond its level asks for the next (R494, R495): it waits for the slew limit of 150 A in 1 µs, and for
POWER_CAP. In TIMETABLE the pipelines rise to their top level, and but for them engines alone are raised from step 11 (R496). -/
def Module.govRaise (m : Module) (u : GovUnit) : Module :=
  let l := m.level u
  let early := match Tbl.find m.power.lastRaise u with
    | some t => decide (m.elapsed - t < u.between)
    | none => false
  if !m.coresRun || (m.fixedLevel u && !u.isPipe) || decide (u.top ≤ l) || early then m
  else
    let slew := m.slewed u
    let cap := m.capped u && decide (m.getF K.pwrCtrl_CAP_W * 10000 < m.powerEstimate + u.cost * 70)
    if slew || cap then
      (match u with
        | .pra a => m.pausePra a.val 3
        | _ => m).holdRaise u slew cap
    else
      let m := m.setLevel u (l + 1) u.cost
      let m := { m with power := { m.power with lastRaise := Tbl.put m.power.lastRaise u m.elapsed } }
      (m.endWaits u).raised u

/-- A unit idle at its level for 10 µs is lowered, under the same limit (R494): no raise of it waits. -/
def Module.govLower (m : Module) (u : GovUnit) : Module :=
  let l := m.level u
  if l = 0 || m.fixedLevel u || decide (15000 < m.recentSteps false + u.cost) then m
  else (m.setLevel u (l - 1) (-(u.cost : Int))).endWaits u

/-- Are all pipelines at their top level, at which TIMETABLE runs them from step 11 (R496)? -/
def Module.pipesTop (m : Module) : Bool := (List.range 8).all (fun s => m.level (.pipe (Fin.ofNat 8 s)) == 8)

/-! ### Heat (R499, R500) -/

/-- A sensor reads 115 °C: THERMTRIP_N is asserted, and the module stays in a reset with every fibre dark (R500). -/
def Module.thermtrip (m : Module) (die : Nat) : Module :=
  let m := { m with power := { m.power with thermtripN := false } }
  let m := (m.enterReset .powerOn (m.getF K.pwrRstCause_CAUSE) false).setF K.pwrRstCause_THERMTRIP_SEEN 1
  m.holdReset (.thermtrip die)

/-- The 16 sensors of a die are read. -/
def Module.dieTemps (m : Module) (die : Nat) (temps : List Nat) : Module :=
  if m.power.inReset = some .powerOn ∨ temps = [] then m
  else
    let t := temps.foldl max 0
    let was := m.dieTemp die
    let m := (m.setF (K.pwrDieTemp_TEMP die) t).setF (K.pwrDieTemp_MAX die) (max t (m.getF (K.pwrDieTemp_MAX die)))
    let m := m.setB K.pwrStatus_THERM_ALERT ((List.range 4).any (fun d => decide (105 ≤ m.dieTemp d)))
    let m := if 105 ≤ t ∧ was < 105 then (m.raise .pwr_THERM_ALERT 0).alert K.glbAlert_THERM_ALERT else m
    if 115 ≤ t then m.thermtrip die else m

/-- The frequency of a die's core and RDE domains in eighths. -/
def Module.throttle (m : Module) (die : Nat) : Nat := m.getF K.pwrStatus_THROTTLE / 16 ^ die % 16

def Module.setThrottle (m : Module) (die v : Nat) : Module :=
  let w := m.getF K.pwrStatus_THROTTLE
  m.setF K.pwrStatus_THROTTLE (w - w / 16 ^ die % 16 * 16 ^ die + v * 16 ^ die)

/-- Each 1 ms a hot die steps down and a cooled one up (R499). A change of a locked domain's divider loses sector lock, and
one during alignment fails it (R365, R509). -/
def Module.throttleStep (m : Module) (die : Nat) : Module :=
  let t := m.dieTemp die
  let hot := m.getF K.pwrCtrl_THERM_HOT
  let f := m.throttle die
  let shaken (m : Module) : Module := if m.lockState = 3 ∨ m.lockState = 4 then m.alignFails else if m.lockState = 5 then m.loseLock else m
  if !m.coresRun then m
  else if hot ≤ t ∧ 4 < f then shaken ((m.setThrottle die (f - 1)).raise .pwr_THROTTLE 0)
  else if t + 3 ≤ hot ∧ f < 8 then shaken (m.setThrottle die (f + 1))
  else m

end Sys2Proof.Machine
end

