-- ==== Sys2Proof/Machine/Clock.lean ====
section
/-! DEFINITION. The oscillators, the clock domains and their monitors (spec/14_clocks_and_time.md R373 to R385, R396). -/

namespace Sys2Proof.Machine

/-- Start-up stops (R508). -/
def Module.stallStart (m : Module) : Module :=
  ((m.setF K.pwrStatus_STALLED 1).raise .pwr_START_STALL 0).alert K.glbAlert_START_STALL

/-- Start-up is at a step and may go on from it: nothing has stopped it, no reset holds the module. -/
def Module.atStep (m : Module) (n : Nat) : Bool :=
  m.startStep == n && !m.isOn K.pwrStatus_STALLED && m.power.inReset.isNone

/-- Has a domain failed? -/
def Module.clockFailed (m : Module) (d : Nat) : Bool := bitOf (m.getF K.clkStatus_FAILED) d

/-! ### Qualification of the crystal (R375, R376) -/

/-- The internal oscillator's deviation in ppm that a count tells, to the nearest (notes/assumptions/34.md). -/
def ioscPpm (count : Nat) : Int := (2 * (50000 - (count : Int)) * 1000000 + count) / (2 * count)

/-- The count of windows starts again. -/
def Module.requalify (m : Module) : Module := { m with clock := { m.clock with firstWindow := none, goodWindows := 0 } }

/-- A window of step 5: the first must lie within ±750, and with it 16 in a row within ±5 of it (notes/assumptions/144.md); any
that fails starts the count again. -/
def Module.qualify (m : Module) (n : Nat) : Module :=
  match m.clock.firstWindow with
  | none => if 49250 ≤ n ∧ n ≤ 50750 then { m with clock := { m.clock with firstWindow := some n, goodWindows := 1 } } else m
  | some f =>
    if f ≤ n + 5 ∧ n ≤ f + 5 then
      if 15 ≤ m.clock.goodWindows then
        let m := m.requalify
        ((m.setF K.clkStatus_XTAL_OK 1).raise .clk_XTAL_QUAL 0).goStep 6
      else { m with clock := { m.clock with goodWindows := m.clock.goodWindows + 1 } }
    else m.requalify

/-- One 1 ms window. IOSC_PPM follows it once the crystal is qualified, and is frozen when the crystal has failed (R381).
The island counts on through warm and core resets. -/
def Module.xtalWindow (m : Module) (n : Nat) : Module :=
  if m.clockFailed 6 || (!m.isOn K.clkStatus_XTAL_OK && decide (m.startStep < 5)) then m
  else
    let m := m.setF K.clkXtal_COUNT n
    let m := if n = 0 then m else { m with clock := { m.clock with xtalDown := false } }
    if m.isOn K.clkStatus_XTAL_OK then
      if n = 0 then m else m.setF K.clkXtal_IOSC_PPM (BitVec.ofInt 16 (ioscPpm n)).toNat
    else if m.atStep 5 then m.qualify n
    else m

/-- 1 s of step 5 without qualification (R376). -/
def Module.xtalQualFails (m : Module) : Module :=
  if m.atStep 5 then ((m.raise .clk_XTAL_QUAL_FAIL 0).alert K.glbAlert_XTAL_QUAL_FAIL).stallStart else m

/-! ### Sources and ramps (R380 to R382, R385) -/

/-- A domain takes a source and ramps from 1/8. -/
def Module.ramp (m : Module) (d source : Nat) : Module :=
  (m.setF (K.clkDomStat_SOURCE d) source).setF (K.clkDomStat_RAMP d) 1

/-- HOLDOVER: domain 4 runs on its backup, or the crystal has failed (R381). -/
def Module.showHoldover (m : Module) : Module := m.setB K.clkStatus_HOLDOVER (m.domSource 4 == 1 || m.clockFailed 7)

/-- 20 µs of a ramp pass. -/
def Module.rampStep (m : Module) (d : Nat) : Module :=
  let k := m.getF (K.clkDomStat_RAMP d)
  if k = 0 then m
  else if k < 8 then m.setF (K.clkDomStat_RAMP d) (k + 1)
  else (m.setF (K.clkDomStat_RAMP d) 0).raise .clk_RAMP_DONE 0

/-- The count that the always-on island hands back after a core reset is right to within 50 ppm of the time since it took it
over (R389). -/
def Module.handBack50ppm (m : Module) : Module :=
  match m.time.islandFrom with
  | none => m
  | some t =>
    let most := (m.elapsed - t) / perNs * 50 / 1000000
    let at_ := m.time.count + BitVec.ofNat 64 (m.openWord.toNat % (2 * most + 1)) - BitVec.ofNat 64 most
    ({ m.drawn with time := { m.time with count := at_, islandFrom := none } }).endSlew

/-- Step 6 (R385): every crystal PLL locks and the domains ramp onto them, those that a core reset left failed onto their
backups (R503). HBM's stacks begin to train with step 7 (R341, R344). -/
def Module.startPll (m : Module) : Module :=
  if m.atStep 6 then
    let m := m.each (List.range 5) (fun m d => m.ramp d (if m.clockFailed d || m.clockFailed 7 then 1 else 0))
    let m := ({ m.handBack50ppm with time := { m.handBack50ppm.time with running := true } }).showHoldover
    (m.each (List.range (m.liveCount .hbm)) (fun m k => if m.timetable then m else m.setF (K.hbmStatus_STATE k) 1)).goStep 7
  else m

/-! ### Failures (R379 to R384) -/

/-- Both oscillators have failed (R384). -/
def Module.bothOscillators (m : Module) : Module := (m.coldNow 7 .oscillators).alert K.glbAlert_OSC_BOTH

/-- FAIL_ACTION 1: a cold reset without notice follows (R383). -/
def Module.failAction (m : Module) : Module :=
  if m.isOn K.clkCtrl_FAIL_ACTION then m.requestReset { kind := .cold, cause := 7, notice := false } else m

/-- A failed domain is noted, and NMI_N asserted. -/
def Module.noteClock (m : Module) (d dies : Nat) (nmi : Bool) : Module :=
  let was := m.getF (K.clkDomStat_FAIL_DIES d)
  let m := (m.setBit K.clkStatus_FAILED d true).setF (K.clkDomStat_FAIL_DIES d) (was ||| dies)
  if nmi then m.setF K.clkStatus_NMI 1 else m

/-- Domains move to their backups; with the internal oscillator lost there is none to move to (R384). -/
def Module.toBackup (m : Module) (ds : List Nat) : Module :=
  let m := if m.clockFailed 6 then m else m.each (ds.filter (fun d => m.domSource d ≠ 4)) (fun m d => m.ramp d 1)
  m.showHoldover

/-- Has the crystal failed, before its qualification too? -/
def Module.xtalFailed (m : Module) : Bool := m.clockFailed 7 || m.clock.xtalDown

/-- A clock failure of a domain on some dies. Before the crystal is qualified its failure only restarts the qualification
(R396), unless the internal oscillator has failed too (R384). -/
def Module.clockFail (m : Module) (d dies : Nat) : Module :=
  let detail := dies * 16 + d
  match d with
  | 5 => (m.noteClock 5 dies false).raise .clk_CLOCK_FAIL 0 detail
  | 6 =>
    let m := ((m.noteClock 6 dies true).raise .clk_IOSC_LOST 0).setF (K.clkDomStat_SOURCE 5) 3
    if m.xtalFailed then m.bothOscillators else m
  | 7 =>
    if !m.isOn K.clkStatus_XTAL_OK then
      let m := m.requalify
      let m := { m with clock := { m.clock with xtalDown := true } }
      if m.clockFailed 6 then m.bothOscillators else m
    else
      let m := (m.noteClock 7 dies true).setF K.clkStatus_XTAL_OK 0
      let m := ((m.raise .clk_CLOCK_FAIL 0 detail).raise .clk_XTAL_LOST 0).toBackup ((List.range 5).filter (fun d => m.domSource d == 0))
      if m.clockFailed 6 then m.bothOscillators else m.loseLock.failAction
  | d =>
    let m := ((m.noteClock d dies true).raise .clk_CLOCK_FAIL 0 detail).toBackup [d]
    (if d = 0 ∨ d = 1 ∨ d = 4 then m.loseLock else m).failAction

/-- One monitor window of 10 µs (R379): a deviation of more than 2 % is a failure. A stopped domain is not judged, and in a reset
the monitors go on. -/
def Module.monitorWindow (m : Module) (d dies : Nat) (dev : BitVec 16) : Module :=
  if m.startStep < 2 ∨ m.domSource d = 4 then m
  else
    let m := m.setF (K.clkDomStat_DEV d) dev.toNat
    if 200 < dev.toInt.natAbs ∧ dies ≠ 0 then m.clockFail d dies else m

/-- NMI_N is released when software has cleared every set bit among CLOCK_FAIL, XTAL_LOST and IOSC_LOST (R380). -/
def Module.releaseNmi (m : Module) : Module :=
  if m.isOn K.clkEvt_CLOCK_FAIL || m.isOn K.clkEvt_XTAL_LOST || m.isOn K.clkEvt_IOSC_LOST then m
  else m.setF K.clkStatus_NMI 0

end Sys2Proof.Machine
end

