-- ==== Sys2Proof/Machine/ImageCheck.lean ====
section
/-! DEFINITION. The checks of nuwellan that an image or a live patch must meet: what a module does with one that fails them
is not defined (spec/00_scope.md R13). Each definition names the rule that states its check. -/

namespace Sys2Proof.Machine

/-- Is every number of a list in a range? -/
def within (least most n : Nat) : Bool := decide (least ≤ n) && decide (n ≤ most)

/-- Do no two of a list's items meet? -/
def apart {α : Type} (meets : α → α → Bool) : List α → Bool
  | [] => true
  | x :: rest => !rest.any (meets x) && apart meets rest

/-- The logical ports that an image's splits make (R10). -/
def Identity.hasLport (d : Identity) (l : Nat) : Bool :=
  decide (l < 2048) && decide (l % 4 < Tbl.get d.splits 1 (l / 4))

/-- Lanes of a logical port. -/
def Identity.lanes (d : Identity) (l : Nat) : Nat := 4 / Tbl.get d.splits 1 (l / 4)

/-- Identity: a location other than 0, and splits of 1, 2 or 4 (R10, R141). -/
def Identity.sound (d : Identity) : Bool :=
  d.loc != 0 && d.splits.all (fun x => decide (x.1 < 512) && [1, 2, 4].contains x.2)
    && d.cabling.all (fun x => d.hasLport x.1)

/-! ### Structural sections -/

/-- Queue layout and regions (R171, R172, R176, R179, R331, R421). -/
def QueueLayout.sound (q : QueueLayout) : Bool :=
  q.credits.length == 8 && decide (q.credits.sum ≤ 8192) && q.credits.getD 7 0 == 0
    && within 0 14 q.oqMin && decide (q.oqMin ≤ q.oqMax) && decide (q.oqMax ≤ 0xFFFF)
    && within 1 4096 q.tollWindow && within 0 64 q.carafeGib && decide (q.poolGib ≤ q.carafeGib) && decide (q.carafeBw ≤ 0xFFFF)
    && within 0 192 q.retentionGib && within 0 128 q.stageGib && within 0 32 q.deepGib && within 0 4096 q.recipeMib
    && decide (1024 * (q.carafeGib + q.retentionGib + q.stageGib + q.deepGib) + 2 * q.recipeMib ≤ 256 * 1024)
    && !(q.stagePool && q.poolGib == 0)

/-- A layout whose matched bytes lie within it and within byte 127 (R144; notes/assumptions/133.md). -/
def Layout.sound (l : Layout) : Bool :=
  decide (l.xlen < 256) && decide (l.ftype < 16) && l.fields.all (fun f => decide (24 + f.1 ≤ 127) && decide (f.1 < 8 * l.xlen))

/-- Does an instruction read a register? -/
def RInstr.reads (i : RInstr) (r : Nat) : Bool :=
  ((within 1 0x0C i.opc || [0x10, 0x13, 0x15].contains i.opc) && i.a == r)
    || ([2, 3, 4, 5, 6, 7, 11].contains i.opc && !i.bk && i.b == r)
    || ([5, 11].contains i.opc && i.d == r)

/-- An instruction of all stages or of one of the special ones, its immediate in range (R283, R284, R287, R288). Reserved opcodes
execute as NOP. -/
def RInstr.sound (special : List Nat) (i : RInstr) : Bool :=
  (!within 0x10 0x15 i.opc || special.contains i.opc)
    && (match i.opc with
      | 0x0C => isFmt (i.imm % 32)
      | 0x12 => decide (-64 ≤ i.simm) && decide (i.simm ≤ 64)
      | 0x13 => i.imm % 4 != 3
      | 0x14 => decide (i.imm < 4)
      | _ => true)

/-- A CLIPX bound is not finite, or a multiple of the accumulator's unit below 2^128 in magnitude (R288). -/
def clipBound (v : Val) : Bool :=
  match v with
  | .fin _ n q => decide (-149 - (trailing n.log2.succ n : Int) ≤ q) && decide ((n.log2 : Int) + q < 128)
  | _ => true

/-- A recipe that nuwellan does not refuse (R288, R290). -/
def Recipe.sound (r : Recipe) : Bool :=
  let pre := r.pre.map RInstr.decode
  let post := r.post.map RInstr.decode
  let comb := r.comb.map RInstr.decode
  let opcs (p : List RInstr) : List Nat := p.map (·.opc)
  let before := (opcs post).takeWhile (· ≠ 0x12)
  let after := (opcs post).drop (before.length + 1)
  within 1 16 pre.length && within 1 16 post.length && decide (comb.length ≤ 16) && r.consts.length == 16
    && pre.all (RInstr.sound [0x10]) && post.all (RInstr.sound [0x11, 0x12, 0x13, 0x14]) && comb.all (RInstr.sound [0x15])
    && (opcs pre).getLast? == some 0x10 && !(opcs pre).dropLast.contains 0x10
    && (opcs post).contains 0x12 && !after.contains 0x12 && !after.contains 0x11 && !after.contains 0x14
    && !before.contains 0x13 && decide ((after.filter (· == 0x13)).length ≤ 1)
    && (comb.isEmpty || (opcs comb).getLast? == some 0x15)
    && (pre ++ post).all (fun i => !i.reads 5)
    && post.all (fun i => i.opc != 0x11 || (clipBound (r.const i.c) && (i.c == 15 || (clipBound (r.const (i.c + 1))
      && ((r.const i.c).isNan || (r.const (i.c + 1)).isNan || !(r.const (i.c + 1)).lt (r.const i.c))))))

/-- The recipe section: up to 256 records at indices of the image's own, each with its digest and with a table that lies in the
recipe region (R280, R290, R332). -/
def recipesSound (ws : List (BitVec 2816)) (region : List (BitVec 64)) : Bool :=
  decide (ws.length ≤ 256) && apart (fun x y => (RecipeHeader.decode x).index == (RecipeHeader.decode y).index) ws
    && ws.all (fun w =>
      let h := RecipeHeader.decode w
      within 16 4095 h.index && (Recipe.decode region w).sound && h.digest == recordDigest region w
        && (!h.ranked || decide (512 * h.offset + h.entries ≤ region.length)))

/-- Do two windows of one port overlap (R363)? -/
def SchedWindow.meets (x y : SchedWindow) : Bool :=
  x.lport == y.lport && decide (x.start < y.start + y.len) && decide (y.start < x.start + x.len)

/-- The least LEN of a window for a port's largest SLOT frame (R363). -/
def leastLen (lanes blocks : Nat) : Nat := (2304 * (blocks + lanes) + 1000 * lanes - 1) / (1000 * lanes)

/-- The schedule (R361, R363). -/
def Schedule.sound (sc : Schedule) (d : Identity) : Bool :=
  let ws := sc.windows.map (fun w => w.2.2)
  within 1 0xFFFF sc.period && decide (sc.startOffset ≤ 0xFFFF) && within 1 100 sc.syncWait
    && sc.windows.all (fun w => decide (w.1 < 8) && decide (w.2.1 < 4096) && d.hasLport w.2.2.lport && sectorOf w.2.2.lport == w.1
      && decide (w.2.2.start + w.2.2.len ≤ 36 * sc.period) && decide (w.2.2.len ≤ 0xFFFF)
      && decide (leastLen (d.lanes w.2.2.lport) (Tbl.get sc.slotBlocks 0 w.2.2.lport) ≤ w.2.2.len))
    && apart (fun x y => x.1 == y.1 && x.2.1 == y.2.1) sc.windows && apart SchedWindow.meets ws
    && sc.bindings.all (fun b => decide (b.engine < 16) && within 1 2 b.windows.length && b.windows.all (· < 4))
    && (List.range 16).all (fun e => decide (((sc.bindings.filter (fun b => b.engine == e)).flatMap (·.windows)).length ≤ 4))

/-- Management: up to 32 requesters and two host ports (R409, R429). -/
def Management.sound (g : Management) : Bool :=
  decide (g.requesters.length ≤ 32) && g.requesters.all (fun r => decide (r.2 < 64)) && g.hostPorts.all (· < 2048)

/-! ### Live sections -/

/-- Route, set and member entries (R147, R148, R162). -/
def routeSound (d : Identity) (x : FwdTable × Nat × BitVec 64) : Bool :=
  let n := x.2.2.toNat
  match x.1 with
  | .route => decide (x.2.1 < 16384) && (!bitOf n 28 || (decide (bitsOf n 31 29 < 7) && d.hasLport (bitsOf n 22 12)))
  | .set => decide (x.2.1 < 4096) && within 1 64 (bitsOf n 6 0)
  | .member => decide (x.2.1 < 65536) && (n == 0 || (within 1 255 (bitsOf n 31 24) && d.hasLport (bitsOf n 21 11)))

/-- The group tables that a list of entries makes. -/
def groupTablesOf (es : List (Bool × Nat × BitVec 256)) : GroupTables :=
  es.foldl (fun t e => t.write e.1 e.2.1 e.2.2) ⟨[], []⟩

/-- The ranks of an entry. -/
def MemberEntry.meets (x y : MemberEntry) : Bool :=
  let n (e : MemberEntry) : Nat := if e.child then e.below else 1
  x.lport == y.lport || (decide (x.rank < y.rank + n y) && decide (y.rank < x.rank + n x))

/-- One definition with its entries (R213, R215). -/
def groupSound (d : Identity) (t : GroupTables) (g : GroupDef) : Bool :=
  let es := t.entries g
  let children := es.filter (·.child)
  decide (g.nLocal ≤ 2048) && decide (g.nChild ≤ 512) && decide (1 ≤ g.total)
    && g.below == g.nLocal + (children.map (·.below)).sum && (!g.root || g.below == g.total)
    && apart MemberEntry.meets es && es.all (fun e => d.hasLport e.lport) && (g.root || d.hasLport g.parent)

/-- The group section (R215), with what an image and the patches before hold already. -/
def groupsSound (d : Identity) (before es : List (Bool × Nat × BitVec 256)) : Bool :=
  let t := groupTablesOf (before ++ es)
  let defs := (t.defs.map (fun x => GroupDef.decode x.2)).filter (·.valid)
  es.all (fun e => decide (e.2.1 < if e.1 then 262144 else 65536)) && defs.all (groupSound d t)
    && apart (fun x y => x.groupId == y.groupId) defs

/-- The shaper section (R198, R199, R205). -/
def ShaperSection.sound (d : Identity) (sh : ShaperSection) : Bool :=
  sh.rates.all (fun r => d.hasLport r.1 && decide (r.2.1 < 8) && decide (r.2.2.1 ≤ 800000) && within 9 1024 r.2.2.2)
    && sh.ovh.all (fun o => decide (o.1 < 512) && decide (-32 ≤ o.2) && decide (o.2 ≤ 63))
    && sh.weights.all (fun w => decide (w.1 < 8) && w.2.length == 7 && (w.2.take 6).all (within 1 255) && decide (w.2.getD 6 0 ≤ 255))
    && sh.quantum.all (fun q => decide (q.1 < 8) && within 1 255 q.2)

/-- The live sections of an image, or a live patch over the group entries that stand before it (R13, R420). -/
def LiveSections.sound (d : Identity) (before : List (Bool × Nat × BitVec 256)) (l : LiveSections) : Bool :=
  l.route.all (routeSound d) && groupsSound d before l.groups && l.shapers.sound d

/-! ### The image -/

/-- The logical port of a lane of a port. -/
def Identity.lportAt (d : Identity) (port lane : Nat) : Nat := 4 * port + lane / d.lanes (4 * port)

/-- In TIMETABLE the schedule is sound, every group is bound, to its bound engine alone (R363), and no circuit uses a lane on which the schedule places a window (R421). -/
def Image.timetableSound (i : Image) (d : Identity) (sc : Schedule) : Bool :=
  let t := groupTablesOf i.live.groups
  t.defs.all (fun x =>
    let g := GroupDef.decode x.2
    !g.valid || (match sc.bindings.find? (fun b => b.group == x.1) with
      | some b => g.rdeMask == 2 ^ b.engine
      | none => false))
    && sc.sound d && (sc.master || !bitOf i.prio.toNat 0)
    && i.live.circuits.all (fun c => sc.windows.all (fun w =>
      let at_ (port : Nat) : Nat := d.lportAt port (c.slot.val % 4)
      w.2.2.lport != at_ c.inPort.val && w.2.2.lport != at_ c.outPort.val))

/-- Do the rank tables fit where they are held (R291): in the recipe region, or in the engines' store? -/
def Image.tablesFit (i : Image) (onDie : Bool) : Bool :=
  if onDie then
    decide ((i.recipes.map (fun w => ((RecipeHeader.decode w).table i.rankRegion).getD [])).flatten.length ≤ 8192)
  else decide (i.rankRegion.length ≤ i.layout.recipeMib * 131072)

/-- Does nuwellan let an image pass, with its identity section and its profile? `hbm` says whether the member has HBM. A schedule is
checked in TIMETABLE alone (R363). -/
def Image.sound (i : Image) (d : Identity) (profile : Nat) (hbm : Bool) : Bool :=
  d.sound && decide (profile ≤ 2) && i.layout.sound && i.graph.all Layout.sound
    && recipesSound i.recipes i.rankRegion && i.tablesFit (profile == 2 || !hbm)
    && i.praEnable.all (· < 4) && within 1000 2600 i.powerCap && i.mgmt.sound && i.live.sound d []
    && (profile != 2 || (match i.schedule with
      | some sc => i.timetableSound d sc
      | none => false))

end Sys2Proof.Machine
end

