-- ==== Sys2Proof/Machine/Loader.lean ====
section
/-! DEFINITION. What the sections of a structure image and of a live patch set
(spec/15_management_and_structure_image.md R418 to R423; spec/03_flyover_circuits.md R94, R96). -/

namespace Sys2Proof.Machine

/-! ### Live sections (R418, R420) -/

/-- The weights of VC0 to VC6 of a sector (R205, R211). -/
def Module.setWeights (m : Module) (s : Nat) (w : List Nat) : Module :=
  m.each ([K.tmVcw0_VC0 s, K.tmVcw0_VC1 s, K.tmVcw0_VC2 s, K.tmVcw0_VC3 s, K.tmVcw1_VC4 s, K.tmVcw1_VC5 s,
    K.tmVcw1_VC6 s].zip w) (fun m kw => m.setF kw.1 kw.2)

/-- Write OVH of a port (R199). -/
def Module.setOvh (m : Module) (port : Nat) (v : Int) : Module :=
  m.setF (K.tmOvh_OVH (port / 64) (port % 64)) (BitVec.ofInt 7 v).toNat

/-- A shaper section, for the sectors that `p` names: rates and bursts wait for the next refill (R202). -/
def Module.applyShapers (m : Module) (sh : ShaperSection) (p : Nat → Bool) : Module :=
  let m := m.each (sh.rates.filter (fun r => p (sectorOf r.1))) (fun m r =>
    m.askShaper r.1 r.2.1 (some r.2.2.1) (some r.2.2.2) false)
  let m := m.each (sh.ovh.filter (fun o => p (o.1 / 64))) (fun m o => m.setOvh o.1 o.2)
  let m := m.each (sh.weights.filter (fun w => p w.1)) (fun m w => m.setWeights w.1 w.2)
  m.each (sh.quantum.filter (fun q => p q.1)) (fun m q => m.setF (K.tmCtrl_QUANTUM q.1) q.2)

/-- A patch's sections are applied (R420): route and group shadows with, where SWITCH is 1, one version switch; then shapers;
then circuit commands, queued in entry order. -/
def Module.applyLive (m : Module) (l : LiveSections) (switch : Bool) : Module :=
  let m := m.each l.route (fun m e => m.writeRoute e.1 e.2.1 e.2.2)
  let m := match l.seed with
    | some s => { m with fwd := { m.fwd with nextSeed := some s } }
    | none => m
  let m := m.each l.groups (fun m e => m.writeGroup e.1 e.2.1 e.2.2)
  let m := if switch then m.switchTables else m
  let m := m.applyShapers l.shapers (fun _ => true)
  m.each l.circuits (fun m c => m.flyQueue { c with origin := .image false })

/-! ### The image -/

/-- Identity (R418), at step 4. -/
def Module.loadIdentity (m : Module) (d : Identity) : Module :=
  let m := m.setAll 8 K.fwdLoc_LOC d.loc.toNat
  { m with link := { m.link with cabling := d.cabling, splits := d.splits }, img := { m.img with identity := some d } }

/-- The tables of route entries. -/
def routeTablesOf (es : List (FwdTable × Nat × BitVec 64)) : RouteTables :=
  es.foldl (fun t e => t.write e.1 e.2.1 e.2.2) ⟨[], [], []⟩

/-- Load the tables into both versions; every group definition is in standby (R463). -/
def Module.loadTables (m : Module) (l : LiveSections) : Module :=
  let routes := routeTablesOf l.route
  let groups := groupTablesOf l.groups
  let m := { m with
    fwd := { m.fwd with active := routes, shadow := routes }
    col := { m.col with active := groups, shadow := groups, live := [], written := [], windows := [] } }
  match l.seed with
  | some s => (m.setAll 8 K.fwdSeedLo_SEED (s.toNat % 2 ^ 32)).setAll 8 K.fwdSeedHi_SEED (s.toNat / 2 ^ 32)
  | none => m

/-- The fields of a sector that the structural sections set. -/
def Module.loadSector (m : Module) (i : Image) (s : Nat) : Module :=
  let q := i.layout
  let m := (m.setF (K.bufPlim_OQ_MIN s) q.oqMin).setF (K.bufPlim_OQ_MAX s) q.oqMax
  let m := (m.setF (K.bufToll_WINDOW s) q.tollWindow).setF (K.bufCarafeCfg_SIZE_GIB s) q.carafeGib
  let m := (m.setF (K.bufCarafeCfg_POOL_GIB s) q.poolGib).setF (K.bufCarafeCfg_BW s) q.carafeBw
  match i.schedule with
  | some sc =>
    if m.timetable then
      let m := (m.setB (K.tmSchedCfg_MASTER s) sc.master).setF (K.tmSchedCfg_SYNC_WAIT s) sc.syncWait
      (m.setF (K.tmSchedCfg_PERIOD s) sc.period).setF (K.tmSchedOfs_START_OFFSET s) sc.startOffset
    else m
  | none => m

/-- Queue layout and HBM regions (R171, R331). -/
def Module.loadLayout (m : Module) (q : QueueLayout) : Module :=
  { m with
    buf := { m.buf with credits := q.credits }
    hbm := { m.hbm with
      sizes := [(0, 1024 * q.carafeGib), (1, 1024 * q.retentionGib), (2, 1024 * q.stageGib), (3, 1024 * q.deepGib), (4, q.recipeMib)]
      stagePool := q.stagePool } }

/-- The circuits that the island holds. -/
def Module.heldNow (m : Module) : List Nat := if m.isOn K.flyStatus_IN_HOLD then m.slotsInUse.filter m.slotHold else []

/-- Does a schedule window use a lane of a held circuit? -/
def Module.windowHeld (m : Module) (w : SchedWindow) : Bool :=
  m.heldNow.any (fun t => [laneOf (m.slotIn t) (t % 4), laneOf (m.slotOut t) (t % 4)].any (fun l => m.lportOfLane l == w.lport))

/-- The schedule, in TIMETABLE: windows that use a held lane are left empty (R96), and the lock is armed. -/
def Module.loadSchedule (m : Module) (sc : Option Schedule) : Module :=
  match sc with
  | some sc =>
    if m.timetable then
      let ws := sc.windows.map (fun w => (w.1, w.2.1, { w.2.2 with idle := m.windowHeld w.2.2 }))
      let m := { m with lock := { m.lock with windows := ws, bindings := sc.bindings } }
      let m := m.each (ws.filter (fun w => w.2.2.idle)) (fun m _ => m.conflict 4 false)
      m.setLock 1
    else m
  | none => m

/-- The recipes of an image (R280, R290), and in each sector with HBM the two copies of its recipe region, on different stacks
(R291, R331). -/
def Module.loadRecipes (m : Module) (i : Image) : Module :=
  let m := { m with
    rde := { m.rde with recipes := i.recipes.map (fun w => ((RecipeHeader.decode w).index, Recipe.decode i.rankRegion w)) }
    hbm := { m.hbm with lostUnits := [] } }
  let units := (i.rankRegion.length + 511) / 512
  m.each ((List.range 8).filter m.hasHbm) (fun m s => m.each (List.range units) (fun m u => m.copyUnit s u))

/-- Management (R409, R410). -/
def Module.loadManagement (m : Module) (g : Management) : Module :=
  let m := { m with
    mpc := { m.mpc with requesters := (List.range g.requesters.length).zip g.requesters, group := g.group }
    link := { m.link with hostPorts := g.hostPorts } }
  m.setB K.mpcStatus_BRIDGE (!g.hostPorts.isEmpty)

/-- The engines take the held circuits back from the island (R94). -/
def Module.holdExit (m : Module) : Module :=
  if m.isOn K.flyStatus_IN_HOLD then
    let m := m.each (m.slotsInUse.filter (fun s => m.slotState s == 4)) (fun m s => m.setSlot s 2)
    let m := { m with lpe := { m.lpe with rings := m.lpe.rings.map (fun (x : (Nat × Nat) × Ring) => (x.1, { x.2 with held := false })) } }
    (m.setF K.flyStatus_IN_HOLD 0).raise .fly_HOLD_EXIT 0
  else m

/-- Does an image's circuit entry name a held slot or lane differently (R96)? -/
def Module.entryHeld (m : Module) (c : FlyCmd) : Bool :=
  m.heldNow.any (fun t =>
    let same := m.slotIn t == c.inPort.val && m.slotOut t == c.outPort.val
    if t = c.slot.val then !same else t % 4 == c.slot.val % 4 && (m.slotIn t == c.inPort.val || m.slotOut t == c.outPort.val))

/-- The circuit section: held circuits take precedence (R96). -/
def Module.loadCircuits (m : Module) (cs : List FlyCmd) : Module :=
  m.each cs (fun m c => if m.entryHeld c then m.conflict 4 false else m.flyQueue { c with origin := .image true })

/-- The arrays that the image enables are calibrated in THROUGHPUT, a tripped one excepted (R302, R313, R317); one that the
governor does not yet admit begins later, with PRA_CALIBRATION (R321). -/
def Module.loadPra (m : Module) (arrays : List Nat) : Module :=
  m.each arrays (fun m a =>
    let m := m.modPra a (fun p => { p with enabled := true })
    if m.praAllowed a && m.praState a == 0 && m.mayCalibrate a then m.calibrate a else m)

/-- The conflicts over SYNC_IN and over the profile (R35, R367, R422). -/
def Module.loadConflicts (m : Module) (i : Image) (named : Nat) : Module :=
  let m := if m.power.strapProfile != 0 && named != 1 then m.conflictOnce 3 false else m
  if i.pulseSync then
    let m := m.setF K.timCtrl_PULSE_SRC 1
    if m.timetable then m.conflictOnce 0 false else m
  else m

/-- The profile in force for an image that names `named` (R35). -/
def Module.profileFor (m : Module) (named : Nat) : Nat := if m.power.strapProfile = 0 then named else 1

/-- Every section but identity is loaded (R416, R418); `sections` is the header's count of them, `named` its PROFILE. -/
def Module.loadImage (m : Module) (i : Image) (d : Identity) (named sections : Nat) : Module :=
  let m := m.setAll 8 K.fwdCtrl_PROFILE (m.profileFor named)
  let m := (m.loadTables i.live).loadLayout i.layout
  let m := ({ m with fwd := { m.fwd with graph := i.graph } }).loadRecipes i
  let m := (m.setF K.pwrCtrl_CAP_W i.powerCap).setF K.imgPrio_WINNER i.prio.toNat
  let m := (m.loadManagement i.mgmt).each (List.range 8) (fun m s => m.loadSector i s)
  let m := (m.applyShapers i.live.shapers (fun _ => true)).loadConflicts i named
  let m := ((m.loadSchedule i.schedule).loadCircuits i.live.circuits).holdExit
  let m := m.loadPra i.praEnable
  let m := { m with img := { m.img with running := some i, identity := some d, liveApplied := [] } }
  let m := ((m.setF K.imgStatus_LOADED 1).setF K.imgStatus_SECTIONS sections).setF K.imgPatchSeq_SEQ 0
  m.raise .img_IMG_LOADED 0

end Sys2Proof.Machine
end

