-- ==== Sys2Proof/Machine/RegView.lean ====
section
/-! DEFINITION. What the registers show of the module's state: fields that are views of it, each computed as its rule says
(R77 to R79, R103, R135, R136, R193 to R197, R212, R245 to R250, R298 to R301, R325 to R328, R344 to R348, R371, R372, R401,
R402, R430, R432, R447, R486 to R489, R513, R528). A field with no view here holds what the module last put there. -/

namespace Sys2Proof.Machine

/-- A count that saturates at a field's width. -/
def sat (bits n : Nat) : Nat := min n (2 ^ bits - 1)

/-- Whole MiB that chunks of 4 KiB take, rounded up. -/
def chunksMib (n : Nat) : Nat := (n + 255) / 256

/-- The logical port that starts at a lane of a block, where one does (R131). -/
def Module.lportAt (m : Module) (b l : Nat) : Option Nat :=
  let lport := m.lportOfLane (32 * b + l)
  if m.isLport lport && m.linkIx lport == l then some lport else none

/-- The queue that BUF_Q_SEL or TM_Q_SEL selects in a sector: port, logical port and VC. -/
def selQueue (s port q vc : Nat) : Nat × Nat := (4 * (64 * s + port) + q, vc)

/-- The ring that LPE_RING_SEL selects. -/
def Module.selRing (m : Module) (e : Nat) : Ring := m.ring e (m.getF (K.lpeRingSel_RING e))

/-- LPE_RING_STAT and LPE_RING_HTR (R79). -/
def Module.lpeView (m : Module) (k : FKey) : Option Nat :=
  let r := m.selRing k.i
  match k.reg, k.lo with
  | .lpeRingStat, 16 => some (sat 8 r.relocks)
  | .lpeRingStat, 8 => some (ringTone (m.getF (K.lpeRingSel_RING k.i)))
  | .lpeRingStat, 5 => some (flag r.held)
  | .lpeRingStat, 4 => some (flag r.failed)
  | .lpeRingStat, 3 => some (flag r.locked)
  | .lpeRingStat, 2 => some (flag r.spare)
  | .lpeRingStat, 0 => some (r.lambda % 4)
  | .lpeRingHtr, 16 => some r.assigned.toNat
  | .lpeRingHtr, 0 => some r.heater.toNat
  | _, _ => none

/-- FLY_STATUS (R103). -/
def Module.flyView (m : Module) (k : FKey) : Option Nat :=
  match k.reg, k.lo with
  | .flyStatus, 16 => some (m.slotsInUse.filter m.slotHold).length
  | .flyStatus, 9 => some (sat 6 m.fly.queue.length)
  | .flyStatus, 0 => some m.slotsInUse.length
  | _, _ => none

/-- LNK_LINKl_RETRY and LNK_CRED_STAT (R135, R136). -/
def Module.lnkView (m : Module) (k : FKey) : Option Nat :=
  let of (l : Nat) (f : Link → Nat) : Option Nat := some (((m.lportAt k.i l).map (fun p => f (m.lnk p))).getD 0)
  let vc := m.getF (K.lnkCredSel_VC k.i)
  match k.reg, k.lo with
  | .lnkLinkRetry, 16 => of k.j (fun l => sat 16 l.retry.length)
  | .lnkLinkRetry, 0 => of k.j (fun l => l.nextLseq.toNat)
  | .lnkCredStat, 16 => of (m.getF (K.lnkCredSel_LINK k.i)) (fun l => sat 16 (vcGet l.held vc))
  | .lnkCredStat, 0 => of (m.getF (K.lnkCredSel_LINK k.i)) (fun l => sat 16 (vcGet l.granted vc))
  | _, _ => none

/-- The queue that BUF_Q_SEL selects. -/
def Module.bufSel (m : Module) (s : Nat) : Nat × Nat :=
  selQueue s (m.getF (K.bufQSel_PORT s)) (m.getF (K.bufQSel_Q s)) (m.getF (K.bufQSel_VC s))

/-- The BUF block's views (R193 to R197). -/
def Module.bufView (m : Module) (k : FKey) : Option Nat :=
  let s := k.i
  let at_ := m.bufSel s
  let q := m.q at_.1 at_.2
  match k.reg, k.lo with
  | .bufStatus, 31 => some (flag (m.carafeOn s))
  | .bufReseqStat, 16 => some (m.buf.ctxs.filter (fun c => c.sector == s)).length
  | .bufReseqStat, 0 => some (m.buf.ctxs.filter (fun c => c.sector == s && c.deep)).length
  | .bufSramStat, 16 => some (if m.img.running.isSome then (m.sharedBytes s - m.sharedUsed s) / 65536 else 0)
  | .bufToll, 16 => some (sat 16 (m.buf.toll.filter (fun t => t.1.1 == s && decide (m.getF (K.bufToll_WINDOW s) ≤ t.2))).length)
  | .bufCarafeStat, 0 => some (chunksMib (m.regionUsed s 0))
  | .bufQSram, 0 => some (bytesOf q.sram + bytesOf (m.heldOnDie at_.1 at_.2))
  | .bufQCarafe, 0 => some q.carafe.length
  | .bufQFrames, 0 =>
    some (q.sram.length + (q.carafe.map (fun c => c.frames.length)).sum + (m.heldFor at_.1 at_.2).length)
  | _, _ => none

/-- The queue that TM_Q_SEL selects. -/
def Module.tmSel (m : Module) (s : Nat) : Nat × Nat :=
  selQueue s (m.getF (K.tmQSel_PORT s)) (m.getF (K.tmQSel_Q s)) (m.getF (K.tmQSel_VC s))

/-- The window that TM_SCHED_SEL selects. -/
def Module.selWindow (m : Module) (s : Nat) : Option SchedWindow :=
  (m.lock.windows.find? (fun w => w.1 == s && w.2.1 == m.getF (K.tmSchedSel_ENTRY s))).map (fun w => w.2.2)

/-- The TM block's views (R212, R371, R372). -/
def Module.tmView (m : Module) (k : FKey) : Option Nat :=
  let at_ := m.tmSel k.i
  let sh := (m.q at_.1 at_.2).shaper
  let now := sh.pending.getD (sh.rate, sh.burst)
  match k.reg, k.lo with
  | .tmQRate, 0 => some now.1
  | .tmQBurst, 0 => some now.2
  -- a credit below 0 shows as its 32-bit two's complement, rounded down (notes/assumptions/175.md)
  | .tmQCredit, 0 => some ((BitVec.ofInt 32 (sh.credit / creditPerByte)).toNat)
  | .tmQStat, 31 => some (flag sh.pending.isSome)
  | .tmQStat, 30 => some (flag sh.wheel.isSome)
  | .tmQStat, 29 => some (flag ((m.headLen at_.1 at_.2).isSome && m.shaperOk at_.1 at_.2))
  | .tmQStat, 0 => some ((sh.wheel.map (fun w => w.2.2)).getD 0)
  | .tmQNext, 0 => some ((sh.wheel.map (fun w => w.1)).getD 0)
  | .tmSchedCntLo, 0 => some (m.lock.periods.toNat % 2 ^ 32)
  | .tmSchedCntHi, 0 => some (m.lock.periods.toNat / 2 ^ 32)
  | .tmSchedWin0, 31 => some (flag (m.selWindow k.i).isSome)
  | .tmSchedWin0, 23 => some (((m.selWindow k.i).map (fun w => w.lport % 256)).getD 0)
  | .tmSchedWin0, 0 => some (((m.selWindow k.i).map (·.start)).getD 0)
  | .tmSchedWin1, 0 => some (((m.selWindow k.i).map (·.len)).getD 0)
  | _, _ => none

/-- The operation that COL_OP_SEL selects, where the sector is its home. -/
def Module.selOp (m : Module) (s : Nat) : Option Op :=
  match m.op (m.getF (K.colOpSel_SLOT s)) with
  | some op => if op.home = s then some op else none
  | none => none

/-- Does a planned reset drain a sector (R242)? -/
def Module.sectorDrains (m : Module) (s : Nat) : Bool :=
  match m.power.request with
  | some r =>
    r.notice && (match r.kind with
      | .sector t => t == s
      | _ => true)
  | none => false

/-- The entry that COL_LOG_SEL selects. -/
def Module.selLog (m : Module) (s : Nat) : Option (Bool × Nat) :=
  match Tbl.find m.col.logs s with
  | some l => l.ranks[m.getF (K.colLogSel_ENTRY s)]?
  | none => none

/-- The COL block's views (R245 to R250). -/
def Module.colView (m : Module) (k : FKey) : Option Nat :=
  let s := k.i
  let of (f : Op → Nat) : Option Nat := some (((m.selOp s).map f).getD 0)
  match k.reg, k.lo with
  | .colStatus, 31 => some (flag m.sec.state.fenced)
  | .colStatus, 30 => some (flag (m.sectorDrains s))
  | .colStatus, 16 => some (m.col.ops.filter (fun x => x.2.home == s)).length
  | .colStatus, 0 => some (sat 16 ((m.regionBytes s 1 - 4096 * m.regionUsed s 1) / 2 ^ 26))
  | .colOpId, 16 => of (·.op)
  | .colOpId, 0 => of (·.defIdx)
  | .colOpStat, 31 => of (fun _ => 1)
  | .colOpStat, 28 => of (·.state)
  | .colOpStat, 0 => of (·.segDone)
  | .colOpAck, 0 => of Op.ackSum
  | .colLogHdr, 16 => some (((Tbl.find m.col.logs s).map (·.op)).getD 0)
  | .colLogHdr, 0 => some (((Tbl.find m.col.logs s).map (·.defIdx)).getD 0)
  | .colLogData, 31 => some (flag (m.selLog s).isSome)
  | .colLogData, 30 => some (((m.selLog s).map (fun x => flag x.1)).getD 0)
  | .colLogData, 0 => some (((m.selLog s).map (·.2)).getD 0)
  | _, _ => none

/-- The failure that RDE_FAIL_SEL selects. -/
def Module.selFail (m : Module) (e : Nat) : Option RdeFail := (Tbl.get m.rde.fails [] e)[m.getF (K.rdeFailSel_ENTRY e)]?

/-- The recipe that RDE_RCP_SEL selects. -/
def Module.selRecipe (m : Module) (e : Nat) : Option Recipe := m.recipe (m.getF (K.rdeRcpSel_INDEX e))

/-- The RDE block's views (R298, R300, R301). -/
def Module.rdeView (m : Module) (k : FKey) : Option Nat :=
  let e := k.i
  let fail (f : RdeFail → Nat) : Option Nat := some (((m.selFail e).map f).getD 0)
  let rcp (f : Recipe → Nat) : Option Nat := some (((m.selRecipe e).map f).getD 0)
  match k.reg, k.lo with
  | .rdeStatus, 8 => some (sat 8 (m.fails24 e))
  | .rdeStatus, 0 => some (sat 3 (m.windowsUsed e).length)
  | .rdeFailInfo, 31 => fail (fun _ => 1)
  | .rdeFailInfo, 24 => fail (fun f => f.temp % 128)
  | .rdeFailInfo, 19 => fail (·.inFmt)
  | .rdeFailInfo, 7 => fail (·.recipe)
  | .rdeFailDiff, 0 => fail (·.diff)
  | .rdeRcpInfo, 31 => rcp (fun _ => 1)
  | .rdeRcpInfo, 30 => rcp (fun r => flag r.side.isSome)
  | .rdeRcpInfo, 29 => rcp (fun r => flag r.table.isSome)
  | .rdeRcpInfo, 28 => rcp (fun r => flag (!r.comb.isEmpty))
  | .rdeRcpInfo, 27 => rcp (fun r => flag r.exact)
  | .rdeRcpInfo, 22 => rcp (fun r => programCost r.pre)
  | .rdeRcpInfo, 17 => rcp (fun r => programCost r.post)
  | .rdeRcpInfo, 12 => rcp (fun r => if r.comb.isEmpty then 0 else programCost r.comb)
  | .rdeRcpDigest, 0 => rcp (fun r => r.digest.toNat)
  | _, _ => none

/-- The PRA block's views (R325, R328). -/
def Module.praView (m : Module) (k : FKey) : Option Nat :=
  let a := k.i
  let p := m.praAt a
  let elem := Tbl.find p.captured (m.getF (K.praCapSel_ELEM a))
  match k.reg, k.lo with
  | .praStatus, 16 => some (natsWhere 64 (fun c => m.chanUp a c)).length
  | .praStatus, 10 => some (m.carriers a).length
  | .praStatus, 8 => some (sat 2 (p.viols.filter (fun t => decide (m.elapsed - t < perSec))).length)
  | .praCapErr, 16 => some (((elem.map (fun x => (BitVec.ofInt 16 x.1).toNat)).getD 0))
  | .praCapErr, 0 => some (((elem.map (fun x => (BitVec.ofInt 16 (max (-32768) (min 32767 x.2))).toNat)).getD 0))
  | .praHist, 0 => some (sat 32 (Tbl.get p.hist 0 (m.getF (K.praHistSel_BIN a))))
  | _, _ => none

/-- The channels of a stack in service, as the registers show them: those of a ready stack. -/
def Module.chansUp (m : Module) (k : Nat) : List Nat :=
  if m.stackReady k then natsWhere 32 (fun c => !(m.stack k).isOut c) else []

/-- The HBM block's views (R344 to R348). -/
def Module.hbmView (m : Module) (k : FKey) : Option Nat :=
  let h := m.stack k.i
  let ch := m.getF (K.hbmChSel_CH k.i)
  let s := k.i / 4
  let rgn := m.getF (K.hbmRgnSel_REGION k.i)
  match k.reg, k.lo with
  | .hbmStatus, 0 => some (m.chansUp k.i).length
  | .hbmChan, 0 => some (((m.chansUp k.i).map (2 ^ ·)).sum)
  | .hbmBw, 16 => some (sat 16 (m.bandwidth k.i false))
  | .hbmBw, 0 => some (sat 16 (m.bandwidth k.i true))
  | .hbmChInfo, 31 => some (flag ((h.mapped.map (·.1)).contains ch))
  | .hbmChInfo, 30 => some (flag (h.mapped.any (fun x => x.1 == ch && x.2.1)))
  | .hbmChInfo, 16 => some (sat 8 (m.ueHour k.i ch).length)
  | .hbmChInfo, 0 => some (sat 16 (Tbl.get h.ce 0 ch))
  | .hbmRgnSize, 0 => some (m.regionBytes s rgn / 2 ^ 20)
  | .hbmRgnUsed, 0 => some (chunksMib (m.regionUsed s rgn))
  | _, _ => none

/-- The TIM block's views (R401, R402). -/
def Module.timView (m : Module) (k : FKey) : Option Nat :=
  match k.reg, k.lo with
  | .timStatus, 28 => some (m.getF K.clkStatus_HOLDOVER)
  | .timNowLo, 0 => some (m.timeNow.toNat % 2 ^ 32)
  | .timNowHi, 0 => some (m.timeNow.toNat / 2 ^ 32)
  | .timAdjLo, 0 => some (m.slewNs.toNat % 2 ^ 32)
  | .timAdjHi, 0 => some (m.slewNs.toNat / 2 ^ 32)
  | _, _ => none

/-- The wait of the oldest of a priority's frames in `elapsed`: for priority 5, of the oldest sampled record, whose TIME is in
its top 64 bits (R481). -/
def Module.oldestWait (m : Module) (prio : Nat) : Nat :=
  if prio = 5 then
    match m.tel.samples with
    | (_, r) :: _ => (m.timeNow - r.extractLsb' 192 64).toNat * perNs
    | [] => 0
  else
    let waits := (m.mpc.queue.filter (fun r => classPriority r.cls == prio)).map (fun r => m.elapsed - r.arrived)
    let parts := (m.mpc.gather.filter (fun g => classPriority g.cls == prio)).map (fun g => m.elapsed - g.first)
    (waits ++ parts).foldl max 0

/-- The IMG and MPC blocks' views (R430, R432). -/
def Module.mpcView (m : Module) (k : FKey) : Option Nat :=
  let prio := m.getF K.mpcQSel_PRIO
  let req := Tbl.find m.mpc.requesters (m.getF K.mpcReqSel_ENTRY)
  match k.reg, k.lo with
  | .imgStatus, 26 => some (flag m.patching)
  | .mpcStatus, 0 => some (sat 13 (((List.range 5).map (fun p => m.queued p)).sum))
  | .mpcQStat, 16 => some (sat 16 (m.oldestWait prio / perUs))
  | .mpcQStat, 0 => some (sat 16 (if prio = 5 then m.tel.samples.length else m.queued prio))
  | .mpcHostPort, 31 => some (flag m.link.hostPorts[k.j]?.isSome)
  | .mpcHostPort, 0 => some (m.link.hostPorts.getD k.j 0)
  | .mpcHostLoc, 0 => some ((m.link.hostPorts[k.j]?.map (fun p => (m.peerLoc p).toNat)).getD 0)
  | .mpcReqLoc, 0 => some ((req.map (fun r => r.1.toNat)).getD 0)
  | .mpcReqPerm, 0 => some ((req.map (fun r => r.2)).getD 0)
  | .mpcSmb, 0 => some (0x40 + m.power.strapAddr.toNat)
  | _, _ => none

/-- Seconds of a permission that remain, rounded up: all of them while its duration has not begun (R440). -/
def Module.leftS (m : Module) : Nat :=
  match m.sec.rehearsal with
  | none => 0
  | some r => if m.sec.rehearsalEnd = 0 then r.seconds else (m.sec.rehearsalEnd - m.elapsed + perSec - 1) / perSec

/-- What the SEC block shows of the security state: its fields take their values at step 4 (R446). -/
def Module.shownState (m : Module) : SecState := if 4 ≤ m.startStep then m.sec.state else SecState.factory

/-- The SEC block's views (R447). -/
def Module.secView (m : Module) (k : FKey) : Option Nat :=
  let st := m.shownState
  match k.reg, k.lo with
  | .secId, 8 => some m.sec.svn.toNat
  | .secStatus, 31 => some (flag st.provisioned)
  | .secStatus, 30 => some (flag st.fenced)
  | .secStatus, 29 => some (flag st.expelled)
  | .secStatus, 28 => some (flag m.sec.rehearsal.isSome)
  | .secStatus, 26 => some ((m.sec.rehearsal.map (·.window)).getD 0)
  | .secStatus, 25 => some (flag m.sec.debug)
  | .secStatus, 24 => some (flag m.verifying)
  | .secStatus, 16 => some ((m.sec.rehearsal.map (fun r => r.kinds.toNat)).getD 0)
  | .secStatus, 0 => some (sat 12 m.leftS)
  | .secKeyset, 8 => some st.managers.length
  | .secKeyset, 0 => some st.k
  | .secKeysetVer, 0 => some st.ver.toNat
  | .secQseqLo, 0 => some (st.seq.toNat % 2 ^ 32)
  | .secQseqHi, 0 => some (st.seq.toNat / 2 ^ 32)
  | _, _ => none

/-- A grant that nothing has written. -/
def Grant.none : Grant := { loc := 0, valid := false, groupHi := 0, groupLo := 0, instHi := 0, instLo := 0 }

/-- The grant that TEL_GRANT_SEL selects. -/
def Module.selGrant (m : Module) : Grant := Tbl.get m.tel.grants Grant.none (m.getF K.telGrantSel_ENTRY)

/-- The counter that TEL_SEL selects. -/
def Module.selCounter (m : Module) : Nat := m.counter (m.getF K.telSel_EVENT) (m.getF K.telSel_INSTANCE)

/-- The TEL block's views (R486 to R489). -/
def Module.telView (m : Module) (k : FKey) : Option Nat :=
  let g := m.selGrant
  match k.reg, k.lo with
  | .telStatus, 31 => some (flag m.sampling)
  | .telStatus, 0 => some m.tel.samples.length
  | .telCntLo, 0 => some (m.selCounter % 2 ^ 32)
  | .telCntHi, 0 => some (m.selCounter / 2 ^ 32)
  | .telGrantLoc, 0 => some g.loc.toNat
  | .telGrantGrp, 31 => some (flag g.valid)
  | .telGrantGrp, 8 => some g.groupHi
  | .telGrantGrp, 0 => some g.groupLo
  | .telGrantInst, 16 => some g.instHi
  | .telGrantInst, 0 => some g.instLo
  | _, _ => none

/-- The next sequence number of the event log (R524): it holds its newest entry from the first on. -/
def Module.logNext (m : Module) : Nat :=
  match m.log.entries.getLast? with
  | some e => (e.1 + 1) % 2 ^ 32
  | none => 0

/-- The entry that GLB_LOG_SEL selects. -/
def Module.selEntry (m : Module) : Option (BitVec 128) :=
  (m.log.entries.find? (fun e => e.1 == m.getF K.glbLogSel_SEQ)).map (·.2)

/-- The PWR and GLB blocks' views (R513, R528). -/
def Module.glbView (m : Module) (k : FKey) : Option Nat :=
  match k.reg, k.lo with
  | .pwrGov, 16 => some (((natsWhere 8 (fun s => m.level (.pipe (Fin.ofNat 8 s)) == 8)).map (2 ^ ·)).sum)
  | .pwrGov, 0 => some ((15000 - m.recentSteps true) / 100)
  | .glbLogHead, 0 => some m.logNext
  | .glbLogStat, 31 => some (flag m.selEntry.isSome)
  | .glbLogStat, 0 => some m.log.entries.length
  | .glbLogData, 0 => some ((m.selEntry.map (fun e => e.toNat / 2 ^ (32 * k.j))).getD 0)
  | _, _ => none

/-- The view of a field, where it has one. -/
def Module.view (m : Module) (k : FKey) : Option Nat :=
  match k.reg.blk with
  | .lpe => m.lpeView k
  | .fly => m.flyView k
  | .lnk => m.lnkView k
  | .buf => m.bufView k
  | .tm => m.tmView k
  | .col => m.colView k
  | .rde => m.rdeView k
  | .pra => m.praView k
  | .hbm => m.hbmView k
  | .tim => m.timView k
  | .img | .mpc => m.mpcView k
  | .sec => m.secView k
  | .tel => m.telView k
  | .pwr | .glb => m.glbView k
  | .fwd | .clk => none

/-- What a field reads as. -/
def Module.readField (m : Module) (k : FKey) : Nat :=
  match m.view k with
  | some v => v % 2 ^ k.width
  | none => m.getF k

/-- What a register reads as: its fields in their places, a WO field as 0 (R14, R15). -/
def Module.regWord (m : Module) (r : RegName) (i j : Nat) : Nat :=
  (r.fields.map (fun d => if d.acc = .wo then 0 else m.readField ⟨r, i, j, d.lo⟩ * 2 ^ d.lo)).sum

end Sys2Proof.Machine
end

