-- ==== Sys2Proof/Machine/Security.lean ====
section
/-! DEFINITION. Quorum commands, rehearsal permissions and attestation (spec/16_security_and_quorum.md R433 to R445). -/

namespace Sys2Proof.Machine

/-! ### The body (R437) -/

/-- The fields of a quorum body. -/
structure QBody where
  opcode : Nat
  sigCount : Nat
  argLen : Nat
  ver : BitVec 32
  device : BitVec 64
  seq : BitVec 64
  notAfter : BitVec 64
  args : List Byte
  keys : List Nat                 -- KEY_INDEX of each entry
  length : Nat
  deriving DecidableEq, Repr

/-- The size of a signature entry. -/
def sigEntry : Nat := 16612

/-- Read a body. -/
def QBody.decode (b : List Byte) : QBody :=
  let argLen := field b 2 2
  let sigCount := field b 1 1
  { opcode := field b 0 1, sigCount := sigCount, argLen := argLen, ver := BitVec.ofNat 32 (field b 4 4)
    device := BitVec.ofNat 64 (field b 8 8), seq := BitVec.ofNat 64 (field b 16 8)
    notAfter := BitVec.ofNat 64 (field b 24 8), args := (b.drop 32).take argLen
    keys := (List.range sigCount).map (fun i => field b (32 + argLen + i * sigEntry) 1), length := b.length }

/-- The bytes that a key set's ARGS take: its header, its pairs, and the owner pair where it follows. -/
def keysetLen (n : Nat) (owner : Bool) : Nat := 3 + 432 * n + 432 * flag owner

/-- Are the ARGS of an opcode in range (R439, R440)? Opcodes not listed are out of range. -/
def QBody.argsOk (q : QBody) : Bool :=
  let k := field q.args 0 1
  let n := field q.args 1 1
  let owner := bitOf (field q.args 2 1) 0
  match q.opcode with
  | 0x00 => q.argLen == 32
  | 0x01 | 0x02 | 0x03 | 0x05 | 0x07 => q.argLen == 0
  | 0x04 => q.argLen == 14 && decide (field q.args 0 1 ≤ 2) && within 1 3600 (field q.args 2 2) && decide (field q.args 4 1 ≤ 4)
  | 0x06 => within 2 16 k && within k 31 n && q.argLen == keysetLen n owner
  | 0x08 => within 2 16 k && within k 31 n && owner && q.argLen == keysetLen n true && q.sigCount == 1
  | _ => false

/-- Is every field in range? -/
def QBody.wellFormed (q : QBody) : Bool :=
  decide (q.sigCount ≤ 31) && decide (q.argLen ≤ 13827) && q.argsOk && q.length == 32 + q.argLen + q.sigCount * sigEntry

/-- A rehearsal permission's arguments (R440). -/
def Rehearsal.decode (args : List Byte) : Rehearsal :=
  { window := field args 0 1, kinds := BitVec.ofNat 8 (field args 1 1), seconds := field args 2 2
    epochs := (List.range (field args 4 1)).map (fun i => field args (6 + 2 * i) 2) }

/-! ### Answers -/

/-- Answer a quorum command with its reply body (R438). -/
def Module.quorumAnswer (m : Module) (o : QOrigin) (status qstatus counted : Nat) (seq : BitVec 64) : Module :=
  match o with
  | .frame src reqId =>
    m.answer src reqId 2 status (toBytes 12 (qstatus * 2 ^ 88 + counted % 2 ^ 16 * 2 ^ 64 + seq.toNat))
  | .smbus => m.emit (.quorumReply o status qstatus counted seq)

/-- SEC_LAST takes a verdict (R447). -/
def Module.judged (m : Module) (opcode qstatus : Nat) : Module :=
  (m.setF K.secLast_OPCODE opcode).setF K.secLast_QSTATUS qstatus

/-- Refuse a quorum command. A reply's own STATUS is BUSY or SIG_FAIL where R438 says so, and else DONE. -/
def Module.quorumRefuse (m : Module) (o : QOrigin) (q : QBody) (qstatus counted : Nat) : Module :=
  let status := if qstatus = 8 then 2 else if qstatus = 6 then 6 else 0
  ((m.judged q.opcode qstatus).raise .sec_Q_REFUSED 0).quorumAnswer o status qstatus counted q.seq

/-- Does the SEC block run, so that SMBus reaches it (R412)? -/
def Module.secRuns (m : Module) : Bool := decide (3 ≤ m.startStep) && m.power.inReset.isNone

/-- The command of an origin that waits: the frame's is taken from the endpoint's queue, with the time of its arrival;
SMBus brings its own. An ATTEST body is not a command to verify. -/
def Module.takeQuorum (m : Module) (o : QOrigin) (body : List Byte) (attest : Bool) : Option (Module × List Byte × BitVec 64) :=
  match o with
  | .frame src reqId =>
    match m.takeReq src reqId 2 with
    | some (m', r) => if (field r.body 0 1 == 0) == attest then some (m', r.body, r.count) else none
    | none => none
  | .smbus => if (field body 0 1 == 0) == attest && m.secRuns then some (m, body, m.timeNow) else none

/-! ### Verification (R433, R438) -/

/-- What verification has found so far: the keys that have passed, and the half pairs seen. -/
structure Verdict where
  passed : List Nat
  halves : Nat
  deriving DecidableEq, Repr

/-- Verify entries in order until `k` distinct keys below `n` have passed; `owner` takes KEY_INDEX 0x80 alone (R443). -/
def verifyEntries (k n : Nat) (owner : Bool) (v : Verdict) : List (Nat × Bool × Bool) → Verdict
  | [] => v
  | (key, rsa, slh) :: rest =>
    if k ≤ v.passed.length then v
    else
      let known := if owner then key == 0x80 else decide (key < n)
      let v := if known && (rsa != slh) then { v with halves := v.halves + 1 } else v
      let v := if known && rsa && slh && !v.passed.contains key then { v with passed := v.passed ++ [key] } else v
      verifyEntries k n owner v rest

/-- Is an opcode allowed in the present state (R440, R442, R443)? -/
def Module.permitted (m : Module) (q : QBody) : Bool :=
  let st := m.sec.state
  if !st.provisioned then q.opcode == 8
  else
    match q.opcode with
    | 0x04 =>
      let g := Rehearsal.decode q.args
      (g.window == 0 || m.startStep == 12) && !(g.window == 1 && g.epochs.isEmpty) && !(g.window == 2 && !st.fenced)
    | 0x06 => decide (st.counter < 255)
    | 0x08 => false
    | _ => true

/-- Is another command being verified when one of an origin is judged? Those of the queue are verified one after another. -/
def Module.secBusy (m : Module) (o : QOrigin) : Bool := if o == .smbus then m.verifying else m.sec.verified.isSome

/-- Is a body void by its NOT_AFTER (R438)? -/
def Module.expired (m : Module) (q : QBody) (arrival : BitVec 64) : Bool :=
  q.notAfter != 0 && (!m.isOn K.timStatus_SET || decide (q.notAfter < arrival))

/-- The first check of a body that fails before its signatures are verified, 0 where none does. -/
def Module.quorumCheck (m : Module) (o : QOrigin) (q : QBody) (arrival : BitVec 64) : Nat :=
  let st := m.sec.state
  if m.secBusy o then 8
  else if !q.wellFormed then 1
  else if q.device ≠ Config.deviceId then 2
  else if q.seq ≤ st.seq then 3
  else if m.expired q arrival then 4
  else if q.ver ≠ st.ver then 5
  else 0

/-- A quorum command is judged: where it passes, CMD_SEQ is written and its effect follows (R438). -/
def Module.quorum (m : Module) (o : QOrigin) (body : List Byte) (sigs : List (Bool × Bool)) : Module :=
  match m.takeQuorum o body false with
  | none => m
  | some (m, body, arrival) =>
    let q := QBody.decode body
    match m.quorumCheck o q arrival with
    | 0 =>
      let owner := q.opcode == 8
      let k := if owner then 1 else m.sec.state.k
      let entries := (numbered q.keys).map (fun x => (x.2, sigs.getD x.1 (false, false)))
      let v := verifyEntries k m.sec.state.managers.length owner ⟨[], 0⟩ entries
      let m := m.raiseN .sec_SIG_HALF 0 v.halves
      if v.passed.length < k then m.quorumRefuse o q 6 v.passed.length
      else if !m.permitted q then m.quorumRefuse o q 7 v.passed.length
      else
        let c : QCmd := { origin := o, opcode := q.opcode, seq := q.seq, counted := v.passed.length, args := q.args }
        ({ m with sec := { m.sec with
            verified := some c, state := { m.sec.state with seq := q.seq, pendingOp := some c } } }).judged q.opcode 0
    | n => m.quorumRefuse o q n 0

/-! ### Effects (R439 to R443) -/

/-- A DETAIL of CMD_SEQ (R527). -/
def QCmd.detail (c : QCmd) : Nat := c.seq.toNat % 2 ^ 24

/-- Change the kept security state: the module writes its region in flash anew. -/
def Module.modState (m : Module) (f : SecState → SecState) : Module :=
  { m with sec := { m.sec with state := f m.sec.state }, img := { m.img with touched := [] } }

/-- FENCE. -/
def Module.fenceOn (m : Module) (c : QCmd) : Module :=
  (m.modState (fun st => { st with fenced := true })).raise .sec_FENCE_ON 0 c.detail

/-- UNFENCE clears fence and expulsion, and ends a recovery window's permission (R445). -/
def Module.fenceOff (m : Module) (c : QCmd) : Module :=
  let m := (m.modState (fun st => { st with fenced := false, expelled := false })).raise .sec_FENCE_OFF 0 c.detail
  match m.sec.rehearsal with
  | some r => if r.window = 2 then m.endRehearsal else m
  | none => m

/-- EXPEL fences, and drains every port (R441). -/
def Module.expelNow (m : Module) (c : QCmd) : Module :=
  let m := if m.sec.state.fenced then m else m.fenceOn c
  let m := (m.modState (fun st => { st with expelled := true })).raise .sec_EXPELLED 0 c.detail
  m.each m.lports (fun m l => m.startDrain false l)

/-- REHEARSE_GRANT: a start-up grant is armed for the next start, another is in force at once. -/
def Module.grantRehearsal (m : Module) (c : QCmd) : Module :=
  let r := Rehearsal.decode c.args
  if r.window = 0 then m.modState (fun st => { st with armed := some r })
  else
    ({ m with sec := { m.sec with
        rehearsal := some r, rehearsalEnd := m.elapsed + r.seconds * perSec } }).raise .sec_REHEARSAL_ON 0

/-- REHEARSE_REVOKE ends a permission, and one that is armed. -/
def Module.revokeRehearsal (m : Module) : Module := (m.modState (fun st => { st with armed := none })).endRehearsal

/-- A permission reaches its DURATION (R440). -/
def Module.rehearsalExpires (m : Module) : Module := if m.sec.rehearsalEnd = 0 then m else m.endRehearsal

/-- The pairs of a key set's ARGS. -/
def keysetPairs (args : List Byte) : List (List Byte) :=
  (List.range (field args 1 1)).map (fun i => (args.drop (3 + 432 * i)).take 432)

/-- A new key set is in force. -/
def Module.setKeys (m : Module) (args : List Byte) : Module :=
  let n := field args 1 1
  m.modState (fun st => { st with
    k := field args 0 1, managers := keysetPairs args
    owner := if bitOf (field args 2 1) 0 then (args.drop (3 + 432 * n)).take 432 else st.owner })

/-- KEYSET_ROTATE (R442). -/
def Module.rotateKeys (m : Module) (c : QCmd) : Module :=
  ((m.setKeys c.args).modState (fun st => { st with ver := st.ver + 1, counter := st.counter + 1 })).raise .sec_KEYSET_ROTATED 0

/-- DEBUG_UNLOCK. -/
def Module.unlockDebug (m : Module) : Module :=
  ({ m with sec := { m.sec with debug := true } }).raise .sec_DEBUG_UNLOCKED 0

/-- PROVISION (R443). The set's KEYSET_VER is not below the counter (R435, notes/assumptions/96.md). -/
def Module.provisionKeys (m : Module) (c : QCmd) : Module :=
  (m.setKeys c.args).modState (fun st => { st with
    provisioned := true, ver := if st.ver.toNat < st.counter then BitVec.ofNat 32 st.counter else st.ver })

/-- The effect of a command (R439). -/
def Module.quorumEffect (m : Module) (c : QCmd) : Module :=
  match c.opcode with
  | 1 => m.fenceOn c
  | 2 => m.fenceOff c
  | 3 => m.expelNow c
  | 4 => m.grantRehearsal c
  | 5 => m.revokeRehearsal
  | 6 => m.rotateKeys c
  | 7 => m.unlockDebug
  | 8 => m.provisionKeys c
  | _ => m

/-- The accepted command takes effect and is answered (R438), where it is of this opcode. -/
def Module.quorumActs (m : Module) (opcode : Nat) : Module :=
  match m.sec.verified with
  | some c =>
    if c.opcode = opcode then
      let m := ({ m with sec := { m.sec with verified := none } }).modState (fun st => { st with pendingOp := none })
      ((m.quorumEffect c).raise .sec_Q_ACCEPTED 0).quorumAnswer c.origin 0 0 c.counted c.seq
    else m
  | none => m

/-- At step 4 the effect of a command whose CMD_SEQ a reset found written is applied (R445). -/
def Module.pendingEffect (m : Module) : Module :=
  match m.sec.state.pendingOp with
  | some c => (m.modState (fun st => { st with pendingOp := none })).quorumEffect c
  | none => m

/-! ### Attestation (R444) -/

/-- The 320 bytes of a report. -/
def Module.attestation (m : Module) (nonce : List Byte) : List Byte :=
  let st := m.sec.state
  let flags := flag st.fenced + 2 * flag st.expelled + 4 * flag m.sec.rehearsal.isSome + 8 * flag m.sec.debug
    + 16 * m.getF K.imgStatus_FALLBACK + 32 * flag (!st.provisioned)
  toBytes 4 0x47574154 ++ toBytes 2 1 ++ toBytes 2 (m.getF K.glbId_MEMBER) ++ toBytes 8 Config.deviceId.toNat
    ++ (nonce ++ List.replicate 32 0).take 32 ++ toBytes 8 m.timeNow.toNat ++ toBytes 2 (m.getF K.glbIncarn_INCARNATION)
    ++ toBytes 1 flags ++ toBytes 1 m.sec.svn.toNat ++ toBytes 4 st.ver.toNat ++ toBytes 4 (m.getF K.imgSeq_SEQ)
    ++ toBytes 4 (m.getF K.imgPatchSeq_SEQ) ++ toBytes 48 m.sec.romHash.toNat ++ toBytes 48 m.sec.firmwareHash.toNat
    ++ toBytes 48 m.sec.imageHash.toNat ++ toBytes 48 m.sec.patchChain.toNat
    ++ toBytes 48 (Config.keysetDigest st.k st.managers st.owner).toNat ++ toBytes 8 st.seq.toNat

/-- ATTEST: one report is signed at a time, and a second is refused as BUSY. Of R438's checks those apply that R439 does not
exempt. -/
def Module.attest (m : Module) (o : QOrigin) (nonce : List Byte) : Module :=
  let body := toBytes 32 (32 * 2 ^ 224) ++ nonce
  match m.takeQuorum o body true with
  | none => m
  | some (m, body, arrival) =>
    let q := QBody.decode body
    if m.sec.attesting.isSome || m.secBusy o then m.quorumRefuse o q 8 0
    else if q.argLen ≠ 32 ∨ q.args.length ≠ 32 then m.quorumRefuse o q 1 0
    else if m.expired q arrival then m.quorumRefuse o q 4 0
    else { m with sec := { m.sec with attesting := some (o, m.attestation q.args) } }

/-- The KEY_ID of a pair of public keys (R433). -/
def keyId (pair : List Byte) : BitVec 64 := (sha384 pair).extractLsb' 320 64

/-- A signature block of a pair (R435), of its RSA and SLH-DSA signatures. -/
def signatureBlock (pair signature : List Byte) : List Byte :=
  toBytes 4 0x47575347 ++ toBytes 8 (keyId pair).toNat ++ toBytes 4 0 ++ signature

/-- What follows a report: its signature block, and the identity keys. -/
def attestTail (signature : List Byte) : List Byte :=
  let pair := toBytes 432 Config.identityKeys.toNat
  signatureBlock pair signature ++ pair

/-- The report is signed: it leaves with its signature block and the identity keys. -/
def Module.attestDone (m : Module) (signature : List Byte) : Module :=
  match m.sec.attesting with
  | none => m
  | some (o, report) =>
    let m := ({ m with sec := { m.sec with attesting := none } }).raise .sec_ATTEST_DONE 0
    match o with
    | .frame src reqId => m.answer src reqId 2 0 (report ++ attestTail signature)
    | .smbus => m.emit (.attestReport o report (attestTail signature))

/-- H_n of the patch chain, of the digest of a patch's signed payload. -/
def Module.chainPatch (m : Module) (hash : BitVec 384) : Module :=
  { m with sec := { m.sec with patchChain := sha384 (toBytes 48 m.sec.patchChain.toNat ++ toBytes 48 hash.toNat) } }

end Sys2Proof.Machine
end

