-- ==== Sys2Proof/Machine/Directory.lean ====
section
/-! DEFINITION. The copies in boot flash, and the header, directory and section digests of an image copy
(spec/15_management_and_structure_image.md R414, R416). -/

namespace Sys2Proof.Machine

/-- The base of a copy of a region, and its size: region 0 firmware, 1 structure image. -/
def copyBase (region : Nat) (b : Bool) : Nat :=
  if region = 0 then (if b then 0x02000000 else 0) else (if b then 0x24000000 else 0x04000000)

def copySize (region : Nat) : Nat := if region = 0 then 2 ^ 25 else 2 ^ 29

/-- The fields of an image copy's header (R416). -/
structure ImageHeader where
  magic : Nat
  format : Nat
  member : Nat
  seq : Nat
  length : Nat
  profile : Nat
  sections : Nat
  dirDigest : Nat
  sigOffset : Nat
  deriving DecidableEq, Repr

/-- Read a header in boot flash. A count of sections out of range clamps (R16). -/
def Module.imageHeader (m : Module) (isB : Bool) : ImageHeader :=
  let bs := m.flashBytes (copyBase 1 isB) 72
  { magic := field bs 0 4, format := field bs 4 2, member := field bs 6 2, seq := field bs 8 4, length := field bs 12 4
    profile := field bs 16 1, sections := clampTo 1 62 (field bs 17 1), dirDigest := field bs 20 48, sigOffset := field bs 68 4 }

/-- One entry of the directory. -/
structure SectionEntry where
  id : Nat
  offset : Nat
  length : Nat
  digest : Nat
  deriving DecidableEq, Repr

/-- The bytes of the directory. -/
def Module.directory (m : Module) (isB : Bool) : List Byte :=
  m.flashBytes (copyBase 1 isB + 72) (64 * (m.imageHeader isB).sections)

/-- Read the directory. -/
def Module.sectionEntries (m : Module) (isB : Bool) : List SectionEntry :=
  let dir := m.directory isB
  (List.range (m.imageHeader isB).sections).map (fun n =>
    { id := field dir (64 * n) 2, offset := field dir (64 * n + 4) 4, length := field dir (64 * n + 8) 4
      digest := field dir (64 * n + 16) 48 })

/-- Does the directory match the digest of the header? -/
def Module.directoryHolds (m : Module) (isB : Bool) : Bool :=
  (sha384 (m.directory isB)).toNat == (m.imageHeader isB).dirDigest

/-- Does a section lie in its copy, of at most 512 MiB, and match its digest? -/
def Module.sectionHolds (m : Module) (isB : Bool) (e : SectionEntry) : Bool :=
  let size := min (m.imageHeader isB).length (copySize 1)
  decide (e.offset + e.length ≤ size)
    && (sha384 (m.flashBytes (copyBase 1 isB + e.offset) e.length)).toNat == e.digest

/-- Does the signature block begin where the header says (R416, R435)? Without one no pair is valid. -/
def Module.signedCopy (m : Module) (isB : Bool) : Bool :=
  field (m.flashBytes (copyBase 1 isB + (m.imageHeader isB).sigOffset) 4) 0 4 == 0x47575347

/-- Does the identity section of a copy hold, by the directory that the signed header covers? -/
def Module.identityHolds (m : Module) (isB : Bool) : Bool :=
  let es := (m.sectionEntries isB).filter (fun e => e.id == 1)
  m.directoryHolds isB && !es.isEmpty && es.all (m.sectionHolds isB)

/-- Do the digests of a copy hold, the directory's and every section's? -/
def Module.digestsHold (m : Module) (isB : Bool) : Bool :=
  m.directoryHolds isB && (m.sectionEntries isB).all (m.sectionHolds isB)

end Sys2Proof.Machine
end

