-- ==== Sys2Proof/Machine/Inject.lean ====
section
/-! DEFINITION. Rehearsal injections (spec/17_spares_repair_and_resilience.md R465 to R468). -/

namespace Sys2Proof.Machine

/-- DUR as an injection kind takes it (R468). -/
def injDur (kind dur : Nat) : Nat :=
  match kind with
  | 0 | 7 => max 1 dur
  | 3 => clampTo 1 16 dur
  | _ => dur

/-- The logical port a target names, or the nearest below it that the split makes (R16). -/
def Module.lportBelow (m : Module) (n : Nat) : Nat := n / 4 * 4 + min (n % 4) (m.split (portOf n) - 1)

/-- A target as a kind takes it, clamped to what the member has (R16, R468). -/
def Module.injTarget (m : Module) (kind t : Nat) : Nat :=
  let e := min (m.liveCount .lpe - 1) (bitsOf t 13 8)
  match kind with
  | 0 => m.lportBelow (min (32 * m.liveCount .lpe - 1) (t % 2048))
  | 1 => e * 256 + t % 4
  | 2 => e * 256 + min 163 (t % 256)
  | 3 => bitsOf t 8 8 * 256 + min 17 (t % 32)
  | 4 => min (m.liveCount .hbm - 1) (bitsOf t 9 5) * 32 + t % 32
  | 5 => min (m.liveCount .buf - 1) (bitsOf t 22 20) * 2 ^ 20 + t % 2 ^ 20
  | 6 => bitsOf t 5 4 * 16 + min 4 (t % 8)
  | _ => 0

/-- Is a clamped target already in a real substitution, not a rehearsed one (R466)? -/
def Module.targetBusy (m : Module) (kind t : Nat) : Bool :=
  let e := bitsOf t 13 8
  match kind with
  | 1 =>
    (m.swapOf e).isSome || !(m.waitingOf e).isEmpty || (match m.driverOf e (t % 4) with
      | some n => decide (4 ≤ n)
      | none => true)
  | 2 => (m.ring e (t % 256)).busy || (m.ring e (t % 256)).failed
  | 3 => decide (3 ≤ m.getF (K.rdeStatus_ROLE (t % 32))) && !m.rde.rehearsed.contains (t % 32)
  | 4 =>
    let h := m.stack (bitsOf t 9 5)
    (h.mapped ++ h.failing).any (fun x => x.1 == t % 32 && !x.2.2)
  | 5 =>
    let r := m.sramRow (bitsOf t 22 20) (bitsOf t 19 11) (bitsOf t 10 0)
    !r.rehearsed && (r.moving.isSome || r.retired || decide (0 < r.remaps))
  | 6 => (m.clockFailed (t % 8) || m.domSource (t % 8) == 1) && !m.clock.rehearsed.contains (t % 8)
  | _ => false

/-- An injection that has passed its checks begins at a clamped target: kinds 0, 3 and 7 run on, the others are done at once. -/
def Module.injectNow (m : Module) (kind t dur : Nat) (copied : Copied) : Module :=
  let running (m : Module) (target : Nat) : Module :=
    ({ m with mpc := { m.mpc with injection := some { kind := kind, target := BitVec.ofNat 32 target, dur := dur } } }).setF
      K.mpcInjStat_BUSY 1
  let e := bitsOf t 13 8
  match kind with
  | 0 =>
    let m := running m t
    if m.linkState t = 3 ∨ m.linkState t = 5 then m.lossOfLink t else m
  | 1 => m.swapCommand e (t % 4)
  | 2 =>
    let r := t % 256
    let code := m.openWord.setWidth 16
    (m.drawn.modRing e r (fun x => { x with heater := code })).mislockRing e r
  | 3 =>
    let m := running m t
    { m with rde := { m.rde with inject := [(t % 32, dur)], injectQuar := bitOf t 8 } }
  | 4 => m.failChannel (bitsOf t 9 5) (t % 32) true true copied
  | 5 => m.rowFails (bitsOf t 22 20) (bitsOf t 19 11) (bitsOf t 10 0) true
  | 6 =>
    ({ m with clock := { m.clock with rehearsed := m.clock.rehearsed ++ [t % 8] } }).clockFail (t % 8) (2 ^ bitsOf t 5 4)
  | _ => running m t

/-- GO is written to MPC_INJ_CMD with a kind and a DUR (R466): the target is clamped for the kind, and reads so (R16). -/
def Module.inject (m : Module) (kind dur : Nat) (copied : Copied := none) : Module :=
  let t := m.injTarget kind (m.getF K.mpcInjArg_TARGET)
  let refuse (m : Module) (status : Nat) : Module := (m.setF K.mpcInjArg_TARGET t).setF K.mpcInjStat_STATUS status
  if m.isOn K.mpcInjStat_BUSY then m
  else if m.sec.rehearsal.isNone then refuse m 1
  else if !m.rehearses kind then refuse m 2
  else if m.targetBusy kind t then refuse m 3
  else (((m.setF K.mpcInjArg_TARGET t).setF K.mpcInjStat_STATUS 0).addSat K.mpcInjStat_COUNT 1 0xFFFF).injectNow kind t (injDur kind dur) copied

/-- The DUR of a timed injection expires (kinds 0 and 7). -/
def Module.injectionEnds (m : Module) : Module :=
  match m.mpc.injection with
  | some i =>
    if i.kind = 3 then m
    else ({ m with mpc := { m.mpc with injection := none } }).setF K.mpcInjStat_BUSY 0
  | none => m

end Sys2Proof.Machine
end

