-- ==== Sys2Proof/Machine/Registers.lean ====
section
/-! DEFINITION. Register accesses (spec/00_scope.md R14 to R19; spec/20_register_map.md R515 to R518, R522, R528, R530): which
blocks answer, what a read returns and takes with it, and what a write sets, clamps, clears or starts. -/

namespace Sys2Proof.Machine

/-! ### Blocks that answer (R7, R515, R517) -/

/-- The start-up step from which a block answers (R515). -/
def Blk.fromStep (b : Blk) : Nat :=
  match b with
  | .glb | .clk | .tim | .pwr => 2
  | .sec | .img | .mpc => 3
  | _ => 6

/-- Does a block answer while the module is in a reset? In a core reset GLB, CLK, TIM and PWR do, in a cold or warm one what
the reset does not restart. -/
def Blk.throughReset (b : Blk) (k : ResetKind) : Bool :=
  match k, b with
  | .powerOn, _ => false
  | _, .glb | _, .clk | _, .pwr => true
  | .core, .tim => true
  | _, _ => false

/-- Is a block's instance in a sector reset (R517)? -/
def Module.blockDown (m : Module) (b : Blk) (i : Nat) : Bool :=
  match b with
  | .fwd | .buf | .tm | .col => m.power.sectorsDown.contains i
  | .rde => m.power.sectorsDown.contains (m.getF (K.rdeStatus_SERVES i))
  | _ => false

/-- Does an instance of a block answer? -/
def Module.answers (m : Module) (b : Blk) (i : Nat) : Bool :=
  decide (b.fromStep ≤ m.startStep) && (m.power.inReset.all (fun k => b.throughReset k)) && !m.blockDown b i

/-- How an access ends: as its reply's STATUS says (R406). -/
inductive AccessResult where
  | done
  | notReady
  | addrFault
  deriving DecidableEq, Repr

def AccessResult.status (r : AccessResult) : Nat :=
  match r with
  | .done => 0
  | .notReady => 3
  | .addrFault => 8

/-- What an access reaches: a register that is there and answers, or how it ends without one. An instance that a smaller
member lacks reads 0 and is counted (R7). -/
inductive Reached where
  | reg (r : RegName) (i j : Nat)
  | nothing
  | absent
  | fault (a : AccessResult)
  deriving DecidableEq, Repr

def Module.reach (m : Module) (addr : Addr) : Reached :=
  match target addr.toNat with
  | .noWindow => .fault .addrFault
  | .noRegister b i => if m.liveCount b ≤ i then .absent else if m.answers b i then .nothing else .fault .notReady
  | .reg r i j => if m.liveCount r.blk ≤ i then .absent else if m.answers r.blk i then .reg r i j else .fault .notReady

/-! ### 64-bit pairs (R17, R18) -/

/-- The _HI register of a _LO register, and the other way. -/
def RegName.hi (r : RegName) : Option RegName :=
  match r with
  | .fwdSeedLo => some .fwdSeedHi
  | .fwdTblDataLo => some .fwdTblDataHi
  | .praChanLo => some .praChanHi
  | .praShdNLo => some .praShdNHi
  | .praShdSumLo => some .praShdSumHi
  | .praShdSqLo => some .praShdSqHi
  | .tmSchedCntLo => some .tmSchedCntHi
  | .timNowLo => some .timNowHi
  | .timIncLo => some .timIncHi
  | .timSetLo => some .timSetHi
  | .timAdjLo => some .timAdjHi
  | .timPpsLo => some .timPpsHi
  | .timSyncTLo => some .timSyncTHi
  | .secDevidLo => some .secDevidHi
  | .secQseqLo => some .secQseqHi
  | .telCntLo => some .telCntHi
  | _ => none

def RegName.lo (r : RegName) : Option RegName :=
  match r with
  | .fwdSeedHi => some .fwdSeedLo
  | .fwdTblDataHi => some .fwdTblDataLo
  | .praChanHi => some .praChanLo
  | .praShdNHi => some .praShdNLo
  | .praShdSumHi => some .praShdSumLo
  | .praShdSqHi => some .praShdSqLo
  | .tmSchedCntHi => some .tmSchedCntLo
  | .timNowHi => some .timNowLo
  | .timIncHi => some .timIncLo
  | .timSetHi => some .timSetLo
  | .timAdjHi => some .timAdjLo
  | .timPpsHi => some .timPpsLo
  | .timSyncTHi => some .timSyncTLo
  | .secDevidHi => some .secDevidLo
  | .secQseqHi => some .secQseqLo
  | .telCntHi => some .telCntLo
  | _ => none

/-- Hold a requester's write to a _LO register. -/
def Module.holdLo (m : Module) (req : Requester) (r : RegName) (i j : Nat) (w : Word) : Module :=
  { m with loHeld := Tbl.put m.loHeld (req, r, i, j) w }

/-! ### Reads (R14, R18, R528) -/

/-- Clear the RC fields of a register to their reset values. -/
def Module.clearRc (m : Module) (r : RegName) (i j : Nat) : Module :=
  m.each (r.fields.filter (fun d => d.acc = .rc)) (fun m d => m.setF ⟨r, i, j, d.lo⟩ (fieldReset ⟨r, i, j, d.lo⟩))

/-- Capture a value of a register for a requester's next read of it. -/
def Module.capture (m : Module) (req : Requester) (r : RegName) (i j v : Nat) : Module :=
  { m with captured := Tbl.put m.captured (req, r, i, j) v }

/-- The instances of an event group (R472). -/
def groupInstances (g : Nat) : Nat :=
  match g with
  | 0x08 | 0x09 | 0x0B => 64
  | 0x10 | 0x11 | 0x12 | 0x13 | 0x14 | 0x15 => 8
  | 0x18 => 18
  | 0x19 => 4
  | 0x1A => 32
  | 0x20 | 0x21 | 0x22 | 0x23 => 2048
  | _ => 1

/-- The instances of an event group that this member has. -/
def Module.liveInstances (m : Module) (g : Nat) : Nat :=
  match g with
  | 0x08 | 0x09 | 0x0B => m.liveCount .lpe
  | 0x10 | 0x11 | 0x12 | 0x13 | 0x14 | 0x15 => m.liveCount .buf
  | 0x18 => m.liveCount .rde
  | 0x19 => m.liveCount .pra
  | 0x1A => m.liveCount .hbm
  | 0x20 | 0x21 | 0x22 | 0x23 => 32 * m.liveCount .lnk
  | _ => 1

/-- What a requester's read takes with it: a _LO read captures the upper half, a read of GLB_LOG_DATA0 the rest of the entry;
an RC field is cleared. A counter of an instance that the member lacks counts as such an access (R475). -/
def Module.readTakes (m : Module) (req : Requester) (r : RegName) (i j : Nat) : Module :=
  let m' := m.clearRc r i j
  match r.hi with
  | some h =>
    let m' := m'.capture req h i j (m.regWord h i j)
    if r = .telCntLo ∧ m.liveInstances (m.getF K.telSel_EVENT / 32) ≤ m.getF K.telSel_INSTANCE then m'.raise .tel_ABSENT_INSTANCE 0
    else m'
  | none =>
    match r, j with
    | .glbLogData, 0 => m'.each [1, 2, 3] (fun m' n => m'.capture req .glbLogData 0 n (m.regWord .glbLogData 0 n))
    | _, _ => m'

/-- Read a register: what was captured for this requester goes with the read. -/
def Module.readReg (m : Module) (req : Requester) (r : RegName) (i j : Nat) : Module × Word :=
  match Tbl.find m.captured (req, r, i, j) with
  | some v => ({ m with captured := Tbl.del m.captured (req, r, i, j) }, BitVec.ofNat 32 v)
  | none => (m.readTakes req r i j, BitVec.ofNat 32 (m.regWord r i j))

/-- Read the register at an address (R516, R517). -/
def Module.read (m : Module) (req : Requester) (addr : Addr) : Module × Word × AccessResult :=
  match m.reach addr with
  | .reg r i j =>
    let x := m.readReg req r i j
    (x.1, x.2, .done)
  | .nothing => (m, 0, .done)
  | .absent => (m.raise .tel_ABSENT_INSTANCE 0, 0, .done)
  | .fault a => (m, 0, a)

/-! ### Alerts (R522) -/

/-- GLB_ALERT after a clear: a cause whose condition still holds is set again, and ASSERTED follows the causes. -/
def Module.alerts (m : Module) : Module :=
  let again (m : Module) (k : FKey) (b : Bool) : Module := if b then m.setF k 1 else m
  let stalled := m.isOn K.pwrStatus_STALLED
  let m := again m K.glbAlert_START_STALL stalled
  let m := again m K.glbAlert_XTAL_QUAL_FAIL (stalled && m.startStep == 5)
  let m := again m K.glbAlert_THERM_ALERT (m.isOn K.pwrStatus_THERM_ALERT)
  let m := again m K.glbAlert_HBM_HOT ((List.range 32).any (fun k => m.isOn (K.hbmStatus_HOT_ALARM k)))
  let m := again m K.glbAlert_OSC_BOTH (m.clockFailed 6 && m.clockFailed 7)
  m.setB K.glbAlert_ASSERTED ([K.glbAlert_START_STALL, K.glbAlert_THERM_ALERT, K.glbAlert_REPAIR_WRITE_FAIL, K.glbAlert_HBM_HOT,
    K.glbAlert_OSC_BOTH, K.glbAlert_XTAL_QUAL_FAIL].any (fun k => m.isOn k))

/-! ### Writes of fields (R14 to R16) -/

/-- The bits of an event group that GLB_LOG_MASKn can hold (R530): the events that the log takes. -/
def maskable : Nat → Nat
  | 0x00 => 0x3F
  | 0x01 => 0x7F
  | 0x02 => 0x3FF
  | 0x03 => 0x3FFF
  | 0x04 => 0x3F
  | 0x05 => 0x3F
  | 0x06 => 0x1F
  | 0x08 => 0xFFF
  | 0x09 => 0xFFFF
  | 0x0A => 0x7F
  | 0x0B => 0x3
  | 0x10 => 0x7FF
  | 0x11 => 0xFFFF
  | 0x12 => 0xF
  | 0x13 => 0x7F
  | 0x14 => 0x3FFF
  | 0x15 => 0x3F
  | 0x18 => 0xFF
  | 0x19 => 0xFF
  | 0x1A => 0x7FF
  | _ => 0

/-- The value that a written RW field takes: the nearest legal one (R16). -/
def FieldDef.legal (d : FieldDef) (v : Nat) : Nat := clampTo d.least d.most v

/-- Write one field as its access code says. -/
def Module.writeField (m : Module) (k : FKey) (d : FieldDef) (w : Nat) : Module :=
  let v := bitsOf w d.hi d.lo
  match d.acc with
  | .rw => m.setF k (d.legal v)
  | .w1c => if v = 1 then m.setF k 0 else m
  | _ => m

/-- Write every field of a register. -/
def Module.writeFields (m : Module) (r : RegName) (i j w : Nat) : Module :=
  m.each r.fields (fun m d => m.writeField ⟨r, i, j, d.lo⟩ d w)

/-! ### Writes that do more -/

/-- The first moment both precise sampling and mirroring are enabled, the priority table decides (R423, R483). -/
def Module.sampleConflict (m : Module) : Module :=
  let both := m.isOn K.telCtrl_SMP_EN && (List.range 8).any (fun s => m.isOn (K.bufCtrl_MIRROR_EN s))
  if !both || m.lost 2 then m
  else
    (m.conflictOnce 2 true).setF
      (if bitOf (m.getF K.imgPrio_WINNER) 2 then K.telStatus_SMP_LOST else K.telStatus_MIRROR_LOST) 1

/-- TEL_CTRL: RECORD_SEQ counts from 0 at enable (R482). -/
def Module.writeTelCtrl (m : Module) (w : Nat) : Module :=
  let was := m.isOn K.telCtrl_SMP_EN
  let m := m.writeFields .telCtrl 0 0 w
  let m := if !was && m.isOn K.telCtrl_SMP_EN then { m with tel := { m.tel with nextSeq := 0 } } else m
  m.sampleConflict

/-- TEL_SEL: an INSTANCE beyond its group clamps (R475). -/
def Module.writeTelSel (m : Module) (w : Nat) : Module :=
  let g := bitsOf w 11 5
  let i := min (groupInstances g - 1) (bitsOf w 26 16)
  (m.setF K.telSel_EVENT (bitsOf w 11 0)).setF K.telSel_INSTANCE i

/-- TEL_SINK: with no sink the mirror records on their way are dropped (R483). -/
def Module.writeSink (m : Module) (w : Nat) : Module :=
  let m := m.setF K.telSink_LOC w
  if w = 0 then
    let rs := m.buf.mirrors
    ({ m with buf := { m.buf with mirrors := [] } }).each rs (fun m r =>
      m.raise .buf_MIRROR_DROP (sectorOf (bitsOf r.toNat 1204 1194)))
  else m

/-- POP moves the oldest sampled record into TEL_SMP_DATAn (R488). -/
def Module.popSample (m : Module) : Module :=
  let put (m : Module) (r : Nat) : Module := m.each (List.range 8) (fun m n => m.setF (K.telSmpData_DATA n) (r / 2 ^ (32 * n)))
  match m.tel.samples with
  | (_, r) :: rest => (put { m with tel := { m.tel with samples := rest } } r.toNat).setF K.telStatus_POP_VALID 1
  | [] => (put m 0).setF K.telStatus_POP_VALID 0

/-- Change the selected grant (R489). -/
def Module.modGrant (m : Module) (f : Grant → Grant) : Module :=
  { m with tel := { m.tel with grants := Tbl.put m.tel.grants (m.getF K.telGrantSel_ENTRY) (f m.selGrant) } }

/-- A change of RATE or BURST of a queue (R202, R212). -/
def Module.writeShaper (m : Module) (at_ : Nat × Nat) (rate burst : Option Nat) (apply : Bool) : Module :=
  m.askShaper at_.1 at_.2 rate burst apply

/-- COL_ABORT_CMD (R249): the operation in a slot, in its home sector, ends with ABORTED_BY_MANAGER. -/
def Module.abortCmd (m : Module) (s slot : Nat) : Module :=
  match m.op slot with
  | some op =>
    if op.home = s then ((m.failOp slot 6).setF (K.colAbortResult_STATUS s) 0)
    else m.setF (K.colAbortResult_STATUS s) 1
  | none => m.setF (K.colAbortResult_STATUS s) 1

/-- PWR_RST_CMD (R505, R513). -/
def Module.powerCmd (m : Module) (w : Nat) : Module :=
  let notice := bitOf w 30
  if !bitOf w 31 then m
  else
    match bitsOf w 29 28 with
    | 0 => m.resetCmd .cold 2 notice
    | 1 => m.resetCmd .warm 3 true
    | 2 => m.sectorCmd (bitsOf w 2 0)
    | _ => m.resetCmd .core 5 notice

/-- TIM_CTRL: PULSE_SRC 1 in TIMETABLE claims SYNC_IN (R422); PPS_OUT falls where it may not run (R394). -/
def Module.writeTimCtrl (m : Module) (w : Nat) : Module :=
  let m := m.writeFields .timCtrl 0 0 w
  let m := if m.isOn K.timCtrl_PULSE_SRC && m.timetable then m.conflictOnce 0 true else m
  m.gatePps

/-- FWD_VER.SWITCH: while a patch is applying, it follows the patch's own switch (R428). -/
def Module.writeFwdVer (m : Module) (w : Nat) : Module :=
  if !bitOf w 31 then m
  else if m.img.patch.isSome then { m with img := { m.img with switchAfter := true } }
  else m.askSwitch

/-- TM_OVHi: signed, −32 to 63 bytes (R211). -/
def Module.writeOvh (m : Module) (i j w : Nat) : Module :=
  m.setF (K.tmOvh_OVH i j) (BitVec.ofInt 7 (max (-32) (BitVec.ofNat 7 w).toInt)).toNat

/-- The tables that FWD_TBL_CMD names; 3 clamps to 2. -/
def fwdTableOf (n : Nat) : FwdTable :=
  match n with
  | 0 => .route
  | 1 => .set
  | _ => .member

/-- The write of a _HI register of a pair that can be written: the whole value is taken up (R17). -/
def Module.writeHi (m : Module) (req : Requester) (r : RegName) (i j w : Nat) : Module :=
  match r with
  | .timIncHi => m.setInc (w % 256 * 2 ^ 32 + m.lowHalf req .timIncLo i j (m.getF K.timIncLo_FRAC))
  | .timSetHi => m.setTime (BitVec.ofNat 64 (w * 2 ^ 32 + m.lowHalf req .timSetLo i j (m.time.stepValue.toNat % 2 ^ 32)))
  | .timAdjHi => m.adjTime (BitVec.ofNat 64 (w * 2 ^ 32 + m.lowHalf req .timAdjLo i j (m.slewNs.toNat % 2 ^ 32)))
  | .fwdTblDataHi =>
    (m.setF (K.fwdTblDataLo_DATA i) (m.lowHalf req .fwdTblDataLo i j (m.getF (K.fwdTblDataLo_DATA i)))).setF
      (K.fwdTblDataHi_DATA i) w
  | _ => m

/-- A write of a management-plane register beside its fields. -/
def Module.writeMgmt (m : Module) (r : RegName) (i j w : Nat) : Module :=
  match r with
  | .mpcInjCmd => if bitOf w 31 then m.inject (bitsOf w 26 24) (bitsOf w 15 0) else m
  | .telCtrl => m.writeTelCtrl w
  | .telSel => m.writeTelSel w
  | .telSink => m.writeSink w
  | .telSmpPop => if bitOf w 0 then m.popSample else m
  | .telGrantLoc => m.modGrant (fun g => { g with loc := BitVec.ofNat 32 w })
  | .telGrantGrp => m.modGrant (fun g => { g with valid := bitOf w 31, groupHi := bitsOf w 14 8, groupLo := bitsOf w 6 0 })
  | .telGrantInst => m.modGrant (fun g => { g with instHi := bitsOf w 26 16, instLo := bitsOf w 10 0 })
  | .pwrRstCmd => m.powerCmd w
  | .glbAlert => (m.writeFields .glbAlert i j w).alerts
  | .glbLogMask => m.setF (K.glbLogMask_MASK j) (w &&& maskable j)
  | .clkEvt => (m.writeFields .clkEvt i j w).releaseNmi
  | .timCtrl => m.writeTimCtrl w
  | .timSyncCmd => m.syncCmd w
  | _ => m.writeFields r i j w

/-- A write of a register of the data plane beside its fields; `queue` is the queue that TM_Q_SEL selected. A sector's four stacks
select one region (R348), and under sector lock TM_SCHED_EVT is one in every sector (R371). -/
def Module.writeData (m : Module) (req : Requester) (r : RegName) (i j w : Nat) (queue : Nat × Nat) : Module :=
  match r with
  | .lpeSwapCmd => if bitOf w 31 then m.swapCommand i (bitsOf w 1 0) else m
  | .flyCmd =>
    if bitOf w 31 then
      m.flyCommand { op := flyOp (bitsOf w 29 28), origin := .register, tag := 0, slot := Fin.ofNat 256 (bitsOf w 27 20)
                     inPort := Fin.ofNat 512 (bitsOf w 17 9), outPort := Fin.ofNat 512 (bitsOf w 8 0), hold := bitOf w 30 }
    else m
  | .fwdVer => m.writeFwdVer w
  | .fwdTblCmd => if bitOf w 31 then m.fwdGo req i (min 2 (bitsOf w 30 29)) (fwdTableOf (bitsOf w 28 27)) (bitsOf w 15 0) else m
  | .colGrpCmd => if bitOf w 31 then m.grpGo i (min 2 (bitsOf w 30 29)) (bitOf w 28) (bitsOf w 17 0) else m
  | .colAbortCmd => if bitOf w 31 then m.abortCmd i (bitsOf w 11 0) else m
  | .bufCtrl => (m.writeFields .bufCtrl i j w).sampleConflict
  | .tmOvh => m.writeOvh i j w
  | .tmQRate => m.writeShaper queue (some (clampTo 0 800000 (bitsOf w 19 0))) none (bitOf w 31)
  | .tmQBurst => m.writeShaper queue none (some (clampTo 9 1024 (bitsOf w 10 0))) false
  | .tmSchedEvt => m.each (if m.locked then m.sectors else [i]) (fun m t => m.writeFields .tmSchedEvt t j w)
  | .hbmRgnSel => m.each (List.range 4) (fun m n => m.writeFields .hbmRgnSel (4 * (i / 4) + n) j w)
  | .praCtrl =>
    let m := m.writeFields .praCtrl i j w
    if bitOf w 31 then m.reenablePra i else m
  | _ => m.writeFields r i j w

/-- Is a block of the data plane? -/
def Blk.isData (b : Blk) : Bool :=
  match b with
  | .lpe | .fly | .lnk | .fwd | .buf | .tm | .col | .rde | .pra | .hbm => true
  | _ => false

/-- A register is written now: a write to a _LO register is held for its requester (R17). -/
def Module.writeReg (m : Module) (req : Requester) (r : RegName) (i j : Nat) (w : Word) (queue : Nat × Nat) : Module :=
  if r.hi.isSome then m.holdLo req r i j w
  else if r.lo.isSome then m.writeHi req r i j w.toNat
  else if r.blk.isData then m.writeData req r i j w.toNat queue
  else m.writeMgmt r i j w.toNat

/-- Does a write of this register reach the data plane, so that sector lock holds it (R360)? A version switch is held by
itself (R149). -/
def RegName.reachesData (r : RegName) : Bool :=
  match r with
  | .fwdCtrl | .bufCtrl | .bufReseqCfg | .tmCtrl | .tmVcw0 | .tmVcw1 | .tmOvh | .tmQRate | .tmQBurst | .colCtrl
  | .colAbortCmd | .lnkCtrl | .praCtrl | .lpeCtrl | .lpeSwapCmd | .flyCtrl | .flyCmd => true
  | _ => false

/-- Write the register at an address (R516, R517): in TIMETABLE with sector lock held, a write that reaches the data plane
waits for the next period edge (R360). -/
def Module.write (m : Module) (req : Requester) (addr : Addr) (w : Word) : Module × AccessResult :=
  match m.reach addr with
  | .reg r i j =>
    if r.reachesData && m.holdsWrites then
      let h : HeldWrite := { req := req, addr := addr, data := w, queue := m.tmSel i }
      (({ m with lock := { m.lock with held := m.lock.held ++ [h] } }).raiseLocked .sched_WRITE_HELD 0, .done)
    else (m.writeReg req r i j w (m.tmSel i), .done)
  | .nothing => (m, .done)
  | .absent => (m.raise .tel_ABSENT_INSTANCE 0, .done)
  | .fault a => (m, a)

/-- A held write applies. -/
def Module.applyHeld (m : Module) (h : HeldWrite) : Module :=
  match m.reach h.addr with
  | .reg r i j => m.writeReg h.req r i j h.data h.queue
  | _ => m

/-! ### Accesses of a requester (R409, R412, R413) -/

/-- SMBus: an access that reaches no register that answers sets ACCESS_FAULT. -/
def Module.smbFaults (m : Module) (a : AccessResult) : Module :=
  if a = .done then m else ({ m with mpc := { m.mpc with smbFault := true } }).raise .tel_ACCESS_FAULT 0

/-- May a requester read (bit 0) or write (bit 1) at all: an in-band one by its permission, JTAG under the debug unlock? -/
def Module.mayAccess (m : Module) (req : Requester) (bit : Nat) : Bool :=
  match req with
  | .src loc => m.permits loc bit
  | .jtag => m.sec.debug
  | _ => true

/-- A requester's write of a register. -/
def Module.accessWrite (m : Module) (req : Requester) (addr : Addr) (w : Word) : Module :=
  if m.mayAccess req 1 then
    let x := m.write req addr w
    if req = .smb then x.1.smbFaults x.2 else x.1
  else m

/-- The address of a register as an access gives it. -/
def regAddr (r : RegName) (i j : Nat) : Addr := BitVec.ofNat 40 (r.addr i j)

/-- A word of a command register. -/
def cmdWord (n : Nat) : Word := BitVec.ofNat 32 n

/-- A requester's read of a register, which is answered. -/
def Module.accessRead (m : Module) (req : Requester) (addr : Addr) : Module :=
  if m.mayAccess req 0 then
    let x := m.read req addr
    let m := x.1.emit (.readReply req addr x.2.1)
    if req = .smb then m.smbFaults x.2.2 else m
  else m

end Sys2Proof.Machine
end

