-- ==== Sys2Proof/Machine/Classes.lean ====
section
/-! DEFINITION. The request classes that the MPC serves, and its load
(spec/15_management_and_structure_image.md R406 to R410, R415, R417, R420, R424 to R428;
spec/18_telemetry_and_counters.md R475 to R477, R482, R483; spec/20_register_map.md R518). -/

namespace Sys2Proof.Machine

/-- A core takes up a queued request of a class (R424): before the image is loaded it is answered NOT_READY, and DENIED where
it is not allowed (R409). `want` picks the requests that the row is about. -/
def Module.serve (m : Module) (src : Loc) (reqId : BitVec 16) (cls : Nat) (want : CtlReq → Bool)
    (allowed : Module → CtlReq → Bool) (f : Module → CtlReq → Module) : Module :=
  match m.takeReq src reqId cls with
  | none => m
  | some (m', r) =>
    if !want r then m
    else if !m.isOn K.imgStatus_LOADED then m'.answer src reqId cls 3 []
    else if !allowed m' r then m'.deny r
    else f m' r

/-- Allowed by a permission bit. -/
def byBit (bit : Nat) (m : Module) (r : CtlReq) : Bool := m.permits r.src bit

/-! ### HEARTBEAT, REG_READ, REG_WRITE (R408, R518) -/

/-- HEARTBEAT is answered to any listed requester. -/
def Module.heartbeat (m : Module) (src : Loc) (reqId : BitVec 16) : Module :=
  m.serve src reqId 1 (fun _ => true) (fun m r => (m.permOf r.src).isSome) (fun m r =>
    let flags := flag m.sec.state.fenced + 2 * flag m.planned + 4 * m.getF K.imgStatus_FALLBACK
      + 8 * m.getF K.mpcStatus_OVERLOAD
    m.answer src reqId 1 0 (toBytes 8 (field r.body 0 8) ++ toBytes 2 (m.getF K.glbIncarn_INCARNATION) ++ toBytes 1 flags
      ++ toBytes 5 0 ++ toBytes 8 m.timeNow.toNat))

/-- The status of a run of accesses: that of the first that did not answer (R518). -/
def firstFault (was now : Nat) : Nat := if was = 0 then now else was

/-- The address of word `i` of a request. -/
def CtlReq.addr (r : CtlReq) (i : Nat) : Addr := BitVec.ofNat 40 (field r.body 3 5 + 4 * i)

/-- Read consecutive registers. -/
def Module.readWords (m : Module) (r : CtlReq) (n : Nat) : Module × List Byte × Nat :=
  (List.range n).foldl (fun (x : Module × List Byte × Nat) i =>
    let y := x.1.read (.src r.src) (r.addr i)
    (y.1, x.2.1 ++ toBytes 4 y.2.1.toNat, firstFault x.2.2 y.2.2.status)) (m, [], 0)

/-- Write consecutive registers, in ascending address. -/
def Module.writeWords (m : Module) (r : CtlReq) (n : Nat) : Module × Nat :=
  (List.range n).foldl (fun (x : Module × Nat) i =>
    let y := x.1.write (.src r.src) (r.addr i) (BitVec.ofNat 32 (field r.body (8 + 4 * i) 4))
    (y.1, firstFault x.2 y.2.status)) (m, 0)

/-- The eight bytes that open the body of a register request or reply. -/
def CtlReq.regHead (r : CtlReq) : List Byte := toBytes 8 (field r.body 0 1 * 2 ^ 56 + field r.body 3 5)

def Module.regRead (m : Module) (src : Loc) (reqId : BitVec 16) : Module :=
  m.serve src reqId 4 (fun _ => true) (byBit 0) (fun m r =>
    let x := m.readWords r (field r.body 0 1 + 1)
    x.1.answer src reqId 4 x.2.2 (r.regHead ++ x.2.1))

/-- Words that a write body does not bring are not written (R404). -/
def Module.regWrite (m : Module) (src : Loc) (reqId : BitVec 16) : Module :=
  m.serve src reqId 5 (fun _ => true) (byBit 1) (fun m r =>
    let x := m.writeWords r (min (field r.body 0 1 + 1) ((r.body.length - 8) / 4))
    x.1.answer src reqId 5 x.2 r.regHead)

/-! ### TABLE (R408) -/

/-- One entry of a TABLE body: an unknown TABLE or INDEX clamps (R16). -/
def Module.tableEntry (m : Module) (body : List Byte) (n : Nat) : Module :=
  let i := field body (9 + 40 * n) 3
  let v := BitVec.ofNat 256 (field body (16 + 40 * n) 32)
  match field body (8 + 40 * n) 1 with
  | 0 => m.writeRoute .route (fwdIndex .route i) (v.setWidth 64)
  | 1 => m.writeRoute .set (fwdIndex .set i) (v.setWidth 64)
  | 2 => m.writeRoute .member (min i 65535) (v.setWidth 64)
  | 3 => m.writeGroup false (min i 65535) v
  | _ => m.writeGroup true (min i 262143) v

/-- TABLE: entries, then a switch; a patch that holds the shadows keeps one with SWITCH out (R428). -/
def Module.tableReq (m : Module) (src : Loc) (reqId : BitVec 16) : Module :=
  m.serve src reqId 6 (fun _ => true) (byBit 2) (fun m r =>
    let switch := bitOf (field r.body 0 1) 0
    if switch && m.img.patch.isSome then m.answer src reqId 6 2 []
    else
      let n := min (clampTo 1 200 (field r.body 1 2)) ((r.body.length - 8) / 40)
      let m := m.each (List.range n) (fun m i => m.tableEntry r.body i)
      (if switch then m.askSwitch else m).tableDone src reqId)

/-! ### FLASH (R414, R415) -/

/-- The region and the operation that a FLASH body names, clamped (R16). -/
def CtlReq.region (r : CtlReq) : Nat := min 1 (field r.body 0 1)
def CtlReq.flashOp (r : CtlReq) : Nat := min 2 (field r.body 1 1)

/-- The copy of a region that the module did not start from: is it B? -/
def Module.inactiveB (m : Module) (region : Nat) : Bool :=
  if region = 0 then !m.img.firmwareB else !m.isOn K.imgStatus_ACTIVE

/-- Is step 10 falling back to the other copy (R416, R428)? -/
def Module.fallingBack (m : Module) : Bool :=
  match m.power.request with
  | some q => q.cause == 8
  | none => false

/-- A FLASH request of an operation: BUSY while step 10 falls back (R428). -/
def Module.flashReq (m : Module) (src : Loc) (reqId : BitVec 16) (op : Nat) (f : Module → CtlReq → Module) : Module :=
  if m.fallingBack then
    match m.takeReq src reqId 9 with
    | some (m', r) => if r.flashOp = op then m'.answer src reqId 9 2 [] else m
    | none => m
  else m.serve src reqId 9 (fun r => r.flashOp == op) (byBit 5) f

def Module.flashEraseReq (m : Module) (src : Loc) (reqId : BitVec 16) : Module :=
  m.flashReq src reqId 0 (fun m r =>
    let m := m.flashErase (copyBase r.region (m.inactiveB r.region)) (copySize r.region)
    let m := { m with img := { m.img with
      written := Tbl.put m.img.written r.region 0, verified := m.img.verified.filter (· ≠ r.region) } }
    m.answer src reqId 9 0 [])

/-- A write follows the last one since the erase; what lies beyond the copy is not written. -/
def Module.flashWriteReq (m : Module) (src : Loc) (reqId : BitVec 16) : Module :=
  m.flashReq src reqId 1 (fun m r =>
    let at_ := field r.body 4 4
    if Tbl.find m.img.written r.region ≠ some at_ then m.answer src reqId 9 5 []
    else
      let data := (r.body.drop 8).take (copySize r.region - at_)
      let m := m.flashWrite (copyBase r.region (m.inactiveB r.region) + at_) data
      let m := { m with img := { m.img with
        written := Tbl.put m.img.written r.region (at_ + data.length), verified := m.img.verified.filter (· ≠ r.region) } }
      m.answer src reqId 9 0 [])

/-- Does the inactive copy of a region verify? The layout of firmware is not given: whether its digests hold is `digestsOk`. -/
def Module.copyVerifies (m : Module) (region : Nat) (rsaOk slhOk digestsOk : Bool) : Bool :=
  let isB := m.inactiveB region
  rsaOk && slhOk && (if region = 0 then digestsOk else m.signedCopy isB && m.digestsHold isB)

/-- The verify of the inactive copy: a valid image in the slot that the fallback marker names clears the marker (R417). -/
def Module.flashVerifyReq (m : Module) (src : Loc) (reqId : BitVec 16) (rsaOk slhOk digestsOk : Bool) : Module :=
  m.flashReq src reqId 2 (fun m r =>
    let m := m.raise .img_FLASH_DONE 0
    let m := if rsaOk != slhOk then m.raise .sec_SIG_HALF 0 else m
    if m.copyVerifies r.region rsaOk slhOk digestsOk then
      let marked := match m.img.marker with
        | some k => r.region == 1 && k.copyB == m.inactiveB 1
        | none => false
      let m := { m with img := { m.img with
        verified := m.img.verified.filter (· ≠ r.region) ++ [r.region], marker := if marked then none else m.img.marker } }
      m.answer src reqId 9 0 []
    else m.answer src reqId 9 6 [])

/-! ### PATCH (R420) -/

/-- A patch ends without DONE. -/
def Module.refusePatch (m : Module) (src : Loc) (reqId : BitVec 16) (status : Nat) : Module :=
  (({ m with img := { m.img with gathering := false } }).raise .img_PATCH_REFUSED 0).answer src reqId 8 status []

/-- The signed payload of a PATCH body, after its 16-byte header. A LENGTH beyond 16 MiB or beyond the data present clamps
(R16, R404). -/
def patchPayload (body : List Byte) : List Byte := (body.drop 16).take (min (field body 12 4) (2 ^ 24))

/-- A whole PATCH body: its sequence is checked, then its signatures, and it waits to be applied. -/
def Module.patchReq (m : Module) (src : Loc) (reqId : BitVec 16) (rsaOk slhOk : Bool) (live : LiveSections)
    (structural : List Nat) : Module :=
  match m.takeReq src reqId 8 with
  | none => m
  | some (m, r) =>
    if !m.isOn K.imgStatus_LOADED then m.refusePatch src reqId 3
    else if !m.permits src 4 then (m.raise .mpc_DENIED 0).refusePatch src reqId 1
    else if field r.body 0 4 ≠ m.getF K.imgSeq_SEQ ∨ field r.body 4 4 ≠ m.getF K.imgPatchSeq_SEQ + 1 then
      m.refusePatch src reqId 5
    else
      let m := if rsaOk != slhOk then m.raise .sec_SIG_HALF 0 else m
      if !(rsaOk && slhOk) then m.refusePatch src reqId 6
      else
        let p : Patch := { src := src, reqId := reqId, switch := bitOf (field r.body 8 1) 0, live := live, structural := structural
                           digest := sha384 (patchPayload r.body) }
        { m with img := { m.img with gathering := false, patch := some p } }

/-- The patch is applied whole; its structural sections are held, unused, until restart (R296). A switch that FWD_VER asked for meanwhile follows the patch's own (R428). -/
def Module.applyPatch (m : Module) : Module :=
  match m.img.patch with
  | none => m
  | some p =>
    let again := m.img.switchAfter
    let m := m.applyLive p.live p.switch
    let m := { m with img := { m.img with
      patch := none, heldPatch := false, switchAfter := false, liveApplied := m.img.liveApplied ++ [p.live]
      structural := m.img.structural ++ p.structural.filter (fun n => !m.img.structural.contains n) } }
    let m := (m.setF K.imgPatchSeq_SEQ (m.getF K.imgPatchSeq_SEQ + 1)).raise .img_PATCH_APPLIED 0
    let m := (m.chainPatch p.digest).answer p.src p.reqId 8 0 []
    if again then m.askSwitch else m

/-- The patch's turn: not while the shadow is copied (R27); in TIMETABLE with sector lock held it waits for the period edge
(R360). -/
def Module.patchApply (m : Module) : Module :=
  if m.img.patch.isNone || m.fwd.copying || m.img.heldPatch then m
  else if m.holdsWrites then
    ({ m with img := { m.img with heldPatch := true } }).each m.sectors (fun m s => m.raise .sched_WRITE_HELD s)
  else m.applyPatch

/-- Chunks still missing 100 ms after the first are dropped (R407). -/
def Module.controlIncomplete (m : Module) (src : Loc) (reqId : BitVec 16) : Module :=
  match m.mpc.gather.find? (fun g => g.src == src && g.reqId == reqId) with
  | none => m
  | some g =>
    let m := { m with mpc := { m.mpc with gather := m.mpc.gather.filter (fun x => !(x.src == src && x.reqId == reqId)) } }
    let missing := (List.range (g.chunksM1 + 1)).filter (fun i => (Tbl.find g.got i).isNone)
    (if g.cls = 8 then m.refusePatch src reqId 7 else m.answer src reqId g.cls 7 []).awaitChunks src reqId missing

/-! ### TELEMETRY (R475 to R477, R482, R483) -/

/-- A range of a request: event, first instance, instances. -/
structure TelRange where
  event : Nat
  first : Nat
  count : Nat
  deriving DecidableEq, Repr

/-- The ranges of a request. -/
def telRanges (body : List Byte) : List TelRange :=
  (List.range (clampTo 1 64 (field body 1 1))).map (fun n =>
    { event := min 4095 (field body (8 + 8 * n) 2), first := field body (10 + 8 * n) 2
      count := clampTo 1 2048 (field body (12 + 8 * n) 2) })

/-- At most `n` counters: those beyond are dropped from the last range backward. -/
def limitRanges (n : Nat) : List TelRange → List TelRange
  | [] => []
  | r :: rest => if n = 0 then [] else { r with count := min n r.count } :: limitRanges (n - min n r.count) rest

/-- Does one grant cover a range? -/
def Grant.covers (g : Grant) (loc : Loc) (group first count : Nat) : Bool :=
  g.valid && g.loc == loc && decide (g.groupLo ≤ group) && decide (group ≤ g.groupHi) && decide (g.instLo ≤ first)
    && decide (first + count ≤ g.instHi + 1)

def Module.granted (m : Module) (loc : Loc) (group first count : Nat) : Bool :=
  m.tel.grants.any (fun x => x.2.covers loc group first count)

/-- May a requester read these ranges, or take records? -/
def Module.mayTel (m : Module) (r : CtlReq) : Bool :=
  m.permits r.src 0
    || (if field r.body 0 1 = 0 then
          (limitRanges 1000 (telRanges r.body)).all (fun x => m.granted r.src (x.event / 32) x.first x.count)
        else m.tel.grants.any (fun x => x.2.valid && x.2.loc == r.src && decide (x.2.groupLo ≤ 0x7F) && decide (0x7F ≤ x.2.groupHi)))

/-- One instance of a range (R475): beyond its group it clamps, and one that the member lacks is counted. -/
def Module.telValue (m : Module) (event i : Nat) : Module × List Byte :=
  let g := event / 32
  let i := min (groupInstances g - 1) i
  (if m.liveInstances g ≤ i then m.raise .tel_ABSENT_INSTANCE 0 else m, toBytes 8 (m.counter event i))

/-- OP 0: every counter of the reply is captured on one tick. -/
def Module.telemetryRead (m : Module) (src : Loc) (reqId : BitVec 16) : Module :=
  m.serve src reqId 10 (fun r => field r.body 0 1 == 0) Module.mayTel (fun m r =>
    let all := (limitRanges 1000 (telRanges r.body)).flatMap (fun x => (List.range x.count).map (fun i => (x.event, x.first + i)))
    let y := all.foldl (fun (y : Module × List Byte) e =>
      ((y.1.telValue e.1 e.2).1, y.2 ++ (m.telValue e.1 e.2).2)) (m, toBytes 8 m.timeNow.toNat)
    y.1.answer src reqId 10 0 y.2)

/-- The layout of an OP 1 reply. -/
def recordsBody (kind count first size : Nat) (rs : List Nat) : List Byte :=
  toBytes 1 kind ++ toBytes 1 count ++ toBytes 4 first ++ toBytes 2 0 ++ rs.flatMap (fun r => toBytes size r)

/-- Take up to 250 sampled records, oldest first: the number of the first, and the records. The number that a reply with no
records carries is open. -/
def Module.takeRecords (m : Module) : Module × Nat × List Nat :=
  let rs := m.tel.samples.take 250
  match rs with
  | [] => (m.drawn, m.openWord.toNat % 2 ^ 32, [])
  | x :: _ => ({ m with tel := { m.tel with samples := m.tel.samples.drop 250 } }, x.1.toNat, rs.map (fun x => x.2.toNat))

/-- OP 1. -/
def Module.telemetryTake (m : Module) (src : Loc) (reqId : BitVec 16) : Module :=
  m.serve src reqId 10 (fun r => field r.body 0 1 != 0) Module.mayTel (fun m _ =>
    let x := m.takeRecords
    x.1.answer src reqId 10 0 (recordsBody 1 x.2.2.length x.2.1 32 x.2.2))

/-- A frame of records to the sink. -/
def Module.sendSink (m : Module) (kind first size : Nat) (rs : List Nat) : Module :=
  let loc := BitVec.ofNat 32 (m.getF K.telSink_LOC)
  let body := recordsBody kind rs.length first size rs
  (m.emit (.sinkFrame loc kind (BitVec.ofNat 32 first) rs)).sendControl loc
    { cls := 10, isReply := true, reqId := 0xFFFF, status := 0, bodyLen := body.length, chunk := 0, chunksM1 := 0 } body

/-- The MPC pushes to the sink, at priority 5, with nothing above it to serve (R424): up to 250 sampled records, and up to 50 mirror records. What stands for
RECORD_SEQ in a frame of mirror records is open. -/
def Module.sinkPush (m : Module) : Module :=
  if m.getF K.telSink_LOC = 0 ∨ m.coreFor 5 = false ∨ (m.nextReq 5).isSome = true then m
  else
    let m := if m.tel.samples.isEmpty then m
      else
        let x := m.takeRecords
        x.1.sendSink 1 x.2.1 32 x.2.2
    if m.buf.mirrors.isEmpty then m
    else
      let rs := (m.buf.mirrors.take 50).map (·.toNat)
      let first := m.openWord.toNat % 2 ^ 32
      ({ m.drawn with buf := { m.buf with mirrors := m.buf.mirrors.drop 50 } }).sendSink 2 first 160 rs

/-! ### Overload (R427) -/

/-- A priority-3 frame has waited OVL_MS. -/
def Module.overload (m : Module) : Module :=
  if m.queued 3 = 0 ∨ m.isOn K.mpcStatus_OVERLOAD = true then m
  else (m.setF K.mpcStatus_OVERLOAD 1).raise .mpc_MPC_OVERLOAD 0

/-- 10 ms without such a wait. -/
def Module.overloadEnds (m : Module) : Module := m.setF K.mpcStatus_OVERLOAD 0

/-! ### Cores (R458, R459) -/

/-- A core fails, the spare one in reserve too. -/
def Module.coreFails (m : Module) (c : Nat) : Module :=
  if c = 4 ∧ m.spareReady = true then (m.spareFails.raise .tel_MPC_CORE_FAIL 0).record 0x0E c 0xFFFF
  else if !bitOf (m.getF K.mpcStatus_CORES_UP) c then m
  else ((m.coreOut c).raise .tel_MPC_CORE_FAIL 0).record 0x0E c (if m.mpc.coreMoving.isNone && m.spareReady then 4 else 0xFFFF)

end Sys2Proof.Machine
end

