-- ==== Sys2Proof/Machine/EventLog.lean ====
section
/-! DEFINITION. The event log (spec/20_register_map.md R524 to R528; spec/14_clocks_and_time.md R395). -/

namespace Sys2Proof.Machine

/-- Events that are never suppressed (R525). -/
def neverSuppressed (e : Ev) : Bool :=
  match e with
  | .clk_CLOCK_FAIL | .clk_XTAL_LOST | .clk_IOSC_LOST | .pwr_RAIL_FAULT | .pwr_THERMTRIP | .sec_FENCE_ON | .sec_EXPELLED
  | .pra_PRA_TRIP | .col_DESC_MISMATCH => true
  | _ => false

/-- Events whose cause lies before the start (R526). -/
def beforeStart (e : Ev) : Bool :=
  match e with
  | .pwr_READY | .pwr_THERMTRIP => true
  | _ => false

/-- The 128 bits of an entry (R526). -/
def logEntry (time : BitVec 64) (event inst unc : Nat) (lost : Bool) (detail : Nat) : BitVec 128 :=
  BitVec.ofNat 128 (time.toNat * 2 ^ 64 + event % 2 ^ 12 * 2 ^ 52 + inst % 2 ^ 11 * 2 ^ 41 + unc % 2 ^ 16 * 2 ^ 25
    + flag lost * 2 ^ 24 + detail % 2 ^ 24)

/-- The counter of an interrupt's line in 10 ns units, from its assertion to now (R395). -/
def Module.lineCounter (m : Module) (p : PendingIrq) : Nat := min 0xFFFF ((m.elapsed - p.at_) / (10 * perNs))

/-- The uncertainty in 10 ns units (R395): the counter and 200 ns, or its maximum where the counter has saturated. -/
def Module.logUnc (m : Module) (p : PendingIrq) : Nat := if beforeStart p.ev then 0xFFFF else min 0xFFFF (m.lineCounter p + 20)

/-- Is an occurrence suppressed (R525)? -/
def Module.suppressed (m : Module) (p : PendingIrq) : Bool :=
  let soon := match Tbl.find m.log.lastAt (p.ev.num, p.inst) with
    | some t => decide (p.at_ < t + perMs)
    | none => false
  !neverSuppressed p.ev && (soon || decide (200000 ≤ (m.log.recent.filter (fun t => decide (p.at_ < t + perSec))).length))

/-- An entry takes the next sequence number, and the oldest goes where 1024 are held. -/
def Module.logPut (m : Module) (e : BitVec 128) : Module :=
  let all := m.log.entries ++ [(m.logNext, e)]
  { m with log := { m.log with entries := all.drop (all.length - 1024) } }.emit (.uartLine e)

/-- Write one occurrence, or note that it went unlogged. -/
def Module.logOne (m : Module) (p : PendingIrq) : Module :=
  let key := (p.ev.num, p.inst)
  if m.suppressed p then
    if m.log.lost.contains key then m else { m with log := { m.log with lost := m.log.lost ++ [key] } }
  else
    let lost := m.log.lost.contains key
    let m := { m with log := { m.log with
      lost := m.log.lost.filter (· ≠ key), lastAt := Tbl.put m.log.lastAt key m.elapsed
      recent := m.log.recent.filter (fun t => decide (m.elapsed < t + perSec)) ++ [m.elapsed] } }
    m.logPut (logEntry m.timeNow p.ev.num p.inst (m.logUnc p) lost p.detail)

/-- May an occurrence be written now: those of before the start wait until domain 4 runs (R526)? -/
def Module.mayLog (m : Module) (p : PendingIrq) : Bool := m.time.running || !beforeStart p.ev

/-- Core 0 enters an interrupt, of those that wait the one at `line`, oldest first, and writes the log (R395, R524). Which it enters
first the spec does not say (notes/assumptions/86.md). The firmware runs from step 4. -/
def Module.eventLogWrite (m : Module) (line : Nat) : Module :=
  if m.power.inReset.isSome || decide (m.startStep < 4) || !m.coreFor 1 then m
  else
    match (m.log.pend.filter (fun p => m.mayLog p))[line]? with
    | none => m
    | some p => ({ m with log := { m.log with pend := m.log.pend.erase p } }).logOne p

end Sys2Proof.Machine
end

