-- ==== Sys2Proof/Machine/Ports.lean ====
section
/-! DEFINITION. SMBus and JTAG (spec/15_management_and_structure_image.md R412, R413; spec/20_register_map.md R522, R528;
spec/21_signals_package_electrical.md R544). -/

namespace Sys2Proof.Machine

/-! ### SMBus -/

/-- The target answers from step 2 on, through every reset but power-on. -/
def Module.smbAnswers (m : Module) : Bool := decide (2 ≤ m.startStep) && m.power.inReset != some .powerOn

/-- Is a write carried out as far as its PEC goes? -/
def Module.pecOk (m : Module) (pec : Pec) : Bool :=
  match pec with
  | .good => true
  | .bad => false
  | .absent => !m.isOn K.mpcSmb_PEC_REQ

/-- A write of a command: refused and counted where its PEC fails. -/
def Module.smbWrite (m : Module) (pec : Pec) (f : Module → Module) : Module :=
  if !m.smbAnswers then m else if m.pecOk pec then f m else m.raise .mpc_SMB_PEC_FAIL 0

def Module.smbSetAddr (m : Module) (a : Addr) : Module := { m with mpc := { m.mpc with smbAddr := a } }

/-- DATA, written: ADDR then advances. -/
def Module.smbDataOut (m : Module) (w : Word) : Module :=
  (m.accessWrite .smb m.mpc.smbAddr w).smbSetAddr (m.mpc.smbAddr + 4)

/-- DATA, read. -/
def Module.smbDataIn (m : Module) : Module :=
  if !m.smbAnswers then m
  else
    let x := m.read .smb m.mpc.smbAddr
    ((x.1.smbFaults x.2.2).emit (.smbBytes (toBytes 4 x.2.1.toNat))).smbSetAddr (m.mpc.smbAddr + 4)

/-- Has start-up stopped for want of a valid image copy (R412, R416)? -/
def Module.noImage (m : Module) : Bool :=
  m.isOn K.pwrStatus_STALLED
    && ((m.startStep == 4 && !m.isOn K.imgStatus_A_VALID && !m.isOn K.imgStatus_B_VALID)
      || (m.startStep == 10 && m.sec.state.provisioned))

/-- STATUS: the read clears ACCESS_FAULT. -/
def Module.smbStatusIn (m : Module) : Module :=
  if !m.smbAnswers then m
  else
    let b := m.startStep * 16 + 8 * flag m.mpc.smbFault + 4 * flag m.noImage
    ({ m with mpc := { m.mpc with smbFault := false } }).emit (.smbBytes (toBytes 1 b))

/-- EVENT: the oldest entry not yet read this way; where the pointer has fallen out of the log, the oldest held. What it
returns with no entry left is open. -/
def Module.smbEventIn (m : Module) : Module :=
  if !m.smbAnswers then m
  else
    let give (e : Nat × BitVec 128) : Module :=
      ({ m with log := { m.log with smbSeq := (e.1 + 1) % 2 ^ 32 } }).emit (.smbBytes (toBytes 16 e.2.toNat))
    match m.log.entries.find? (fun e => e.1 == m.log.smbSeq), m.log.entries with
    | some e, _ => give e
    | none, e :: _ =>
      if m.log.smbSeq = m.logNext then
        m.drawn.drawn.emit (.smbBytes (toBytes 8 m.openWord.toNat ++ toBytes 8 m.drawn.openWord.toNat))
      else give e
    | none, [] => m.drawn.drawn.emit (.smbBytes (toBytes 8 m.openWord.toNat ++ toBytes 8 m.drawn.openWord.toNat))

/-- The flash commands act only while start-up has stopped at step 4 or 5. -/
def Module.smbRecovery (m : Module) (f : Module → Module) : Module :=
  if m.isOn K.pwrStatus_STALLED && (m.startStep == 4 || m.startStep == 5) then f m else m.smbFaults .notReady

def Module.setFlashAddr (m : Module) (a : Nat) : Module := { m with mpc := { m.mpc with smbFlash := a % 2 ^ 32 } }

/-- The bytes of flash that SMBus has changed since the module last wrote there. -/
def Module.noteTouched (m : Module) (a n : Nat) : Module := { m with img := { m.img with touched := m.img.touched ++ [(a, n)] } }

def Module.smbFlashOut (m : Module) (data : List Byte) : Module :=
  m.smbRecovery (fun m =>
    let a := m.mpc.smbFlash
    let bs := data.take 32
    ((m.flashWrite a bs).noteTouched a bs.length).setFlashAddr (a + bs.length))

/-- A byte of flash as SMBus reads it: the bytes of the security state that the module has written are open, for the spec does not
lay them out. -/
def Module.flashRead (m : Module) (a : Nat) : Module × Byte :=
  let known := m.img.touched.any (fun x => decide (x.1 ≤ a) && decide (a < x.1 + x.2))
  if 0x45000000 ≤ a ∧ a < 0x46000000 ∧ known = false then (m.drawn, m.openWord.setWidth 8) else (m, m.flashByte a)

def Module.smbFlashIn (m : Module) (n : Nat) : Module :=
  if !m.smbAnswers then m
  else
    m.smbRecovery (fun m =>
      let a := m.mpc.smbFlash
      let x := (List.range n).foldl (fun (x : Module × List Byte) i =>
        ((x.1.flashRead (a + i)).1, x.2 ++ [(x.1.flashRead (a + i)).2])) (m, [])
      (x.1.emit (.smbBytes x.2)).setFlashAddr (a + n))

def Module.smbErase (m : Module) : Module :=
  m.smbRecovery (fun m =>
    let a := m.mpc.smbFlash / 65536 * 65536
    (m.flashErase a 65536).noteTouched a 65536)

/-- The Alert Response Address (R522): the module's 7-bit address. The bit below it is open. -/
def Module.smbAlert (m : Module) : Module :=
  if m.smbAnswers && m.isOn K.glbAlert_ASSERTED then
    m.drawn.emit (.smbBytes (toBytes 1 (2 * (0x40 + m.power.strapAddr.toNat) + m.openWord.toNat % 2)))
  else m

/-! ### JTAG (R544) -/

/-- The TAP answers from step 2. -/
def Module.tapAnswers (m : Module) : Bool := decide (2 ≤ m.startStep) && m.power.inReset != some .powerOn

/-- An instruction that drives the pins: a cold reset without notice while it is in force. CAUSE has no code for it, and what
it reads then is open. -/
def Module.jtagDrive (m : Module) : Module :=
  if m.tapAnswers then m.drawn.coldNow (m.openWord.toNat % 16) .jtag else m

/-- Test-Logic-Reset ends it. -/
def Module.jtagReset (m : Module) : Module := m.releaseReset .jtag

/-- A private instruction: a register access, under the debug unlock (R413). -/
def Module.jtagAccess (m : Module) (addr : Addr) (write : Option Word) : Module :=
  if !m.tapAnswers || !m.sec.debug then m
  else
    match write with
    | some w => (m.write .jtag addr w).1
    | none =>
      let x := m.read .jtag addr
      x.1.emit (.jtagWord x.2.1)

/-- IDCODE: version, part, manufacturer, 1. -/
def Module.jtagId (m : Module) : Module :=
  if m.tapAnswers then
    m.emit (.jtagWord (BitVec.ofNat 32 (m.getF K.glbId_STEPPING % 16 * 2 ^ 28 + m.getF K.glbId_MEMBER * 2 ^ 12
      + Config.jedecId.toNat * 2 + 1)))
  else m

end Sys2Proof.Machine
end

