-- ==== Sys2Proof/Machine/Start.lean ====
section
/-! DEFINITION. The steps of start-up (spec/19_power_thermal_startup.md R506 to R508;
spec/15_management_and_structure_image.md R416, R417; spec/16_security_and_quorum.md R433, R435, R436, R440). -/

namespace Sys2Proof.Machine

/-! ### Steps 1 to 3 -/

/-- A rehearsal permission armed for the next start comes into force; its DURATION begins at step 12 (R440). -/
def Module.startRehearsal (m : Module) : Module :=
  match m.sec.state.armed with
  | some r =>
    let m := m.modState (fun st => { st with armed := none })
    ({ m with sec := { m.sec with rehearsal := some r, rehearsalEnd := 0 } }).raise .sec_REHEARSAL_ON 0
  | none => m

/-- Step 1: the island leaves reset; what caused the reset stands in PWR_RST_CAUSE. -/
def Module.startAon (m : Module) : Module :=
  if m.atStep 1 && m.power.holds.isEmpty then m.startRehearsal.goStep 2 else m

/-- Step 2 (R374). -/
def Module.startIosc (m : Module) : Module := if m.atStep 2 && m.power.holds.isEmpty then m.goStep 3 else m

/-- A start other than the first after a power-on reset takes the next incarnation (R521). -/
def Module.takeIncarnation (m : Module) : Module :=
  if m.power.inReset.isSome then m.setF K.glbIncarn_INCARNATION (nextIncarnation (m.getF K.glbIncarn_INCARNATION)) else m

/-- Step 3, at which cold, warm and core starts resume once nothing holds the module in reset: the boot ROM hashes itself and the
fuses (R436). -/
def Module.startBootRom (m : Module) : Module :=
  if m.startStep = 3 ∧ m.power.inReset ≠ some .powerOn ∧ m.power.holds = [] then
    let m := m.takeIncarnation
    let m := { m with sec := { m.sec with romHash := Config.romDigest m.sec.svn m.sec.firmwareKey } }
    ({ m with power := { m.power with inReset := none } }).startRehearsal.goStep 4
  else m

/-! ### Step 4: firmware (R436) -/

/-- Is the key pair that travels in a firmware copy the one whose digest is fused? -/
def FirmwareCheck.keyOk (c : FirmwareCheck) (key : BitVec 384) : Bool := sha384 c.pair == key

/-- Is a firmware copy accepted, by the fused key and security version? -/
def FirmwareCheck.valid (c : FirmwareCheck) (key : BitVec 384) (fused : BitVec 8) : Bool :=
  c.rsaOk && c.slhOk && decide (fused ≤ c.svn) && c.digestsOk && c.keyOk key

/-- Does a copy go before another: the higher security version, then the higher sequence? -/
def FirmwareCheck.before (x y : FirmwareCheck) : Bool := decide (y.svn < x.svn) || (x.svn == y.svn && decide (y.seq < x.seq))

/-- A half pair is counted (R433). -/
def Module.countHalf (m : Module) (rsaOk slhOk : Bool) : Module := if rsaOk != slhOk then m.raise .sec_SIG_HALF 0 else m

/-- One firmware copy is judged. -/
def Module.judgeFirmware (m : Module) (c : FirmwareCheck) : Module :=
  if c.valid m.sec.firmwareKey m.sec.svn then m
  else (if c.keyOk m.sec.firmwareKey then m.countHalf c.rsaOk c.slhOk else m).raise .sec_BOOT_SIG_FAIL 0

/-- The copy that runs: is it B? -/
def firmwareChoice (key : BitVec 384) (fused : BitVec 8) (a b : FirmwareCheck) : Option Bool :=
  match a.valid key fused, b.valid key fused with
  | true, true => some (b.before a)
  | true, false => some false
  | false, true => some true
  | false, false => none

/-- A firmware copy runs. The layout of its header is not given: its digest is open. -/
def Module.runFirmware (m : Module) (isB : Bool) (svn : BitVec 8) : Module :=
  let m := { m with
    sec := { m.sec with runningSvn := svn, firmwareHash := Config.freeDigest m.fresh }, img := { m.img with firmwareB := isB } }
  m.drawn

/-! ### Step 4: the security state (R435) -/

/-- The two copies of the security state are equal, for a change is one step (notes/assumptions/96.md): one is valid where its
pair verifies and its KEYSET_VER is not below the counter. With no valid copy the module runs unprovisioned; the steps of the
counter are kept. -/
def Module.chooseState (m : Module) (a b : PairCheck) : Module :=
  let m := (m.countHalf a.rsaOk a.slhOk).countHalf b.rsaOk b.slhOk
  let st := m.sec.state
  if ((a.rsaOk && a.slhOk) || (b.rsaOk && b.slhOk)) && decide (st.counter ≤ st.ver.toNat) then m.pendingEffect
  else (m.modState (fun st => { SecState.factory with counter := st.counter })).raise .sec_SEC_STATE_FAIL 0

/-! ### Step 4: the image (R416, R417) -/

/-- Does a copy pass step 4: both signatures of its header, its MEMBER and its identity section? -/
def Module.copyPasses (m : Module) (isB : Bool) (c : CopyCheck) : Bool :=
  let h := m.imageHeader isB
  h.magic == 0x47575348 && h.format == m.getF K.imgId_FORMAT && h.member == m.getF K.imgId_MEMBER
    && c.rsaOk && c.slhOk && c.identity.isSome && m.signedCopy isB && m.identityHolds isB

/-- Does the fallback marker leave a copy out? -/
def Module.leftOut (m : Module) (isB : Bool) : Bool :=
  match m.img.marker with
  | some k => k.copyB == isB
  | none => false

/-- The copy chosen, B where true: the higher SEQ among those that pass. -/
def Module.copyChoice (m : Module) (a b : CopyCheck) : Option Bool :=
  match m.copyPasses false a && !m.leftOut false, m.copyPasses true b && !m.leftOut true with
  | true, true => some (decide ((m.imageHeader false).seq < (m.imageHeader true).seq))
  | true, false => some false
  | false, true => some true
  | false, false => none

/-- The digest of a copy's header, which attestation reports (R444). -/
def Module.hashImage (m : Module) (isB : Bool) : Module :=
  { m with sec := { m.sec with imageHash := sha384 (m.flashBytes (copyBase 1 isB) 4096) } }

/-- The copy is the active one. -/
def Module.activate (m : Module) (isB : Bool) (other : Nat) : Module :=
  let m := (m.setB K.imgStatus_ACTIVE isB).setF K.imgSeq_SEQ (m.imageHeader isB).seq
  let m := (m.setF K.imgOtherSeq_SEQ other).setAll 8 K.fwdCtrl_PROFILE (m.profileFor (m.imageHeader isB).profile)
  m.hashImage isB

/-- The crystal is qualified in step 5, which is skipped where it is qualified already. -/
def Module.afterFour (m : Module) : Module := m.goStep (if m.isOn K.clkStatus_XTAL_OK then 6 else 5)

/-- A copy that the fallback marker leaves out shows as a fallback (R417). -/
def Module.noteMarker (m : Module) : Module :=
  if m.img.marker.isSome then (m.setF K.imgStatus_FALLBACK 1).raise .img_IMG_FALLBACK 0 else m

/-- The image copies are judged and one is chosen. An unprovisioned module has no owner key and loads none (R443). -/
def Module.chooseImage (m : Module) (a b : CopyCheck) : Module :=
  if !m.sec.state.provisioned then m.afterFour
  else
    let m := (m.countHalf a.rsaOk a.slhOk).countHalf b.rsaOk b.slhOk
    let m := (m.setB K.imgStatus_A_VALID (m.copyPasses false a)).setB K.imgStatus_B_VALID (m.copyPasses true b)
    let m := m.noteMarker
    match m.copyChoice a b with
    | none => m.stallStart
    | some isB =>
      let otherOk := if isB then m.copyPasses false a && !m.leftOut false else m.copyPasses true b && !m.leftOut true
      let m := m.activate isB (if otherOk then (m.imageHeader (!isB)).seq else 0)
      let m := match (if isB then b else a).identity with
        | some d => m.loadIdentity d
        | none => m
      m.afterFour

/-- Step 4. -/
def Module.signatures (m : Module) (fwA fwB : FirmwareCheck) (imgA imgB : CopyCheck) (secA secB : PairCheck) : Module :=
  if m.atStep 4 then
    let choice := firmwareChoice m.sec.firmwareKey m.sec.svn fwA fwB
    let m := (m.judgeFirmware fwA).judgeFirmware fwB
    match choice with
    | none => m.stallStart
    | some isB =>
      ((m.runFirmware isB (if isB then fwB else fwA).svn).chooseState secA secB).chooseImage imgA imgB
  else m

/-! ### Steps 7 to 9 -/

/-- The engines warm up for step 8 (R74); one under Flyover hold keeps STATE 4 until its lasers are in lock. -/
def Module.warmEngines (m : Module) : Module :=
  m.each (List.range (m.liveCount .lpe)) (fun m e => if m.engineState e = 0 then m.setF (K.lpeStatus_STATE e) 1 else m)

/-- Step 7 (R341): channels that the repair table has stay mapped out, and every stack trains. -/
def Module.trainHbm (m : Module) (failed : List (Nat × Nat)) : Module :=
  if m.atStep 7 then
    let m := m.reapplyKinds [0x0B]
    (m.each (List.range (m.liveCount .hbm)) (fun m k =>
      m.trainStack k ((failed.filter (fun x => x.1 == k)).map (·.2)))).warmEngines.goStep 8
  else m

/-- A bank with no full assignment loses wavelengths on its port (R48). -/
def Module.judgeBank (m : Module) (e i k : Nat) : Module :=
  let s := m.bankShift e i k
  if m.covered e i k s = 4 then m
  else
    let served := (natsWhere 5 (fun j => m.serves e i k s j)).map (fun j => slotOf5 s j)
    (m.raise .lpe_SEARCH_FAIL e).each (natsWhere 4 (fun w => !served.contains w)) (fun m w => m.losePortLambda e (ringAt i k 0) w)

/-- A port launches at its reduced level (R68), beside the circuits held through the reset. -/
def Module.firstLaunch (m : Module) (e i : Nat) : Module :=
  let m := (m.setF (K.lpePortApr_REDUCED e i) 1).setBit (K.lpeStatus_PORT_APR e) i true
  let m := m.retotal (8 * e + i)
  m.each (m.lportsOf [8 * e + i]) (fun m l => m.setLinkState l 1)

/-- An engine has searched its rings: held rings are left out (R94). Nothing takes it to STATE 5 (notes/assumptions/125.md). -/
def Module.lightEngine (m : Module) (e : Nat) : Module :=
  let m := m.setF (K.lpeStatus_STATE e) 3
  m.each (List.range 8) (fun m i => (m.each (List.range 4) (fun m k => m.judgeBank e i k)).firstLaunch e i)

/-- Step 8 (R46, R94, R313): the search, the arrays' own rings, reduced light, and the modulator rings of held circuits' output
lanes at full drop. -/
def Module.startLight (m : Module) (dips : List RingDips) (praRings : List (Nat × Nat)) : Module :=
  if m.atStep 8 then
    let rings := m.lpe.rings.filter (fun (x : (Nat × Nat) × Ring) => x.2.held)
    let kept (d : RingDips) : Bool := rings.any (fun x => x.1 == (d.pb, d.ring))
    let m := { m with lpe := { m.lpe with rings := rings, dips := m.lpe.dips.filter kept ++ dips.filter (fun d => !kept d) }, power := { m.power with dark := false } }
    let m := m.each (List.range (m.liveCount .pra)) (fun m a => m.setF (K.praCarrier_UP a) (2 ^ 32 - 1))
    let m := m.each (List.range (m.liveCount .lpe)) (fun m e => m.lightEngine e)
    let m := if m.profile = 0 then m.each praRings (fun m x => m.loseChan x.1 x.2) else m
    let m := m.reapplyKinds [0x01, 0x02, 0x03, 0x04, 0x0C]
    (m.each m.slotsInUse (fun m s => m.detuneServing (m.slotOut s) 0 (s % 4))).goStep 9
  else m

/-- Step 9 (R450): electrical lanes train and substitutions are re-applied. -/
def Module.startLinks (m : Module) : Module :=
  if m.atStep 9 then (m.reapplyKinds [0x05, 0x06, 0x07, 0x08, 0x09, 0x0A, 0x0E]).goStep 10 else m

/-! ### Step 10 (R416) -/

/-- What step 10 does. -/
inductive LoadPlan where
  | load (isB fallback : Bool) (c : LoadCheck)
  | restart
  | stall
  deriving DecidableEq, Repr

/-- The active copy where its digests hold; else the other, with a restart where its identity differs; else nothing. -/
def Module.loadPlan (m : Module) (a b : LoadCheck) : LoadPlan :=
  let isB := m.isOn K.imgStatus_ACTIVE
  let c := if isB then b else a
  let o := if isB then a else b
  let otherOk := m.isOn (if isB then K.imgStatus_A_VALID else K.imgStatus_B_VALID)
  if !m.sec.state.provisioned then .stall
  else if m.digestsHold isB then .load isB false c
  else if !otherOk || m.img.marker.isSome then .stall
  else if m.img.identity ≠ some o.identity then .restart
  else if m.digestsHold (!isB) then .load (!isB) true o
  else .stall

/-- Does the image that would be loaded fail a check that is nuwellan's (R13)? -/
def Module.loadsUnsound (m : Module) (a b : LoadCheck) : Bool :=
  match m.loadPlan a b with
  | .load isB _ c => m.atStep 10 && !m.isOn K.imgStatus_LOADED && !c.image.sound c.identity (m.imageHeader isB).profile (decide (0 < m.liveCount .hbm))
  | _ => false

/-- The module turns to the other copy. -/
def Module.fallBack (m : Module) : Module := (m.setF K.imgStatus_FALLBACK 1).raise .img_IMG_FALLBACK 0

/-- Does an array still calibrate, or wait to, for the image (R506)? -/
def Module.calibrates (m : Module) (a : Nat) : Bool :=
  m.praState a == 1 || (m.praAllowed a && m.praState a == 0)

/-- Step 10, its sections loaded, ends with the arrays calibrated. -/
def Module.endTen (m : Module) : Module := if (List.range (m.liveCount .pra)).any m.calibrates then m else m.goStep 11

/-- An array is calibrated: step 10 may end. -/
def Module.afterTen (m : Module) : Module := if m.atStep 10 && m.isOn K.imgStatus_LOADED then m.endTen else m

/-- The calibration of an array is done (R313): not while the governor holds the array (R509). -/
def Module.calDone (m : Module) (a passed : Nat) : Module :=
  if m.praState a = 1 ∧ bitOf (m.praAt a).causes 3 = false then (m.calibrated a passed).afterTen else m

/-- Step 10: the copy's sections are loaded, once. -/
def Module.imageLoad (m : Module) (a b : LoadCheck) : Module :=
  if m.atStep 10 && !m.isOn K.imgStatus_LOADED then
    let isB := m.isOn K.imgStatus_ACTIVE
    match m.loadPlan a b with
    | .load isB fallback c =>
      let m := if fallback then m.fallBack.activate isB 0 else m
      let h := m.imageHeader isB
      (m.loadImage c.image c.identity h.profile h.sections).endTen
    | .restart =>
      let k : Marker := { copyB := isB, seq := BitVec.ofNat 32 (m.getF K.imgSeq_SEQ) }
      let m := { m.fallBack with img := { m.img with marker := some k } }
      m.requestReset { kind := .cold, cause := 8, notice := false }
    | .stall =>
      let turned := m.sec.state.provisioned && !m.img.marker.isSome
        && m.isOn (if isB then K.imgStatus_A_VALID else K.imgStatus_B_VALID)
      (if turned then m.fallBack else m).stallStart
  else m

/-! ### Steps 11 and 12 -/

/-- Step 11: the alignment of TIMETABLE begins once the governor has every pipeline at its top level (R38, R494, R496,
notes/assumptions/143.md). -/
def Module.beginAlignment (m : Module) : Module :=
  if m.atStep 11 && m.timetable && !m.pipesTop then m else m.startAlignment

/-- The fuses take the security version of the firmware that runs (R436). -/
def Module.fuseSvn (m : Module) : Module :=
  { m with sec := { m.sec with svn := if m.sec.svn < m.sec.runningSvn then m.sec.runningSvn else m.sec.svn } }

/-- A start's permission has its DURATION from step 12 (R440). -/
def Module.beginDuration (m : Module) : Module :=
  match m.sec.rehearsal with
  | some r =>
    if m.sec.rehearsalEnd = 0 then { m with sec := { m.sec with rehearsalEnd := m.elapsed + r.seconds * perSec } } else m
  | none => m

/-- Step 12 (R507): links take their remaining credits. -/
def Module.becomeReady (m : Module) : Module :=
  if m.atStep 12 && !m.isReady then
    let m := m.setF K.pwrStatus_READY 1
    let m := m.raise .pwr_READY 0 (16 * m.getF K.pwrRstCause_THERMTRIP_SEEN + m.getF K.pwrRstCause_CAUSE)
    (m.each (m.lports.filter (fun l => m.isUp l)) (fun m l => m.grantRest l)).fuseSvn.beginDuration
  else m

end Sys2Proof.Machine
end

