-- ==== Sys2Proof/Machine/SectorReset.lean ====
section
/-! DEFINITION. The entry of a reset, the reset of one sector and its reload, and the period edge
(spec/19_power_thermal_startup.md R502 to R505; spec/13_profiles_and_determinism.md R360, R366;
spec/03_flyover_circuits.md R92, R93, R97). -/

namespace Sys2Proof.Machine

/-! ### Circuits of a sector's ports (R92, R93, R97) -/

/-- Does a circuit enter or leave at a port of a sector? -/
def Module.slotMeets (m : Module) (s t : Nat) : Bool := m.slotIn t / 64 == s || m.slotOut t / 64 == s

/-- A set-up that runs there is abandoned: no reply. One that FLY_CMD gave is no longer running (R105); what its STATUS reads
is then what it read before (notes/assumptions/124.md). -/
def Module.abandonSetUp (m : Module) (s : Nat) : Module :=
  match m.fly.running with
  | some c =>
    if c.op = .setUp ∧ m.slotMeets s c.slot.val = true then
      let m := ({ m with fly := { m.fly with running := none } }).dropCircuit c.slot.val
      if c.byRegister && !m.fly.queue.any FlyCmd.byRegister then m.setF K.flyCmdResult_BUSY 0 else m
    else m
  | none => m

/-- The island takes a held circuit of a sector: its rings are HELD, and an engine of the sector has no other light (R93). -/
def Module.holdCircuit (m : Module) (s t : Nat) : Module :=
  let m := m.each (m.slotRings t) (fun m x => m.modRing x.1 x.2 (fun r => { r with held := true }))
  let m := m.each ([m.slotIn t / 8, m.slotOut t / 8].filter (fun e => e / 8 == s)) (fun m e => m.setF (K.lpeStatus_STATE e) 4)
  if m.slotState t = 2 then m.setSlot t 4 else m

/-- Circuits with HOLD 0 are released; the others are held (notes/assumptions/65.md). -/
def Module.sectorCircuits (m : Module) (s : Nat) : Module :=
  let m := m.abandonSetUp s
  let run := m.runningSlots.filter (fun t => m.slotMeets s t)
  let lost := run.filter (fun t => !m.slotHold t)
  let held := run.filter (fun t => m.slotHold t)
  let m := (m.each lost (fun m t => m.dropCircuit t)).holdsLost lost.length
  let m := if held.isEmpty || m.isOn K.flyStatus_IN_HOLD then m else (m.setF K.flyStatus_IN_HOLD 1).raise .fly_HOLD_ENTER 0
  m.each held (fun m t => m.holdCircuit s t)

/-- The fibres of a sector's ports are dark but for held circuits (R68, R504), and its engines' swaps are abandoned (R59). -/
def Module.sectorDark (m : Module) (s : Nat) : Module :=
  let m := m.each (List.range 8) (fun m e => m.abandonSwap (8 * s + e))
  m.each (List.range 64) (fun m p =>
    if (m.circuitsOut (64 * s + p)).isEmpty then
      m.drawn.setF (K.lpePortPwr_TX (8 * s + p / 8) (p % 8)) (darkPower m.openWord)
    else m.retotal (64 * s + p))

/-! ### What a sector loses (R504) -/

/-- Frames that a port of the sector has received and that no queue has taken are discarded; their credits return. -/
def Module.dropIngress (m : Module) (lport vc : Nat) : Module :=
  let fs := m.fifo lport vc
  let m := if fs.isEmpty then m else m.putFifo lport vc []
  m.each fs (fun m f => (m.returnCredits lport f.linkVc f.credits).linkDiscard lport)

/-- A link of the sector goes dark. -/
def Module.portDark (m : Module) (lport : Nat) : Module :=
  let m := (m.leaveUp lport 0).each (List.range 8) (fun m vc => m.dropIngress lport vc)
  m.each (List.range 8) (fun m vc => m.putFifo (ownFifo lport) vc [])

/-- The contexts of the sector are emptied. -/
def Module.dropCtxs (m : Module) (s : Nat) : Module :=
  m.each (m.buf.ctxs.filter (fun c => c.sector == s)) (fun m c =>
    (m.closeCtx c).each c.held (fun m f => ((m.unhold f c.lport).tollOut f).linkDiscard c.lport))

/-- The engines that serve a sector. -/
def Module.engines (m : Module) (s : Nat) : List Nat := natsWhere 18 (fun e => m.getF (K.rdeStatus_SERVES e) == s)

/-- A register field that a sector reset gives its reset value. -/
def sectorField (s : Nat) (es : List Nat) (k : FKey) : Bool :=
  match k.reg.blk with
  | .fwd | .buf | .tm | .col => k.i == s
  | .rde => es.contains k.i && !(k.reg == .rdeStatus && decide (20 ≤ k.lo))
  | _ => false

/-- The registers of the sector's blocks are reset. -/
def Module.sectorRegs (m : Module) (s : Nat) : Module :=
  let gone (k : FKey) : Bool := sectorField s (m.engines s) k
  let kept {α : Type} (t : Tbl (Requester × RegName × Nat × Nat) α) : Tbl (Requester × RegName × Nat × Nat) α :=
    t.filter (fun x => !gone ⟨x.1.2.1, x.1.2.2.1, x.1.2.2.2, 0⟩)
  { m with regs := m.regs.filter (fun x => !gone x.1), loHeld := kept m.loHeld, captured := kept m.captured }

/-- The queues, shapers and engines of the sector are emptied, and its HBM regions but the rank tables; evacuations are abandoned
(R342). -/
def Module.sectorState (m : Module) (s : Nat) : Module :=
  let es := m.engines s
  let m := { m with
    buf := { m.buf with
      queues := m.buf.queues.filter (fun x => sectorOf x.1.1 != s), turns := m.buf.turns.filter (fun x => sectorOf x.1 != s)
      toll := m.buf.toll.filter (fun x => x.1.1 != s), inTurn := m.buf.inTurn.filter (fun x => sectorOf x.1.1 != s)
      poolStageLost := m.buf.poolStageLost.filter (· != s)
      budget := m.buf.budget.filter (fun x => x.1 != s), fullPorts := m.buf.fullPorts.filter (fun p => p / 64 != s) }
    fwd := { m.fwd with busy := m.fwd.busy.filter (fun b => b.1 != s) }
    col := { m.col with
      ops := m.col.ops.filter (fun x => x.2.home != s), busy := m.col.busy.filter (fun b => b.1 != s)
      logs := m.col.logs.filter (fun x => x.1 != s) }
    rde := { m.rde with fails := m.rde.fails.filter (fun x => !es.contains x.1) }
    hbm := { m.hbm with chunks := m.hbm.chunks.filter (fun c => c.sector != s || c.region == 4) } }
  let m := m.each (List.range 4) (fun m i => m.abandonEvacuation (4 * s + i))
  (m.sectorRegs s).sramReset s

/-- The quorum command being verified has no effect and no reply (R445); one whose CMD_SEQ is written goes on. -/
def Module.loseVerifying (m : Module) : Module :=
  if m.sec.verified.isSome then m
  else
    match m.mpc.queue.find? CtlReq.verifies with
    | some r => { m with mpc := { m.mpc with queue := m.mpc.queue.erase r } }
    | none => m

/-- A patch that is gathered or applied is lost (R428). -/
def Module.losePatch (m : Module) : Module :=
  { m with
    img := { m.img with gathering := false, patch := none, heldPatch := false, switchAfter := false }
    mpc := { m.mpc with gather := m.mpc.gather.filter (fun g => g.cls != 8), queue := m.mpc.queue.filter (fun r => r.cls != 8) } }

/-- Sector `s` is reset, from its drained point. -/
def Module.enterSector (m : Module) (s : Nat) : Module :=
  let m := { m with power := { m.power with request := none, sectorsDown := m.power.sectorsDown ++ [s] } }
  let ports := m.sectorLports s
  let m := m.drainOps (fun op => op.home == s || op.treeLinks.any (fun l => sectorOf l == s))
  let m := (m.each ports (fun m l => m.portDark l)).dropCtxs s
  (((m.sectorCircuits s).sectorDark s).sectorState s).losePatch.loseVerifying

/-! ### The reload (R504, R366) -/

/-- Copy a field of another sector. -/
def Module.copyField (m : Module) (s t : Nat) (k : Nat → FKey) : Module := m.setF (k s) (m.getF (k t))

/-- What a sector takes over from another: its tables' version and seed, the profile and the planes. -/
def Module.copySector (m : Module) (s : Nat) : Module :=
  m.each [K.fwdCtrl_PROFILE, K.fwdLoc_LOC, K.fwdSeedLo_SEED, K.fwdSeedHi_SEED, K.fwdVer_SHADOW_DIRTY, K.fwdVer_VERSION,
    K.bufStatus_SPARE_PLANE, K.bufStatus_PLANES_ACTIVE] (fun m k => m.copyField s m.lead k)

/-- What the other sectors show of sector lock. -/
def Module.copyLock (m : Module) (s : Nat) : Module :=
  m.each [K.tmSchedStat_LOCKED, K.tmSchedStat_EXT, K.tmSchedStat_STATE] (fun m k => m.copyField s m.lead k)

/-- A reloaded sector takes over the lock: at once, but from a running period counter at the next period edge (R366). -/
def Module.rejoin (m : Module) (s : Nat) : Module :=
  if m.timetable && (m.lockState == 5 || m.lockState == 6) then
    { m with lock := { m.lock with rejoining := m.lock.rejoining ++ [s] } }
  else m.copyLock s

/-- At a period edge the reloaded sectors join the period counter. -/
def Module.rejoined (m : Module) : Module :=
  let m := m.each m.lock.rejoining (fun m s => m.copyLock s)
  { m with lock := { m.lock with rejoining := [] } }

/-- The image's sections, and every live patch since, as they set the sector's fields. -/
def Module.reloadFields (m : Module) (s : Nat) : Module :=
  match m.img.running with
  | some i =>
    let m := m.loadSector i s
    m.each (i.live :: m.img.liveApplied) (fun m l => m.applyShapers l.shapers (fun t => t == s))
  | none => m

/-- The rows retired in a sector are counted again from its row map. -/
def Module.recountRows (m : Module) (s : Nat) : Module :=
  m.setF (K.bufSramStat_RETIRED_ROWS s) (min 0xFFFF (m.sram.rows.filter (fun x => x.1.1 == s && x.2.retired)).length)

/-- Circuits held through a sector reset return from the island. -/
def Module.sectorHoldExit (m : Module) : Module := if m.power.sectorsDown.isEmpty then m.holdExit else m

/-- The sector is reloaded and its ports launch at reduced power; a sector reset that waits may begin. -/
def Module.reloadSector (m : Module) (s : Nat) : Module :=
  if m.power.sectorsDown.contains s then
    let m := (((m.copySector s).rejoin s).reloadFields s).recountRows s
    let m := { m with power := { m.power with sectorsDown := m.power.sectorsDown.filter (· ≠ s) } }
    let m := m.each (List.range 8) (fun m e => if m.engineState (8 * s + e) = 4 then m.setF (K.lpeStatus_STATE (8 * s + e)) 3 else m)
    let m := m.each (List.range 64) (fun m p => m.firstLaunch (8 * s + p / 8) (p % 8))
    m.sectorHoldExit.nextSectorReset
  else m

/-! ### Entry (R127, R502) -/

/-- The reset asked for enters, once what it drains has drained. A module held by WARMRST_N stays in reset (R542). -/
def Module.resetEntry (m : Module) : Module :=
  match m.power.request with
  | none => m
  | some r =>
    if r.notice && (m.takenDown r.kind).any (fun l => m.linkState l == 5) then m
    else
      match r.kind with
      | .sector s => m.enterSector s
      | k =>
        let m := m.enterReset k r.cause false
        if r.cause = 4 ∧ m.power.warmrstN = false then m.holdReset .warmrst else m

/-! ### The period edge (R360, R371) -/

/-- A period begins: held writes apply in the order in which they came, then a held switch, then a held patch. -/
def Module.periodEdge (m : Module) : Module :=
  if m.timetable && (m.lockState == 5 || m.lockState == 6) then
    let m := m.rejoined
    let hs := m.lock.held
    let switch := m.lock.heldSwitch.isSome
    let m := { m with lock := { m.lock with
      periods := m.lock.periods + 1, edgeAt := some m.elapsed, held := [], heldSwitch := none } }
    let m := m.each hs (fun m h => m.applyHeld h)
    let m := if switch then m.switchNow else m
    if m.img.heldPatch && !m.fwd.copying then m.applyPatch else m
  else m

end Sys2Proof.Machine
end

