-- ==== Sys2Proof/Machine/AccessRows.lean ====
section
/-! DEFINITION. The rows of register accesses: those of a requester, and those that a register of their own starts (spec/00_scope.md
R14 to R19). -/

namespace Sys2Proof.Machine

/-- REGISTER_WRITE (R14). -/
def execRegisterWrite (req : Requester) (addr : Addr) (data : Word) (s : State) : Host.Outcome State Fault Refusal :=
  s.run (fun m => m.accessWrite req addr data)

/-- HI_REGISTER_WRITE (R17). A requester's write of a _HI register takes up the 64-bit value. -/
def execHiRegisterWrite (req : Requester) (addr : Addr) (data : Word) (s : State) : Host.Outcome State Fault Refusal :=
  s.run (fun m => m.accessWrite req addr data)

/-- LO_REGISTER_READ (R18). A read of a _LO register captures the pair. -/
def execLoRegisterRead (req : Requester) (addr : Addr) (s : State) : Host.Outcome State Fault Refusal :=
  s.run (fun m => m.accessRead req addr)

/-- RC_REGISTER_READ (R14). -/
def execRcRegisterRead (req : Requester) (addr : Addr) (s : State) : Host.Outcome State Fault Refusal :=
  s.run (fun m => m.accessRead req addr)

/-! ### Resets by command -/

/-- PWR_RST_COLD (R505). KIND 0, with NOTICE. -/
def execPwrRstCold (req : Requester) (notice : Bool) (s : State) : Host.Outcome State Fault Refusal :=
  s.run (fun m => m.accessWrite req (regAddr .pwrRstCmd 0 0) (cmdWord (2 ^ 31 + flag notice * 2 ^ 30)))

/-- PWR_RST_WARM (R505). KIND 1. -/
def execPwrRstWarm (req : Requester) (s : State) : Host.Outcome State Fault Refusal :=
  s.run (fun m => m.accessWrite req (regAddr .pwrRstCmd 0 0) (cmdWord (2 ^ 31 + 2 ^ 28)))

/-- PWR_RST_SECTOR (R504). KIND 2 and SECTOR. -/
def execPwrRstSector (req : Requester) (sec : Fin 8) (s : State) : Host.Outcome State Fault Refusal :=
  s.run (fun m => m.accessWrite req (regAddr .pwrRstCmd 0 0) (cmdWord (2 ^ 31 + 2 * 2 ^ 28 + sec.val)))

/-- PWR_RST_CORE (R505). KIND 3, with NOTICE. -/
def execPwrRstCore (req : Requester) (notice : Bool) (s : State) : Host.Outcome State Fault Refusal :=
  s.run (fun m => m.accessWrite req (regAddr .pwrRstCmd 0 0) (cmdWord (2 ^ 31 + flag notice * 2 ^ 30 + 3 * 2 ^ 28)))

/-! ### The time base and the lasers -/

/-- TIM_SET (R387). TIM_SET_HI. -/
def execTimSet (req : Requester) (data : Word) (s : State) : Host.Outcome State Fault Refusal :=
  s.run (fun m => m.accessWrite req (regAddr .timSetHi 0 0) data)

/-- TIM_ADJ (R388). TIM_ADJ_HI. -/
def execTimAdj (req : Requester) (data : Word) (s : State) : Host.Outcome State Fault Refusal :=
  s.run (fun m => m.accessWrite req (regAddr .timAdjHi 0 0) data)

/-- TIM_SYNC_CMD (R392). -/
def execTimSyncCmd (data : Word) (s : State) : Host.Outcome State Fault Refusal :=
  s.run (fun m => m.accessWrite .mpc (regAddr .timSyncCmd 0 0) data)

/-- LPE_SWAP_CMD (R76). GO with LAMBDA. -/
def execLpeSwapCmd (pb : Fin 64) (lambda : Fin 4) (s : State) : Host.Outcome State Fault Refusal :=
  s.run (fun m => m.accessWrite .mpc (regAddr .lpeSwapCmd pb.val 0) (cmdWord (2 ^ 31 + lambda.val)))

/-! ### Tables and shapers -/

/-- FWD_VER_SWITCH (R149). SWITCH. -/
def execFwdVerSwitch (req : Requester) (s : State) : Host.Outcome State Fault Refusal :=
  s.run (fun m => m.accessWrite req (regAddr .fwdVer 0 0) (cmdWord (2 ^ 31)))

/-- FWD_TBL_CMD with GO. -/
def fwdTblWord (op : Nat) (t : FwdTable) (index : Nat) : Word :=
  cmdWord (2 ^ 31 + op * 2 ^ 29 + (match t with | .route => 0 | .set => 1 | .member => 2) * 2 ^ 27 + index)

/-- COL_GRP_CMD with GO. -/
def colGrpWord (op : Nat) (member : Bool) (index : Nat) : Word := cmdWord (2 ^ 31 + op * 2 ^ 29 + flag member * 2 ^ 28 + index)

/-- FWD_TBL_READ_ACTIVE (R169). -/
def execFwdTblReadActive (sec : Fin 8) (table : FwdTable) (index : BitVec 16)
    (s : State) : Host.Outcome State Fault Refusal :=
  s.run (fun m => m.accessWrite .mpc (regAddr .fwdTblCmd sec.val 0) (fwdTblWord 0 table index.toNat))

/-- FWD_TBL_READ_SHADOW (R169). -/
def execFwdTblReadShadow (sec : Fin 8) (table : FwdTable) (index : BitVec 16)
    (s : State) : Host.Outcome State Fault Refusal :=
  s.run (fun m => m.accessWrite .mpc (regAddr .fwdTblCmd sec.val 0) (fwdTblWord 1 table index.toNat))

/-- FWD_TBL_WRITE_SHADOW (R169). -/
def execFwdTblWriteShadow (req : Requester) (sec : Fin 8) (entry : TableEntry)
    (s : State) : Host.Outcome State Fault Refusal :=
  s.run (fun m => m.accessWrite req (regAddr .fwdTblCmd sec.val 0) (fwdTblWord 2 entry.table entry.index.toNat))

/-- TM_Q_RATE_WRITE (R202). The queue is the one that TM_Q_SEL selects. -/
def execTmQRateWrite (req : Requester) (sec : Fin 8) (data : Word) (s : State) : Host.Outcome State Fault Refusal :=
  s.run (fun m => m.accessWrite req (regAddr .tmQRate sec.val 0) data)

/-- TM_Q_BURST_WRITE (R202). -/
def execTmQBurstWrite (req : Requester) (sec : Fin 8) (data : Word) (s : State) : Host.Outcome State Fault Refusal :=
  s.run (fun m => m.accessWrite req (regAddr .tmQBurst sec.val 0) data)

/-- COL_ABORT_CMD (R249). -/
def execColAbortCmd (sec : Fin 8) (slot : Fin 4096) (s : State) : Host.Outcome State Fault Refusal :=
  s.run (fun m => m.accessWrite .mpc (regAddr .colAbortCmd sec.val 0) (cmdWord (2 ^ 31 + slot.val)))

/-- COL_GRP_READ_ACTIVE (R247). -/
def execColGrpReadActive (sec : Fin 8) (member : Bool) (index : BitVec 18) (s : State) : Host.Outcome State Fault Refusal :=
  s.run (fun m => m.accessWrite .mpc (regAddr .colGrpCmd sec.val 0) (colGrpWord 0 member index.toNat))

/-- COL_GRP_READ_SHADOW (R247). -/
def execColGrpReadShadow (sec : Fin 8) (member : Bool) (index : BitVec 18) (s : State) : Host.Outcome State Fault Refusal :=
  s.run (fun m => m.accessWrite .mpc (regAddr .colGrpCmd sec.val 0) (colGrpWord 1 member index.toNat))

/-- COL_GRP_WRITE_SHADOW (R247). -/
def execColGrpWriteShadow (sec : Fin 8) (member : Bool) (index : BitVec 18)
    (s : State) : Host.Outcome State Fault Refusal :=
  s.run (fun m => m.accessWrite .mpc (regAddr .colGrpCmd sec.val 0) (colGrpWord 2 member index.toNat))

/-! ### Arrays, telemetry, the event log -/

/-- PRA_REENABLE (R317). PRA_CTRL.REENABLE, the other fields as they stand; sector lock holds the write (R360). -/
def execPraReenable (a : Fin 4) (s : State) : Host.Outcome State Fault Refusal :=
  s.run (fun m =>
    if !m.answers .pra a.val then m
    else if m.holdsWrites then m.accessWrite .mpc (regAddr .praCtrl a.val 0) (cmdWord (2 ^ 31 + m.regWord .praCtrl a.val 0))
    else m.reenablePra a.val)

/-- TEL_SMP_POP (R488). POP. -/
def execTelSmpPop (s : State) : Host.Outcome State Fault Refusal :=
  s.run (fun m => m.accessWrite .mpc (regAddr .telSmpPop 0 0) 1)

/-- LOG_DATA_CAPTURE (R528). A read of GLB_LOG_DATA0. -/
def execLogDataCapture (req : Requester) (s : State) : Host.Outcome State Fault Refusal :=
  s.run (fun m => m.accessRead req (regAddr .glbLogData 0 0))

/-- GLB_ALERT_CLEAR (R522). -/
def execGlbAlertClear (data : Word) (s : State) : Host.Outcome State Fault Refusal :=
  s.run (fun m => m.accessWrite .mpc (regAddr .glbAlert 0 0) data)

/-- EVENT_LOG_WRITE (R524). -/
def execEventLogWrite (line : Nat) (s : State) : Host.Outcome State Fault Refusal :=
  s.run (fun m => m.eventLogWrite line)

end Sys2Proof.Machine
end

