-- ==== Sys2Proof/Machine/BufferRows.lean ====
section
/-! DEFINITION. The rows of forwarding, buffers, resequencing and shaping (spec/05_forwarding_and_detour.md,
spec/06_buffers_resequencing_backpressure.md, spec/07_shaping_and_vc_weights.md). -/

namespace Sys2Proof.Machine

/-- ESCAPE (R160). -/
def execEscape (lport : Fin 2048) (vc : Fin 8) (s : State) : Host.Outcome State Fault Refusal :=
  s.run (fun m => m.escapeHead lport.val vc.val)

/-- SHADOW_COPY_DONE (R27). -/
def execShadowCopyDone (s : State) : Host.Outcome State Fault Refusal :=
  s.run (fun m => m.copyDone)

/-- FWD_TBL_DONE (R169). -/
def execFwdTblDone (sec : Fin 8) (s : State) : Host.Outcome State Fault Refusal :=
  s.run (fun m => m.fwdDone sec.val)

/-- ADMISSION (R176). `found` is what the read of the ingress buffer finds, `errs` what the reads of held frames that it releases
do (R173). -/
def execAdmission (lport : Fin 2048) (read : FifoRead) (s : State) : Host.Outcome State Fault Refusal :=
  s.run (fun m => m.admission lport.val read.vc.val read.found (some read.errs))

/-- CARAFE_CHUNK_CLOSE (R177). -/
def execCarafeChunkClose (lport : Fin 2048) (vc : Fin 8) (s : State) : Host.Outcome State Fault Refusal :=
  s.run (fun m => m.closeChunk lport.val vc.val)

/-- CARAFE_READBACK (R177). `bad` names the burst of the chunk in which the base die reports an uncorrectable error. -/
def execCarafeReadback (lport : Fin 2048) (vc : Fin 8) (bad : Option (Fin 8))
    (s : State) : Host.Outcome State Fault Refusal :=
  s.run (fun m =>
    match bad with
    | some i => m.readBackBad lport.val vc.val i.val
    | none => m.readBack lport.val vc.val)

/-! ### Contexts -/

/-- RESEQ_OPEN_END (R184). `errs` is what the reads of the frames it releases find (R173). -/
def execReseqOpenEnd (lport : Fin 2048) (ends : FlowEnds) (flow : BitVec 16) (errs : List (BitVec 24 × Secded))
    (s : State) : Host.Outcome State Fault Refusal :=
  s.run (fun m =>
    match m.ctx lport.val (ends.src, ends.dst, flow) with
    | some c => if c.opening then m.endOpening c (some errs) else m
    | none => m)

/-- RESEQ_TIMEOUT (R186). A context whose frame at E has come, and waits for a place, tries to release it again. -/
def execReseqTimeout (lport : Fin 2048) (ends : FlowEnds) (flow : BitVec 16) (errs : List (BitVec 24 × Secded))
    (s : State) : Host.Outcome State Fault Refusal :=
  s.run (fun m =>
    match m.ctx lport.val (ends.src, ends.dst, flow) with
    | some c => if c.opening || c.held.isEmpty then m
      else if c.blocked then m.runCtx c (some errs)
      else m.skipCtx c (some errs)
    | none => m)

/-- RESEQ_IDLE_CLOSE (R184). -/
def execReseqIdleClose (lport : Fin 2048) (src dst : BitVec 32) (flow : BitVec 16)
    (s : State) : Host.Outcome State Fault Refusal :=
  s.run (fun m =>
    match m.ctx lport.val (src, dst, flow) with
    | some c => if c.held.isEmpty && !c.opening then m.closeCtx c else m
    | none => m)

/-! ### Planes, rows, the output -/

/-- PLANE_FAIL (R175). -/
def execPlaneFail (plane : Fin 9) (s : State) : Host.Outcome State Fault Refusal :=
  s.run (fun m => m.planeFail plane.val)

/-- PLANE_SPARED (R175). -/
def execPlaneSpared (s : State) : Host.Outcome State Fault Refusal :=
  s.run (fun m => m.planeSpared)

/-- SRAM_SCRUB (R173). -/
def execSramScrub (sec : Fin 8) (word : BitVec 25) (found : Secded) (s : State) : Host.Outcome State Fault Refusal :=
  s.run (fun m => m.sramScrub sec.val word.toNat found)

/-- SRAM_REMAP_DONE (R454). -/
def execSramRemapDone (sec : Fin 8) (bank : Fin 512) (row : Fin 2048) (s : State) : Host.Outcome State Fault Refusal :=
  s.run (fun m => m.remapDone sec.val bank.val row.val)

/-- FRAME_LAUNCH (R204). `full` says that the sampling path can accept no record (R29). -/
def execFrameLaunch (lport : Fin 2048) (read : QueueRead) (s : State) : Host.Outcome State Fault Refusal :=
  s.run (fun m => m.launch lport.val read.found read.full)

/-- WHEEL_SLOT (R201). -/
def execWheelSlot (sec : Fin 8) (s : State) : Host.Outcome State Fault Refusal :=
  s.run (fun m => m.wheelSlot sec.val)

end Sys2Proof.Machine
end

