-- ==== Sys2Proof/Machine/ClockRows.lean ====
section
/-! DEFINITION. The rows of clocks, the time base and sector lock (spec/14_clocks_and_time.md, spec/13_profiles_and_determinism.md). -/

namespace Sys2Proof.Machine

/-- XTAL_WINDOW (R375). -/
def execXtalWindow (count : BitVec 16) (s : State) : Host.Outcome State Fault Refusal :=
  s.run (fun m => m.xtalWindow count.toNat)

/-- XTAL_QUAL_FAIL (R376). -/
def execXtalQualFail (s : State) : Host.Outcome State Fault Refusal :=
  s.run (fun m => m.xtalQualFails)

/-- CLOCK_MONITOR_WINDOW (R379). -/
def execClockMonitorWindow (w : MonitorWindow) (s : State) : Host.Outcome State Fault Refusal :=
  s.run (fun m => m.monitorWindow w.domain.val w.dies.toNat w.dev)

/-- DIVIDER_RAMP_STEP (R382). -/
def execDividerRampStep (d : Fin 5) (s : State) : Host.Outcome State Fault Refusal :=
  s.run (fun m => m.rampStep d.val)

/-! ### The time base -/

/-- SLEW_DONE (R388). -/
def execSlewDone (s : State) : Host.Outcome State Fault Refusal :=
  s.run (fun m => m.finishSlew)

/-- PULSE_EDGE (R393). -/
def execPulseEdge (syncIn : Bool) (s : State) : Host.Outcome State Fault Refusal :=
  s.run (fun m => m.pulseEdge syncIn)

/-- PPS_MISSING (R393). -/
def execPpsMissing (s : State) : Host.Outcome State Fault Refusal :=
  s.run (fun m => m.pulseMissing)

/-- PPS_OUT_RISE (R394). -/
def execPpsOutRise (s : State) : Host.Outcome State Fault Refusal :=
  s.run (fun m => m.risePps)

/-- PPS_OUT_FALL (R394). -/
def execPpsOutFall (s : State) : Host.Outcome State Fault Refusal :=
  s.run (fun m => m.fallPps)

/-- SYNC_REQ_RECEIVE (R392). What the request carries is its sender's to read back, and the answer goes to the link's partner,
whatever the request's SRC (R391). -/
def execSyncReqReceive (lport : Fin 2048) (_src : Loc) (tag : BitVec 16) (_peerSet : Bool) (_t1 : BitVec 64)
    (s : State) : Host.Outcome State Fault Refusal :=
  s.run (fun m => m.syncReq lport.val tag)

/-- SYNC_RESP_RECEIVE (R392). -/
def execSyncRespReceive (lport : Fin 2048) (tag : BitVec 16) (peerSet : Bool) (t2 t3 : BitVec 64)
    (s : State) : Host.Outcome State Fault Refusal :=
  s.run (fun m => m.syncResp lport.val tag peerSet t2 t3)

/-- SYNC_RESP_TIMEOUT (R392). -/
def execSyncRespTimeout (s : State) : Host.Outcome State Fault Refusal :=
  s.run (fun m => m.syncTimeoutTim)

/-! ### Sector lock -/

/-- SYNC_IN_PULSE (R356). -/
def execSyncInPulse (samples : Nat) (s : State) : Host.Outcome State Fault Refusal :=
  s.run (fun m => m.syncInPulse samples)

/-- SYNC_TIMEOUT (R358). -/
def execSyncTimeout (s : State) : Host.Outcome State Fault Refusal :=
  s.run (fun m => m.syncWaitEnds)

/-- ALIGNMENT_EDGE (R356). -/
def execAlignmentEdge (s : State) : Host.Outcome State Fault Refusal :=
  s.run (fun m => m.alignmentEdge)

/-- ALIGN_VERIFY_FAIL (R356). -/
def execAlignVerifyFail (s : State) : Host.Outcome State Fault Refusal :=
  s.run (fun m => m.verifyFail)

/-- ALIGN_VERIFY_END (R356). -/
def execAlignVerifyEnd (s : State) : Host.Outcome State Fault Refusal :=
  s.run (fun m => m.verifyEnd)

/-- PERIOD_ZERO (R356). -/
def execPeriodZero (s : State) : Host.Outcome State Fault Refusal :=
  s.run (fun m => m.periodZero)

/-- PERIOD_EDGE (R360). -/
def execPeriodEdge (s : State) : Host.Outcome State Fault Refusal :=
  s.run (fun m => m.periodEdge)

end Sys2Proof.Machine
end

