-- ==== Sys2Proof/Machine/CollectOps.lean ====
section
/-! DEFINITION. What the rows of the collective engine and of the arrays do beside the engine's own operations
(spec/08_collective_operations.md R229, R236, R276; spec/10_recipes.md R284;
spec/11_photonic_reduction_array.md R307, R313). -/

namespace Sys2Proof.Machine

/-! ### Frames and segments -/

/-- A group frame of one KIND reaches the collective engine; one that cannot be taken waits at its ingress, and so does one behind
a frame that waits there (R229). -/
def Module.colRow (m : Module) (kind lport : Nat) (f : Frame) (c : Crossing := {}) : Module :=
  if f.col.kind ≠ kind then m
  else
    let vc := vcOf m.profile f.h
    match m.findGroup f with
    | none => m
    | some g =>
      if !(m.fifo lport vc).isEmpty then m.waitIngress (m.atIngress lport vc f f (.engine g) 0)
      else
        match m.collect lport f g c with
        | .taken m => m
        | .waits m => m.waitIngress (m.atIngress lport vc f f (.engine g) 0)

/-- The side total is in: the segment that waits for it is rounded (R284). `erred` says that the two roundings disagree (R269). -/
def Module.sideReady (m : Module) (slot : Nat) (erred : Bool) : Module :=
  match m.op slot with
  | none => m
  | some op =>
    if op.sideOthers.isNone then m
    else
      match op.segs.find? (fun x => x.2.sideHeld) with
      | some x =>
        if erred then m.residueFail slot x.1 0
        else m.leaveRoot slot (op.putSeg { x.2 with sideHeld := false }) { x.2 with sideHeld := false }
      | none => m

/-- The root's timer expires (R236): TIMEOUT, or with every segment sent TREE_BREAK with the ACKs received as COUNT. -/
def Module.rootExpires (m : Module) (slot : Nat) : Module :=
  match m.op slot with
  | none => m
  | some op =>
    if !op.gdef.root then m
    else if op.state = 2 then m.failOp slot 7 (some op.ackSum)
    else m.failOp slot 1

/-- The backstop timer of another module expires (R236). -/
def Module.backstop (m : Module) (slot : Nat) : Module :=
  match m.op slot with
  | none => m
  | some op => if op.gdef.root then m else m.cutOp slot 1

/-- The segments of an engine that wait for a window, the earliest placed first. -/
def earliest (xs : List (Nat × Nat × Seg)) : Option (Nat × Nat × Seg) :=
  xs.foldl (fun b x =>
    match b with
    | none => some x
    | some y => if x.2.2.order < y.2.2.order then some x else some y) none

/-- A free window of an engine opens for the earliest-placed segment that has a contribution waiting (R229, R276). -/
def Module.openNext (m : Module) (e : Nat) (erred : Bool) : Module :=
  match m.freeWindow e, earliest ((m.engineSegs e).filter m.wantsWindow) with
  | some w, some x => m.openWindow x.1 x.2.1 w erred
  | _, _ => m

/-- A quarantined engine has failed outright in the same cycle (R470): its record says so. -/
def Module.failsAfter (m : Module) (e : Nat) : Module :=
  let isOf (x : BitVec 64 × BitVec 64) : Bool := (Repair.ofBody x.1).kind == 0x07 && (Repair.ofBody x.1).location == e
  let sp := spareOf e
  let inPlace := m.getF (K.rdeStatus_ROLE sp) == 2 && m.getF (K.rdeStatus_REPLACES sp) == e
  let m := { m with
    mpc := { m.mpc with repairWait := m.mpc.repairWait.filter (fun x => !isOf x) }
    rde := { m.rde with quarantined := Tbl.del m.rde.quarantined e, rehearsed := m.rde.rehearsed.filter (· ≠ e) } }
  (m.setF (K.rdeStatus_ROLE e) 4).record 0x08 e (if inPlace then sp else 0xFFFF)

/-- An engine fails outright (R455): one in service, a spare in reserve, which takes no role any more, or one quarantined in the
same cycle. -/
def Module.engineFails (m : Module) (e : Nat) : Module :=
  match m.getF (K.rdeStatus_ROLE e) with
  | 0 | 2 => m.engineOut e 4 true
  | 1 => ((m.setF (K.rdeStatus_ROLE e) 4).setF (K.rdeStatus_SERVES e) 0xF).record 0x08 e 0xFFFF
  | 3 => if Tbl.find m.rde.quarantined e = some m.elapsed then m.failsAfter e else m
  | _ => m

/-- The new engine of a moved segment is ready (R240): with a window free it re-adds what is retained. -/
def Module.migrated (m : Module) (slot k : Nat) (erred : Bool) : Module :=
  match m.op slot with
  | none => m
  | some op =>
    match op.seg k with
    | none => m
    | some sg =>
      if !sg.moving then m
      else
        let m := m.putOp slot (op.putSeg { sg with moving := false })
        match sg.engine with
        | none => m
        | some e =>
          match (if m.earlierWaits e sg.order then none else m.freeWindow e) with
          | some w => m.openWindow slot k w erred
          | none => m

/-! ### The arrays -/

/-- Does an array convert or pause, so that its references run? -/
def Module.praRuns (m : Module) (a : Nat) : Bool := m.praState a == 2 || m.praState a == 3

/-- A channel's references in a frame pass or fail (R307). One out of service keeps making them, until they pass for 1 ms. -/
def Module.reference (m : Module) (a chan : Nat) (ok : Bool) : Module :=
  if !m.praRuns a || (m.praAt a).retired.contains chan then m
  else if ok then (if m.chanUp a chan then m.refPassed a chan else m)
  else (m.raise .pra_REF_FAIL a).refFailed a chan

/-- What ends a channel's absence: its references have passed for 1 ms and it returns to service, unless it is retired (R307);
or a ring of it is given up and no spare can serve, and it is retired for good (R319). -/
def Module.chanReturns (m : Module) (a chan : Nat) (ringLost : Bool) : Module :=
  if ringLost then m.loseChan a chan
  else if m.praRuns a && !m.chanUp a chan && !(m.praAt a).retired.contains chan then m.setChan a chan true else m

/-- An array that the image enables begins its calibration: one at rest, or one whose re-enable waited for a pause to end or for
the governor (R313, R321, R323). -/
def Module.beginCalibration (m : Module) (a : Nat) : Module :=
  if m.praAllowed a && m.mayCalibrate a && (m.praState a == 0 || (m.praAt a).reenable) then m.calibrate a else m

end Sys2Proof.Machine
end

