-- ==== Sys2Proof/Machine/CollectiveRows.lean ====
section
/-! DEFINITION. The rows of the collective engine (spec/08_collective_operations.md, spec/09_exact_reduction_arithmetic.md,
spec/10_recipes.md). -/

namespace Sys2Proof.Machine

/-- CONTRIBUTION_RECEIVE (R228). KIND 0. `stale`: a copy directed under an older placement reaches an engine too (R33, R240);
`erred`: a duplicated path disagrees over it (R269, R294). -/
def execContributionReceive (lport : Fin 2048) (f : ColArrival) (s : State) :
    Host.Outcome State Fault Refusal :=
  s.run (fun m => m.colRow 0 lport.val f.frame { stale := f.stale, erred := f.erred })

/-- START_FRAME_RECEIVE (R227). KIND 3. -/
def execStartFrameReceive (lport : Fin 2048) (f : Frame) (s : State) : Host.Outcome State Fault Refusal :=
  s.run (fun m => m.colRow 3 lport.val f)

/-- PARTIAL_RECEIVE (R266). KIND 1. `stale` and `erred` are those of a contribution. -/
def execPartialReceive (lport : Fin 2048) (f : ColArrival) (s : State) : Host.Outcome State Fault Refusal :=
  s.run (fun m => m.colRow 1 lport.val f.frame { stale := f.stale, erred := f.erred })

/-- RESULT_RECEIVE (R231). KIND 2. -/
def execResultReceive (lport : Fin 2048) (f : Frame) (s : State) : Host.Outcome State Fault Refusal :=
  s.run (fun m => m.colRow 2 lport.val f)

/-- ACK_RECEIVE (R232). KIND 4. -/
def execAckReceive (lport : Fin 2048) (f : Frame) (s : State) : Host.Outcome State Fault Refusal :=
  s.run (fun m => m.colRow 4 lport.val f)

/-- DONE_RECEIVE (R232). KIND 5. -/
def execDoneReceive (lport : Fin 2048) (f : Frame) (s : State) : Host.Outcome State Fault Refusal :=
  s.run (fun m => m.colRow 5 lport.val f)

/-- ABORT_REQUEST_RECEIVE (R236). KIND 6 with PHASE 0. -/
def execAbortRequestReceive (lport : Fin 2048) (f : Frame) (s : State) : Host.Outcome State Fault Refusal :=
  s.run (fun m => if f.h.phase = 0 then m.colRow 6 lport.val f else m)

/-- ABORT_RECEIVE (R236). KIND 6 with PHASE 1. -/
def execAbortReceive (lport : Fin 2048) (f : Frame) (s : State) : Host.Outcome State Fault Refusal :=
  s.run (fun m => if f.h.phase = 1 then m.colRow 6 lport.val f else m)

/-! ### Segments -/

/-- SEGMENT_COMPLETE (R231). -/
def execSegmentComplete (slot : Fin 4096) (seg : BitVec 20) (erred : Bool) (s : State) : Host.Outcome State Fault Refusal :=
  s.run (fun m => m.completeSeg slot.val seg.toNat erred)

/-- SIDE_TOTAL_READY (R284). -/
def execSideTotalReady (slot : SlotCheck) (s : State) : Host.Outcome State Fault Refusal :=
  s.run (fun m => m.sideReady slot.slot.val slot.erred)

/-- ROOT_TIMEOUT (R236). -/
def execRootTimeout (slot : Fin 4096) (s : State) : Host.Outcome State Fault Refusal :=
  s.run (fun m => m.rootExpires slot.val)

/-- BACKSTOP_TIMEOUT (R236). -/
def execBackstopTimeout (slot : Fin 4096) (s : State) : Host.Outcome State Fault Refusal :=
  s.run (fun m => m.backstop slot.val)

/-- WINDOW_OPEN (R276). -/
def execWindowOpen (e : EngineCheck) (s : State) : Host.Outcome State Fault Refusal :=
  s.run (fun m => m.openNext e.engine.val e.erred)

/-- ENGINE_FAIL (R455). -/
def execEngineFail (e : Fin 18) (s : State) : Host.Outcome State Fault Refusal :=
  s.run (fun m => m.engineFails e.val)

/-- MIGRATE_READY (R240). -/
def execMigrateReady (slot : Fin 4096) (seg : SegCheck) (s : State) : Host.Outcome State Fault Refusal :=
  s.run (fun m => m.migrated slot.val seg.seg.toNat seg.erred)

/-- COL_GRP_DONE (R247). -/
def execColGrpDone (sec : Fin 8) (s : State) : Host.Outcome State Fault Refusal :=
  s.run (fun m => m.grpDone sec.val)

end Sys2Proof.Machine
end

