-- ==== Sys2Proof/Machine/HbmRows.lean ====
section
/-! DEFINITION. The rows of HBM (spec/12_hbm_memory.md). -/

namespace Sys2Proof.Machine

/-- HBM_TEMP_READ (R339). -/
def execHbmTempRead (k : Fin 32) (temp : BitVec 8) (s : State) : Host.Outcome State Fault Refusal :=
  s.run (fun m => m.hbmTemp k.val temp.toNat)

/-- HBM_HOT (R339). -/
def execHbmHot (k : Fin 32) (s : State) : Host.Outcome State Fault Refusal :=
  s.run (fun m => m.hbmHot k.val)

/-- HBM_SENSOR_TIMEOUT (R339). -/
def execHbmSensorTimeout (k : Fin 32) (s : State) : Host.Outcome State Fault Refusal :=
  s.run (fun m => m.hbmSilent k.val)

/-- HBM_REFRESH (R337). A refresh changes nothing that the model holds. -/
def execHbmRefresh (_k : Fin 32) (s : State) : Host.Outcome State Fault Refusal :=
  s.run (fun m => m)

/-- HBM_SCRUB_PASS (R335): a word of a channel is read; `chunk` is the number of the chunk that holds it, and `last` says that it
ends a pass. -/
def execHbmScrubPass (k : Fin 32) (ch : Fin 32) (found : Secded) (point : ScrubPoint)
    (s : State) : Host.Outcome State Fault Refusal :=
  s.run (fun m => m.hbmScrub k.val ch.val found point.chunk point.last)

/-- SCRUB_LATE (R335). -/
def execScrubLate (k : Fin 32) (s : State) : Host.Outcome State Fault Refusal :=
  s.run (fun m => m.scrubLate k.val)

/-- CHAN_FAIL (R340). `copied` names the chunks that an evacuation of the octet has copied already (R342). -/
def execChanFail (k : Fin 32) (ch : Fin 32) (hard : Bool) (copied : List Nat)
    (s : State) : Host.Outcome State Fault Refusal :=
  s.run (fun m => m.chanFail k.val ch.val hard copied)

/-- CHAN_MAPPED (R340). `unread` names the chunks that the evacuation could not read. -/
def execChanMapped (k : Fin 32) (ch : Fin 32) (unread : List Nat) (s : State) : Host.Outcome State Fault Refusal :=
  s.run (fun m => m.chanMapped k.val ch.val unread)

end Sys2Proof.Machine
end

