-- ==== Sys2Proof/Machine/LightRows.lean ====
section
/-! DEFINITION. The rows of rings, lasers, launch power and circuits (spec/02_lightpath_engines.md, spec/03_flyover_circuits.md). -/

namespace Sys2Proof.Machine

/-- MISLOCK (R51). -/
def execMislock (pb : Fin 64) (ring : Fin 164) (s : State) : Host.Outcome State Fault Refusal :=
  s.run (fun m => m.mislockRing pb.val ring.val)

/-- RELOCK (R52). -/
def execRelock (pb : Fin 64) (ring : Fin 164) (s : State) : Host.Outcome State Fault Refusal :=
  s.run (fun m => m.relockRing pb.val ring.val)

/-- RING_SPARED (R53). -/
def execRingSpared (pb : Fin 64) (ring : Fin 164) (s : State) : Host.Outcome State Fault Refusal :=
  s.run (fun m => m.spareRing pb.val ring.val)

/-- RING_SPARE_LOCK (R53). -/
def execRingSpareLock (pb : Fin 64) (ring : Fin 164) (s : State) : Host.Outcome State Fault Refusal :=
  s.run (fun m => m.spareLocks pb.val ring.val)

/-! ### Lasers -/

/-- LASER_AVERAGE (R55). Lasers are judged from step 8 on. -/
def execLaserAverage (pb : Fin 64) (n : Fin 6) (tap : BitVec 16) (bias : BitVec 12)
    (s : State) : Host.Outcome State Fault Refusal :=
  s.run (fun m => if m.engineLit pb.val then m.laserAverage pb.val n.val tap bias else m)

/-- SWAP_START (R58). -/
def execSwapStart (pb : Fin 64) (s : State) : Host.Outcome State Fault Refusal :=
  s.run (fun m => m.nextSwap pb.val)

/-- SWAP_TUNE_DONE (R56). -/
def execSwapTuneDone (pb : Fin 64) (s : State) : Host.Outcome State Fault Refusal :=
  s.run (fun m => m.swapTuned pb.val)

/-- SPARE_TUNE_TIMEOUT (R59). -/
def execSpareTuneTimeout (pb : Fin 64) (s : State) : Host.Outcome State Fault Refusal :=
  s.run (fun m => m.tuneTimeout pb.val)

/-- INJECTION_LOCK (R56). -/
def execInjectionLock (pb : Fin 64) (s : State) : Host.Outcome State Fault Refusal :=
  s.run (fun m => m.swapLocked pb.val)

/-- INJECTION_LOCK_TIMEOUT (R59). -/
def execInjectionLockTimeout (pb : Fin 64) (s : State) : Host.Outcome State Fault Refusal :=
  s.run (fun m => m.lockTimeout pb.val)

/-- COMBINER_STEP (R56). -/
def execCombinerStep (pb : Fin 64) (s : State) : Host.Outcome State Fault Refusal :=
  s.run (fun m => m.combine1 pb.val)

/-- SWAP_DONE (R56). -/
def execSwapDone (pb : Fin 64) (s : State) : Host.Outcome State Fault Refusal :=
  s.run (fun m => m.swapEnds pb.val)

/-- CAP_LIMIT (R63). -/
def execCapLimit (pb : Fin 64) (port : Fin 8) (s : State) : Host.Outcome State Fault Refusal :=
  s.run (fun m => if m.engineLit pb.val then m.capLimit pb.val port.val else m)

/-- LOSS_OF_LIGHT (R64). -/
def execLossOfLight (pb : Fin 64) (port : Fin 8) (rx : BitVec 16) (s : State) : Host.Outcome State Fault Refusal :=
  s.run (fun m => m.lossOfLight pb.val port.val rx)

/-- APR_EXIT (R65). -/
def execAprExit (pb : Fin 64) (port : Fin 8) (rx tx : BitVec 16) (s : State) : Host.Outcome State Fault Refusal :=
  s.run (fun m => m.aprExit pb.val port.val rx tx)

/-! ### Circuits -/

/-- FLY_CMD with GO and a command (R105). -/
def FlyCmd.word (c : FlyCmd) : Word :=
  cmdWord (2 ^ 31 + flag c.hold * 2 ^ 30 + c.op.code * 2 ^ 28 + c.slot.val * 2 ^ 20 + c.inPort.val * 2 ^ 9 + c.outPort.val)

/-- A circuit command: one from FLY_CMD sector lock holds, as it holds any write that reaches the data plane (R360). -/
def Module.flyRow (m : Module) (c : FlyCmd) : Module :=
  if c.byRegister && m.holdsWrites then m.accessWrite .mpc (regAddr .flyCmd 0 0) c.word else m.flyCommand c

/-- CIRCUIT_SETUP (R87). -/
def execCircuitSetup (origin : FlyOrigin) (tag : BitVec 16) (slot : Fin 256) (inPort outPort : Fin 512) (hold : Bool)
    (s : State) : Host.Outcome State Fault Refusal :=
  s.run (fun m => m.flyRow
    { op := .setUp, origin := origin, tag := tag, slot := slot,
      inPort := inPort, outPort := outPort, hold := hold })

/-- CIRCUIT_TEARDOWN (R89). -/
def execCircuitTeardown (origin : FlyOrigin) (tag : BitVec 16) (slot : Fin 256) (inPort outPort : Fin 512)
    (s : State) : Host.Outcome State Fault Refusal :=
  s.run (fun m => m.flyRow
    { op := .tearDown, origin := origin, tag := tag, slot := slot,
      inPort := inPort, outPort := outPort, hold := false })

/-- CIRCUIT_QUERY (R98). -/
def execCircuitQuery (origin : FlyOrigin) (tag : BitVec 16) (slot : Fin 256)
    (s : State) : Host.Outcome State Fault Refusal :=
  s.run (fun m => m.flyRow
    { op := .query, origin := origin, tag := tag, slot := slot,
      inPort := 0, outPort := 0, hold := false })

/-- FLY_COMMAND_START (R86). -/
def execFlyCommandStart (s : State) : Host.Outcome State Fault Refusal :=
  s.run (fun m => m.flyStart)

/-- CIRCUIT_UP (R88), with the power that arrives and how far the path's loss lies above 5.0 dB, in 0.01 dB (R83). -/
def execCircuitUp (light : Option (BitVec 16 × Fin 401)) (s : State) : Host.Outcome State Fault Refusal :=
  s.run (fun m => m.circuitUp light)

/-- CIRCUIT_DOWN (R89). -/
def execCircuitDown (s : State) : Host.Outcome State Fault Refusal :=
  s.run (fun m => m.circuitDown)

end Sys2Proof.Machine
end

