-- ==== Sys2Proof/Machine/LinkRows.lean ====
section
/-! DEFINITION. The rows of the link layer (spec/04_links_and_presence.md). -/

namespace Sys2Proof.Machine

/-- CODEWORD_RECEIVE (R107, R109): 544 symbols of 10 bits. -/
def execCodewordReceive (lane : Fin 2048) (w : BitVec 5440) (s : State) : Host.Outcome State Fault Refusal :=
  s.run (fun m => m.codeword lane.val w)

/-- DATA_FRAME_RECEIVE (R113). -/
def execDataFrameReceive (lport : Fin 2048) (h : LinkHeader) (crc : BitVec 32) (payload : List Byte)
    (s : State) : Host.Outcome State Fault Refusal :=
  s.run (fun m => if m.isLport lport.val then m.dataFrame lport.val h crc payload else m)

/-- RETRY_REQ_RECEIVE (R114). -/
def execRetryReqReceive (lport : Fin 2048) (crc : BitVec 32) (lseq : BitVec 16) (reason : BitVec 8)
    (s : State) : Host.Outcome State Fault Refusal :=
  s.run (fun m => if m.isLport lport.val then m.retryReq lport.val crc lseq reason else m)

/-- RETRY_REQ_TIMEOUT (R113). -/
def execRetryReqTimeout (lport : Fin 2048) (s : State) : Host.Outcome State Fault Refusal :=
  s.run (fun m => if m.isLport lport.val then m.retryTimeout lport.val else m)

/-- STALL_TIMEOUT (R116). -/
def execStallTimeout (lport : Fin 2048) (s : State) : Host.Outcome State Fault Refusal :=
  s.run (fun m => if m.isLport lport.val then m.stall lport.val else m)

/-- CREDIT_FRAME_RECEIVE (R117). -/
def execCreditFrameReceive (lport : Fin 2048) (crc : BitVec 32) (ack : BitVec 16) (cvc : Fin 8) (ccount : BitVec 13)
    (s : State) : Host.Outcome State Fault Refusal :=
  s.run (fun m => if m.isLport lport.val then m.creditFrame lport.val crc ack cvc ccount else m)

/-- KEEPALIVE_SEND (R112). -/
def execKeepaliveSend (lport : Fin 2048) (lane : Fin 4) (s : State) : Host.Outcome State Fault Refusal :=
  s.run (fun m => if m.isLport lport.val then m.keepaliveSend lport.val lane.val else m)

/-- KEEPALIVE_RECEIVE (R112). -/
def execKeepaliveReceive (lport : Fin 2048) (crc : BitVec 32) (k : Keepalive) (s : State) : Host.Outcome State Fault Refusal :=
  s.run (fun m => if m.isLport lport.val then m.keepaliveReceive lport.val crc k else m)

/-- LANE_MAP_REMOVE_RX (R119). -/
def execLaneMapRemoveRx (lport : Fin 2048) (crc : BitVec 32) (l : LaneMap) (s : State) : Host.Outcome State Fault Refusal :=
  s.run (fun m => if m.isLport lport.val then m.mapRemove lport.val crc l else m)

/-- LANE_MAP_ADD_RX (R121). -/
def execLaneMapAddRx (lport : Fin 2048) (crc : BitVec 32) (l : LaneMap) (s : State) : Host.Outcome State Fault Refusal :=
  s.run (fun m => if m.isLport lport.val then m.mapAdd lport.val crc l else m)

/-- LANE_MAP_ECHO_RX (R121). -/
def execLaneMapEchoRx (lport : Fin 2048) (crc : BitVec 32) (l : LaneMap) (s : State) : Host.Outcome State Fault Refusal :=
  s.run (fun m => if m.isLport lport.val then m.mapEcho lport.val crc l else m)

/-- LANE_MAP_EFFECTIVE (R119). -/
def execLaneMapEffective (lport : Fin 2048) (tag : BitVec 16) (s : State) : Host.Outcome State Fault Refusal :=
  s.run (fun m => if m.isLport lport.val then m.mapEffective lport.val tag else m)

/-- LANE_LOST (R120). -/
def execLaneLost (lane : Fin 2048) (s : State) : Host.Outcome State Fault Refusal :=
  s.run (fun m => m.loseLane lane.val)

/-- LANE_ADD_LOCK (R121). -/
def execLaneAddLock (lane : Fin 2048) (s : State) : Host.Outcome State Fault Refusal :=
  s.run (fun m => m.laneLock lane.val)

/-- LANE_ADD_TIMEOUT (R121). -/
def execLaneAddTimeout (lport : Fin 2048) (tag : BitVec 16) (s : State) : Host.Outcome State Fault Refusal :=
  s.run (fun m => if m.isLport lport.val then m.addTimeout lport.val tag else m)

/-- ELANE_FAILING (R123). -/
def execElaneFailing (pb : Fin 64) (transmit : Bool) (lane : Fin 34) (s : State) : Host.Outcome State Fault Refusal :=
  s.run (fun m => m.elaneFailing pb.val transmit lane.val)

/-- SPARE_LANE (R123). -/
def execSpareLane (pb : Fin 64) (transmit : Bool) (lane : Fin 34) (s : State) : Host.Outcome State Fault Refusal :=
  s.run (fun m => m.elaneSpared pb.val transmit lane.val)

/-- TRAIN_RECEIVE (R129). -/
def execTrainReceive (lport : Fin 2048) (crc : BitVec 32) (t : Train) (s : State) : Host.Outcome State Fault Refusal :=
  s.run (fun m => if m.isLport lport.val then m.trainReceive lport.val crc t else m)

/-- LINK_UP (R129), with the lanes that locked and the skew between them in ns (R108). -/
def execLinkUp (lport : Fin 2048) (locked : LockedLanes) (s : State) : Host.Outcome State Fault Refusal :=
  s.run (fun m => m.linkUp lport.val locked.lanes.toNat locked.skew.toNat)

/-- TRAINING_TIMEOUT (R129). -/
def execTrainingTimeout (lport : Fin 2048) (s : State) : Host.Outcome State Fault Refusal :=
  s.run (fun m => m.trainingTimeout lport.val)

end Sys2Proof.Machine
end

