-- ==== Sys2Proof/Machine/MgmtRows.lean ====
section
/-! DEFINITION. The rows of the management complex and of SMBus and JTAG (spec/15_management_and_structure_image.md,
spec/18_telemetry_and_counters.md, spec/21_signals_package_electrical.md R544). -/

namespace Sys2Proof.Machine

/-- A CONTROL frame of a link for the module's own location: to the endpoint, or with no room there it waits at its ingress. A
frame of another type to that location is discarded (R153). On a host port the bridge judges the frame first (R410). -/
def Module.controlRow (m : Module) (lport : Nat) (f : Frame) : Module :=
  if !m.hears lport || f.h.dst != m.loc || isGroupType f.h.ftype.toNat then m
  else if m.link.hostPorts.contains lport then m.hostReceive lport 0 f 0
  else if f.h.ftype = 7 then
    match m.controlArrive f with
    | some m => m
    | none => m.waitIngress (m.atIngress lport 0 f f .endpoint 0)
  else m.raise .fwd_SELF_ADDR (sectorOf lport)

/-- CONTROL_FRAME_ARRIVE (R425). -/
def execControlFrameArrive (lport : Fin 2048) (f : Frame) (s : State) : Host.Outcome State Fault Refusal :=
  s.run (fun m => m.controlRow lport.val f)

/-- CONTROL_INCOMPLETE (R407). -/
def execControlIncomplete (src : Loc) (reqId : BitVec 16) (s : State) : Host.Outcome State Fault Refusal :=
  s.run (fun m => m.controlIncomplete src reqId)

/-- HEARTBEAT (R408). -/
def execHeartbeat (src : Loc) (reqId : BitVec 16) (s : State) : Host.Outcome State Fault Refusal :=
  s.run (fun m => m.heartbeat src reqId)

/-- REG_READ (R518). -/
def execRegRead (src : Loc) (reqId : BitVec 16) (s : State) : Host.Outcome State Fault Refusal :=
  s.run (fun m => m.regRead src reqId)

/-- REG_WRITE (R518). -/
def execRegWrite (src : Loc) (reqId : BitVec 16) (s : State) : Host.Outcome State Fault Refusal :=
  s.run (fun m => m.regWrite src reqId)

/-- TABLE (R408). -/
def execTable (src : Loc) (reqId : BitVec 16) (s : State) : Host.Outcome State Fault Refusal :=
  s.run (fun m => m.tableReq src reqId)

/-- FLASH_ERASE (R415). -/
def execFlashErase (src : Loc) (reqId : BitVec 16) (s : State) : Host.Outcome State Fault Refusal :=
  s.run (fun m => m.flashEraseReq src reqId)

/-- FLASH_WRITE (R415). -/
def execFlashWrite (src : Loc) (reqId : BitVec 16) (s : State) : Host.Outcome State Fault Refusal :=
  s.run (fun m => m.flashWriteReq src reqId)

/-- FLASH_VERIFY (R415). -/
def execFlashVerify (src : Loc) (reqId : BitVec 16) (rsaOk slhOk digestsOk : Bool)
    (s : State) : Host.Outcome State Fault Refusal :=
  s.run (fun m => m.flashVerifyReq src reqId rsaOk slhOk digestsOk)

/-- PATCH (R420). -/
def execPatch (src : Loc) (reqId : BitVec 16) (rsaOk slhOk : Bool) (sections : LiveSections)
    (structural : List Nat) (s : State) : Host.Outcome State Fault Refusal :=
  s.run (fun m => m.patchReq src reqId rsaOk slhOk sections structural)

/-- Does the patch that waits fail a check that is nuwellan's (R13)? -/
def Module.patchUnsound (m : Module) : Bool :=
  let before := ((m.img.running.map (·.live)).toList ++ m.img.liveApplied).flatMap (·.groups)
  match m.img.patch, m.img.identity with
  | some p, some d => !p.live.sound d before
  | _, _ => false

/-- PATCH_APPLY (R420). A patch that fails a check of nuwellan's has no defined effect (R13). -/
def execPatchApply (s : State) : Host.Outcome State Fault Refusal :=
  if s.mod.patchUnsound then .fault .undefinedImage else s.run (fun m => m.patchApply)

/-- TELEMETRY_READ (R476). -/
def execTelemetryRead (src : Loc) (reqId : BitVec 16) (s : State) : Host.Outcome State Fault Refusal :=
  s.run (fun m => m.telemetryRead src reqId)

/-- TELEMETRY_TAKE (R476). -/
def execTelemetryTake (src : Loc) (reqId : BitVec 16) (s : State) : Host.Outcome State Fault Refusal :=
  s.run (fun m => m.telemetryTake src reqId)

/-! ### The bridge, overload, the sink -/

/-- HOST_FRAME_RECEIVE (R410). -/
def execHostFrameReceive (lport : Fin 2048) (vc : Fin 8) (payload : List Byte) (s : State) : Host.Outcome State Fault Refusal :=
  s.run (fun m =>
    if m.hears lport.val then m.hostReceive lport.val vc.val (payloadFrame payload) (creditUnits payload.length) else m)

/-- HOST_FRAME_ADMIT (R410). -/
def execHostFrameAdmit (lport : Fin 2048) (s : State) : Host.Outcome State Fault Refusal :=
  s.run (fun m => m.hostAdmit lport.val)

/-- MPC_OVERLOAD (R427). -/
def execMpcOverload (s : State) : Host.Outcome State Fault Refusal :=
  s.run (fun m => m.overload)

/-- MPC_OVERLOAD_CLEAR (R427). -/
def execMpcOverloadClear (s : State) : Host.Outcome State Fault Refusal :=
  s.run (fun m => m.overloadEnds)

/-- SINK_PUSH (R482). -/
def execSinkPush (s : State) : Host.Outcome State Fault Refusal :=
  s.run (fun m => m.sinkPush)

/-! ### SMBus and JTAG -/

/-- SMB_ADDR (R412). -/
def execSmbAddr (pec : Pec) (addr : Addr) (s : State) : Host.Outcome State Fault Refusal :=
  s.run (fun m => m.smbWrite pec (fun m => m.smbSetAddr addr))

/-- SMB_DATA_WRITE (R412). -/
def execSmbDataWrite (pec : Pec) (data : Word) (s : State) : Host.Outcome State Fault Refusal :=
  s.run (fun m => m.smbWrite pec (fun m => m.smbDataOut data))

/-- SMB_DATA_READ (R412). -/
def execSmbDataRead (s : State) : Host.Outcome State Fault Refusal :=
  s.run (fun m => m.smbDataIn)

/-- SMB_STATUS (R412). -/
def execSmbStatus (s : State) : Host.Outcome State Fault Refusal :=
  s.run (fun m => m.smbStatusIn)

/-- SMB_EVENT (R528). -/
def execSmbEvent (s : State) : Host.Outcome State Fault Refusal :=
  s.run (fun m => m.smbEventIn)

/-- SMB_FLASH_ADDR (R412). -/
def execSmbFlashAddr (pec : Pec) (addr : BitVec 32) (s : State) : Host.Outcome State Fault Refusal :=
  s.run (fun m => m.smbWrite pec (fun m => m.smbRecovery (fun m => m.setFlashAddr addr.toNat)))

/-- SMB_FLASH_DATA_WRITE (R412). -/
def execSmbFlashDataWrite (pec : Pec) (data : List Byte) (s : State) : Host.Outcome State Fault Refusal :=
  s.run (fun m => m.smbWrite pec (fun m => m.smbFlashOut data))

/-- SMB_FLASH_DATA_READ (R412). -/
def execSmbFlashDataRead (count : Fin 33) (s : State) : Host.Outcome State Fault Refusal :=
  s.run (fun m => m.smbFlashIn count.val)

/-- SMB_FLASH_ERASE (R412). -/
def execSmbFlashErase (pec : Pec) (s : State) : Host.Outcome State Fault Refusal :=
  s.run (fun m => m.smbWrite pec (fun m => m.smbErase))

/-- SMB_ALERT_RESPONSE (R522). -/
def execSmbAlertResponse (s : State) : Host.Outcome State Fault Refusal :=
  s.run (fun m => m.smbAlert)

/-- JTAG_DRIVE_INSTRUCTION (R544). -/
def execJtagDriveInstruction (s : State) : Host.Outcome State Fault Refusal :=
  s.run (fun m => m.jtagDrive)

/-- TEST_LOGIC_RESET (R544). -/
def execTestLogicReset (s : State) : Host.Outcome State Fault Refusal :=
  s.run (fun m => m.jtagReset)

/-- JTAG_PRIVATE_ACCESS (R413). -/
def execJtagPrivateAccess (addr : Addr) (write : Option Word) (s : State) : Host.Outcome State Fault Refusal :=
  s.run (fun m => m.jtagAccess addr write)

/-- JTAG_IDCODE (R544). -/
def execJtagIdcode (s : State) : Host.Outcome State Fault Refusal :=
  s.run (fun m => m.jtagId)

end Sys2Proof.Machine
end

