-- ==== Sys2Proof/Machine/PowerRows.lean ====
section
/-! DEFINITION. The rows of pins, rails, heat and resets (spec/19_power_thermal_startup.md). -/

namespace Sys2Proof.Machine

/-- POWER_GOOD (R491). -/
def execPowerGood (profile : BitVec 2) (smbAddr : BitVec 3) (s : State) : Host.Outcome State Fault Refusal :=
  s.run (fun m => m.powerGood profile smbAddr)

/-- PWR_OK_FALL (R501). -/
def execPwrOkFall (ns : Nat) (s : State) : Host.Outcome State Fault Refusal :=
  s.run (fun m => m.pwrOkFall ns)

/-- PORST_N_ASSERT (R501). -/
def execPorstNAssert (ns : Nat) (s : State) : Host.Outcome State Fault Refusal :=
  s.run (fun m => m.porst ns)

/-- WARMRST_N_ASSERT (R501). -/
def execWarmrstNAssert (ns : Nat) (s : State) : Host.Outcome State Fault Refusal :=
  s.run (fun m => m.warmrst ns)

/-- WARMRST_N_RELEASE (R542). -/
def execWarmrstNRelease (s : State) : Host.Outcome State Fault Refusal :=
  s.run (fun m => m.warmrstEnds)

/-- RAIL_CHECK (R492). -/
def execRailCheck (n : Fin 8) (r : RailReading) (s : State) : Host.Outcome State Fault Refusal :=
  s.run (fun m => m.railCheck n.val r)

/-- RAIL_RECOVERED (R492). The rail no longer holds the module in reset. -/
def execRailRecovered (n : Fin 8) (s : State) : Host.Outcome State Fault Refusal :=
  s.run (fun m => m.releaseReset (.rail n.val))

/-- DRAINED_POINT (R127). -/
def execDrainedPoint (lport : Fin 2048) (s : State) : Host.Outcome State Fault Refusal :=
  s.run (fun m => if m.isLport lport.val then m.drainedPoint lport.val else m)

/-- DRAIN_DARK (R127). -/
def execDrainDark (lport : Fin 2048) (s : State) : Host.Outcome State Fault Refusal :=
  s.run (fun m => if m.isLport lport.val then m.drainDark lport.val else m)

/-- RESET_ENTRY (R502). -/
def execResetEntry (s : State) : Host.Outcome State Fault Refusal :=
  s.run (fun m => m.resetEntry)

/-- SECTOR_RELOAD_DONE (R504). -/
def execSectorReloadDone (sec : Fin 8) (s : State) : Host.Outcome State Fault Refusal :=
  s.run (fun m => m.reloadSector sec.val)

/-- GOVERNOR_RAISE (R494). -/
def execGovernorRaise (u : GovUnit) (s : State) : Host.Outcome State Fault Refusal :=
  s.run (fun m => m.govRaise u)

/-- GOVERNOR_LOWER (R494). -/
def execGovernorLower (u : GovUnit) (s : State) : Host.Outcome State Fault Refusal :=
  s.run (fun m => m.govLower u)

/-- DIE_TEMP_READ (R499). -/
def execDieTempRead (die : Fin 4) (temps : List (BitVec 8)) (s : State) : Host.Outcome State Fault Refusal :=
  s.run (fun m => m.dieTemps die.val (temps.map BitVec.toNat))

/-- THROTTLE_STEP (R499). -/
def execThrottleStep (die : Fin 4) (s : State) : Host.Outcome State Fault Refusal :=
  s.run (fun m => m.throttleStep die.val)

end Sys2Proof.Machine
end

