-- ==== Sys2Proof/Machine/PraRows.lean ====
section
/-! DEFINITION. The rows of the photonic arrays (spec/11_photonic_reduction_array.md). -/

namespace Sys2Proof.Machine

/-- PRA_CONVERSION (R304). -/
def execPraConversion (a : Fin 4) (slot : Fin 4096) (seg : BitVec 20) (fslot : BitVec 11) (elem : BitVec 10)
    (group : BitVec 6) (chan : Fin 64) (code : BitVec 10) (s : State) : Host.Outcome State Fault Refusal :=
  s.run (fun m => m.convert a.val slot.val seg.toNat fslot.toNat elem.toNat group.toNat chan.val code.toInt)

/-- PRA_REFERENCE (R307). -/
def execPraReference (a : Fin 4) (chan : Fin 64) (ok : Bool) (s : State) : Host.Outcome State Fault Refusal :=
  s.run (fun m => m.reference a.val chan.val ok)

/-- PRA_CHANNEL_RETURN (R307). `ringLost`: a ring of the channel was given up and no spare can serve (R319). -/
def execPraChannelReturn (a : Fin 4) (chan : ChanBack) (s : State) : Host.Outcome State Fault Refusal :=
  s.run (fun m => m.chanReturns a.val chan.chan.val chan.ringLost)

/-- PRA_WEIGHT_UPDATE (R308). The corrections are within the array: nothing that an access or a frame shows follows from them. -/
def execPraWeightUpdate (_a : Fin 4) (s : State) : Host.Outcome State Fault Refusal :=
  s.run (fun m => m)

/-- SHADOW_COMPARE (R315). -/
def execShadowCompare (a : Fin 4) (s : State) : Host.Outcome State Fault Refusal :=
  s.run (fun m => m.shadowBlock a.val)

/-- PRA_CALIBRATION (R313). -/
def execPraCalibration (a : Fin 4) (s : State) : Host.Outcome State Fault Refusal :=
  s.run (fun m => m.beginCalibration a.val)

/-- CAL_DONE (R313). `passed` has a bit for each channel that passed verification. -/
def execCalDone (a : Fin 4) (passed : BitVec 64) (s : State) : Host.Outcome State Fault Refusal :=
  s.run (fun m => m.calDone a.val passed.toNat)

/-- PAUSE (R318). `why`: the bit of PAUSE_WHY. -/
def execPause (a : Fin 4) (why : Fin 4) (s : State) : Host.Outcome State Fault Refusal :=
  s.run (fun m => m.pausePra a.val why.val)

/-- PRA_RESUME (R318). -/
def execPraResume (a : Fin 4) (why : Fin 4) (s : State) : Host.Outcome State Fault Refusal :=
  s.run (fun m => m.resumePra a.val why.val)

end Sys2Proof.Machine
end

