-- ==== Sys2Proof/Machine/RepairRows.lean ====
section
/-! DEFINITION. The rows of MPC cores, the repair table and rehearsal injections (spec/17_spares_repair_and_resilience.md). -/

namespace Sys2Proof.Machine

/-- MPC_CORE_FAIL (R458). -/
def execMpcCoreFail (c : Fin 5) (s : State) : Host.Outcome State Fault Refusal :=
  s.run (fun m => m.coreFails c.val)

/-- MPC_CORE_TAKEOVER (R458). -/
def execMpcCoreTakeover (s : State) : Host.Outcome State Fault Refusal :=
  s.run (fun m => m.coreIn)

/-- REPAIR_RECORD_APPEND (R451). -/
def execRepairRecordAppend (refused : Bool) (s : State) : Host.Outcome State Fault Refusal :=
  s.run (fun m => m.appendRepair refused)

/-! ### Injections -/

/-- INJECT_LINK_LOSS (R465). -/
def execInjectLinkLoss (dur : BitVec 16) (s : State) : Host.Outcome State Fault Refusal :=
  s.run (fun m => m.inject 0 dur.toNat)

/-- INJECT_LASER_FADE (R465). -/
def execInjectLaserFade (s : State) : Host.Outcome State Fault Refusal :=
  s.run (fun m => m.inject 1 0)

/-- INJECT_RING_MISLOCK (R465). -/
def execInjectRingMislock (s : State) : Host.Outcome State Fault Refusal :=
  s.run (fun m => m.inject 2 0)

/-- INJECT_RESIDUE_ERROR (R465). -/
def execInjectResidueError (dur : BitVec 16) (s : State) : Host.Outcome State Fault Refusal :=
  s.run (fun m => m.inject 3 dur.toNat)

/-- INJECT_HBM_CHANNEL (R465). -/
def execInjectHbmChannel (copied : List Nat) (s : State) : Host.Outcome State Fault Refusal :=
  s.run (fun m => m.inject 4 0 copied)

/-- INJECT_SRAM_ROW (R465). -/
def execInjectSramRow (s : State) : Host.Outcome State Fault Refusal :=
  s.run (fun m => m.inject 5 0)

/-- INJECT_CLOCK_FAIL (R465). -/
def execInjectClockFail (s : State) : Host.Outcome State Fault Refusal :=
  s.run (fun m => m.inject 6 0)

/-- INJECT_MPC_OVERLOAD (R465). -/
def execInjectMpcOverload (dur : BitVec 16) (s : State) : Host.Outcome State Fault Refusal :=
  s.run (fun m => m.inject 7 dur.toNat)

/-- INJECTION_END (R465). -/
def execInjectionEnd (s : State) : Host.Outcome State Fault Refusal :=
  s.run (fun m => m.injectionEnds)

end Sys2Proof.Machine
end

