-- ==== Sys2Proof/Machine/SecurityRows.lean ====
section
/-! DEFINITION. The rows of quorum commands and attestation (spec/16_security_and_quorum.md). -/

namespace Sys2Proof.Machine

/-- A command of SMBus to a SEC block that is not clocked does nothing and sets ACCESS_FAULT (R412). -/
def Module.smbReaches (m : Module) (o : QOrigin) (f : Module → Module) : Module :=
  if o == .smbus && !m.secRuns then (if m.smbAnswers then m.smbFaults .notReady else m) else f m

/-- QUORUM (R438). -/
def execQuorum (origin : QOrigin) (body : List Byte) (sigs : List (Bool × Bool))
    (s : State) : Host.Outcome State Fault Refusal :=
  s.run (fun m => m.smbReaches origin (fun m => m.quorum origin body sigs))

/-- ATTEST (R444). -/
def execAttest (origin : QOrigin) (nonce : List Byte) (s : State) : Host.Outcome State Fault Refusal :=
  s.run (fun m => m.smbReaches origin (fun m => m.attest origin nonce))

/-- ATTEST_DONE (R444). `signature`: the RSA and the SLH-DSA signature that the SEC block's hardware has made. -/
def execAttestDone (signature : List Byte) (s : State) : Host.Outcome State Fault Refusal :=
  s.run (fun m => m.attestDone signature)

/-- FENCE (R439). -/
def execFence (s : State) : Host.Outcome State Fault Refusal :=
  s.run (fun m => m.quorumActs 1)

/-- UNFENCE (R439). -/
def execUnfence (s : State) : Host.Outcome State Fault Refusal :=
  s.run (fun m => m.quorumActs 2)

/-- EXPEL (R441). -/
def execExpel (s : State) : Host.Outcome State Fault Refusal :=
  s.run (fun m => m.quorumActs 3)

/-- REHEARSE_GRANT (R440). -/
def execRehearseGrant (s : State) : Host.Outcome State Fault Refusal :=
  s.run (fun m => m.quorumActs 4)

/-- REHEARSE_REVOKE (R440). -/
def execRehearseRevoke (s : State) : Host.Outcome State Fault Refusal :=
  s.run (fun m => m.quorumActs 5)

/-- REHEARSAL_EXPIRY (R440). -/
def execRehearsalExpiry (s : State) : Host.Outcome State Fault Refusal :=
  s.run (fun m => m.rehearsalExpires)

/-- KEYSET_ROTATE (R442). -/
def execKeysetRotate (s : State) : Host.Outcome State Fault Refusal :=
  s.run (fun m => m.quorumActs 6)

/-- DEBUG_UNLOCK (R439). -/
def execDebugUnlock (s : State) : Host.Outcome State Fault Refusal :=
  s.run (fun m => m.quorumActs 7)

/-- PROVISION (R443). -/
def execProvision (s : State) : Host.Outcome State Fault Refusal :=
  s.run (fun m => m.quorumActs 8)

end Sys2Proof.Machine
end

