-- ==== Sys2Proof/Machine/StartRows.lean ====
section
/-! DEFINITION. The rows of start-up (spec/19_power_thermal_startup.md R506). -/

namespace Sys2Proof.Machine

/-- START_AON (R506). -/
def execStartAon (s : State) : Host.Outcome State Fault Refusal :=
  s.run (fun m => m.startAon)

/-- START_IOSC (R374). -/
def execStartIosc (s : State) : Host.Outcome State Fault Refusal :=
  s.run (fun m => m.startIosc)

/-- START_BOOT_ROM (R436). -/
def execStartBootRom (s : State) : Host.Outcome State Fault Refusal :=
  s.run (fun m => m.startBootRom)

/-- START_SIGNATURES (R436). -/
def execStartSignatures (fwA fwB : FirmwareCheck) (imgA imgB : CopyCheck) (secA secB : PairCheck)
    (s : State) : Host.Outcome State Fault Refusal :=
  s.run (fun m => m.signatures fwA fwB imgA imgB secA secB)

/-- START_PLL (R385). -/
def execStartPll (s : State) : Host.Outcome State Fault Refusal :=
  s.run (fun m => m.startPll)

/-- START_HBM_TRAIN (R341). -/
def execStartHbmTrain (failed : List (Fin 32 × Fin 32)) (s : State) : Host.Outcome State Fault Refusal :=
  s.run (fun m => m.trainHbm (failed.map (fun x => (x.1.val, x.2.val))))

/-- START_LIGHT (R46). -/
def execStartLight (dips : List RingDips) (praRings : List (Fin 4 × Fin 64))
    (s : State) : Host.Outcome State Fault Refusal :=
  s.run (fun m => m.startLight dips (praRings.map (fun x => (x.1.val, x.2.val))))

/-- START_LINKS (R506). -/
def execStartLinks (s : State) : Host.Outcome State Fault Refusal :=
  s.run (fun m => m.startLinks)

/-- START_IMAGE_LOAD (R416). An image that fails a check of nuwellan's has no defined effect (R13). -/
def execStartImageLoad (a b : LoadCheck) (s : State) : Host.Outcome State Fault Refusal :=
  if s.mod.loadsUnsound a b then .fault .undefinedImage else s.run (fun m => m.imageLoad a b)

/-- START_ALIGNMENT (R355). -/
def execStartAlignment (s : State) : Host.Outcome State Fault Refusal :=
  s.run (fun m => m.beginAlignment)

/-- READY (R507). -/
def execReady (s : State) : Host.Outcome State Fault Refusal :=
  s.run (fun m => m.becomeReady)

end Sys2Proof.Machine
end

