-- ==== Sys2Proof/Machine/Dispatch.lean ====
section
/-! DEFINITION. The effect of one command on everything but the queue, one arm a command. -/

namespace Sys2Proof.Machine

def exec (i : Instr) (s : State) : Host.Outcome State Fault Refusal :=
  match i with
  | .registerWrite req addr data => Sys2Proof.Machine.execRegisterWrite req addr data s
  | .hiRegisterWrite req addr data => Sys2Proof.Machine.execHiRegisterWrite req addr data s
  | .loRegisterRead req addr => Sys2Proof.Machine.execLoRegisterRead req addr s
  | .rcRegisterRead req addr => Sys2Proof.Machine.execRcRegisterRead req addr s
  | .powerGood profile smbAddr => Sys2Proof.Machine.execPowerGood profile smbAddr s
  | .pwrOkFall ns => Sys2Proof.Machine.execPwrOkFall ns s
  | .porstNAssert ns => Sys2Proof.Machine.execPorstNAssert ns s
  | .warmrstNAssert ns => Sys2Proof.Machine.execWarmrstNAssert ns s
  | .warmrstNRelease => Sys2Proof.Machine.execWarmrstNRelease s
  | .railCheck n r => Sys2Proof.Machine.execRailCheck n r s
  | .railRecovered n => Sys2Proof.Machine.execRailRecovered n s
  | .pwrRstCold req notice => Sys2Proof.Machine.execPwrRstCold req notice s
  | .pwrRstWarm req => Sys2Proof.Machine.execPwrRstWarm req s
  | .pwrRstSector req sec => Sys2Proof.Machine.execPwrRstSector req sec s
  | .pwrRstCore req notice => Sys2Proof.Machine.execPwrRstCore req notice s
  | .drainedPoint lport => Sys2Proof.Machine.execDrainedPoint lport s
  | .drainDark lport => Sys2Proof.Machine.execDrainDark lport s
  | .resetEntry => Sys2Proof.Machine.execResetEntry s
  | .sectorReloadDone sec => Sys2Proof.Machine.execSectorReloadDone sec s
  | .startAon => Sys2Proof.Machine.execStartAon s
  | .startIosc => Sys2Proof.Machine.execStartIosc s
  | .startBootRom => Sys2Proof.Machine.execStartBootRom s
  | .startSignatures fwA fwB imgA imgB secA secB => Sys2Proof.Machine.execStartSignatures fwA fwB imgA imgB secA secB s
  | .xtalWindow count => Sys2Proof.Machine.execXtalWindow count s
  | .xtalQualFail => Sys2Proof.Machine.execXtalQualFail s
  | .startPll => Sys2Proof.Machine.execStartPll s
  | .startHbmTrain failed => Sys2Proof.Machine.execStartHbmTrain failed s
  | .startLight dips praRings => Sys2Proof.Machine.execStartLight dips praRings s
  | .startLinks => Sys2Proof.Machine.execStartLinks s
  | .startImageLoad a b => Sys2Proof.Machine.execStartImageLoad a b s
  | .startAlignment => Sys2Proof.Machine.execStartAlignment s
  | .ready => Sys2Proof.Machine.execReady s
  | .governorRaise u => Sys2Proof.Machine.execGovernorRaise u s
  | .governorLower u => Sys2Proof.Machine.execGovernorLower u s
  | .dieTempRead die temps => Sys2Proof.Machine.execDieTempRead die temps s
  | .throttleStep die => Sys2Proof.Machine.execThrottleStep die s
  | .clockMonitorWindow w => Sys2Proof.Machine.execClockMonitorWindow w s
  | .dividerRampStep d => Sys2Proof.Machine.execDividerRampStep d s
  | .timSet req data => Sys2Proof.Machine.execTimSet req data s
  | .timAdj req data => Sys2Proof.Machine.execTimAdj req data s
  | .slewDone => Sys2Proof.Machine.execSlewDone s
  | .pulseEdge syncIn => Sys2Proof.Machine.execPulseEdge syncIn s
  | .ppsMissing => Sys2Proof.Machine.execPpsMissing s
  | .ppsOutRise => Sys2Proof.Machine.execPpsOutRise s
  | .ppsOutFall => Sys2Proof.Machine.execPpsOutFall s
  | .timSyncCmd data => Sys2Proof.Machine.execTimSyncCmd data s
  | .syncReqReceive lport src tag peerSet t1 => Sys2Proof.Machine.execSyncReqReceive lport src tag peerSet t1 s
  | .syncRespReceive lport tag peerSet t2 t3 => Sys2Proof.Machine.execSyncRespReceive lport tag peerSet t2 t3 s
  | .syncRespTimeout => Sys2Proof.Machine.execSyncRespTimeout s
  | .syncInPulse samples => Sys2Proof.Machine.execSyncInPulse samples s
  | .syncTimeout => Sys2Proof.Machine.execSyncTimeout s
  | .alignmentEdge => Sys2Proof.Machine.execAlignmentEdge s
  | .alignVerifyFail => Sys2Proof.Machine.execAlignVerifyFail s
  | .alignVerifyEnd => Sys2Proof.Machine.execAlignVerifyEnd s
  | .periodZero => Sys2Proof.Machine.execPeriodZero s
  | .periodEdge => Sys2Proof.Machine.execPeriodEdge s
  | .mislock pb ring => Sys2Proof.Machine.execMislock pb ring s
  | .relock pb ring => Sys2Proof.Machine.execRelock pb ring s
  | .ringSpared pb ring => Sys2Proof.Machine.execRingSpared pb ring s
  | .ringSpareLock pb ring => Sys2Proof.Machine.execRingSpareLock pb ring s
  | .laserAverage pb n tap bias => Sys2Proof.Machine.execLaserAverage pb n tap bias s
  | .swapStart pb => Sys2Proof.Machine.execSwapStart pb s
  | .swapTuneDone pb => Sys2Proof.Machine.execSwapTuneDone pb s
  | .spareTuneTimeout pb => Sys2Proof.Machine.execSpareTuneTimeout pb s
  | .injectionLock pb => Sys2Proof.Machine.execInjectionLock pb s
  | .injectionLockTimeout pb => Sys2Proof.Machine.execInjectionLockTimeout pb s
  | .combinerStep pb => Sys2Proof.Machine.execCombinerStep pb s
  | .swapDone pb => Sys2Proof.Machine.execSwapDone pb s
  | .lpeSwapCmd pb lambda => Sys2Proof.Machine.execLpeSwapCmd pb lambda s
  | .capLimit pb port => Sys2Proof.Machine.execCapLimit pb port s
  | .lossOfLight pb port rx => Sys2Proof.Machine.execLossOfLight pb port rx s
  | .aprExit pb port rx tx => Sys2Proof.Machine.execAprExit pb port rx tx s
  | .circuitSetup origin tag slot inPort outPort hold => Sys2Proof.Machine.execCircuitSetup origin tag slot inPort outPort hold s
  | .circuitTeardown origin tag slot inPort outPort => Sys2Proof.Machine.execCircuitTeardown origin tag slot inPort outPort s
  | .circuitQuery origin tag slot => Sys2Proof.Machine.execCircuitQuery origin tag slot s
  | .flyCommandStart => Sys2Proof.Machine.execFlyCommandStart s
  | .circuitUp light => Sys2Proof.Machine.execCircuitUp light s
  | .circuitDown => Sys2Proof.Machine.execCircuitDown s
  | .codewordReceive lane w => Sys2Proof.Machine.execCodewordReceive lane w s
  | .dataFrameReceive lport h crc payload => Sys2Proof.Machine.execDataFrameReceive lport h crc payload s
  | .retryReqReceive lport crc lseq reason => Sys2Proof.Machine.execRetryReqReceive lport crc lseq reason s
  | .retryReqTimeout lport => Sys2Proof.Machine.execRetryReqTimeout lport s
  | .stallTimeout lport => Sys2Proof.Machine.execStallTimeout lport s
  | .creditFrameReceive lport crc ack cvc ccount => Sys2Proof.Machine.execCreditFrameReceive lport crc ack cvc ccount s
  | .keepaliveSend lport lane => Sys2Proof.Machine.execKeepaliveSend lport lane s
  | .keepaliveReceive lport crc k => Sys2Proof.Machine.execKeepaliveReceive lport crc k s
  | .laneMapRemoveRx lport crc l => Sys2Proof.Machine.execLaneMapRemoveRx lport crc l s
  | .laneMapAddRx lport crc l => Sys2Proof.Machine.execLaneMapAddRx lport crc l s
  | .laneMapEchoRx lport crc l => Sys2Proof.Machine.execLaneMapEchoRx lport crc l s
  | .laneMapEffective lport tag => Sys2Proof.Machine.execLaneMapEffective lport tag s
  | .laneLost lane => Sys2Proof.Machine.execLaneLost lane s
  | .laneAddLock lane => Sys2Proof.Machine.execLaneAddLock lane s
  | .laneAddTimeout lport tag => Sys2Proof.Machine.execLaneAddTimeout lport tag s
  | .elaneFailing pb transmit lane => Sys2Proof.Machine.execElaneFailing pb transmit lane s
  | .spareLane pb transmit lane => Sys2Proof.Machine.execSpareLane pb transmit lane s
  | .trainReceive lport crc t => Sys2Proof.Machine.execTrainReceive lport crc t s
  | .linkUp lport locked => Sys2Proof.Machine.execLinkUp lport locked s
  | .trainingTimeout lport => Sys2Proof.Machine.execTrainingTimeout lport s
  | .escape lport vc => Sys2Proof.Machine.execEscape lport vc s
  | .fwdVerSwitch req => Sys2Proof.Machine.execFwdVerSwitch req s
  | .shadowCopyDone => Sys2Proof.Machine.execShadowCopyDone s
  | .fwdTblReadActive sec table index => Sys2Proof.Machine.execFwdTblReadActive sec table index s
  | .fwdTblReadShadow sec table index => Sys2Proof.Machine.execFwdTblReadShadow sec table index s
  | .fwdTblWriteShadow req sec entry => Sys2Proof.Machine.execFwdTblWriteShadow req sec entry s
  | .fwdTblDone sec => Sys2Proof.Machine.execFwdTblDone sec s
  | .admission lport read => Sys2Proof.Machine.execAdmission lport read s
  | .carafeChunkClose lport vc => Sys2Proof.Machine.execCarafeChunkClose lport vc s
  | .carafeReadback lport vc bad => Sys2Proof.Machine.execCarafeReadback lport vc bad s
  | .reseqOpenEnd lport ends flow errs => Sys2Proof.Machine.execReseqOpenEnd lport ends flow errs s
  | .reseqTimeout lport ends flow errs => Sys2Proof.Machine.execReseqTimeout lport ends flow errs s
  | .reseqIdleClose lport src dst flow => Sys2Proof.Machine.execReseqIdleClose lport src dst flow s
  | .planeFail plane => Sys2Proof.Machine.execPlaneFail plane s
  | .planeSpared => Sys2Proof.Machine.execPlaneSpared s
  | .sramScrub sec word found => Sys2Proof.Machine.execSramScrub sec word found s
  | .sramRemapDone sec bank row => Sys2Proof.Machine.execSramRemapDone sec bank row s
  | .frameLaunch lport read => Sys2Proof.Machine.execFrameLaunch lport read s
  | .wheelSlot sec => Sys2Proof.Machine.execWheelSlot sec s
  | .tmQRateWrite req sec data => Sys2Proof.Machine.execTmQRateWrite req sec data s
  | .tmQBurstWrite req sec data => Sys2Proof.Machine.execTmQBurstWrite req sec data s
  | .contributionReceive lport f => Sys2Proof.Machine.execContributionReceive lport f s
  | .startFrameReceive lport f => Sys2Proof.Machine.execStartFrameReceive lport f s
  | .partialReceive lport f => Sys2Proof.Machine.execPartialReceive lport f s
  | .resultReceive lport f => Sys2Proof.Machine.execResultReceive lport f s
  | .ackReceive lport f => Sys2Proof.Machine.execAckReceive lport f s
  | .doneReceive lport f => Sys2Proof.Machine.execDoneReceive lport f s
  | .abortRequestReceive lport f => Sys2Proof.Machine.execAbortRequestReceive lport f s
  | .abortReceive lport f => Sys2Proof.Machine.execAbortReceive lport f s
  | .segmentComplete slot seg erred => Sys2Proof.Machine.execSegmentComplete slot seg erred s
  | .sideTotalReady slot => Sys2Proof.Machine.execSideTotalReady slot s
  | .rootTimeout slot => Sys2Proof.Machine.execRootTimeout slot s
  | .backstopTimeout slot => Sys2Proof.Machine.execBackstopTimeout slot s
  | .windowOpen e => Sys2Proof.Machine.execWindowOpen e s
  | .engineFail e => Sys2Proof.Machine.execEngineFail e s
  | .migrateReady slot seg => Sys2Proof.Machine.execMigrateReady slot seg s
  | .colAbortCmd sec slot => Sys2Proof.Machine.execColAbortCmd sec slot s
  | .colGrpReadActive sec member index => Sys2Proof.Machine.execColGrpReadActive sec member index s
  | .colGrpReadShadow sec member index => Sys2Proof.Machine.execColGrpReadShadow sec member index s
  | .colGrpWriteShadow sec member index => Sys2Proof.Machine.execColGrpWriteShadow sec member index s
  | .colGrpDone sec => Sys2Proof.Machine.execColGrpDone sec s
  | .praConversion a slot seg fslot elem group chan code => Sys2Proof.Machine.execPraConversion a slot seg fslot elem group chan code s
  | .praReference a chan ok => Sys2Proof.Machine.execPraReference a chan ok s
  | .praChannelReturn a chan => Sys2Proof.Machine.execPraChannelReturn a chan s
  | .praWeightUpdate a => Sys2Proof.Machine.execPraWeightUpdate a s
  | .shadowCompare a => Sys2Proof.Machine.execShadowCompare a s
  | .praCalibration a => Sys2Proof.Machine.execPraCalibration a s
  | .calDone a passed => Sys2Proof.Machine.execCalDone a passed s
  | .praReenable a => Sys2Proof.Machine.execPraReenable a s
  | .pause a why => Sys2Proof.Machine.execPause a why s
  | .praResume a why => Sys2Proof.Machine.execPraResume a why s
  | .hbmTempRead k temp => Sys2Proof.Machine.execHbmTempRead k temp s
  | .hbmHot k => Sys2Proof.Machine.execHbmHot k s
  | .hbmSensorTimeout k => Sys2Proof.Machine.execHbmSensorTimeout k s
  | .hbmRefresh k => Sys2Proof.Machine.execHbmRefresh k s
  | .hbmScrubPass k ch found point => Sys2Proof.Machine.execHbmScrubPass k ch found point s
  | .scrubLate k => Sys2Proof.Machine.execScrubLate k s
  | .chanFail k ch hard copied => Sys2Proof.Machine.execChanFail k ch hard copied s
  | .chanMapped k ch unread => Sys2Proof.Machine.execChanMapped k ch unread s
  | .controlFrameArrive lport f => Sys2Proof.Machine.execControlFrameArrive lport f s
  | .controlIncomplete src reqId => Sys2Proof.Machine.execControlIncomplete src reqId s
  | .heartbeat src reqId => Sys2Proof.Machine.execHeartbeat src reqId s
  | .regRead src reqId => Sys2Proof.Machine.execRegRead src reqId s
  | .regWrite src reqId => Sys2Proof.Machine.execRegWrite src reqId s
  | .table src reqId => Sys2Proof.Machine.execTable src reqId s
  | .flashErase src reqId => Sys2Proof.Machine.execFlashErase src reqId s
  | .flashWrite src reqId => Sys2Proof.Machine.execFlashWrite src reqId s
  | .flashVerify src reqId rsaOk slhOk digestsOk => Sys2Proof.Machine.execFlashVerify src reqId rsaOk slhOk digestsOk s
  | .patch src reqId rsaOk slhOk sections structural => Sys2Proof.Machine.execPatch src reqId rsaOk slhOk sections structural s
  | .patchApply => Sys2Proof.Machine.execPatchApply s
  | .telemetryRead src reqId => Sys2Proof.Machine.execTelemetryRead src reqId s
  | .telemetryTake src reqId => Sys2Proof.Machine.execTelemetryTake src reqId s
  | .hostFrameReceive lport vc payload => Sys2Proof.Machine.execHostFrameReceive lport vc payload s
  | .hostFrameAdmit lport => Sys2Proof.Machine.execHostFrameAdmit lport s
  | .mpcOverload => Sys2Proof.Machine.execMpcOverload s
  | .mpcOverloadClear => Sys2Proof.Machine.execMpcOverloadClear s
  | .sinkPush => Sys2Proof.Machine.execSinkPush s
  | .smbAddr pec addr => Sys2Proof.Machine.execSmbAddr pec addr s
  | .smbDataWrite pec data => Sys2Proof.Machine.execSmbDataWrite pec data s
  | .smbDataRead => Sys2Proof.Machine.execSmbDataRead s
  | .smbStatus => Sys2Proof.Machine.execSmbStatus s
  | .smbEvent => Sys2Proof.Machine.execSmbEvent s
  | .smbFlashAddr pec addr => Sys2Proof.Machine.execSmbFlashAddr pec addr s
  | .smbFlashDataWrite pec data => Sys2Proof.Machine.execSmbFlashDataWrite pec data s
  | .smbFlashDataRead count => Sys2Proof.Machine.execSmbFlashDataRead count s
  | .smbFlashErase pec => Sys2Proof.Machine.execSmbFlashErase pec s
  | .smbAlertResponse => Sys2Proof.Machine.execSmbAlertResponse s
  | .jtagDriveInstruction => Sys2Proof.Machine.execJtagDriveInstruction s
  | .testLogicReset => Sys2Proof.Machine.execTestLogicReset s
  | .jtagPrivateAccess addr write => Sys2Proof.Machine.execJtagPrivateAccess addr write s
  | .jtagIdcode => Sys2Proof.Machine.execJtagIdcode s
  | .quorum origin body sigs => Sys2Proof.Machine.execQuorum origin body sigs s
  | .attest origin nonce => Sys2Proof.Machine.execAttest origin nonce s
  | .attestDone signature => Sys2Proof.Machine.execAttestDone signature s
  | .fence => Sys2Proof.Machine.execFence s
  | .unfence => Sys2Proof.Machine.execUnfence s
  | .expel => Sys2Proof.Machine.execExpel s
  | .rehearseGrant => Sys2Proof.Machine.execRehearseGrant s
  | .rehearseRevoke => Sys2Proof.Machine.execRehearseRevoke s
  | .rehearsalExpiry => Sys2Proof.Machine.execRehearsalExpiry s
  | .keysetRotate => Sys2Proof.Machine.execKeysetRotate s
  | .debugUnlock => Sys2Proof.Machine.execDebugUnlock s
  | .provision => Sys2Proof.Machine.execProvision s
  | .mpcCoreFail c => Sys2Proof.Machine.execMpcCoreFail c s
  | .mpcCoreTakeover => Sys2Proof.Machine.execMpcCoreTakeover s
  | .repairRecordAppend refused => Sys2Proof.Machine.execRepairRecordAppend refused s
  | .injectLinkLoss dur => Sys2Proof.Machine.execInjectLinkLoss dur s
  | .injectLaserFade => Sys2Proof.Machine.execInjectLaserFade s
  | .injectRingMislock => Sys2Proof.Machine.execInjectRingMislock s
  | .injectResidueError dur => Sys2Proof.Machine.execInjectResidueError dur s
  | .injectHbmChannel copied => Sys2Proof.Machine.execInjectHbmChannel copied s
  | .injectSramRow => Sys2Proof.Machine.execInjectSramRow s
  | .injectClockFail => Sys2Proof.Machine.execInjectClockFail s
  | .injectMpcOverload dur => Sys2Proof.Machine.execInjectMpcOverload dur s
  | .injectionEnd => Sys2Proof.Machine.execInjectionEnd s
  | .telSmpPop => Sys2Proof.Machine.execTelSmpPop s
  | .eventLogWrite line => Sys2Proof.Machine.execEventLogWrite line s
  | .logDataCapture req => Sys2Proof.Machine.execLogDataCapture req s
  | .glbAlertClear data => Sys2Proof.Machine.execGlbAlertClear data s

end Sys2Proof.Machine
end

