-- ==== Sys2Proof/WellFormed.lean ====
section
/-! DEFINITION. Which commands are well formed: what their operands' types do not say. A command that is not well formed
cannot come: its sender has no such thing to send. -/

namespace Sys2Proof

open Machine

/-- What the search recorded: a ring of an engine, a dip or none for each of the four wavelengths (R46). -/
def Machine.RingDips.wf (d : RingDips) : Bool := decide (d.pb < 64) && decide (d.ring < 164) && d.codes.length == 4

/-- A frame's extension lies within it, and it fits a link frame (R110, R137). -/
def Machine.Frame.wf (f : Frame) : Bool := decide (8 * f.h.xlen.toNat ≤ f.body.length) && decide (f.len ≤ 8191)

/-- An image's sections as flash can hold them: no window is left empty yet, and each list is of its section's width. -/
def Machine.Image.wf (i : Image) : Bool :=
  i.layout.credits.length == 8 && i.praEnable.all (· < 4)
    && (match i.schedule with
      | some sc => sc.windows.all (fun w => !w.2.2.idle)
      | none => true)

/-- The bytes of a pair of signatures (R435). -/
def signaturePair : Nat := 384 + 16224

/-- Is a command well formed? -/
def Instr.wf (i : Instr) : Bool :=
  match i with
  | .startLight dips _ => dips.all RingDips.wf
  | .startImageLoad a b => a.image.wf && b.image.wf
  | .dieTempRead _ temps => temps.length == 16
  | .dataFrameReceive _ h _ payload => h.len.toNat == payload.length
  | .trainReceive _ _ t => t.credits.length == 8
  | .contributionReceive _ f => f.frame.wf
  | .startFrameReceive _ f => f.wf
  | .partialReceive _ f => f.frame.wf
  | .resultReceive _ f => f.wf
  | .ackReceive _ f => f.wf
  | .doneReceive _ f => f.wf
  | .abortRequestReceive _ f => f.wf
  | .abortReceive _ f => f.wf
  | .controlFrameArrive _ f => f.wf
  | .hostFrameReceive _ _ payload => decide (payload.length ≤ 8191)
  | .smbFlashDataWrite _ data => decide (data.length ≤ 32)
  | .quorum _ body sigs => decide (body.length ≤ 32 + 13827 + 31 * 16612) && decide (sigs.length ≤ 31)
  | .patch _ _ _ _ _ structural => structural.all (fun n => decide (1 ≤ n) && decide (n ≤ 10))
  | .attest _ nonce => nonce.length == 32
  | .attestDone signature => signature.length == signaturePair
  | _ => true

end Sys2Proof
end

