-- ==== Sys2Proof/Safety.lean ====
section
/-! DEFINITION. What a safe step is, in the terms the statements use. -/

namespace Sys2Proof.Machine

/-- Does the block go on from a state? -/
def Safe (s : State) : Prop := ∃ t, step s = .next t

/-- The queue holds well-formed commands only. -/
def QueueOk (s : State) : Prop := ∀ i ∈ s.pending, i.wf = true

/-- Boot flash is in its canonical form: addresses rise, and no byte is listed that reads as erased. -/
def FlashOk (s : State) : Prop := Memory.wf s.mod.flash = true

/-- An event has happened once between two states of the module (R471, R473): its counter has gone up by one, modulo 2^64,
and its EVT bit, where it has one, is 1. -/
def Module.Happened (m' m : Module) (e : Ev) (inst : Nat) : Prop :=
  m'.counter e.num inst = (m.counter e.num inst + 1) % 2 ^ 64 ∧ ∀ k, evtKey e inst = some k → m'.getF k = 1

/-- Every register field outside `ks` holds what it held. -/
def Module.RegsKept (m' m : Module) (ks : List FKey) : Prop := ∀ k, k ∉ ks → m'.getF k = m.getF k

/-- Outside its registers, its counters and the occurrences that wait for the log, a module is as another. -/
def Module.OnlyShows (m' m : Module) : Prop :=
  m' = { m with regs := m'.regs, counters := m'.counters, log := { m.log with pend := m'.log.pend } }

/-- The frame is one of the operation in a slot (R217, R226): its group is live, it carries the operation's JOB_EPOCH and
fingerprint, and it comes over a tree link: from the parent where it travels down, from the entry `e` where it travels up. No
frame waits before it at its ingress (R229). -/
def Module.RunsFor (m : Module) (lport : Nat) (f : Frame) (slot : Nat) (op : Op) (e : Option MemberEntry) : Prop :=
  ∃ defIdx, m.col.active.directory (f.h.dst.toNat % 2 ^ 20) = some defIdx ∧ defIdx ∈ m.col.live ∧
    m.opSlot defIdx f.h.flow.toNat = some slot ∧ m.op slot = some op ∧ m.fifo lport (vcOf m.profile f.h) = [] ∧
    (Descriptor.decode f.col.descriptor).jobEpoch = op.gdef.jobEpoch ∧ f.col.fingerprint = op.fp ∧
    (match e with
     | none => downward f.col f.h.phase = true ∧ op.gdef.root = false ∧ op.gdef.parent = lport
     | some x => downward f.col f.h.phase = false ∧ memberFor op.members lport f.col = some x)

/-- Does a write of a register do more than write its fields (R14): start something, or write what the register views? -/
def RegName.acts (r : RegName) : Bool :=
  r.hi.isSome || r.lo.isSome ||
  match r with
  | .mpcInjCmd | .telCtrl | .telSel | .telSink | .telSmpPop | .telGrantLoc | .telGrantGrp | .telGrantInst | .pwrRstCmd
  | .glbAlert | .glbLogMask | .clkEvt | .timCtrl | .timSyncCmd | .lpeSwapCmd | .flyCmd | .fwdVer | .fwdTblCmd | .colGrpCmd
  | .colAbortCmd | .bufCtrl | .tmOvh | .tmQRate | .tmQBurst | .praCtrl | .tmSchedEvt | .hbmRgnSel => true
  | _ => false

/-- The fields of a register's instance. -/
def RegName.keys (r : RegName) (i j : Nat) : List FKey := r.fields.map (fun d => ⟨r, i, j, d.lo⟩)

/-- What a field holds after a register write that gives it `v`, where it held `was` (R14, R16). -/
def FieldDef.written (d : FieldDef) (was v : Nat) : Nat :=
  match d.acc with
  | .rw => clampTo d.least d.most v
  | .w1c => if v = 1 then 0 else was
  | _ => was

/-- The commands that can change boot flash. -/
def touchesFlash (i : Instr) : Bool :=
  match i with
  | .flashErase _ _ | .flashWrite _ _ | .smbFlashDataWrite _ _ | .smbFlashErase _ | .repairRecordAppend _ => true
  | _ => false

/-- The commands that can change the kept security state: quorum commands, their effects, and the steps of a start. -/
def touchesSecurity (i : Instr) : Bool :=
  match i with
  | .quorum _ _ _ | .fence | .unfence | .expel | .rehearseGrant | .rehearseRevoke | .keysetRotate | .debugUnlock
  | .provision | .startAon | .startBootRom | .startSignatures _ _ _ _ _ _ => true
  | _ => false

/-- A request of a class is what a core of the MPC takes up next (R424). -/
def Module.Queued (m : Module) (src : Loc) (reqId : BitVec 16) (cls : Nat) (r : CtlReq) : Prop :=
  m.coreFor (classPriority cls) = true ∧
    m.nextReq (classPriority cls) = some r ∧ r.src = src ∧ r.reqId = reqId ∧ r.cls = cls

/-- The module with that request taken out of the endpoint. -/
def Module.unqueued (m : Module) (src : Loc) (reqId : BitVec 16) (cls : Nat) : Module :=
  { m with mpc := { m.mpc with
      queue := m.mpc.queue.filter (fun x => !(x.src == src && x.reqId == reqId && x.cls == cls)) } }

/-- A reply has been sent, and is kept as its requester's newest (R407). -/
def Module.Answered (m : Module) (r : Reply) : Prop := m.mpc.replies.head? = some r ∧ Emission.reply r ∈ m.out

/-- Does an address of boot flash lie in `n` bytes from `a`? -/
def inBytes (a n x : Nat) : Prop := a ≤ x ∧ x < a + n

/-- A quorum command has been answered where it came from (R438). -/
def Module.QuorumReplied (m : Module) (o : QOrigin) (status qstatus counted : Nat) (seq : BitVec 64) : Prop :=
  match o with
  | .frame src reqId =>
    m.Answered ⟨src, reqId, 2, BitVec.ofNat 8 status, toBytes 12 (qstatus * 2 ^ 88 + counted % 2 ^ 16 * 2 ^ 64 + seq.toNat)⟩
  | .smbus => Emission.quorumReply .smbus status qstatus counted seq ∈ m.out

/-- A quorum command is refused with a QSTATUS, `counted` entries having passed (R438). -/
def Module.RefusedQuorum (m' m : Module) (o : QOrigin) (q : QBody) (n counted : Nat) : Prop :=
  m'.sec = m.sec ∧ m'.getF K.secLast_OPCODE = q.opcode % 256 ∧ m'.getF K.secLast_QSTATUS = n ∧
    (∀ k, evtKey .sec_Q_REFUSED 0 = some k → m'.getF k = 1) ∧
    m'.QuorumReplied o (if n = 8 then 2 else if n = 6 then 6 else 0) n counted q.seq

/-- An accepted command has taken effect and been answered (R438). -/
def Module.ActedOn (m' : Module) (c : QCmd) : Prop :=
  m'.sec.verified = none ∧ m'.sec.state.pendingOp = none ∧ (∀ k, evtKey .sec_Q_ACCEPTED 0 = some k → m'.getF k = 1) ∧
    m'.QuorumReplied c.origin 0 0 c.counted c.seq

/-- The target that MPC_INJ_ARG names for a kind, clamped (R16, R468). -/
def Module.injAt (m : Module) (kind : Nat) : Nat := m.injTarget kind (m.getF K.mpcInjArg_TARGET)

/-- An injection's checks pass (R466): none runs, a permission holds its kind, and its target is in no substitution. -/
def Module.MayInject (m : Module) (kind : Nat) : Prop :=
  m.isOn K.mpcInjStat_BUSY = false ∧ m.rehearses kind = true ∧ m.targetBusy kind (m.injAt kind) = false

/-- An injection is refused with a STATUS, its target clamped (R466). -/
def Module.injRefused (m : Module) (kind status : Nat) : Module :=
  (m.setF K.mpcInjArg_TARGET (m.injAt kind)).setF K.mpcInjStat_STATUS status

/-- An injection has begun: its STATUS is 0 and it is counted (R466). -/
def Module.Injected (m' m : Module) : Prop :=
  m'.getF K.mpcInjStat_STATUS = 0 ∧ m'.getF K.mpcInjStat_COUNT = min 0xFFFF (m.getF K.mpcInjStat_COUNT + 1)

end Sys2Proof.Machine
end

