-- ==== Sys2Proof/Certificates/Slice0/Obligations.lean ====
section
/-! DEFINITION. The statements for the provers, each over every state and operand that meets its hypotheses. -/

open Sys2Proof Sys2Proof.Machine

/-! ### The block as a whole -/

/-- With a command at the front of the queue, a step is `exec` of that command on the state with the queue's rest. -/
def Obligations.StepRunsFrontCommand : Prop :=
  ∀ (c : Instr) (rest : List Instr) (s : State), s.pending = c :: rest → step s = exec c { s with pending := rest }

/-- The model's own convention (notes/assumptions/2.md): with an empty queue the block idles for one tick of the time base,
2 ns where domain 4 runs and does not ramp. -/
def Obligations.IdleTick : Prop :=
  ∀ s : State, s.pending = [] →
    ∃ m' : Module, step s = .next { s with mod := m' } ∧ m'.elapsed = s.mod.elapsed + s.mod.tickUnits ∧
      (s.mod.domSource 4 ≠ 4 → s.mod.domRamp 4 = 8 → s.mod.tickUnits = 2 * perNs)

/-- Every command completes in every state, whatever its operands, but a start-up or a patch with an image that fails a check
of nuwellan's, which faults (R13); no command is refused. -/
def Obligations.OnlyUndefinedImagesStop : Prop :=
  ∀ (c : Instr) (s : State),
    ((∀ a b, c = .startImageLoad a b → s.mod.loadsUnsound a b = false) → (c = .patchApply → s.mod.patchUnsound = false) →
      ∃ m' : Module, exec c s = .next { s with mod := m' }) ∧
    (∀ a b, c = .startImageLoad a b → s.mod.loadsUnsound a b = true → exec c s = .fault .undefinedImage) ∧
    (c = .patchApply → s.mod.patchUnsound = true → exec c s = .fault .undefinedImage)

/-- `exec` leaves the queue alone, so a step keeps a queue of well-formed commands well formed. -/
def Obligations.StepKeepsQueueWellFormed : Prop :=
  ∀ s t : State, QueueOk s → step s = .next t → QueueOk t

/-- Right after reset nothing waits and nothing has been sent, boot flash is canonical, every W1C and every RC field reads
0, every counter is 0, and the fields that the spec gives another reset value hold it. -/
def Obligations.ResetValues : Prop :=
  State.reset.pending = [] ∧ State.reset.mod.out = [] ∧ FlashOk State.reset ∧
    State.reset.mod.power.inReset = some .powerOn ∧ (∀ num inst, State.reset.mod.counter num inst = 0) ∧
    (∀ r i j, ∀ d ∈ RegName.fields r, d.acc = .w1c ∨ d.acc = .rc → State.reset.mod.getF ⟨r, i, j, d.lo⟩ = 0) ∧
    ∀ i, State.reset.mod.getF (K.hbmCtrl_HOT i) = 95 ∧ State.reset.mod.getF (K.hbmStatus_ADMIT i) = 4 ∧
      State.reset.mod.getF K.mpcStatus_CORES_UP = 15 ∧ State.reset.mod.getF K.timIncHi_NS = 2 ∧
      State.reset.mod.getF (K.lpeCtrl_AUTO_SWAP i) = 1

/-- Boot flash keeps its canonical form through every step. -/
def Obligations.StepKeepsFlashCanonical : Prop :=
  ∀ s t : State, FlashOk s → step s = .next t → FlashOk t

/-- Boot flash is changed by its own commands alone, the security state by quorum commands, their effects and the steps of a
start alone. -/
def Obligations.OnlyTheirCommandsTouchFlashAndKeys : Prop :=
  ∀ (c : Instr) (s t : State), exec c s = .next t →
    (touchesFlash c = false → t.mod.flash = s.mod.flash) ∧ (touchesSecurity c = false → t.mod.sec.state = s.mod.sec.state)

/-! ### Register accesses -/

/-- LO_REGISTER_READ (R18): a read of a _LO register captures the whole 64-bit value, and the same requester's next read of
its _HI register returns the upper half of that value, whatever has become of the register between the two reads; the 64-bit
value is therefore the one that stood at the _LO read. -/
def Obligations.PairsReadConsistently : Prop :=
  ∀ (req : Requester) (lo hi : Addr) (r h : RegName) (i j : Nat) (s : State),
    r.hi = some h → s.mod.mayAccess req 0 = true → s.mod.reach lo = .reg r i j →
    Tbl.find s.mod.captured (req, r, i, j) = none →
    ∃ m1 : Module, exec (.loRegisterRead req lo) s = .next { s with mod := m1 } ∧
      m1.out = s.mod.out ++ [.readReply req lo (BitVec.ofNat 32 (s.mod.regWord r i j))] ∧
      ∀ t : State, Tbl.find t.mod.captured (req, h, i, j) = Tbl.find m1.captured (req, h, i, j) →
        t.mod.mayAccess req 0 = true → t.mod.reach hi = .reg h i j →
        ∃ m2 : Module, exec (.loRegisterRead req hi) t = .next { t with mod := m2 } ∧
          exec (.rcRegisterRead req hi) t = .next { t with mod := m2 } ∧
          m2.out = t.mod.out ++ [.readReply req hi (BitVec.ofNat 32 (s.mod.regWord h i j))] ∧
          Tbl.find m2.captured (req, h, i, j) = none

/-- LPE_ID (R72) and FLY_ID (R101): at offset 0 of their blocks stand 164 rings, 6 lasers and the engine's number, and 256
slots and 64 tracks, reserved bits 0; their fields are RO, so a write changes nothing. -/
def Obligations.IdentityRegistersRead : Prop :=
  Blk.lpe.at 0 = some (.lpeId, 0) ∧ Blk.fly.at 0 = some (.flyId, 0) ∧
    (∀ b, b < 64 → State.reset.mod.regWord .lpeId b 0 = 0xA4 * 2 ^ 16 + 0x6 * 2 ^ 12 + b) ∧
    State.reset.mod.regWord .flyId 0 0 = 0x100 * 2 ^ 16 + 0x40 * 2 ^ 8 ∧
    ∀ (req : Requester) (addr : Addr) (data : Word) (b : Nat) (s : State), s.mod.mayAccess req 1 = true →
      s.mod.reach addr = .reg .lpeId b 0 ∨ s.mod.reach addr = .reg .flyId b 0 →
      exec (.registerWrite req addr data) s = .next s

/-- REGISTER_WRITE and HI_REGISTER_WRITE: a write sets each field as its access code says, clamped, and nothing else; a _LO
write is held for its requester, whose _HI write takes it as the lower half; sector lock holds what reaches the data plane, and
WRITE_HELD shows in every sector; the four stacks of a sector select one region, and under sector lock TM_SCHED_EVT is one in every
sector. -/
def Obligations.RegisterWritesTakeEffect : Prop :=
  ∀ (req : Requester) (addr : Addr) (data : Word) (r : RegName) (i j : Nat) (s : State), s.mod.mayAccess req 1 = true →
    (s.mod.reach addr = .reg r i j →
      (r.acts = false → (r.reachesData = false ∨ s.mod.holdsWrites = false) →
        ∃ m' : Module, exec (.registerWrite req addr data) s = .next { s with mod := m' } ∧
          m' = { s.mod with regs := m'.regs } ∧ m'.RegsKept s.mod (r.keys i j) ∧
          ∀ d ∈ r.fields, m'.getF ⟨r, i, j, d.lo⟩ =
            d.written (s.mod.getF ⟨r, i, j, d.lo⟩) (data.toNat / 2 ^ d.lo % 2 ^ (d.hi + 1 - d.lo))) ∧
      (r.hi.isSome = true → ∃ m' : Module, exec (.registerWrite req addr data) s = .next { s with mod := m' } ∧
        m' = { s.mod with loHeld := m'.loHeld } ∧ Tbl.find m'.loHeld (req, r, i, j) = some data ∧
        ∀ k, k ≠ (req, r, i, j) → Tbl.find m'.loHeld k = Tbl.find s.mod.loHeld k) ∧
      (r = .fwdTblDataHi → ∃ m' : Module, exec (.hiRegisterWrite req addr data) s = .next { s with mod := m' } ∧
        m' = { s.mod with regs := m'.regs } ∧
        m'.RegsKept s.mod [K.fwdTblDataLo_DATA i, K.fwdTblDataHi_DATA i] ∧
        m'.getF (K.fwdTblDataHi_DATA i) = data.toNat ∧
        (∀ w, Tbl.find s.mod.loHeld (req, .fwdTblDataLo, i, j) = some w → m'.getF (K.fwdTblDataLo_DATA i) = w.toNat) ∧
        (Tbl.find s.mod.loHeld (req, .fwdTblDataLo, i, j) = none →
          m'.getF (K.fwdTblDataLo_DATA i) = s.mod.getF (K.fwdTblDataLo_DATA i) % 2 ^ 32)) ∧
      (r.reachesData = true → s.mod.holdsWrites = true →
        ∃ m' : Module, exec (.registerWrite req addr data) s = .next { s with mod := m' } ∧
          m'.lock.held = s.mod.lock.held ++ [⟨req, addr, data, s.mod.tmSel i⟩] ∧
          (∀ sec ∈ s.mod.sectors, ∀ k, evtKey .sched_WRITE_HELD sec = some k → m'.getF k = 1) ∧
          m'.RegsKept s.mod (s.mod.sectors.filterMap (evtKey .sched_WRITE_HELD))) ∧
      (r = .hbmRgnSel → ∃ m' : Module, exec (.registerWrite req addr data) s = .next { s with mod := m' } ∧
        m' = { s.mod with regs := m'.regs } ∧
        ∀ n, n < 4 → ∀ d ∈ r.fields, m'.getF ⟨r, 4 * (i / 4) + n, j, d.lo⟩ =
          d.written (s.mod.getF ⟨r, 4 * (i / 4) + n, j, d.lo⟩) (data.toNat / 2 ^ d.lo % 2 ^ (d.hi + 1 - d.lo))) ∧
      (r = .tmSchedEvt → ∃ m' : Module, exec (.registerWrite req addr data) s = .next { s with mod := m' } ∧
        m' = { s.mod with regs := m'.regs } ∧
        ∀ sec ∈ (if s.mod.locked then s.mod.sectors else [i]), ∀ d ∈ r.fields, m'.getF ⟨r, sec, j, d.lo⟩ =
          d.written (s.mod.getF ⟨r, sec, j, d.lo⟩) (data.toNat / 2 ^ d.lo % 2 ^ (d.hi + 1 - d.lo)))) ∧
    (∀ a, s.mod.reach addr = .fault a → req ≠ .smb → exec (.registerWrite req addr data) s = .next s)

/-- RC_REGISTER_READ, LO_REGISTER_READ and LOG_DATA_CAPTURE: a read answers what the register shows, clears its RC fields,
captures the upper half, or the rest of a log entry, and gives a captured value once; a counter of an instance that the member
lacks counts as such an access. -/
def Obligations.RegisterReadsAnswer : Prop :=
  ∀ (req : Requester) (addr : Addr) (r : RegName) (i j : Nat) (s : State),
    s.mod.mayAccess req 0 = true → s.mod.reach addr = .reg r i j →
    (Tbl.find s.mod.captured (req, r, i, j) = none →
      ((r = .telCntLo → s.mod.getF K.telSel_INSTANCE < s.mod.liveInstances (s.mod.getF K.telSel_EVENT / 32)) →
        ∃ m' : Module, exec (.rcRegisterRead req addr) s = .next { s with mod := m' } ∧
          m' = { s.mod with regs := m'.regs, captured := m'.captured, out := m'.out } ∧
          m'.out = s.mod.out ++ [.readReply req addr (BitVec.ofNat 32 (s.mod.regWord r i j))] ∧
          m'.RegsKept s.mod (r.keys i j) ∧
          ∀ d ∈ r.fields, m'.getF ⟨r, i, j, d.lo⟩ =
            if d.acc = .rc then fieldReset ⟨r, i, j, d.lo⟩ else s.mod.getF ⟨r, i, j, d.lo⟩) ∧
      (r = .telCntLo → s.mod.liveInstances (s.mod.getF K.telSel_EVENT / 32) ≤ s.mod.getF K.telSel_INSTANCE →
        ∃ m' : Module, exec (.rcRegisterRead req addr) s = .next { s with mod := m' } ∧
          m'.out = s.mod.out ++ [.readReply req addr (BitVec.ofNat 32 (s.mod.regWord r i j))] ∧
          m'.Happened s.mod .tel_ABSENT_INSTANCE 0) ∧
      (∀ h, r.hi = some h → ∃ m' : Module, exec (.loRegisterRead req addr) s = .next { s with mod := m' } ∧
        m'.out = s.mod.out ++ [.readReply req addr (BitVec.ofNat 32 (s.mod.regWord r i j))] ∧
        Tbl.find m'.captured (req, h, i, j) = some (s.mod.regWord h i j)) ∧
      (addr = regAddr .glbLogData 0 0 → r = .glbLogData → j = 0 →
        ∃ m' : Module, exec (.logDataCapture req) s = .next { s with mod := m' } ∧
          m'.out = s.mod.out ++ [.readReply req addr (BitVec.ofNat 32 (s.mod.regWord r i 0))] ∧
          ∀ n ∈ [1, 2, 3], Tbl.find m'.captured (req, .glbLogData, 0, n) = some (s.mod.regWord .glbLogData 0 n))) ∧
    (∀ v, Tbl.find s.mod.captured (req, r, i, j) = some v →
      ∃ m' : Module, exec (.rcRegisterRead req addr) s = .next { s with mod := m' } ∧
        m' = { s.mod with captured := m'.captured, out := m'.out } ∧
        m'.out = s.mod.out ++ [.readReply req addr (BitVec.ofNat 32 v)] ∧
        Tbl.find m'.captured (req, r, i, j) = none)

/-- EVENT_LOG_WRITE, TEL_SMP_POP and GLB_ALERT_CLEAR: an occurrence that may be entered takes the next number of the log; POP moves the oldest record to its registers; a cleared cause stays clear only where its condition is over. -/
def Obligations.LogsAndAlertsMove : Prop :=
  ∀ (data : Word) (line : Nat) (p : PendingIrq) (x : BitVec 32 × BitVec 256) (xs : List (BitVec 32 × BitVec 256))
    (s : State),
    (s.mod.power.inReset = none → 4 ≤ s.mod.startStep → s.mod.coreFor 1 = true →
      (s.mod.log.pend.filter (fun p => s.mod.mayLog p))[line]? = some p → s.mod.suppressed p = false →
      ∃ m' : Module, exec (.eventLogWrite line) s = .next { s with mod := m' } ∧ m'.log.pend = s.mod.log.pend.erase p ∧
        m'.log.entries.getLast? = some (s.mod.logNext, logEntry s.mod.timeNow p.ev.num p.inst (s.mod.logUnc p)
          (s.mod.log.lost.contains (p.ev.num, p.inst)) p.detail) ∧
        m' = { s.mod with log := m'.log, out := m'.out }) ∧
    ((s.mod.log.pend.filter (fun p => s.mod.mayLog p))[line]? = none → exec (.eventLogWrite line) s = .next s) ∧
    (s.mod.answers .tel 0 = true →
      (s.mod.tel.samples = x :: xs → ∃ m' : Module, exec .telSmpPop s = .next { s with mod := m' } ∧ m'.tel.samples = xs ∧
        m'.getF K.telStatus_POP_VALID = 1 ∧
        ∀ n, n < 8 → m'.getF (K.telSmpData_DATA n) = x.2.toNat / 2 ^ (32 * n) % 2 ^ 32) ∧
      (s.mod.tel.samples = [] → ∃ m' : Module, exec .telSmpPop s = .next { s with mod := m' } ∧
        m'.getF K.telStatus_POP_VALID = 0 ∧ m' = { s.mod with regs := m'.regs })) ∧
    (s.mod.answers .glb 0 = true → ∃ m' : Module, exec (.glbAlertClear data) s = .next { s with mod := m' } ∧
      m' = { s.mod with regs := m'.regs } ∧ m'.RegsKept s.mod (RegName.glbAlert.keys 0 0) ∧
      (s.mod.isOn K.pwrStatus_STALLED = true → m'.getF K.glbAlert_START_STALL = 1) ∧
      (s.mod.isOn K.pwrStatus_STALLED = false → data.getLsbD K.glbAlert_START_STALL.lo = true →
        m'.getF K.glbAlert_START_STALL = 0))

/-! ### Power, resets and heat -/

/-- POWER_GOOD: the straps are sampled, the module leaves the power-on reset for step 1, and a latched THERMTRIP_N keeps it
there. PWR_OK_FALL, PORST_N_ASSERT, WARMRST_N_ASSERT and WARMRST_N_RELEASE: a pulse of full length resets, or asks for a
warm reset with its drain; one below 100 ns does nothing; and boot flash stands. -/
def Obligations.PowerAndResetPinsAct : Prop :=
  (∀ (p : BitVec 2) (a : BitVec 3) (s : State),
     (s.mod.power.inReset = some .powerOn → s.mod.power.thermtripN = true →
       ∃ m' : Module, exec (.powerGood p a) s = .next { s with mod := m' } ∧
         m'.getF K.glbStrap_PROFILE = p.toNat ∧ m'.getF K.glbStrap_SMB_ADDR = a.toNat ∧
         m'.getF K.mpcSmb_ADDR = 0x40 + a.toNat ∧ m'.getF K.pwrStatus_STEP = 1 ∧
         m'.RegsKept s.mod [K.glbStrap_PROFILE, K.glbStrap_SMB_ADDR, K.mpcSmb_ADDR, K.pwrStatus_STEP] ∧
         m' = { s.mod with
           regs := m'.regs
           power := { s.mod.power with
             pwrOk := true, porstN := true, inReset := none, strapProfile := p, strapAddr := a } }) ∧
     ((s.mod.power.inReset ≠ some .powerOn ∨ s.mod.power.thermtripN = false) → exec (.powerGood p a) s = .next s)) ∧
  (∀ (ns : Nat) (s : State),
     (100 ≤ ns →
       ∃ m' : Module, exec (.pwrOkFall ns) s = .next { s with mod := m' } ∧
         m'.power.inReset = some .powerOn ∧ m'.power.pwrOk = false ∧ m'.power.request = none ∧
         m'.getF K.pwrRstCause_CAUSE = 0 ∧ m'.getF K.pwrStatus_STEP = 0 ∧
         m'.flash = s.mod.flash ∧ m'.sec.verified = none ∧ m'.out = s.mod.out) ∧
     (1000000 ≤ ns →
       ∃ m' : Module, exec (.porstNAssert ns) s = .next { s with mod := m' } ∧
         m'.power.inReset = some .powerOn ∧ m'.power.porstN = false ∧ m'.power.thermtripN = true ∧ m'.power.holds = [] ∧
         m'.getF K.pwrRstCause_CAUSE = 1 ∧ m'.getF K.pwrStatus_STEP = 0 ∧ m'.flash = s.mod.flash) ∧
     (1000 ≤ ns → s.mod.power.inReset = none → s.mod.power.request = none →
       ∃ m' : Module, exec (.warmrstNAssert ns) s = .next { s with mod := m' } ∧
         m'.power.warmrstN = false ∧ m'.power.request = some { kind := .warm, cause := 4, notice := true }) ∧
     (ns < 100 →
       exec (.pwrOkFall ns) s = .next s ∧ exec (.porstNAssert ns) s = .next { s with mod := s.mod.drawn } ∧
         exec (.warmrstNAssert ns) s = .next { s with mod := s.mod.drawn }) ∧
     exec .warmrstNRelease s = .next { s with mod := { s.mod with
       power := { s.mod.power with warmrstN := true, holds := s.mod.power.holds.filter (· ≠ .warmrst) } } })

/-- RAIL_CHECK and RAIL_RECOVERED: a reading stands in the rail's registers, the tenth in a row outside ±3.5 % raises
RAIL_WARN, and the tenth outside ±8 % or a current beyond the rating takes a reset, in which the rail holds the module until
it has recovered; a fall of VDD_AON in a power-on reset ends the memory of a thermal trip. DIE_TEMP_READ: the die's temperature is the highest of its sensors; reaching 105 °C raises THERM_ALERT and
asserts ALERT_N; at 115 °C the module asserts THERMTRIP_N and stays in a reset, dark. -/
def Obligations.RailsAndDieTemperaturesAct : Prop :=
  (∀ (n : Fin 8) (r : RailReading) (s : State),
     (s.mod.power.inReset ≠ some .powerOn → r.current.toNat ≤ railRating n.val →
       (railOutside n.val r.mv.toNat 80 = false ∨ Tbl.get s.mod.power.faultFor 0 n.val ≠ 9) →
       ∃ m' : Module, exec (.railCheck n r) s = .next { s with mod := m' } ∧
         m'.getF (K.pwrRailV_MV n.val) = r.mv.toNat ∧ m'.getF (K.pwrRailI_CURRENT n.val) = r.mean.toNat ∧
         m'.power.inReset = s.mod.power.inReset ∧ m'.flash = s.mod.flash ∧
         (railOutside n.val r.mv.toNat 35 = true → Tbl.get s.mod.power.warnFor 0 n.val = 9 →
           m'.Happened s.mod .pwr_RAIL_WARN 0)) ∧
     (s.mod.power.inReset = none →
       ((railRating n.val < r.current.toNat ∧ s.mod.power.holds.contains (.rail n.val) = false) ∨
         (railOutside n.val r.mv.toNat 80 = true ∧ Tbl.get s.mod.power.faultFor 0 n.val = 9)) →
       ∃ m' : Module, exec (.railCheck n r) s = .next { s with mod := m' } ∧
         m'.getF K.pwrRstCause_CAUSE = 6 ∧ m'.flash = s.mod.flash ∧
         (n = 7 → m'.power.inReset = some .powerOn) ∧
         (n ≠ 7 → m'.power.inReset = some .cold ∧ m'.power.holds.contains (.rail n.val) = true)) ∧
     (s.mod.power.inReset = some .powerOn → n = 7 → railOutside 7 r.mv.toNat 80 = true → r.mv.toNat < railNominal 7 →
       exec (.railCheck n r) s = .next { s with mod := s.mod.setF K.pwrRstCause_THERMTRIP_SEEN 0 }) ∧
     exec (.railRecovered n) s = .next { s with mod := { s.mod with
       power := { s.mod.power with holds := s.mod.power.holds.filter (· ≠ .rail n.val) } } }) ∧
  (∀ (die : Fin 4) (temps : List (BitVec 8)) (t : Nat) (s : State),
     s.mod.power.inReset ≠ some .powerOn → temps ≠ [] → t = (temps.map BitVec.toNat).foldl max 0 →
     (t < 115 →
       ∃ m' : Module, exec (.dieTempRead die temps) s = .next { s with mod := m' } ∧
         m'.getF (K.pwrDieTemp_TEMP die.val) = t ∧ m'.power = s.mod.power ∧ m'.OnlyShows s.mod ∧
         (105 ≤ t → s.mod.getF (K.pwrDieTemp_TEMP die.val) < 105 →
           m'.Happened s.mod .pwr_THERM_ALERT 0 ∧ m'.getF K.glbAlert_THERM_ALERT = 1 ∧ m'.getF K.glbAlert_ASSERTED = 1)) ∧
     (115 ≤ t →
       ∃ m' : Module, exec (.dieTempRead die temps) s = .next { s with mod := m' } ∧
         m'.power.inReset = some .powerOn ∧ m'.power.thermtripN = false ∧ m'.power.dark = true ∧
         m'.power.holds.contains (.thermtrip die.val) = true ∧ m'.getF K.pwrRstCause_THERMTRIP_SEEN = 1))

/-- THROTTLE_STEP: a hot die loses one eighth of its frequency, to no less than 4, and counts THROTTLE; a cooled one gains
one; in between it holds. Every other die keeps its own. In TIMETABLE a step loses sector lock, or
fails the alignment under way. GOVERNOR_RAISE and
GOVERNOR_LOWER: a unit takes the next level where the slew limit of 150 A in 1 µs and POWER_CAP allow it, an array's pause for
the governor ending with it; the first time a raise waits for the slew limit counts GOV_HOLD and leaves the level. -/
def Obligations.ThrottleAndGovernorStep : Prop :=
  (∀ (die : Fin 4) (s : State), s.mod.coresRun = true →
     (s.mod.getF K.pwrCtrl_THERM_HOT ≤ s.mod.dieTemp die.val → 4 < s.mod.throttle die.val →
       ∃ m' : Module, exec (.throttleStep die) s = .next { s with mod := m' } ∧
         m'.throttle die.val + 1 = s.mod.throttle die.val ∧ (∀ d : Fin 4, d ≠ die → m'.throttle d.val = s.mod.throttle d.val) ∧
         m'.Happened s.mod .pwr_THROTTLE 0 ∧
         (s.mod.timetable = true → s.mod.lockState = 5 → m'.lockState = 6) ∧
         (s.mod.timetable = true → s.mod.lockState = 3 ∨ s.mod.lockState = 4 →
           m'.lock.failures = s.mod.lock.failures + 1 ∧ m'.lockState = if 2 ≤ s.mod.lock.failures then 6 else 3)) ∧
     (s.mod.dieTemp die.val + 3 ≤ s.mod.getF K.pwrCtrl_THERM_HOT → s.mod.throttle die.val < 8 →
       ∃ m' : Module, exec (.throttleStep die) s = .next { s with mod := m' } ∧
         m'.throttle die.val = s.mod.throttle die.val + 1 ∧ (∀ d : Fin 4, d ≠ die → m'.throttle d.val = s.mod.throttle d.val)) ∧
     (s.mod.dieTemp die.val < s.mod.getF K.pwrCtrl_THERM_HOT → s.mod.getF K.pwrCtrl_THERM_HOT < s.mod.dieTemp die.val + 3 →
       exec (.throttleStep die) s = .next s)) ∧
  (∀ (u : GovUnit) (s : State),
     (s.mod.coresRun = true → (s.mod.fixedLevel u = false ∨ u.isPipe = true) → s.mod.level u < u.top →
       (∀ t, Tbl.find s.mod.power.lastRaise u = some t → u.between ≤ s.mod.elapsed - t) →
       s.mod.recentSteps true + u.cost ≤ 15000 → s.mod.behind u = false →
       (s.mod.capped u = true → s.mod.powerEstimate + u.cost * 70 ≤ s.mod.getF K.pwrCtrl_CAP_W * 10000) →
       ∃ m' : Module, exec (.governorRaise u) s = .next { s with mod := m' } ∧ m'.level u = s.mod.level u + 1 ∧
         (∀ v, v ≠ u → m'.level v = s.mod.level v) ∧
         (∀ a, u = .pra a → (m'.praAt a.val).causes = (s.mod.praAt a.val).causes &&& 7) ∧
         ((∀ e, u = .engine e → 0 < s.mod.level u) → (∀ a, u ≠ .pra a) →
           m' = { s.mod with regs := m'.regs, power := m'.power } ∧
             m'.RegsKept s.mod [K.pwrStatus_GOV_HOLD, K.pwrStatus_CAP_HOLD])) ∧
     (s.mod.coresRun = true → (s.mod.fixedLevel u = false ∨ u.isPipe = true) → s.mod.level u < u.top →
       Tbl.find s.mod.power.lastRaise u = none → 15000 < s.mod.recentSteps true + u.cost →
       Tbl.find s.mod.power.slewWaits u = none →
       ∃ m' : Module, exec (.governorRaise u) s = .next { s with mod := m' } ∧ m'.level u = s.mod.level u ∧
         (∀ a, u = .pra a → (m'.praAt a.val).causes = (s.mod.praAt a.val).causes ||| 8) ∧
         m'.Happened s.mod .pwr_GOV_HOLD 0 ∧ m'.getF K.pwrStatus_GOV_HOLD = 1) ∧
     (s.mod.fixedLevel u = false → 0 < s.mod.level u → s.mod.recentSteps false + u.cost ≤ 15000 →
       ∃ m' : Module, exec (.governorLower u) s = .next { s with mod := m' } ∧ m'.level u + 1 = s.mod.level u ∧
         (∀ v, v ≠ u → m'.level v = s.mod.level v) ∧ Tbl.find m'.power.slewWaits u = none ∧ u ∉ m'.power.capWaits ∧
         m' = { s.mod with regs := m'.regs, power := m'.power } ∧
         m'.RegsKept s.mod [K.pwrStatus_GOV_HOLD, K.pwrStatus_CAP_HOLD]))

/-- PWR_RST_COLD, PWR_RST_WARM, PWR_RST_CORE and PWR_RST_SECTOR: where no reset runs or waits, the reset is asked for, with
its cause and its drain, and RESET_REQ shows. An expelled module takes a cold one without notice alone. RESET_ENTRY and
SECTOR_RELOAD_DONE: once what it drains has drained, the reset asked for is entered, its cause shown and boot flash kept; a
sector that has reloaded is no longer down. -/
def Obligations.ResetsAreRequestedAndEntered : Prop :=
  (∀ (req : Requester) (notice : Bool) (sec : Fin 8) (s : State),
     s.mod.mayAccess req 1 = true → s.mod.answers .pwr 0 = true → s.mod.power.inReset = none → s.mod.power.request = none →
     (s.mod.sec.state.expelled = false →
       (∃ m' : Module, exec (.pwrRstCold req notice) s = .next { s with mod := m' } ∧
         m'.power.request = some { kind := .cold, cause := 2, notice := notice } ∧
         (∀ k, evtKey .pwr_RESET_REQ 0 = some k → m'.getF k = 1)) ∧
       (∃ m' : Module, exec (.pwrRstWarm req) s = .next { s with mod := m' } ∧
         m'.power.request = some { kind := .warm, cause := 3, notice := true } ∧
         (∀ k, evtKey .pwr_RESET_REQ 0 = some k → m'.getF k = 1)) ∧
       (∃ m' : Module, exec (.pwrRstCore req notice) s = .next { s with mod := m' } ∧
         m'.power.request = some { kind := .core, cause := 5, notice := notice } ∧
         (∀ k, evtKey .pwr_RESET_REQ 0 = some k → m'.getF k = 1)) ∧
       (s.mod.isReady = true → s.mod.power.sectorsDown = [] → s.mod.power.nextSectors = [] →
         ∃ m' : Module, exec (.pwrRstSector req sec) s = .next { s with mod := m' } ∧
           m'.power.request = some { kind := .sector sec.val, cause := 0, notice := true } ∧
           (∀ k, evtKey .pwr_RESET_REQ 0 = some k → m'.getF k = 1))) ∧
     (s.mod.sec.state.expelled = true →
       exec (.pwrRstCold req true) s = .next s ∧ exec (.pwrRstWarm req) s = .next s ∧
         exec (.pwrRstCore req notice) s = .next s ∧ exec (.pwrRstSector req sec) s = .next s ∧
         ∃ m' : Module, exec (.pwrRstCold req false) s = .next { s with mod := m' } ∧
           m'.power.request = some { kind := .cold, cause := 2, notice := false })) ∧
  (∀ (r : ResetReq) (sec : Fin 8) (s : State),
     (s.mod.power.request = some r → (r.notice = false ∨ ∀ l ∈ s.mod.takenDown r.kind, s.mod.linkState l ≠ 5) →
       (r.kind = .cold ∨ r.kind = .warm ∨ r.kind = .core →
         ∃ m' : Module, exec .resetEntry s = .next { s with mod := m' } ∧
           m'.power.inReset = some r.kind ∧ m'.power.request = none ∧ m'.getF K.pwrRstCause_CAUSE = r.cause % 16 ∧
           m'.getF K.pwrStatus_STEP = 3 ∧ m'.getF K.pwrStatus_READY = 0 ∧ m'.flash = s.mod.flash ∧
           m'.sec.state = s.mod.sec.state ∧
           (r.cause = 4 → s.mod.power.warmrstN = false → m'.power.holds.contains .warmrst = true)) ∧
       (r.kind = .sector sec.val →
         ∃ m' : Module, exec .resetEntry s = .next { s with mod := m' } ∧
           m'.power.sectorsDown = s.mod.power.sectorsDown ++ [sec.val] ∧ m'.power.request = none ∧
           m'.img.patch = none ∧ m'.img.gathering = false)) ∧
     (s.mod.power.request = some r → r.notice = true → (∃ l ∈ s.mod.takenDown r.kind, s.mod.linkState l = 5) →
       exec .resetEntry s = .next s) ∧
     (s.mod.power.sectorsDown.contains sec.val = true →
       ∃ m' : Module, exec (.sectorReloadDone sec) s = .next { s with mod := m' } ∧
         m'.power.sectorsDown.contains sec.val = false) ∧
     (s.mod.power.sectorsDown.contains sec.val = false → exec (.sectorReloadDone sec) s = .next s))

/-! ### Start-up -/

/-- START_AON, START_IOSC and START_BOOT_ROM: the first three steps, which a cause that holds the module in reset stops; a
rehearsal permission armed for the next start comes into force, and a start after a reset takes the next incarnation. START_PLL, START_HBM_TRAIN, START_LIGHT and START_LINKS: the
domains ramp onto the PLLs and the time base runs, the stacks are trained, the fibres are lit, and each step ends in the
next. -/
def Obligations.StartStepsAdvance : Prop :=
  (∀ s : State, s.mod.power.holds = [] →
     (s.mod.atStep 1 = true →
       ∃ m' : Module, exec .startAon s = .next { s with mod := m' } ∧ m'.getF K.pwrStatus_STEP = 2 ∧
         (∀ r, s.mod.sec.state.armed = some r →
           m'.sec.rehearsal = some r ∧ m'.sec.state.armed = none ∧ m'.Happened s.mod .sec_REHEARSAL_ON 0) ∧
         (s.mod.sec.state.armed = none → m' = s.mod.setF K.pwrStatus_STEP 2)) ∧
     (s.mod.atStep 2 = true → exec .startIosc s = .next { s with mod := s.mod.setF K.pwrStatus_STEP 3 }) ∧
     (s.mod.startStep = 3 → s.mod.power.inReset ≠ some .powerOn →
       ∃ m' : Module, exec .startBootRom s = .next { s with mod := m' } ∧ m'.getF K.pwrStatus_STEP = 4 ∧
         m'.power = { s.mod.power with inReset := none } ∧
         m'.sec.romHash = Config.romDigest s.mod.sec.svn s.mod.sec.firmwareKey ∧
         m'.getF K.glbIncarn_INCARNATION =
           (if s.mod.power.inReset.isSome then nextIncarnation (s.mod.getF K.glbIncarn_INCARNATION) % 2 ^ 16
            else s.mod.getF K.glbIncarn_INCARNATION) ∧
         (∀ r, s.mod.sec.state.armed = some r → m'.sec.rehearsal = some r ∧ m'.sec.state.armed = none))) ∧
  (∀ (failed : List (Fin 32 × Fin 32)) (dips : List RingDips) (praRings : List (Fin 4 × Fin 64)) (s : State),
     (s.mod.atStep 6 = true →
       ∃ m' : Module, exec .startPll s = .next { s with mod := m' } ∧ m'.getF K.pwrStatus_STEP = 7 ∧ m'.time.running = true ∧
         (∀ d, d < 5 → m'.getF (K.clkDomStat_RAMP d) = 1 ∧
           m'.domSource d = if s.mod.clockFailed d || s.mod.clockFailed 7 then 1 else 0)) ∧
     (s.mod.atStep 7 = true →
       ∃ m' : Module, exec (.startHbmTrain failed) s = .next { s with mod := m' } ∧ m'.getF K.pwrStatus_STEP = 8 ∧
         (s.mod.timetable = true → ∀ k, k < s.mod.liveCount .hbm → m'.getF (K.hbmStatus_STATE k) = 3)) ∧
     (s.mod.atStep 8 = true →
       ∃ m' : Module, exec (.startLight dips praRings) s = .next { s with mod := m' } ∧ m'.getF K.pwrStatus_STEP = 9 ∧
         m'.power.dark = false) ∧
     (s.mod.atStep 9 = true →
       ∃ m' : Module, exec .startLinks s = .next { s with mod := m' } ∧ m'.getF K.pwrStatus_STEP = 10))

/-- START_SIGNATURES: with no firmware copy accepted the start stalls; else the copy of the higher security version runs. With
no valid copy of the security state, or one whose KEYSET_VER is below the counter, the module runs unprovisioned, and an unprovisioned one loads no image; a provisioned one
takes the image copy of the higher SEQ among those that pass, where one does, and goes on to step 5, or to 6 with the crystal
qualified. -/
def Obligations.SignaturesChooseCopies : Prop :=
  ∀ (fwA fwB : FirmwareCheck) (imgA imgB : CopyCheck) (secA secB : PairCheck) (s : State), s.mod.atStep 4 = true →
    (firmwareChoice s.mod.sec.firmwareKey s.mod.sec.svn fwA fwB = none →
      ∃ m' : Module, exec (.startSignatures fwA fwB imgA imgB secA secB) s = .next { s with mod := m' } ∧
        m'.getF K.pwrStatus_STALLED = 1 ∧ m'.getF K.glbAlert_START_STALL = 1 ∧ m'.getF K.pwrStatus_STEP = 4 ∧
        m'.Happened s.mod .pwr_START_STALL 0) ∧
    (∀ isB, firmwareChoice s.mod.sec.firmwareKey s.mod.sec.svn fwA fwB = some isB →
      (((secA.rsaOk && secA.slhOk) = false ∧ (secB.rsaOk && secB.slhOk) = false) ∨
          s.mod.sec.state.ver.toNat < s.mod.sec.state.counter →
        ∃ m' : Module, exec (.startSignatures fwA fwB imgA imgB secA secB) s = .next { s with mod := m' } ∧
          m'.getF K.pwrStatus_STEP = (if s.mod.isOn K.clkStatus_XTAL_OK then 6 else 5) ∧ m'.img.firmwareB = isB ∧
          m'.sec.state = { SecState.factory with counter := s.mod.sec.state.counter } ∧
          m'.Happened s.mod .sec_SEC_STATE_FAIL 0) ∧
      (((secA.rsaOk && secA.slhOk) || (secB.rsaOk && secB.slhOk)) = true →
        s.mod.sec.state.counter ≤ s.mod.sec.state.ver.toNat → s.mod.sec.state.pendingOp = none →
        (s.mod.sec.state.provisioned = false →
          ∃ m' : Module, exec (.startSignatures fwA fwB imgA imgB secA secB) s = .next { s with mod := m' } ∧
            m'.getF K.pwrStatus_STEP = (if s.mod.isOn K.clkStatus_XTAL_OK then 6 else 5) ∧ m'.img.firmwareB = isB ∧
            m'.sec.state = s.mod.sec.state ∧ m'.img.identity = s.mod.img.identity) ∧
        (s.mod.sec.state.provisioned = true → s.mod.copyChoice imgA imgB = none →
          ∃ m' : Module, exec (.startSignatures fwA fwB imgA imgB secA secB) s = .next { s with mod := m' } ∧
            m'.getF K.pwrStatus_STALLED = 1 ∧ m'.getF K.pwrStatus_STEP = 4 ∧ m'.Happened s.mod .pwr_START_STALL 0) ∧
        (∀ ib, s.mod.sec.state.provisioned = true → s.mod.copyChoice imgA imgB = some ib →
          ∃ m' : Module, exec (.startSignatures fwA fwB imgA imgB secA secB) s = .next { s with mod := m' } ∧
            m'.getF K.pwrStatus_STEP = (if s.mod.isOn K.clkStatus_XTAL_OK then 6 else 5) ∧
            m'.img.firmwareB = isB ∧ m'.getF K.imgStatus_ACTIVE = flag ib ∧
            m'.img.identity = (if ib then imgB else imgA).identity ∧
            (s.mod.img.marker.isSome = true → m'.getF K.imgStatus_FALLBACK = 1) ∧
            m'.sec.state = s.mod.sec.state ∧ m'.flash = s.mod.flash)))

/-- START_IMAGE_LOAD: a sound image whose digests hold is loaded, and step 10 ends once no array calibrates for it; one whose digests fail, with no other copy to turn to,
stalls the start, as does an unprovisioned module; the other copy with another identity is taken through a cold reset. -/
def Obligations.ImageLoads : Prop :=
  ∀ (a b : LoadCheck) (s : State), s.mod.atStep 10 = true → s.mod.isOn K.imgStatus_LOADED = false →
    (∀ isB fallback c, s.mod.loadPlan a b = .load isB fallback c →
      c.image.sound c.identity (s.mod.imageHeader isB).profile (decide (0 < s.mod.liveCount .hbm)) = true →
      ∃ m' : Module, exec (.startImageLoad a b) s = .next { s with mod := m' } ∧
        m'.getF K.pwrStatus_STEP = (if (List.range (m'.liveCount .pra)).any m'.calibrates then 10 else 11) ∧
        m'.getF K.imgStatus_LOADED = 1 ∧ m'.img.running = some c.image ∧ m'.img.identity = some c.identity) ∧
    (s.mod.loadPlan a b = .stall →
      ∃ m' : Module, exec (.startImageLoad a b) s = .next { s with mod := m' } ∧ m'.getF K.pwrStatus_STALLED = 1 ∧
        m'.getF K.glbAlert_START_STALL = 1 ∧ m'.getF K.pwrStatus_STEP = 10) ∧
    (s.mod.loadPlan a b = .restart → s.mod.power.request = none →
      ∃ m' : Module, exec (.startImageLoad a b) s = .next { s with mod := m' } ∧
        m'.power.request = some { kind := .cold, cause := 8, notice := false } ∧
        (m'.img.marker.map (·.copyB)) = some (s.mod.isOn K.imgStatus_ACTIVE)) ∧
    (∀ isB fallback c, s.mod.loadPlan a b = .load isB fallback c →
      c.image.sound c.identity (s.mod.imageHeader isB).profile (decide (0 < s.mod.liveCount .hbm)) = false →
      exec (.startImageLoad a b) s = .fault .undefinedImage)

/-- START_ALIGNMENT and READY: outside TIMETABLE step 11 ends at once; in TIMETABLE the protocol starts once every pipeline is at
its top level, a master on its own edge; and step 12 makes the module READY, with the fuses at the version that runs. -/
def Obligations.AlignmentAndReady : Prop :=
  ∀ s : State,
    (s.mod.atStep 11 = true → s.mod.timetable = false →
      exec .startAlignment s = .next { s with mod := s.mod.goStep 12 }) ∧
    (s.mod.atStep 11 = true → s.mod.timetable = true → (∃ sec : Fin 8, s.mod.level (.pipe sec) ≠ 8) →
      exec .startAlignment s = .next s) ∧
    (s.mod.atStep 11 = true → s.mod.timetable = true → (∀ sec : Fin 8, s.mod.level (.pipe sec) = 8) → s.mod.lockState ≤ 1 →
      ∃ m' : Module, exec .startAlignment s = .next { s with mod := m' } ∧
        m'.lockState = (if s.mod.isOn (K.tmSchedCfg_MASTER s.mod.lead) then 3 else 2) ∧
        m' = { s.mod with regs := m'.regs, lock := m'.lock }) ∧
    (s.mod.atStep 12 = true → s.mod.isReady = false →
      ∃ m' : Module, exec .ready s = .next { s with mod := m' } ∧ m'.getF K.pwrStatus_READY = 1 ∧
        m'.sec.svn = (if s.mod.sec.svn < s.mod.sec.runningSvn then s.mod.sec.runningSvn else s.mod.sec.svn) ∧
        m'.sec.state = s.mod.sec.state) ∧
    (s.mod.isReady = true → exec .ready s = .next s)

/-! ### Clocks and time -/

/-- XTAL_WINDOW and XTAL_QUAL_FAIL: the count of a window shows; the sixteenth window in a row within ±5 of the first, itself
among them, qualifies the crystal and ends step 5; without qualification the start stalls with ALERT_N. CLOCK_MONITOR_WINDOW and
DIVIDER_RAMP_STEP: a window within 2 % only shows; a core or MPC domain that deviates by more fails, moves to its backup and
raises CLOCK_FAIL and NMI_N; a ramp climbs an eighth at a time and its end raises RAMP_DONE. -/
def Obligations.CrystalAndMonitorsJudgeClocks : Prop :=
  (∀ (count : BitVec 16) (s : State),
     (s.mod.clockFailed 6 = false → s.mod.isOn K.clkStatus_XTAL_OK = true ∨ 5 ≤ s.mod.startStep →
       ∃ m' : Module, exec (.xtalWindow count) s = .next { s with mod := m' } ∧ m'.getF K.clkXtal_COUNT = count.toNat) ∧
     (∀ f, s.mod.clockFailed 6 = false → s.mod.atStep 5 = true → s.mod.isOn K.clkStatus_XTAL_OK = false →
       s.mod.clock.firstWindow = some f → f ≤ count.toNat + 5 → count.toNat ≤ f + 5 → 15 ≤ s.mod.clock.goodWindows →
       ∃ m' : Module, exec (.xtalWindow count) s = .next { s with mod := m' } ∧ m'.getF K.clkStatus_XTAL_OK = 1 ∧
         m'.getF K.pwrStatus_STEP = 6 ∧ m'.Happened s.mod .clk_XTAL_QUAL 0) ∧
     (s.mod.atStep 5 = true →
       ∃ m' : Module, exec .xtalQualFail s = .next { s with mod := m' } ∧ m'.getF K.pwrStatus_STALLED = 1 ∧
         m'.getF K.glbAlert_XTAL_QUAL_FAIL = 1 ∧ m'.getF K.glbAlert_START_STALL = 1 ∧ m'.getF K.glbAlert_ASSERTED = 1 ∧
         m'.getF K.pwrStatus_STEP = 5 ∧ m'.Happened s.mod .clk_XTAL_QUAL_FAIL 0 ∧ m'.Happened s.mod .pwr_START_STALL 0 ∧
         m'.OnlyShows s.mod) ∧
     (s.mod.atStep 5 = false → exec .xtalQualFail s = .next s)) ∧
  (∀ (w : MonitorWindow) (d : Fin 5) (s : State),
     (2 ≤ s.mod.startStep → s.mod.domSource w.domain.val ≠ 4 →
       (w.dev.toInt.natAbs ≤ 200 →
         exec (.clockMonitorWindow w) s = .next { s with mod := s.mod.setF (K.clkDomStat_DEV w.domain.val) w.dev.toNat }) ∧
       (200 < w.dev.toInt.natAbs → w.dies ≠ 0 → w.domain = 3 → s.mod.clockFailed 6 = false →
         s.mod.isOn K.clkCtrl_FAIL_ACTION = false →
         ∃ m' : Module, exec (.clockMonitorWindow w) s = .next { s with mod := m' } ∧ m'.domSource 3 = 1 ∧
           m'.getF (K.clkDomStat_RAMP 3) = 1 ∧ m'.clockFailed 3 = true ∧ m'.getF K.clkStatus_NMI = 1 ∧
           m'.Happened s.mod .clk_CLOCK_FAIL 0)) ∧
     (s.mod.getF (K.clkDomStat_RAMP d.val) = 0 → exec (.dividerRampStep d) s = .next s) ∧
     (0 < s.mod.getF (K.clkDomStat_RAMP d.val) → s.mod.getF (K.clkDomStat_RAMP d.val) < 8 →
       exec (.dividerRampStep d) s =
         .next { s with mod := s.mod.setF (K.clkDomStat_RAMP d.val) (s.mod.getF (K.clkDomStat_RAMP d.val) + 1) }) ∧
     (8 ≤ s.mod.getF (K.clkDomStat_RAMP d.val) →
       ∃ m' : Module, exec (.dividerRampStep d) s = .next { s with mod := m' } ∧ m'.getF (K.clkDomStat_RAMP d.val) = 0 ∧
         m'.Happened s.mod .clk_RAMP_DONE 0 ∧ m'.OnlyShows s.mod))

/-- TIM_SET and TIM_ADJ: the written value steps the count once, at once or at the next pulse, and is refused once SET is 1;
a correction within TIM_JUMP_MAX is added to what still slews, and a larger one, or one before SET, is refused. SLEW_DONE:
the ticks that a slew still takes pass, and with the last of the correction SLEW_DONE is raised. -/
def Obligations.TimeStepsAndSlews : Prop :=
  (∀ (req : Requester) (data lo : Word) (s : State), s.mod.mayAccess req 1 = true → s.mod.answers .tim 0 = true →
     (Tbl.find s.mod.loHeld (req, .timSetLo, 0, 0) = some lo →
       (s.mod.isOn K.timStatus_SET = true →
         exec (.timSet req data) s = .next { s with mod := s.mod.raise .tim_SET_REFUSED 0 }) ∧
       (s.mod.isOn K.timStatus_SET = false →
         ∃ m' : Module, exec (.timSet req data) s = .next { s with mod := m' } ∧ m'.time.stepValue = data ++ lo ∧
           m'.time.stepDue = !s.mod.isOn K.timCtrl_SET_SRC ∧
           m'.getF K.timStatus_ARMED = flag (s.mod.isOn K.timCtrl_SET_SRC) ∧ m'.time.count = s.mod.time.count)) ∧
     (Tbl.find s.mod.loHeld (req, .timAdjLo, 0, 0) = some lo →
       ((s.mod.isOn K.timStatus_SET = false ∨
           s.mod.getF K.timJumpMax_NS * 2 ^ 32 < ((data ++ lo).toInt * 2 ^ 32 + s.mod.time.slew).natAbs) →
         exec (.timAdj req data) s = .next { s with mod := s.mod.raise .tim_JUMP_REFUSED 0 }) ∧
       (s.mod.isOn K.timStatus_SET = true →
         ((data ++ lo).toInt * 2 ^ 32 + s.mod.time.slew).natAbs ≤ s.mod.getF K.timJumpMax_NS * 2 ^ 32 →
         ∃ m' : Module, exec (.timAdj req data) s = .next { s with mod := m' } ∧
           m'.time.slew = (data ++ lo).toInt * 2 ^ 32 + s.mod.time.slew ∧ m'.time.count = s.mod.time.count))) ∧
  (∀ s : State, s.mod.isOn K.timStatus_SLEWING = true → s.mod.time.stepDue = false → s.mod.ticks = true →
     s.mod.time.islandFrom = none → 0 < s.mod.tickSlew → s.mod.time.slew ≠ 0 →
     ∃ m' : Module, exec .slewDone s = .next { s with mod := m' } ∧ m'.time.slew = 0 ∧ m'.time.running = true ∧
       m'.getF K.timStatus_SLEWING = 0)

/-- PULSE_EDGE, PPS_MISSING, PPS_OUT_RISE and PPS_OUT_FALL: the edge latches the count to within 2 ns and takes up an armed
step; an edge on the other pin, or on PPS_IN within 1 ms of the one before, does nothing; PPS_OUT rises where the count has reached a multiple of 10^9, only while SET and
PPS_OUT_EN are 1, and falls when it has been high for 100 ms. -/
def Obligations.PulsesLatchTheCount : Prop :=
  ∀ (syncIn : Bool) (s : State),
    (s.mod.isOn K.timCtrl_PULSE_SRC = syncIn → (if syncIn then s.mod.pulseLost else s.mod.pulseSoon) = false →
      s.mod.time.running = true →
      ∃ m' : Module, exec (.pulseEdge syncIn) s = .next { s with mod := m' } ∧
        m'.getF K.timPpsHi_NS * 2 ^ 32 + m'.getF K.timPpsLo_NS =
          (s.mod.time.count + BitVec.ofNat 64 (s.mod.openWord.toNat % 3)).toNat ∧
        m'.Happened s.mod .tim_PPS_IN_EDGE 0 ∧
        m'.time.stepDue = (s.mod.isOn K.timStatus_ARMED || s.mod.time.stepDue) ∧
        (s.mod.isOn K.timStatus_ARMED = true → m'.getF K.timStatus_ARMED = 0)) ∧
    (s.mod.isOn K.timCtrl_PULSE_SRC ≠ syncIn ∨ (if syncIn then s.mod.pulseLost else s.mod.pulseSoon) = true ∨
        s.mod.time.running = false →
      exec (.pulseEdge syncIn) s = .next s) ∧
    (s.mod.time.running = true → s.mod.time.ppsSeen = true →
      ∃ m' : Module, exec .ppsMissing s = .next { s with mod := m' } ∧ m'.Happened s.mod .tim_PPS_MISSING 0 ∧
        m'.time = { s.mod.time with ppsSeen := false }) ∧
    (s.mod.time.ppsSeen = false → exec .ppsMissing s = .next s) ∧
    (s.mod.isOn K.timStatus_SET = true → s.mod.isOn K.timCtrl_PPS_OUT_EN = true → s.mod.ppsDue = true →
      s.mod.time.ppsOut = none →
      exec .ppsOutRise s = .next { s with mod := { s.mod with time := { s.mod.time with ppsOut := some s.mod.elapsed } } }) ∧
    (s.mod.isOn K.timStatus_SET = false ∨ s.mod.isOn K.timCtrl_PPS_OUT_EN = false ∨ s.mod.ppsDue = false →
      exec .ppsOutRise s = .next s) ∧
    (∀ t, s.mod.time.ppsOut = some t → t + 100 * perMs ≤ s.mod.elapsed →
      exec .ppsOutFall s = .next { s with mod := { s.mod with time := { s.mod.time with ppsOut := none } } }) ∧
    (∀ t, s.mod.time.ppsOut = some t → s.mod.elapsed < t + 100 * perMs → exec .ppsOutFall s = .next s)

/-- TIM_SYNC_CMD, SYNC_REQ_RECEIVE, SYNC_RESP_RECEIVE and SYNC_RESP_TIMEOUT: an exchange begins and shows BUSY, its response
sets the four stamps and raises SYNC_DONE, and none within 100 µs sets TIMEOUT. SYNC_IN_PULSE, SYNC_TIMEOUT, ALIGNMENT_EDGE,
ALIGN_VERIFY_FAIL, ALIGN_VERIFY_END, PERIOD_ZERO and PERIOD_EDGE: the protocol of reset alignment from STATE 2 to STATE 5,
the same in every sector, and the period edges that follow, at which a reloaded sector rejoins. -/
def Obligations.SyncAndAlignmentRun : Prop :=
  (∀ (data : Word) (lport : Fin 2048) (src : Loc) (tag : BitVec 16) (peerSet : Bool) (t1 t2 t3 : BitVec 64) (s : State),
     (s.mod.answers .tim 0 = true → bitOf data.toNat 31 = true → s.mod.isOn K.timSyncStat_BUSY = false →
       ∃ m' : Module, exec (.timSyncCmd data) s = .next { s with mod := m' } ∧
         m'.time.sync.map (fun r => (r.lport, r.tag)) =
           some (bitsOf data.toNat 10 0, BitVec.ofNat 16 (bitsOf data.toNat 26 11)) ∧
         m'.getF K.timSyncStat_BUSY = 1 ∧ m'.getF K.timSyncStat_TIMEOUT = 0) ∧
     (s.mod.hears lport.val = true →
       ∃ m' : Module, exec (.syncReqReceive lport src tag peerSet t1) s = .next { s with mod := m' } ∧
         Tbl.get m'.mpc.seqs 0 (s.mod.peerLoc lport.val).toNat =
           (Tbl.get s.mod.mpc.seqs 0 (s.mod.peerLoc lport.val).toNat % 2 ^ 24 + 1) % 2 ^ 24 ∧
         m'.time.count = s.mod.time.count ∧ m'.flash = s.mod.flash) ∧
     (∀ r, s.mod.time.sync = some r → r.lport = lport.val → r.tag = tag → s.mod.hears lport.val = true →
       ∃ m' : Module, exec (.syncRespReceive lport tag peerSet t2 t3) s = .next { s with mod := m' } ∧ m'.time.sync = none ∧
         m'.getF K.timSyncStat_BUSY = 0 ∧ m'.getF K.timSyncStat_PEER_SET = flag peerSet ∧
         m'.getF (K.timSyncTLo_NS 1) = t2.toNat % 2 ^ 32 ∧ m'.getF (K.timSyncTHi_NS 1) = t2.toNat / 2 ^ 32 ∧
         m'.getF (K.timSyncTLo_NS 2) = t3.toNat % 2 ^ 32 ∧ m'.getF (K.timSyncTHi_NS 2) = t3.toNat / 2 ^ 32 ∧
         m'.Happened s.mod .tim_SYNC_DONE 0 ∧ m'.time.count = s.mod.time.count) ∧
     (s.mod.time.sync.isSome = true →
       ∃ m' : Module, exec .syncRespTimeout s = .next { s with mod := m' } ∧ m'.time.sync = none ∧
         m'.getF K.timSyncStat_BUSY = 0 ∧ m'.getF K.timSyncStat_TIMEOUT = 1 ∧
         m'.RegsKept s.mod [K.timSyncStat_BUSY, K.timSyncStat_TIMEOUT])) ∧
  (∀ (samples : Nat) (s : State), s.mod.timetable = true →
     (s.mod.lockState = 2 → 50 ≤ samples → s.mod.lost 0 = false →
       ∃ m' : Module, exec (.syncInPulse samples) s = .next { s with mod := m' } ∧
         ∀ sec, sec < 8 → m'.getF (K.tmSchedStat_STATE sec) = 3 ∧ m'.getF (K.tmSchedStat_EXT sec) = 1 ∧
           m'.getF (K.tmSchedStat_LOCKED sec) = 0) ∧
     (s.mod.lockState = 2 → samples < 50 → s.mod.lost 0 = false → s.mod.power.sectorsDown = [] →
       ∃ m' : Module, exec (.syncInPulse samples) s = .next { s with mod := m' } ∧ m'.lockState = 2 ∧
         ∀ sec ∈ s.mod.sectors, m'.Happened s.mod .sched_SYNC_GLITCH sec) ∧
     (s.mod.lockState = 2 →
       ∃ m' : Module, exec .syncTimeout s = .next { s with mod := m' } ∧
         ∀ sec, sec < 8 → m'.getF (K.tmSchedStat_STATE sec) = 3 ∧ m'.getF (K.tmSchedStat_EXT sec) = 0) ∧
     (s.mod.lockState = 3 →
       ∃ m' : Module, exec .alignmentEdge s = .next { s with mod := m' } ∧ m'.lock.edgeE = some s.mod.elapsed ∧
         (∀ sec, sec < 8 → m'.getF (K.tmSchedStat_STATE sec) = 4) ∧
         ∀ d ∈ [0, 1, 4], m'.getF (K.clkDomStat_RAMP d) = 1) ∧
     (s.mod.lockState = 4 → s.mod.lock.verified = false → s.mod.lock.failures < 2 →
       ∃ m' : Module, exec .alignVerifyFail s = .next { s with mod := m' } ∧ m'.lockState = 3 ∧
         m'.lock.failures = s.mod.lock.failures + 1 ∧ m'.syncOut = s.mod.syncOut) ∧
     (s.mod.lockState = 4 → s.mod.lock.verified = false → 2 ≤ s.mod.lock.failures →
       ∃ m' : Module, exec .alignVerifyFail s = .next { s with mod := m' } ∧ m'.lockState = 6) ∧
     (s.mod.lockState = 4 →
       exec .alignVerifyEnd s =
         .next { s with mod := { s.mod with lock := { s.mod.lock with verified := true } } }) ∧
     (s.mod.lockState = 4 → s.mod.lock.verified = true →
       ∃ m' : Module, exec .periodZero s = .next { s with mod := m' } ∧ m'.lock.periods = 0 ∧
         ∀ sec, sec < 8 → m'.getF (K.tmSchedStat_STATE sec) = 5 ∧ m'.getF (K.tmSchedStat_LOCKED sec) = 1) ∧
     (s.mod.lockState = 5 ∨ s.mod.lockState = 6 → s.mod.lock.held = [] → s.mod.lock.heldSwitch = none →
       s.mod.img.heldPatch = false →
       ∃ m' : Module, exec .periodEdge s = .next { s with mod := m' } ∧
         m' = { s.mod with
           regs := m'.regs
           lock := { s.mod.lock with rejoining := [], periods := s.mod.lock.periods + 1, edgeAt := some s.mod.elapsed } } ∧
         (∀ sec ∈ s.mod.lock.rejoining, m'.getF (K.tmSchedStat_STATE sec) = s.mod.lockState) ∧
         (s.mod.lock.rejoining = [] → m'.regs = s.mod.regs)))

/-! ### Light and circuits -/

/-- MISLOCK, RELOCK, RING_SPARED and RING_SPARE_LOCK: a ring in lock goes out, back to its assigned code, and re-acquires, its
relocks counted; one given up fails for good, and its bank's spare takes its wavelength, recorded in the repair table, and locks
at the recorded code; with no spare the wavelength is lost on that port. A ring that nothing may use rests with its lock loop
open. -/
def Obligations.RingsLoseAndRegainLock : Prop :=
  ∀ (pb : Fin 64) (ring : Fin 164) (s : State),
    ((s.mod.ring pb.val ring.val).locked = true → (s.mod.ring pb.val ring.val).failed = false →
      ∃ m' : Module, exec (.mislock pb ring) s = .next { s with mod := m' } ∧
        m'.Happened s.mod .lpe_MISLOCK pb.val ∧
        m'.ring pb.val ring.val = { s.mod.ring pb.val ring.val with
          locked := false, busy := true, heater := (s.mod.ring pb.val ring.val).assigned }) ∧
    ((s.mod.ring pb.val ring.val).locked = false ∨ (s.mod.ring pb.val ring.val).failed = true →
      exec (.mislock pb ring) s = .next s) ∧
    ((s.mod.ring pb.val ring.val).busy = true → (s.mod.ring pb.val ring.val).failed = false →
      ∃ m' : Module, exec (.relock pb ring) s = .next { s with mod := m' } ∧
        (m'.ring pb.val ring.val).locked = !s.mod.ringRests pb.val ring.val ∧ (m'.ring pb.val ring.val).busy = false ∧
        (s.mod.ringRests pb.val ring.val = false →
          (m'.ring pb.val ring.val).heater = (s.mod.ring pb.val ring.val).assigned) ∧
        (m'.ring pb.val ring.val).relocks = min 255 ((s.mod.ring pb.val ring.val).relocks + 1)) ∧
    ((s.mod.ring pb.val ring.val).busy = false ∨ (s.mod.ring pb.val ring.val).failed = true →
      exec (.relock pb ring) s = .next s ∧ exec (.ringSpareLock pb ring) s = .next s) ∧
    (∀ q, (s.mod.ring pb.val ring.val).failed = false → (s.mod.ring pb.val ring.val).spare = false →
      s.mod.bankSpare pb.val ring.val = some q →
      ∃ m' : Module, exec (.ringSpared pb ring) s = .next { s with mod := m' } ∧
        (m'.ring pb.val ring.val).failed = true ∧ (m'.ring pb.val q).spare = false ∧ (m'.ring pb.val q).busy = true ∧
        (m'.ring pb.val q).lambda = (s.mod.ring pb.val ring.val).lambda ∧
        m'.mpc.repairWait.getLast?.map Prod.fst = some (BitVec.ofNat 64 (3 * 2 ^ 40 + (pb.val * 256 + ring.val) * 2 ^ 16 + q))) ∧
    ((s.mod.ring pb.val ring.val).failed = false → (s.mod.ring pb.val ring.val).spare = false →
      s.mod.bankSpare pb.val ring.val = none → ring.val < 160 →
      ∃ m' : Module, exec (.ringSpared pb ring) s = .next { s with mod := m' } ∧
        (m'.ring pb.val ring.val).failed = true ∧
        bitOf (m'.getF (K.lpeStatus_PORT_RING_LOSS pb.val)) (ringPort ring.val) = true) ∧
    ((s.mod.ring pb.val ring.val).failed = true ∨ (s.mod.ring pb.val ring.val).spare = true →
      exec (.ringSpared pb ring) s = .next s) ∧
    ((s.mod.ring pb.val ring.val).busy = true → (s.mod.ring pb.val ring.val).failed = false →
      ∃ m' : Module, exec (.ringSpareLock pb ring) s = .next { s with mod := m' } ∧
        (m'.ring pb.val ring.val).locked = !s.mod.ringRests pb.val ring.val ∧ (m'.ring pb.val ring.val).busy = false ∧
        (s.mod.ringRests pb.val ring.val = false →
          (m'.ring pb.val ring.val).heater = (s.mod.ring pb.val ring.val).assigned))

/-- LASER_AVERAGE: an average shows; a reserve laser is not judged; and the third average in a row at 1 dB below the
commissioned power raises FADE and starts a swap to the spare in reserve, behind the fades that wait already. SWAP_START, SWAP_TUNE_DONE, SPARE_TUNE_TIMEOUT,
INJECTION_LOCK, INJECTION_LOCK_TIMEOUT, COMBINER_STEP, SWAP_DONE and LPE_SWAP_CMD: the phases of a laser swap, its failure,
and its end with the old laser dark and retired, or, of a commanded swap, the way back. -/
def Obligations.LaserSwapsRun : Prop :=
  (∀ (pb : Fin 64) (n : Fin 6) (tap : BitVec 16) (bias : BitVec 12) (s : State), s.mod.engineLit pb.val = true →
     (s.mod.drives pb.val n.val = false →
       exec (.laserAverage pb n tap bias) s = .next { s with mod :=
         (s.mod.setF (K.lpeLsrPwr_TAP pb.val n.val) tap.toNat).setF (K.lpeLsrBias_BIAS pb.val n.val) bias.toNat }) ∧
     (s.mod.drives pb.val n.val = true → Tbl.get s.mod.lpe.fadeRun 0 (pb.val, n.val) = 2 →
       tap.toInt ≤ (Config.laserCommissioned pb.val n.val (s.mod.laserLambda pb.val n.val)).toInt - 100 →
       (Config.laserCommissioned pb.val n.val (s.mod.laserLambda pb.val n.val)).toInt - 250 < tap.toInt →
       bias.toNat < (Config.laserMaxBias pb.val n.val).toNat →
       s.mod.swapOf pb.val = none → (pb.val, n.val) ∉ s.mod.lpe.noSpare → n.val ∉ s.mod.waitingOf pb.val →
       ∃ m' : Module, exec (.laserAverage pb n tap bias) s = .next { s with mod := m' } ∧
         (s.mod.waitingOf pb.val = [] → s.mod.isOn (K.lpeCtrl_AUTO_SWAP pb.val) = true → s.mod.hasSpare pb.val n.val = true →
           m'.swapOf pb.val = some { old := n.val, new := spareOfLambda (s.mod.laserLambda pb.val n.val)
                                     lambda := s.mod.laserLambda pb.val n.val, phase := .tuning, commanded := false
                                     back := false, oldFaded := false }) ∧
         (s.mod.waitingOf pb.val ≠ [] → m'.waitingOf pb.val = s.mod.waitingOf pb.val ++ [n.val]) ∧
         m'.getF (K.lpeLsrStat_FADE_MET pb.val n.val) = 1 ∧ m'.getF (K.lpeLsrPwr_TAP pb.val n.val) = tap.toNat ∧
         m'.Happened s.mod .lpe_FADE pb.val)) ∧
  (∀ (pb : Fin 64) (lambda : Fin 4) (w : Swap) (s : State),
     (∀ n rest, s.mod.swapOf pb.val = none → s.mod.waitingOf pb.val = n :: rest → s.mod.drives pb.val n = true →
       s.mod.isOn (K.lpeCtrl_AUTO_SWAP pb.val) = true → s.mod.hasSpare pb.val n = true →
       ∃ m' : Module, exec (.swapStart pb) s = .next { s with mod := m' } ∧ m'.waitingOf pb.val = rest ∧
         m'.swapOf pb.val = some { old := n, new := spareOfLambda (s.mod.laserLambda pb.val n)
                                   lambda := s.mod.laserLambda pb.val n, phase := .tuning, commanded := false
                                   back := false, oldFaded := false }) ∧
     (s.mod.swapOf pb.val = some w → w.phase = .tuning →
       exec (.swapTuneDone pb) s = .next { s with mod := s.mod.putSwap pb.val (some { w with phase := .seeding }) } ∧
       ∃ m' : Module, exec (.spareTuneTimeout pb) s = .next { s with mod := m' } ∧ m'.swapOf pb.val = none ∧
         m'.role pb.val w.new = 4) ∧
     (s.mod.swapOf pb.val = some w → w.phase = .seeding →
       (∃ m' : Module, exec (.injectionLock pb) s = .next { s with mod := m' } ∧
         m'.swapOf pb.val = some { w with phase := .combining 0 }) ∧
       ∃ m' : Module, exec (.injectionLockTimeout pb) s = .next { s with mod := m' } ∧ m'.swapOf pb.val = none ∧
         m'.role pb.val w.new = 4) ∧
     (∀ k, s.mod.swapOf pb.val = some w → w.phase = .combining k → k < 64 → s.mod.lambdaBusy pb.val w.lambda = false →
       exec (.combinerStep pb) s = .next { s with mod :=
         (s.mod.putSwap pb.val (some { w with phase := .combining (k + 1) })).restCombiner pb.val w.lambda }) ∧
     (s.mod.swapOf pb.val = some w → w.phase = .combining 64 → w.commanded = false → w.old ≠ w.new → w.lambda < 4 →
       ∃ m' : Module, exec (.swapDone pb) s = .next { s with mod := m' } ∧ m'.swapOf pb.val = none ∧
         m'.role pb.val w.old = 3 ∧ m'.role pb.val w.new = (if w.new < 4 then 0 else 2) ∧
         m'.getF (K.lpeLsrBias_BIAS pb.val w.old) = 0 ∧
         m'.laserLambda pb.val w.new = w.lambda ∧ m'.Happened s.mod .lpe_SWAP_DONE pb.val) ∧
     (s.mod.swapOf pb.val = some w → w.phase = .combining 64 → w.commanded = true → w.old ≠ w.new → w.lambda < 4 →
       ∃ m' : Module, exec (.swapDone pb) s = .next { s with mod := m' } ∧ m'.Happened s.mod .lpe_SWAP_DONE pb.val ∧
         (w.back = true → m'.swapOf pb.val = none ∧ m'.role pb.val w.old = 1 ∧
           m'.role pb.val w.new = (if w.new < 4 then 0 else 2)) ∧
         (w.back = false → w.oldFaded = false →
           m'.swapOf pb.val = some { w with old := w.new, new := w.old, phase := .tuning, back := true })) ∧
     (∀ n, s.mod.answers .lpe pb.val = true → pb.val < s.mod.liveCount .lpe → s.mod.holdsWrites = false →
       s.mod.driverOf pb.val lambda.val = some n → s.mod.swapOf pb.val = none →
       (s.mod.rehearses 1 = true → s.mod.hasSpare pb.val n = true →
         s.mod.claimed pb.val (spareOfLambda (s.mod.laserLambda pb.val n)) = false →
         ∃ m' : Module, exec (.lpeSwapCmd pb lambda) s = .next { s with mod := m' } ∧
           m'.swapOf pb.val = some { old := n, new := spareOfLambda (s.mod.laserLambda pb.val n)
                                     lambda := s.mod.laserLambda pb.val n, phase := .tuning, commanded := true
                                     back := false, oldFaded := false }) ∧
       (s.mod.rehearses 1 = false ∨ s.mod.hasSpare pb.val n = false ∨
           s.mod.claimed pb.val (spareOfLambda (s.mod.laserLambda pb.val n)) = true →
         exec (.lpeSwapCmd pb lambda) s = .next { s with mod := s.mod.raise .lpe_SWAP_REFUSED pb.val })))

/-- CAP_LIMIT, LOSS_OF_LIGHT and APR_EXIT: a port that loses light goes to its reduced launch and shows it, one whose light
is back leaves it, within its caps, or where it never left full launch only measures; and a lowered launch is counted. -/
def Obligations.LightSetsReducedLaunch : Prop :=
  ∀ (pb : Fin 64) (port : Fin 8) (rx tx : BitVec 16) (s : State),
    (s.mod.engineLit pb.val = true → ∃ m' : Module, exec (.capLimit pb port) s = .next { s with mod := m' } ∧
      (BitVec.ofNat 16 (m'.getF (K.lpePortPwr_TX pb.val port.val))).toInt ≤ s.mod.launchMost (8 * pb.val + port.val) ∧
      m'.Happened s.mod .lpe_CAP_LIMIT pb.val ∧ m'.OnlyShows s.mod.drawn ∧
      m'.RegsKept s.mod [K.lpePortPwr_TX pb.val port.val, K.lpeEvt_CAP_LIMIT pb.val]) ∧
    (s.mod.engineLit pb.val = false → exec (.capLimit pb port) s = .next s) ∧
    (s.mod.portLit pb.val port.val = true → rx.toInt < -1400 →
      ∃ m' : Module, exec (.lossOfLight pb port rx) s = .next { s with mod := m' } ∧
        m'.getF (K.lpePortApr_REDUCED pb.val port.val) = 1 ∧
        m'.getF (K.lpePortApr_LOS pb.val port.val) = 1 ∧ m'.getF (K.lpePortPwr_RX pb.val port.val) = rx.toNat ∧
        (s.mod.isOn (K.lpePortApr_REDUCED pb.val port.val) = false → m'.Happened s.mod .lpe_APR_ENTER pb.val)) ∧
    (s.mod.portLit pb.val port.val = false ∨ -1400 ≤ rx.toInt → exec (.lossOfLight pb port rx) s = .next s) ∧
    (s.mod.portLit pb.val port.val = true → s.mod.isOn (K.lpePortApr_REDUCED pb.val port.val) = true → -1400 ≤ rx.toInt →
      ∃ m' : Module, exec (.aprExit pb port rx tx) s = .next { s with mod := m' } ∧
        m'.getF (K.lpePortApr_LOS pb.val port.val) = 0 ∧ m'.getF (K.lpePortPwr_RX pb.val port.val) = rx.toNat ∧
        (rx.toInt < -1100 → m'.getF (K.lpePortApr_REDUCED pb.val port.val) = 1) ∧
        (-1100 ≤ rx.toInt → m'.getF (K.lpePortApr_REDUCED pb.val port.val) = 0 ∧ m'.Happened s.mod .lpe_APR_EXIT pb.val ∧
          (BitVec.ofNat 16 (m'.getF (K.lpePortPwr_TX pb.val port.val))).toInt ≤ min tx.toInt 1000)) ∧
    (s.mod.portLit pb.val port.val = true → s.mod.isOn (K.lpePortApr_REDUCED pb.val port.val) = false → -1400 ≤ rx.toInt →
      ∃ m' : Module, exec (.aprExit pb port rx tx) s = .next { s with mod := m' } ∧
        m'.getF (K.lpePortPwr_RX pb.val port.val) = rx.toNat ∧ m'.getF (K.lpePortApr_REDUCED pb.val port.val) = 0 ∧
        m'.counters = s.mod.counters ∧ m'.link = s.mod.link) ∧
    (s.mod.portLit pb.val port.val = false ∨ rx.toInt < -1400 → exec (.aprExit pb port rx tx) s = .next s)

/-- CIRCUIT_SETUP, CIRCUIT_TEARDOWN and CIRCUIT_QUERY: from FLY_CMD, a command joins the queue of 64 and FLY_CMD_RESULT
shows BUSY; a full queue refuses it, and sector lock holds it. From a control frame it is the queued request, and without one nothing happens.
FLY_COMMAND_START, CIRCUIT_UP and CIRCUIT_DOWN: the next command starts when none runs, a set-up that passes its checks
stands in state 1 and ends in state 2, and a tear-down stands in state 5 and frees its slot. -/
def Obligations.CircuitsAreCommanded : Prop :=
  (∀ (tag : BitVec 16) (slot : Fin 256) (i o : Fin 512) (hold : Bool) (src : Loc) (reqId : BitVec 16) (s : State),
     (s.mod.holdsWrites = false → s.mod.fly.queue.length < 64 →
       (∃ m' : Module, exec (.circuitSetup .register tag slot i o hold) s = .next { s with mod := m' } ∧
         m'.fly.queue = s.mod.fly.queue ++ [{ op := .setUp, origin := .register, tag := tag, slot := slot
                                              inPort := i, outPort := o, hold := hold }] ∧
         m'.getF K.flyCmdResult_BUSY = 1 ∧ m'.RegsKept s.mod [K.flyCmdResult_BUSY]) ∧
       (∃ m' : Module, exec (.circuitTeardown .register tag slot i o) s = .next { s with mod := m' } ∧
         m'.fly.queue = s.mod.fly.queue ++ [{ op := .tearDown, origin := .register, tag := tag, slot := slot
                                              inPort := i, outPort := o, hold := false }] ∧
         m'.getF K.flyCmdResult_BUSY = 1 ∧ m'.RegsKept s.mod [K.flyCmdResult_BUSY]) ∧
       (∃ m' : Module, exec (.circuitQuery .register tag slot) s = .next { s with mod := m' } ∧
         m'.fly.queue = s.mod.fly.queue ++ [{ op := .query, origin := .register, tag := tag, slot := slot
                                              inPort := 0, outPort := 0, hold := false }] ∧
         m'.getF K.flyCmdResult_BUSY = 1 ∧ m'.RegsKept s.mod [K.flyCmdResult_BUSY])) ∧
     (s.mod.holdsWrites = false → 64 ≤ s.mod.fly.queue.length →
       ∃ m' : Module, exec (.circuitSetup .register tag slot i o hold) s = .next { s with mod := m' } ∧
         m'.fly = s.mod.fly ∧ m'.getF K.flyCmdResult_STATUS = 7 ∧ m'.getF K.flyCmdResult_BUSY = 0 ∧
         m'.Happened s.mod .fly_CIRCUIT_REFUSED 0) ∧
     (s.mod.holdsWrites = true → s.mod.answers .fly 0 = true → 0 < s.mod.liveCount .fly →
       ∃ m' : Module, exec (.circuitTeardown .register tag slot i o) s = .next { s with mod := m' } ∧ m'.fly = s.mod.fly ∧
         m'.lock.held.length = s.mod.lock.held.length + 1) ∧
     (∀ m1 r d, s.mod.takeReq src reqId 7 = some (m1, r) →
       d = FlyCmd.decode (.frame src reqId) (ofBytes ((r.body ++ List.replicate 16 0).take 16)) →
       s.mod.isOn K.imgStatus_LOADED = true → s.mod.permits src 3 = true → s.mod.fly.queue.length < 64 →
       ∃ m' : Module, m'.fly.queue = s.mod.fly.queue ++ [d] ∧ m'.mpc = m1.mpc ∧
         (d.op = .setUp → exec (.circuitSetup (.frame src reqId) tag slot i o hold) s = .next { s with mod := m' }) ∧
         (d.op = .tearDown → exec (.circuitTeardown (.frame src reqId) tag slot i o) s = .next { s with mod := m' }) ∧
         (d.op = .query → exec (.circuitQuery (.frame src reqId) tag slot) s = .next { s with mod := m' })) ∧
     (s.mod.takeReq src reqId 7 = none →
       exec (.circuitSetup (.frame src reqId) tag slot i o hold) s = .next s ∧
         exec (.circuitTeardown (.frame src reqId) tag slot i o) s = .next s ∧
         exec (.circuitQuery (.frame src reqId) tag slot) s = .next s)) ∧
  (∀ (c : FlyCmd) (rest : List FlyCmd) (power : BitVec 16) (loss : Fin 401) (s : State),
     (s.mod.fly.running = none → s.mod.fly.queue = c :: rest →
       (c.op = .setUp → s.mod.setUpStatus c = 0 →
         ∃ m' : Module, exec .flyCommandStart s = .next { s with mod := m' } ∧ m'.fly.queue = rest ∧
           m'.fly.running = some c ∧ m'.slotState c.slot.val = 1 ∧ m'.slotIn c.slot.val = c.inPort.val ∧
           m'.slotOut c.slot.val = c.outPort.val ∧ m'.slotHold c.slot.val = c.hold) ∧
       (c.op = .setUp → s.mod.setUpStatus c ≠ 0 →
         ∃ m' : Module, exec .flyCommandStart s = .next { s with mod := m' } ∧ m'.fly.queue = rest ∧
           m'.fly.running = none ∧ m'.slotState c.slot.val = s.mod.slotState c.slot.val) ∧
       (c.op = .tearDown → s.mod.names c = true →
         ∃ m' : Module, exec .flyCommandStart s = .next { s with mod := m' } ∧ m'.fly.queue = rest ∧
           m'.fly.running = some c ∧ m'.slotState c.slot.val = 5) ∧
       (c.op = .tearDown → s.mod.names c = false →
         ∃ m' : Module, exec .flyCommandStart s = .next { s with mod := m' } ∧ m'.fly.queue = rest ∧
           m'.fly.running = none ∧ m'.slotState c.slot.val = s.mod.slotState c.slot.val ∧
           m'.Happened s.mod .fly_CIRCUIT_REFUSED 0) ∧
       (c.op = .query →
         ∃ m' : Module, exec .flyCommandStart s = .next { s with mod := m' } ∧ m'.fly.queue = rest ∧
           m'.fly.running = none ∧ .circuitReply c (s.mod.slotState c.slot.val) 0 0 ∈ m'.out)) ∧
     (s.mod.fly.running = some c → c.op = .setUp →
       (∃ m' : Module, exec (.circuitUp (some (power, loss))) s = .next { s with mod := m' } ∧ m'.fly.running = none ∧
         m'.slotState c.slot.val = 2 ∧ m'.getF (K.flySlotPwr_IN c.slot.val) = power.toNat ∧
         (s.mod.reduced (s.mod.slotOut c.slot.val) = false → c.slot.val ∉ s.mod.fly.detuned →
           m'.getF (K.flySlotPwr_OUT c.slot.val) = powerWord (outPower power.toInt (500 + (loss.val : Int)))) ∧
         (s.mod.reduced (s.mod.slotOut c.slot.val) = true → c.slot.val ∈ m'.fly.detuned) ∧
         m'.Happened s.mod .fly_CIRCUIT_UP 0) ∧
       ∃ m' : Module, exec (.circuitUp none) s = .next { s with mod := m' } ∧ m'.fly.running = none ∧
         m'.slotState c.slot.val = 2 ∧ (BitVec.ofNat 16 (m'.getF (K.flySlotPwr_IN c.slot.val))).toInt < -3000) ∧
     (s.mod.fly.running = some c → c.op = .tearDown →
       ∃ m' : Module, exec .circuitDown s = .next { s with mod := m' } ∧ m'.fly.running = none ∧
         m'.slotState c.slot.val = 0 ∧ m'.Happened s.mod .fly_CIRCUIT_DOWN 0))

/-! ### Links -/

/-- CODEWORD_RECEIVE: on a lane of a link that trains or runs, and that no circuit has taken, every codeword is counted, and a
corrected or uncorrectable one on top, in its counter and in the lane's register, by its bits as the lane's receiver aligns
them; on any other nothing is. What the scrambler sends, the descrambler of the same state gives back. -/
def Obligations.CodewordsAreCounted : Prop :=
  (∀ (lane : Fin 2048) (w : BitVec 5440) (s : State),
     (2 ≤ s.mod.linkState (s.mod.lportOfLane lane.val) → s.mod.linkState (s.mod.lportOfLane lane.val) ≤ 5 →
       s.mod.deaf (s.mod.lportOfLane lane.val) = false → s.mod.laneTaken lane.val = false →
       ∃ m' : Module, exec (.codewordReceive lane w) s = .next { s with mod := m' } ∧
         m'.counter 0x462 lane.val = (s.mod.counter 0x462 lane.val + 1) % 2 ^ 64 ∧
         (judgeCodeword ((s.mod.rxLane lane.val).aligned w) = .corrected → m'.counter 0x460 lane.val = (s.mod.counter 0x460 lane.val + 1) % 2 ^ 64 ∧
           m'.getF (K.lnkLaneFec_CORR (lane.val / 32) (lane.val % 32)) =
             min 0xFFFF (s.mod.getF (K.lnkLaneFec_CORR (lane.val / 32) (lane.val % 32)) + 1)) ∧
         (judgeCodeword ((s.mod.rxLane lane.val).aligned w) = .uncorrectable → m'.counter 0x461 lane.val = (s.mod.counter 0x461 lane.val + 1) % 2 ^ 64 ∧
           (m'.lnk (s.mod.lportOfLane lane.val)).lostBlock = true ∧
           m'.getF (K.lnkLaneFec_UNCORR (lane.val / 32) (lane.val % 32)) =
             min 0xFFFF (s.mod.getF (K.lnkLaneFec_UNCORR (lane.val / 32) (lane.val % 32)) + 1)) ∧
         m'.RegsKept s.mod [K.lnkLaneFec_CORR (lane.val / 32) (lane.val % 32),
           K.lnkLaneFec_UNCORR (lane.val / 32) (lane.val % 32)] ∧
         m' = { s.mod with regs := m'.regs, counters := m'.counters, link := m'.link } ∧
         m'.rxLane lane.val = (s.mod.rxLane lane.val).take w ∧
         (judgeCodeword ((s.mod.rxLane lane.val).aligned w) ≠ .uncorrectable → m'.link.links = s.mod.link.links)) ∧
     (s.mod.linkState (s.mod.lportOfLane lane.val) < 2 ∨ 5 < s.mod.linkState (s.mod.lportOfLane lane.val) ∨
         s.mod.deaf (s.mod.lportOfLane lane.val) = true ∨ s.mod.laneTaken lane.val = true →
       exec (.codewordReceive lane w) s = .next s)) ∧
  (∀ state bits n : Nat, (descramble state (scramble state bits n).2 n).2 = bits % 2 ^ n)

/-- DATA_FRAME_RECEIVE, RETRY_REQ_RECEIVE, RETRY_REQ_TIMEOUT, STALL_TIMEOUT and CREDIT_FRAME_RECEIVE: link-level retry and
credits. A frame whose CRC holds and whose LSEQ is the expected one is accepted; one whose CRC fails, or that comes ahead of
the expected one, is discarded, and a RETRY_REQ names the expected LSEQ; a duplicate is discarded. -/
def Obligations.LinkRetryAndCredits : Prop :=
  ∀ (lport : Fin 2048) (h : LinkHeader) (payload : List Byte) (crc : BitVec 32) (lseq ack : BitVec 16) (reason : BitVec 8)
    (cvc : Fin 8) (ccount : BitVec 13) (s : State), s.mod.hears lport.val = true →
    (h.lseq = (s.mod.lnk lport.val).expected →
      ∃ m' : Module, exec (.dataFrameReceive lport h (h.crc payload) payload) s = .next { s with mod := m' } ∧
        (m'.lnk lport.val).expected = (s.mod.lnk lport.val).expected + 1 ∧ (m'.lnk lport.val).asked = none) ∧
    (crc ≠ h.crc payload → (s.mod.lnk lport.val).asked = none →
      ∃ m' : Module, exec (.dataFrameReceive lport h crc payload) s = .next { s with mod := m' } ∧
        (m'.lnk lport.val).asked = some ((s.mod.lnk lport.val).reason 1) ∧ m'.Happened s.mod .lnk_RETRY (blockOf lport.val) ∧
        m'.out = s.mod.out ++
          [.orderedSet lport.val (.retryReq (s.mod.lnk lport.val).expected ((s.mod.lnk lport.val).reason 1))]) ∧
    (crc ≠ h.crc payload → (s.mod.lnk lport.val).asked.isSome = true →
      exec (.dataFrameReceive lport h crc payload) s = .next s) ∧
    (h.lseq ≠ (s.mod.lnk lport.val).expected → seqLe h.lseq (s.mod.lnk lport.val).expected = true →
      exec (.dataFrameReceive lport h (h.crc payload) payload) s =
        .next { s with mod := s.mod.raise .link_LINK_DUP (blockOf lport.val) }) ∧
    (seqLe h.lseq (s.mod.lnk lport.val).expected = false → h.replay = false → (s.mod.lnk lport.val).asked = none →
      ∃ m' : Module, exec (.dataFrameReceive lport h (h.crc payload) payload) s = .next { s with mod := m' } ∧
        (m'.lnk lport.val).expected = (s.mod.lnk lport.val).expected ∧
        m'.out = s.mod.out ++
          [.orderedSet lport.val (.retryReq (s.mod.lnk lport.val).expected ((s.mod.lnk lport.val).reason 2))]) ∧
    ((s.mod.lnk lport.val).asked = some reason →
      ∃ m' : Module, exec (.retryReqTimeout lport) s = .next { s with mod := m' } ∧
        m'.Happened s.mod .lnk_RETRY (blockOf lport.val) ∧
        m'.out = s.mod.out ++ [.orderedSet lport.val (.retryReq (s.mod.lnk lport.val).expected reason)]) ∧
    (lseq ≠ (s.mod.lnk lport.val).reqLseq → 1 < s.mod.getF (K.lnkCtrl_RETRY_LIMIT (blockOf lport.val)) →
      ∃ m' : Module, exec (.retryReqReceive lport (OrderedSet.retryReq lseq reason).crc lseq reason) s =
          .next { s with mod := m' } ∧
        (m'.lnk lport.val).reqLseq = lseq ∧ (m'.lnk lport.val).reqCount = 1 ∧
        (m'.lnk lport.val).retry = (s.mod.lnk lport.val).retry ∧ m'.Happened s.mod .lnk_RETRY (blockOf lport.val)) ∧
    (lseq = (s.mod.lnk lport.val).reqLseq →
      s.mod.getF (K.lnkCtrl_RETRY_LIMIT (blockOf lport.val)) ≤ (s.mod.lnk lport.val).reqCount + 1 →
      s.mod.linkState lport.val = 3 → s.mod.offer lport.val ≠ 0 →
      ∃ m' : Module, exec (.retryReqReceive lport (OrderedSet.retryReq lseq reason).crc lseq reason) s =
          .next { s with mod := m' } ∧ m'.linkState lport.val = 4) ∧
    (crc ≠ (OrderedSet.retryReq lseq reason).crc →
      exec (.retryReqReceive lport crc lseq reason) s =
        .next { s with mod := s.mod.raise .link_OS_CRC_FAIL (blockOf lport.val) }) ∧
    (s.mod.linkState lport.val = 3 → (s.mod.lnk lport.val).retry ≠ [] → s.mod.offer lport.val ≠ 0 →
      ∃ m' : Module, exec (.stallTimeout lport) s = .next { s with mod := m' } ∧ m'.linkState lport.val = 4) ∧
    ((s.mod.lnk lport.val).retry = [] → exec (.stallTimeout lport) s = .next s) ∧
    (∃ m' : Module, exec (.creditFrameReceive lport (creditCrc ack cvc ccount) ack cvc ccount) s = .next { s with mod := m' } ∧
      (m'.lnk lport.val).held = vcSet (s.mod.lnk lport.val).held cvc.val
        (vcGet (s.mod.lnk lport.val).held cvc.val + ccount.toNat) ∧ m'.regs = s.mod.regs) ∧
    (crc ≠ creditCrc ack cvc ccount → exec (.creditFrameReceive lport crc ack cvc ccount) s = .next s)

/-- KEEPALIVE_SEND and KEEPALIVE_RECEIVE: a lane in service sends the state, the lane map and the ACK of its link, and a
partner's shows its state; the first that goes down takes the link out of its sets. -/
def Obligations.KeepalivesTellStates : Prop :=
  ∀ (lport : Fin 2048) (lane : Fin 4) (k : Keepalive) (crc : BitVec 32) (s : State),
    (s.mod.carries lport.val = true → bitOf (s.mod.lanesUp lport.val) lane.val = true →
      ∃ (m' : Module) (sent : Keepalive), exec (.keepaliveSend lport lane) s = .next { s with mod := m' } ∧
        m'.out = s.mod.out ++ [.orderedSet lport.val (.keepalive sent)] ∧
        sent.state = BitVec.ofNat 4 (s.mod.kaState lport.val).1 ∧ sent.laneMap = BitVec.ofNat 4 (s.mod.lanesUp lport.val) ∧
        sent.lane = BitVec.ofNat 2 lane.val ∧ sent.loc = s.mod.loc ∧ sent.ack = (s.mod.lnk lport.val).expected - 1 ∧
        sent.cwcount = s.mod.laneCw (s.mod.firstLane lport.val + lane.val) ∧ m'.regs = s.mod.regs) ∧
    (bitOf (s.mod.lanesUp lport.val) lane.val = false → exec (.keepaliveSend lport lane) s = .next s) ∧
    (s.mod.hears lport.val = true →
      ∃ m' : Module, exec (.keepaliveReceive lport (OrderedSet.keepalive k).crc k) s = .next { s with mod := m' } ∧
        m'.getF (K.lnkLinkState_PEER_STATE (blockOf lport.val) (s.mod.linkIx lport.val)) = k.state.toNat ∧
        (k.state = 2 → (m'.lnk lport.val).outOfSets = true ∧
          (s.mod.getF (K.lnkLinkState_PEER_STATE (blockOf lport.val) (s.mod.linkIx lport.val)) ≠ 2 ∨
              (s.mod.lnk lport.val).outOfSets = false →
            m'.Happened s.mod .lnk_GOING_DOWN_RX (blockOf lport.val)))) ∧
    (s.mod.hears lport.val = true → crc ≠ (OrderedSet.keepalive k).crc →
      exec (.keepaliveReceive lport crc k) s = .next { s with mod := s.mod.raise .link_OS_CRC_FAIL (blockOf lport.val) }) ∧
    (s.mod.hears lport.val = false → exec (.keepaliveReceive lport crc k) s = .next s)

/-- LANE_MAP_REMOVE_RX, LANE_MAP_ADD_RX, LANE_MAP_ECHO_RX, LANE_MAP_EFFECTIVE, LANE_LOST, LANE_ADD_LOCK and
LANE_ADD_TIMEOUT: lanes leave and come back by LANE_MAPs, each answered with KIND 2, an added lane serving from its
EFFECTIVE count, and an add without an answer repeated once. ELANE_FAILING and SPARE_LANE: a failing data lane claims the
lowest free spare, which stands for it once it has adapted, and the repair is recorded; a failing spare shows. -/
def Obligations.LanesMoveAndAreSpared : Prop :=
  (∀ (lport lane : Fin 2048) (lm : LaneMap) (crc : BitVec 32) (tag : BitVec 16) (c : LaneChange) (s : State),
     (∀ gone left, s.mod.hears lport.val = true → gone = lanesIn (s.mod.lanesUp lport.val) lm.map.toNat →
       left = s.mod.lanesUp lport.val - (gone.map (2 ^ ·)).sum → left ≠ 0 →
       ∃ m' : Module, exec (.laneMapRemoveRx lport (OrderedSet.laneMap lm).crc lm) s = .next { s with mod := m' } ∧
         m'.lanesUp lport.val = left % 16 ∧
         (s.mod.out ++ [.orderedSet lport.val (.laneMap { lm with kind := 2 })]) <+: m'.out) ∧
     (s.mod.hears lport.val = true → crc ≠ (OrderedSet.laneMap lm).crc →
       exec (.laneMapRemoveRx lport crc lm) s = .next { s with mod := s.mod.raise .link_OS_CRC_FAIL (blockOf lport.val) } ∧
       exec (.laneMapAddRx lport crc lm) s = .next { s with mod := s.mod.raise .link_OS_CRC_FAIL (blockOf lport.val) } ∧
       exec (.laneMapEchoRx lport crc lm) s = .next { s with mod := s.mod.raise .link_OS_CRC_FAIL (blockOf lport.val) }) ∧
     (∀ new, s.mod.hears lport.val = true → new = lanesIn lm.map.toNat (s.mod.lanesUp lport.val) → new ≠ [] →
       (∀ k ∈ new, k ∈ (s.mod.lnk lport.val).training ∧ bitOf (s.mod.offer lport.val) k = true) →
       ∃ m' : Module, exec (.laneMapAddRx lport (OrderedSet.laneMap lm).crc lm) s = .next { s with mod := m' } ∧
         (m'.lnk lport.val).changes = (s.mod.lnk lport.val).changes ++ new.map (fun k =>
           { lane := k, add := true, effective := lm.effective, tag := lm.tag, answered := true, retried := false
             ours := false }) ∧
         m'.lanesUp lport.val = s.mod.lanesUp lport.val ∧
         m'.out = s.mod.out ++ [.orderedSet lport.val (.laneMap { lm with kind := 2 })]) ∧
     (s.mod.hears lport.val = true →
       ∃ m' : Module, exec (.laneMapEchoRx lport (OrderedSet.laneMap lm).crc lm) s = .next { s with mod := m' } ∧
         (m'.lnk lport.val).changes = (s.mod.lnk lport.val).changes.map (fun c =>
           if c.ours && c.tag == lm.tag then { c with answered := true } else c) ∧
         m' = { s.mod with link := m'.link }) ∧
     ((s.mod.lnk lport.val).changes = [c] → c.tag = tag → c.add = true → c.answered = true → s.mod.carries lport.val = true →
       c.lane ∈ (s.mod.lnk lport.val).training → bitOf (s.mod.offer lport.val) c.lane = true →
       bitOf (s.mod.lanesUp lport.val) c.lane = false →
       ∃ m' : Module, exec (.laneMapEffective lport tag) s = .next { s with mod := m' } ∧
         m'.lanesUp lport.val = (s.mod.lanesUp lport.val + 2 ^ c.lane) % 16 ∧ (m'.lnk lport.val).changes = [] ∧
         m'.Happened s.mod .lnk_LANE_ADDED (blockOf lport.val)) ∧
     (∀ k, s.mod.lportOfLane lane.val = lport.val → k = s.mod.laneIndex lane.val →
       (s.mod.linkState lport.val = 3 ∨ s.mod.linkState lport.val = 5) → bitOf (s.mod.lanesUp lport.val) k = true →
       s.mod.mapWithout lport.val k ≠ 0 →
       ∃ m' : Module, exec (.laneLost lane) s = .next { s with mod := m' } ∧
         m'.lanesUp lport.val = s.mod.mapWithout lport.val k % 16 ∧ m'.linkState lport.val = s.mod.linkState lport.val ∧
         m'.Happened s.mod .lnk_LANE_REMOVED (blockOf lport.val)) ∧
     (s.mod.lportOfLane lane.val = lport.val → s.mod.hears lport.val = true →
       s.mod.laneIndex lane.val ∈ (s.mod.lnk lport.val).training →
       (∀ x ∈ (s.mod.lnk lport.val).changes, x.add = false ∨ x.lane ≠ s.mod.laneIndex lane.val) →
       ∃ m' : Module, exec (.laneAddLock lane) s = .next { s with mod := m' } ∧
         (m'.lnk lport.val).changes.getLast?.map (fun c => (c.lane, c.add, c.ours, c.answered)) =
           some (s.mod.laneIndex lane.val, true, true, false) ∧
         m'.regs = s.mod.regs) ∧
     ((s.mod.lnk lport.val).changes.find? (fun x => x.add && x.ours && x.tag == tag && !x.answered) = some c →
       s.mod.isLport lport.val = true →
       (c.retried = false →
         ∃ m' : Module, exec (.laneAddTimeout lport tag) s = .next { s with mod := m' } ∧
           (m'.lnk lport.val).changes.getLast?.map (fun x => (x.lane, x.add, x.retried)) = some (c.lane, true, true)) ∧
       (c.retried = true →
         ∃ m' : Module, exec (.laneAddTimeout lport tag) s = .next { s with mod := m' } ∧
           c.lane ∉ (m'.lnk lport.val).training ∧ m'.Happened s.mod .lnk_LANE_ADD_FAIL (blockOf lport.val)))) ∧
  (∀ (pb : Fin 64) (transmit : Bool) (lane : Fin 34) (sp : Nat) (s : State),
     (lane.val < 32 → s.mod.isOn (K.lnkCtrl_SPARE_AUTO pb.val) = true →
       (∀ t, t < 2 → s.mod.eSpareFor pb.val transmit t ≠ some lane.val) → s.mod.freeESpare pb.val transmit = some sp →
       exec (.elaneFailing pb transmit lane) s = .next { s with mod := { s.mod with link := { s.mod.link with
         eSpares := s.mod.link.eSpares ++ [(pb.val, transmit, sp, lane.val)] } } }) ∧
     (lane.val < 32 → s.mod.isOn (K.lnkCtrl_SPARE_AUTO pb.val) = true →
       (∀ t, t < 2 → s.mod.eSpareFor pb.val transmit t ≠ some lane.val) → s.mod.freeESpare pb.val transmit = none →
       ∃ m' : Module, exec (.elaneFailing pb transmit lane) s = .next { s with mod := m' } ∧
         m'.Happened s.mod .lnk_SPARE_EXHAUSTED pb.val) ∧
     (lane.val < 32 → s.mod.isOn (K.lnkCtrl_SPARE_AUTO pb.val) = false →
       exec (.elaneFailing pb transmit lane) s = .next s) ∧
     (32 ≤ lane.val → s.mod.eSpareFor pb.val transmit (lane.val - 32) = none →
       exec (.elaneFailing pb transmit lane) s =
         .next { s with mod := s.mod.setBit (elaneFailKey pb.val transmit) (lane.val - 32) true }) ∧
     (lane.val < 32 → sp < 2 → s.mod.link.eSpares.find? (fun x => x.1 == pb.val && x.2.1 == transmit && x.2.2.2 == lane.val) =
         some (pb.val, transmit, sp, lane.val) →
       ∃ m' : Module, exec (.spareLane pb transmit lane) s = .next { s with mod := m' } ∧
         m'.getF (elaneKey pb.val transmit sp) = lane.val ∧ m'.Happened s.mod .lnk_SPARE_LANE pb.val ∧
         m'.mpc.repairWait.getLast?.map Prod.fst =
           some (BitVec.ofNat 64 (5 * 2 ^ 40 + (pb.val * 256 + flag transmit * 64 + lane.val) * 2 ^ 16 + (32 + sp)))))

/-- TRAIN_RECEIVE, LINK_UP, TRAINING_TIMEOUT, DRAINED_POINT and DRAIN_DARK: a partner's TRAIN shows its identity, agrees on the
lanes and is answered, a link that has locked, with a skew of up to 400 ns and its port block at a level, goes to state 3 UP on
the lanes agreed, one that has not trains again, and one that has drained goes dark, or trains where no reset takes it. -/
def Obligations.LinksTrainAndDrain : Prop :=
  ∀ (lport : Fin 2048) (t : Train) (crc : BitVec 32) (locked : BitVec 4) (skew : BitVec 16) (s : State),
    s.mod.isLport lport.val = true →
    (∀ b i, b = blockOf lport.val → i = s.mod.linkIx lport.val →
      (s.mod.linkState lport.val = 2 ∨ s.mod.linkState lport.val = 4) → s.mod.deaf lport.val = false →
      (t.phase = 1 →
        ∃ m' : Module, exec (.trainReceive lport (OrderedSet.train t).crc t) s = .next { s with mod := m' } ∧
          m'.getF (K.lnkLinkPeera_LOC b i) = t.loc.toNat ∧ m'.getF (K.lnkLinkPeerb_INCARNATION b i) = t.incarnation.toNat ∧
          m'.getF (K.lnkLinkPeerb_PORT b i) = t.port.toNat ∧ m'.getF (K.lnkLinkPeerb_Q b i) = t.q.toNat ∧
          (m'.lnk lport.val).agreed =
            some ((lanesIn (s.mod.offer lport.val) (15 - t.offer.toNat)).map (2 ^ ·)).sum ∧
          m'.out.length = s.mod.out.length + 1) ∧
      (t.phase = 2 →
        ∃ m' : Module, exec (.trainReceive lport (OrderedSet.train t).crc t) s = .next { s with mod := m' } ∧
          (m'.lnk lport.val).peerInit = (List.range 8).map (fun vc => (t.credits.getD vc 0).toNat) ∧
          (m'.lnk lport.val).agreed =
            some ((lanesIn (s.mod.offer lport.val) (15 - t.offer.toNat)).map (2 ^ ·)).sum ∧ m'.regs = s.mod.regs ∧
          m'.out.length = s.mod.out.length + 1) ∧
      (crc ≠ (OrderedSet.train t).crc →
        exec (.trainReceive lport crc t) s = .next { s with mod := s.mod.raise .link_OS_CRC_FAIL b }) ∧
      (∀ lanes, lanes = ((natsWhere 4 (fun k => bitOf (s.mod.agreedLanes lport.val) k &&
          bitOf locked.toNat k)).map (2 ^ ·)).sum → lanes ≠ 0 → skew.toNat ≤ 400 → s.mod.mayTrain lport.val = true →
        ∃ m' : Module, exec (.linkUp lport ⟨locked, skew⟩) s = .next { s with mod := m' } ∧ m'.linkState lport.val = 3 ∧
          m'.lanesUp lport.val = lanes ∧ m'.Happened s.mod .lnk_LINK_UP b) ∧
      (skew.toNat ≤ 400 → s.mod.mayTrain lport.val = false → exec (.linkUp lport ⟨locked, skew⟩) s = .next s) ∧
      (∃ m' : Module, exec (.trainingTimeout lport) s = .next { s with mod := m' } ∧
        m'.linkState lport.val = (if s.mod.offer lport.val = 0 then 6 else s.mod.linkState lport.val) ∧
        m'.getF (K.lnkLinkState_RETRAINS b i) = min 255 (s.mod.getF (K.lnkLinkState_RETRAINS b i) + 1) ∧
        m'.Happened s.mod .lnk_RETRAIN b)) ∧
    (s.mod.linkState lport.val = 5 → (s.mod.lnk lport.val).draining = true → (s.mod.lnk lport.val).drained = false →
      (s.mod.resetTakes lport.val = true →
        ∃ m' : Module, exec (.drainedPoint lport) s = .next { s with mod := m' } ∧ (m'.lnk lport.val).drained = true ∧
          m'.linkState lport.val = 5) ∧
      (s.mod.resetTakes lport.val = false → s.mod.offer lport.val ≠ 0 →
        ∃ m' : Module, exec (.drainedPoint lport) s = .next { s with mod := m' } ∧ m'.linkState lport.val = 4)) ∧
    (s.mod.linkState lport.val = 5 → (s.mod.lnk lport.val).drained = true →
      ∃ m' : Module, exec (.drainDark lport) s = .next { s with mod := m' } ∧ m'.linkState lport.val = 0 ∧
        m'.lanesUp lport.val = 0)

/-! ### Forwarding, buffers and scheduling -/

/-- FWD_TBL_READ_ACTIVE, FWD_TBL_READ_SHADOW, FWD_TBL_WRITE_SHADOW and FWD_TBL_DONE: a sector's table command waits with its
data, BUSY shows it, and its end reads an entry into the data registers, its values clamped and its reserved bits 0, or writes
the shadow, never the active table.
COL_GRP_READ_ACTIVE, COL_GRP_READ_SHADOW, COL_GRP_WRITE_SHADOW and COL_GRP_DONE: the same of the group tables, an entry's values
clamped as it is written. -/
def Obligations.TablesAreCommanded : Prop :=
  (∀ (req : Requester) (sec : Fin 8) (table : FwdTable) (index : BitVec 16) (i op : Nat) (data : BitVec 64) (s : State),
     (s.mod.answers .fwd sec.val = true → sec.val < s.mod.liveCount .fwd → s.mod.isOn (K.fwdTblStat_BUSY sec.val) = false →
       (∃ (m' : Module) (was : BitVec 64), exec (.fwdTblReadActive sec table index) s = .next { s with mod := m' } ∧
         m'.fwd.busy = s.mod.fwd.busy ++ [(sec.val, 0, table, fwdIndex table index.toNat, was)] ∧
         m'.getF (K.fwdTblStat_BUSY sec.val) = 1 ∧ m'.RegsKept s.mod [K.fwdTblStat_BUSY sec.val]) ∧
       (∃ (m' : Module) (was : BitVec 64), exec (.fwdTblReadShadow sec table index) s = .next { s with mod := m' } ∧
         m'.fwd.busy = s.mod.fwd.busy ++ [(sec.val, 1, table, fwdIndex table index.toNat, was)] ∧
         m'.getF (K.fwdTblStat_BUSY sec.val) = 1 ∧ m'.RegsKept s.mod [K.fwdTblStat_BUSY sec.val]) ∧
       (s.mod.mayAccess req 1 = true →
         ∃ m' : Module, exec (.fwdTblWriteShadow req sec ⟨table, index⟩) s = .next { s with mod := m' } ∧
           m'.fwd.busy = s.mod.fwd.busy ++ [(sec.val, 2, table, fwdIndex table index.toNat,
             BitVec.ofNat 64 (if table = .set then
               s.mod.lowHalf req .fwdTblDataLo sec.val 0 (s.mod.getF (K.fwdTblDataLo_DATA sec.val))
             else s.mod.getF (K.fwdTblDataHi_DATA sec.val) * 2 ^ 32 + s.mod.getF (K.fwdTblDataLo_DATA sec.val)))] ∧
           m'.getF (K.fwdTblStat_BUSY sec.val) = 1 ∧ m'.RegsKept s.mod [K.fwdTblStat_BUSY sec.val]) ∧
       (s.mod.mayAccess req 1 = false → exec (.fwdTblWriteShadow req sec ⟨table, index⟩) s = .next s)) ∧
     (s.mod.fwd.copying = true → exec (.fwdTblDone sec) s = .next s) ∧
     (s.mod.fwd.copying = false → s.mod.fwd.busy.find? (fun b => b.1 == sec.val) = some (sec.val, op, table, i, data) →
       (2 ≤ op →
         ∃ m' : Module, exec (.fwdTblDone sec) s = .next { s with mod := m' } ∧ m'.fwd.active = s.mod.fwd.active ∧
           m'.fwd.shadow.entry table i =
             (match table with
              | .route => (RouteEntry.decode data).encode
              | .set => (setEntry (data.setWidth 32)).setWidth 64
              | .member => (Member.decode data).encode) ∧
           m'.getF (K.fwdTblStat_BUSY sec.val) = 0 ∧ ∀ t, t < 8 → m'.getF (K.fwdVer_SHADOW_DIRTY t) = 1) ∧
       (op < 2 →
         ∃ m' : Module, exec (.fwdTblDone sec) s = .next { s with mod := m' } ∧ m'.fwd.active = s.mod.fwd.active ∧
           m'.fwd.shadow = s.mod.fwd.shadow ∧ m'.getF (K.fwdTblStat_BUSY sec.val) = 0 ∧
           m'.getF (K.fwdTblDataHi_DATA sec.val) * 2 ^ 32 + m'.getF (K.fwdTblDataLo_DATA sec.val) =
             ((if op = 0 then s.mod.fwd.active else s.mod.fwd.shadow).entry table i).toNat))) ∧
  (∀ (sec : Fin 8) (member : Bool) (index : BitVec 18) (i op : Nat) (data : BitVec 256) (s : State),
     (s.mod.answers .col sec.val = true → sec.val < s.mod.liveCount .col → s.mod.isOn (K.colGrpStat_BUSY sec.val) = false →
       (∃ m' : Module, exec (.colGrpReadActive sec member index) s = .next { s with mod := m' } ∧
         m'.col.busy = s.mod.col.busy ++ [(sec.val, 0, member, grpIndex member index.toNat, s.mod.grpData sec.val)] ∧
         m'.getF (K.colGrpStat_BUSY sec.val) = 1 ∧ m'.RegsKept s.mod [K.colGrpStat_BUSY sec.val]) ∧
       (∃ m' : Module, exec (.colGrpReadShadow sec member index) s = .next { s with mod := m' } ∧
         m'.col.busy = s.mod.col.busy ++ [(sec.val, 1, member, grpIndex member index.toNat, s.mod.grpData sec.val)] ∧
         m'.getF (K.colGrpStat_BUSY sec.val) = 1 ∧ m'.RegsKept s.mod [K.colGrpStat_BUSY sec.val]) ∧
       (∃ m' : Module, exec (.colGrpWriteShadow sec member index) s = .next { s with mod := m' } ∧
         m'.col.busy = s.mod.col.busy ++ [(sec.val, 2, member, grpIndex member index.toNat, s.mod.grpData sec.val)] ∧
         m'.getF (K.colGrpStat_BUSY sec.val) = 1 ∧ m'.RegsKept s.mod [K.colGrpStat_BUSY sec.val])) ∧
     (s.mod.fwd.copying = false → s.mod.col.busy.find? (fun b => b.1 == sec.val) = some (sec.val, op, member, i, data) →
       (2 ≤ op →
         ∃ m' : Module, exec (.colGrpDone sec) s = .next { s with mod := m' } ∧ m'.col.active = s.mod.col.active ∧
           m'.col.shadow.entry member i = legalGroup member data ∧
           (member = false → i ∈ m'.col.written) ∧ m'.getF (K.colGrpStat_BUSY sec.val) = 0) ∧
       (op < 2 →
         ∃ m' : Module, exec (.colGrpDone sec) s = .next { s with mod := m' } ∧ m'.col.active = s.mod.col.active ∧
           m'.col.shadow = s.mod.col.shadow ∧ m'.getF (K.colGrpStat_BUSY sec.val) = 0 ∧
           m'.grpData sec.val = (if op = 0 then s.mod.col.active else s.mod.col.shadow).entry member i)))

/-- FWD_VER_SWITCH and SHADOW_COPY_DONE: the shadow tables become the active ones in every sector at once, the version goes
up and the shadow is closed until its copy is done; with sector lock held the switch waits for the period edge, and while the
copy after another one runs it waits behind the shadow writes that wait (the model's choice, notes/assumptions/171.md). -/
def Obligations.VersionSwitch : Prop :=
  ∀ (req : Requester) (s : State),
    (s.mod.mayAccess req 1 = true → s.mod.answers .fwd 0 = true → 0 < s.mod.liveCount .fwd → s.mod.img.patch = none →
      (s.mod.holdsWrites = false → s.mod.fwd.copying = false →
        ∃ m' : Module, exec (.fwdVerSwitch req) s = .next { s with mod := m' } ∧ m'.fwd.active = s.mod.fwd.shadow ∧
          m'.fwd.shadow = s.mod.fwd.shadow ∧ m'.col.active = s.mod.col.shadow ∧ m'.fwd.copying = true ∧
          (∀ sec, sec < 8 → m'.getF (K.fwdVer_VERSION sec) = (s.mod.getF (K.fwdVer_VERSION s.mod.lead) + 1) % 2 ^ 16 ∧
            m'.getF (K.fwdVer_SHADOW_DIRTY sec) = 0)) ∧
      (s.mod.holdsWrites = false → s.mod.fwd.copying = true →
        exec (.fwdVerSwitch req) s = .next { s with mod := { s.mod with fwd := { s.mod.fwd with
          waiting := s.mod.fwd.waiting ++ [.switch] } } }) ∧
      (s.mod.holdsWrites = true →
        ∃ m' : Module, exec (.fwdVerSwitch req) s = .next { s with mod := m' } ∧ m'.fwd = s.mod.fwd ∧
          m'.lock.heldSwitch = some (s.mod.getF (K.fwdVer_VERSION s.mod.lead)))) ∧
    (s.mod.fwd.copying = true → HeldTable.switch ∉ s.mod.fwd.waiting →
      ∃ m' : Module, exec .shadowCopyDone s = .next { s with mod := m' } ∧ m'.fwd.copying = false ∧ m'.fwd.waiting = [] ∧
        m'.fwd.active = s.mod.fwd.active ∧
        (s.mod.fwd.waiting = [] → m'.fwd.shadow = s.mod.fwd.shadow)) ∧
    (∀ rest, s.mod.fwd.copying = true → s.mod.fwd.waiting = .switch :: rest →
      ∃ m' : Module, exec .shadowCopyDone s = .next { s with mod := m' } ∧ m'.fwd.copying = true ∧ m'.fwd.waiting = rest ∧
        m'.fwd.active = s.mod.fwd.shadow ∧ m'.col.active = s.mod.col.shadow) ∧
    (s.mod.fwd.copying = false → exec .shadowCopyDone s = .next s)

/-- ESCAPE and ADMISSION: the head of an ingress FIFO whose port has its turn at an output queue with a place for it leaves the
FIFO, and is discarded there where its words cannot be corrected; a UNICAST head, or outside TIMETABLE a SLOT head, that has
waited long enough is looked up again as an escape frame, where the governor has given its pipeline a level; an empty FIFO has
nothing to do. FRAME_LAUNCH: the frame that the
scheduler grants leaves on the link with the next LSEQ, the ACK and its padded length; one with an uncorrectable word is
discarded; with nothing eligible nothing leaves. -/
def Obligations.HeadsMoveAndFramesLeave : Prop :=
  (∀ (lport : Fin 2048) (vc : Fin 8) (f : QFrame) (rest : List QFrame) (out ovc : Nat) (found : Secded)
      (errs : List (BitVec 24 × Secded)) (s : State),
     (s.mod.fifo lport.val vc.val = [] →
       exec (.admission lport ⟨vc, found, errs⟩) s = .next s ∧ exec (.escape lport vc) s = .next s) ∧
     (s.mod.fifo lport.val vc.val = f :: rest → f.dest = .out out ovc → s.mod.hostKeeps out f.frame = false →
       isGroupType f.frame.h.ftype.toNat = false → s.mod.standsFor out = true → s.mod.slotTooLong out ovc f.frame = false →
       s.mod.hasTurn out ovc (portOf lport.val) = true → s.mod.reseqs f.frame out = false →
       s.mod.tollOk f.frame out ovc = true → s.mod.place out ovc f.frame.len = .sram →
       (found ≠ .double →
         ∃ m' : Module, exec (.admission lport ⟨vc, found, errs⟩) s = .next { s with mod := m' } ∧
           m'.fifo lport.val vc.val = rest ∧
           (m'.q out ovc).sram.map (·.frame) = (s.mod.q out ovc).sram.map (·.frame) ++ [f.frame]) ∧
       (found = .double →
         ∃ m' : Module, exec (.admission lport ⟨vc, found, errs⟩) s = .next { s with mod := m' } ∧
           m'.fifo lport.val vc.val = rest ∧ m'.q out ovc = s.mod.q out ovc ∧
           ∀ k, evtKey .buf_SRAM_UE (sectorOf lport.val) = some k → m'.getF k = 1)) ∧
     (∀ f' l v m2, s.mod.fifo lport.val vc.val = f :: rest → f.dest = .out out ovc →
       f.frame.h.ftype = 1 ∨ (f.frame.h.ftype = 8 ∧ s.mod.timetable = false) → f.frame.h.esc = 0 →
       s.mod.admits (.pipe (Fin.ofNat 8 (originOf f.inLport))) = true →
       (s.mod.raise .fwd_ESCAPE (originOf f.inLport)).lookup (originOf f.inLport)
         (f.asArrived.withH { f.asArrived.h with esc := 1 }) = (m2, some (f', l, v)) →
       ∃ m' : Module, exec (.escape lport vc) s = .next { s with mod := m' } ∧
         m'.fifo lport.val vc.val = { f with frame := f', dest := .out l v } :: rest) ∧
     (s.mod.fifo lport.val vc.val = f :: rest →
       (f.frame.h.ftype ≠ 1 ∧ f.frame.h.ftype ≠ 8) ∨
         s.mod.admits (.pipe (Fin.ofNat 8 (originOf f.inLport))) = false →
       exec (.escape lport vc) s = .next s)) ∧
  (∀ (lport : Fin 2048) (vc : Nat) (f : QFrame) (rest : List QFrame) (m2 : Module) (found : Secded) (full : Bool) (s : State),
     s.mod.standsFor lport.val = true → s.mod.timetable = false →
     ((∀ v, v < 7 → s.mod.headState lport.val v ≠ .ready) → exec (.frameLaunch lport ⟨found, full⟩) s = .next s) ∧
     (s.mod.seekReady lport.val = (m2, some vc) → (m2.q lport.val vc).sram = f :: rest → f.inLport < 2048 →
       (found ≠ .double →
         ∃ m' : Module, exec (.frameLaunch lport ⟨found, full⟩) s = .next { s with mod := m' } ∧
           m'.out = s.mod.out ++ [.data lport.val ((s.mod.lnk lport.val).header (s.mod.lnk lport.val).nextLseq vc f.frame.len
             false) f.frame] ∧
           (m'.lnk lport.val).nextLseq = (s.mod.lnk lport.val).nextLseq + 1) ∧
       (found = .double →
         ∃ m' : Module, exec (.frameLaunch lport ⟨found, full⟩) s = .next { s with mod := m' } ∧ m'.out = s.mod.out ∧
           (m'.lnk lport.val).nextLseq = (s.mod.lnk lport.val).nextLseq)))

/-- CARAFE_CHUNK_CLOSE, CARAFE_READBACK and WHEEL_SLOT: the oldest chunk that fills closes, the oldest closed one is read back into
the queue's SRAM part, an uncorrectable word in it counting HBM_UE, and a due wheel entry refills its shaper. TM_Q_RATE_WRITE and TM_Q_BURST_WRITE: a written rate or
burst of the selected queue is clamped and held pending; with sector lock held the write itself waits, and counts
WRITE_HELD. -/
def Obligations.CarafeWheelAndShapersMove : Prop :=
  (∀ (lport : Fin 2048) (vc : Fin 8) (sec : Fin 8) (c : Chunk) (older rest : List Chunk) (k : Nat × Nat) (s : State),
     ((s.mod.q lport.val vc.val).carafe = older ++ c :: rest → (∀ x ∈ older, x.closed = true) → c.closed = false →
       ∃ m' : Module, exec (.carafeChunkClose lport vc) s = .next { s with mod := m' } ∧
         (m'.q lport.val vc.val).carafe = older ++ { c with closed := true } :: rest ∧
         m' = { s.mod with buf := m'.buf }) ∧
     ((∀ x ∈ (s.mod.q lport.val vc.val).carafe, x.closed = true) → exec (.carafeChunkClose lport vc) s = .next s) ∧
     ((s.mod.q lport.val vc.val).carafe = c :: rest → s.mod.mayReadBack lport.val vc.val = true → c.handBack = false →
       (∀ x ∈ s.mod.buf.ctxs, x.lport = lport.val → x.blocked = false) →
       ∃ m' : Module, exec (.carafeReadback lport vc none) s = .next { s with mod := m' } ∧
         (m'.q lport.val vc.val).carafe = rest ∧
         (m'.q lport.val vc.val).sram = (s.mod.q lport.val vc.val).sram ++ c.frames) ∧
     (∀ bad, s.mod.mayReadBack lport.val vc.val = false → exec (.carafeReadback lport vc bad) s = .next s) ∧
     (∀ i x, (s.mod.q lport.val vc.val).carafe = c :: rest → s.mod.mayReadBack lport.val vc.val = true →
       s.mod.hbmChunk c.index = some x →
       ∃ m' : Module, exec (.carafeReadback lport vc (some i)) s = .next { s with mod := m' } ∧
         ∀ key, evtKey .hbm_HBM_UE (octetStack x.sector x.octet) = some key → m'.getF key = 1) ∧
     (s.mod.dueIn sec.val (s.mod.buf.wheel / slotUnits % 4096) = [] → exec (.wheelSlot sec) s = .next s) ∧
     (∀ t sl, s.mod.dueIn sec.val (s.mod.buf.wheel / slotUnits % 4096) = [k] →
       (s.mod.q k.1 k.2).shaper.wheel = some (t, sl, 0) →
       exec (.wheelSlot sec) s = .next { s with mod := s.mod.refillQ k.1 k.2 })) ∧
  (∀ (req : Requester) (sec : Fin 8) (data : Word) (l v : Nat) (s : State),
     s.mod.mayAccess req 1 = true → s.mod.answers .tm sec.val = true → sec.val < s.mod.liveCount .tm →
     s.mod.tmSel sec.val = (l, v) →
     (s.mod.holdsWrites = false →
       (∃ m' : Module, exec (.tmQRateWrite req sec data) s = .next { s with mod := m' } ∧
         (m'.q l v).shaper.pending.map Prod.fst = some (min 800000 (bitsOf data.toNat 19 0)) ∧
         m' = { s.mod with buf := m'.buf }) ∧
       (∃ m' : Module, exec (.tmQBurstWrite req sec data) s = .next { s with mod := m' } ∧
         (m'.q l v).shaper.pending.map Prod.snd = some (clampTo 9 1024 (bitsOf data.toNat 10 0)) ∧
         m' = { s.mod with buf := m'.buf })) ∧
     (s.mod.holdsWrites = true →
       ∃ m' : Module, exec (.tmQRateWrite req sec data) s = .next { s with mod := m' } ∧ m'.buf = s.mod.buf ∧
         m'.lock.held.length = s.mod.lock.held.length + 1 ∧ m'.Happened s.mod .sched_WRITE_HELD sec.val))

/-- RESEQ_OPEN_END, RESEQ_TIMEOUT and RESEQ_IDLE_CLOSE: a context whose opening or whose waiting ends releases what it holds
from the nearest held SEQ on, to its queue where the link stands and its words are right, and an idle one closes. Each of the
three does what it does in every state: with no context of the flow, or one that it does not concern, nothing. -/
def Obligations.ContextsReleaseAndClose : Prop :=
  ∀ (lport : Fin 2048) (src dst : BitVec 32) (flow : BitVec 16) (errs : List (BitVec 24 × Secded)) (c : Ctx) (f : QFrame)
    (l v : Nat) (s : State),
    (s.mod.ctx lport.val (src, dst, flow) = none →
      exec (.reseqOpenEnd lport ⟨src, dst⟩ flow errs) s = .next s ∧
        exec (.reseqTimeout lport ⟨src, dst⟩ flow errs) s = .next s ∧ exec (.reseqIdleClose lport src dst flow) s = .next s) ∧
    (s.mod.ctx lport.val (src, dst, flow) = some c →
    (c.opening = false → exec (.reseqOpenEnd lport ⟨src, dst⟩ flow errs) s = .next s) ∧
    (c.opening = true → c.held = [] →
      exec (.reseqOpenEnd lport ⟨src, dst⟩ flow errs) s = .next { s with mod := s.mod.closeCtx c }) ∧
    (c.opening = true → c.held ≠ [] →
      ∃ m' : Module, exec (.reseqOpenEnd lport ⟨src, dst⟩ flow errs) s = .next { s with mod := m' } ∧
        (c.ending = false → (m'.ctx lport.val (src, dst, flow)).map (·.opening) = some false)) ∧
    (c.opening = true ∨ c.held = [] → exec (.reseqTimeout lport ⟨src, dst⟩ flow errs) s = .next s) ∧
    (c.opening = false → c.held ≠ [] →
      ∃ m' : Module, exec (.reseqTimeout lport ⟨src, dst⟩ flow errs) s = .next { s with mod := m' } ∧
        (c.ending = false → (m'.ctx lport.val (src, dst, flow)).map (·.opening) = some false) ∧
        (c.blocked = false → ∀ k, evtKey .buf_RESEQ_SKIP c.sector = some k → m'.getF k = 1)) ∧
    (c.held = [] → c.opening = false →
      exec (.reseqIdleClose lport src dst flow) s = .next { s with mod := s.mod.closeCtx c } ∧
        (s.mod.closeCtx c).ctx lport.val (src, dst, flow) = none) ∧
    (c.held ≠ [] ∨ c.opening = true → exec (.reseqIdleClose lport src dst flow) s = .next s) ∧
    (c.opening = true → c.ending = false → c.held = [f] → c.gone = [] → f.dest = .out l v → f.onDie = true →
      (s.mod.standsFor l = true → (s.mod.q l v).spills = false) →
      ∃ (m' : Module) (c' : Ctx), exec (.reseqOpenEnd lport ⟨src, dst⟩ flow errs) s = .next { s with mod := m' } ∧
        m'.ctx lport.val (src, dst, flow) = some c' ∧ c'.held = [] ∧ c'.opening = false ∧
        c'.expect = f.frame.h.seq + 1 ∧
        (s.mod.standsFor l = true → errOf errs f.frame.h.seq ≠ .double → (m'.q l v).sram = (s.mod.q l v).sram ++ [f])) ∧
    (c.opening = false → c.ending = false → c.held = [f] → c.gone = [] → f.dest = .out l v → f.onDie = true →
      (s.mod.standsFor l = true → (s.mod.q l v).spills = false) →
      ∃ (m' : Module) (c' : Ctx), exec (.reseqTimeout lport ⟨src, dst⟩ flow errs) s = .next { s with mod := m' } ∧
        m'.ctx lport.val (src, dst, flow) = some c' ∧ c'.held = [] ∧ c'.expect = f.frame.h.seq + 1 ∧
        (s.mod.standsFor l = true → errOf errs f.frame.h.seq ≠ .double →
          (m'.q l v).sram = (s.mod.q l v).sram ++ [f] ∧
          (f.frame.h.seq ≠ c.expect → m'.Happened s.mod .buf_RESEQ_SKIP c.sector))))

/-- PLANE_FAIL, PLANE_SPARED, SRAM_SCRUB and SRAM_REMAP_DONE: a failed plane leaves every sector's mask and the spare trains
for it, then joins it; a corrected word is counted, and the third in a row at one word fails its row; a moved row is
recorded. -/
def Obligations.PlanesAndRowsAreSpared : Prop :=
  ∀ (p : Fin 9) (q sp : Nat) (sec : Fin 8) (word : BitVec 25) (bank : Fin 512) (row : Fin 2048) (s : State),
    (bitOf s.mod.planes p.val = true → s.mod.getF (K.bufStatus_SPARE_PLANE s.mod.lead) ≤ 8 → s.mod.buf.planeTraining = none →
      ∃ m' : Module, exec (.planeFail p) s = .next { s with mod := m' } ∧
        (∀ t, t < 8 → m'.getF (K.bufStatus_PLANES_ACTIVE t) = (s.mod.planes - 2 ^ p.val) % 2 ^ 9) ∧
        m'.buf.planeTraining = some (p.val, s.mod.getF (K.bufStatus_SPARE_PLANE s.mod.lead))) ∧
    (s.mod.buf.planeTraining = some (q, sp) →
      ∃ m' : Module, exec .planeSpared s = .next { s with mod := m' } ∧
        (∀ t, t < 8 → m'.getF (K.bufStatus_PLANES_ACTIVE t) = (s.mod.planes + 2 ^ sp) % 2 ^ 9 ∧
          m'.getF (K.bufStatus_SPARE_PLANE t) = 15) ∧ m'.buf.planeTraining = none) ∧
    (exec (.sramScrub sec word .clean) s = .next { s with mod := { s.mod with sram := { s.mod.sram with
      ceRun := Tbl.del s.mod.sram.ceRun (sec.val, word.toNat) } } }) ∧
    (Tbl.get s.mod.sram.ceRun 0 (sec.val, word.toNat) < 2 →
      ∃ m' : Module, exec (.sramScrub sec word .single) s = .next { s with mod := m' } ∧
        Tbl.get m'.sram.ceRun 0 (sec.val, word.toNat) = Tbl.get s.mod.sram.ceRun 0 (sec.val, word.toNat) + 1 ∧
        m'.sram.rows = s.mod.sram.rows ∧
        (sec.val ∉ s.mod.power.sectorsDown → m'.Happened s.mod .buf_SRAM_CE sec.val)) ∧
    (∀ g, Tbl.get s.mod.sram.ceRun 0 (sec.val, word.toNat) = 2 →
      s.mod.sramRow sec.val (sramBank word.toNat) (sramRowOf word.toNat) = RowState.sound →
      s.mod.rowSpare sec.val (sramBank word.toNat) (sramRowOf word.toNat) = some g →
      ∃ m' : Module, exec (.sramScrub sec word .single) s = .next { s with mod := m' } ∧
        (m'.sramRow sec.val (sramBank word.toNat) (sramRowOf word.toNat)).moving = some g ∧
        (m'.sramRow sec.val (sramBank word.toNat) (sramRowOf word.toNat)).remaps = 1) ∧
    (∀ g, (s.mod.sramRow sec.val bank.val row.val).moving = some g →
      (s.mod.sramRow sec.val bank.val row.val).rehearsed = false →
      ∃ m' : Module, exec (.sramRemapDone sec bank row) s = .next { s with mod := m' } ∧
        (m'.sramRow sec.val bank.val row.val).moving = none ∧
        m'.mpc.repairWait.length = s.mod.mpc.repairWait.length + 1 ∧ m'.regs = s.mod.regs) ∧
    ((s.mod.sramRow sec.val bank.val row.val).moving = none → exec (.sramRemapDone sec bank row) s = .next s)

/-! ### Collectives -/

/-- CONTRIBUTION_RECEIVE and PARTIAL_RECEIVE: a contribution that fits, or a child's partial, for a segment whose engine takes
it is added to the segment, once; where a duplicated path of the engine disagrees over it, the failure is noted. Behind a frame
that waits at its ingress it waits. -/
def Obligations.ContributionsAreAdded : Prop :=
  ∀ (lport : Fin 2048) (f : Frame) (slot i sub : Nat) (stale : Bool) (op : Op) (e : MemberEntry) (sg : Seg) (s : State),
    (∀ (vc : Nat) (g : Found) (erred : Bool), vc = vcOf s.mod.profile f.h → s.mod.findGroup f = some g →
      s.mod.fifo lport.val vc ≠ [] →
      (f.col.kind = 0 → exec (.contributionReceive lport ⟨f, stale, erred⟩) s =
        .next { s with mod := s.mod.waitIngress (s.mod.atIngress lport.val vc f f (.engine g) 0) }) ∧
      (f.col.kind = 1 → exec (.partialReceive lport ⟨f, stale, erred⟩) s =
        .next { s with mod := s.mod.waitIngress (s.mod.atIngress lport.val vc f f (.engine g) 0) })) ∧
    (s.mod.RunsFor lport.val f slot op (some e) → op.state ≠ 3 → op.passes = false → op.pra = false →
    op.seg f.col.segment = some sg → sg.k = f.col.segment → s.mod.takes sg = true → sg.sent = false →
    sg.taken ≤ sg.got.length → s.mod.ranksLost op sg.got = false → s.mod.rankLost op f.col.source = false →
    (s.mod.hasHbm op.home = true → (sg.need f.data.length = 0 ∨ s.mod.holdsWrite op.home op.desc.ordered (sg.need f.data.length) = false) ∧
      (s.mod.retain slot op sg f.data.length).2.isSome = true) →
    sg.has f.col.source i sub = false →
    (f.col.kind = 0 → op.expects e.child false = true →
      op.slotOf f.col.segment f.h.seq.toNat false = some (i, sub) → op.fits f.col.segment i f.col f.data = true →
      (∃ (m' : Module) (op' : Op) (sg' : Seg), exec (.contributionReceive lport ⟨f, stale, false⟩) s = .next { s with mod := m' } ∧
        m'.op slot = some op' ∧ op'.seg f.col.segment = some sg' ∧ (f.col.source, i, 0) ∈ sg'.added ∧
        sg'.window = sg.window) ∧
      (op.desc.ordered = false →
        ∃ m' : Module, exec (.contributionReceive lport ⟨f, stale, true⟩) s = .next { s with mod := m' } ∧
          (Tbl.get m'.rde.fails [] (sg.engine.getD 0)).head?.map (·.at_) = some s.mod.elapsed)) ∧
    (f.col.kind = 1 → op.expects e.child true = true → e.child = true → op.desc.ordered = false →
      op.slotOf f.col.segment f.h.seq.toNat true = some (i, sub) →
      op.subFits (some sg) f.col.segment i f.col sub f.data = true →
      subsMeet ((sub, f.col.subOff, f.col.elems) :: sg.run f.col.source i) = true →
      ∃ (m' : Module) (op' : Op) (sg' : Seg), exec (.partialReceive lport ⟨f, stale, false⟩) s = .next { s with mod := m' } ∧
        m'.op slot = some op' ∧ op'.seg f.col.segment = some sg' ∧ (f.col.source, i, sub) ∈ sg'.added ∧
        sg'.window = sg.window))

/-- START_FRAME_RECEIVE: a start frame of an operation in its group's window takes the lowest free slot, where the group is
not fenced, its descriptor passes every check and its tree links are UP; a frame of another KIND is not its to take. -/
def Obligations.StartFrameStartsOperation : Prop :=
  ∀ (lport : Fin 2048) (f : Frame) (defIdx slot : Nat) (g : GroupDef) (e : MemberEntry) (s : State),
    (f.col.kind ≠ 3 → exec (.startFrameReceive lport f) s = .next s) ∧
    (f.col.kind = 3 → s.mod.fifo lport.val (vcOf s.mod.profile f.h) = [] →
    s.mod.col.active.directory (f.h.dst.toNat % 2 ^ 20) = some defIdx → defIdx ∈ s.mod.col.live →
    g = s.mod.col.active.groupDef defIdx → s.mod.opSlot defIdx f.h.flow.toNat = none →
    memberFor (s.mod.col.active.entries g) lport.val f.col = some e →
    (Descriptor.decode f.col.descriptor).jobEpoch = g.jobEpoch → (s.mod.opWindow defIdx).place f.h.flow.toNat = .inside →
    s.mod.fenced g = false → s.mod.checkDesc g f.col.fingerprint f.col.descriptor f.h.dst.toNat = none →
    s.mod.freeSlot = some slot → (Descriptor.decode f.col.descriptor).arith = true →
    (Descriptor.decode f.col.descriptor).ordered = false →
    (∀ l ∈ (Op.start defIdx g (s.mod.col.active.entries g) f.h.flow.toNat f.col).treeLinks, s.mod.isUp l = true) →
    ∃ (m' : Module) (op : Op), exec (.startFrameReceive lport f) s = .next { s with mod := m' } ∧ m'.op slot = some op ∧
      op.state = 1 ∧ op.defIdx = defIdx ∧ op.op = f.h.flow.toNat ∧ op.fp = f.col.fingerprint ∧ op.segs = [] ∧
      m' = { s.mod with regs := m'.regs, counters := m'.counters, col := m'.col
                        log := { s.mod.log with pend := m'.log.pend } })

/-- RESULT_RECEIVE, ACK_RECEIVE, DONE_RECEIVE, ABORT_REQUEST_RECEIVE and ABORT_RECEIVE: a result is noted, an ACK counted,
and DONE, ABORT and the last ACK at the root retire the operation; an abort request below the root waits for its ABORT. -/
def Obligations.OperationFramesEndOperations : Prop :=
  ∀ (lport : Fin 2048) (f : Frame) (slot : Nat) (op : Op) (s : State),
    (∀ i sub, s.mod.RunsFor lport.val f slot op none → f.col.kind = 2 → op.state ≠ 3 →
      op.slotOf f.col.segment f.h.seq.toNat false = some (i, sub) → op.resultFits f.col.segment i f.col f.data = true →
      (f.col.segment, i) ∉ op.results →
      ∃ (m' : Module) (op' : Op), exec (.resultReceive lport f) s = .next { s with mod := m' } ∧ m'.op slot = some op' ∧
        op'.results = (f.col.segment, i) :: op.results) ∧
    (∀ e, s.mod.RunsFor lport.val f slot op (some e) → f.col.kind = 4 → op.state = 1 → Tbl.find op.acks lport.val = none →
      exec (.ackReceive lport f) s =
        .next { s with mod := s.mod.putOp slot { op with acks := Tbl.put op.acks lport.val f.col.count } }) ∧
    (∀ e, s.mod.RunsFor lport.val f slot op (some e) → f.col.kind = 4 → op.state = 2 → Tbl.find op.acks lport.val = none →
      op.gdef.root = true → op.n ≤ op.ackSum + f.col.count →
      ∃ m' : Module, exec (.ackReceive lport f) s = .next { s with mod := m' } ∧ m'.op slot = none ∧
        ∀ k, evtKey .col_OP_DONE op.home = some k → m'.getF k = 1) ∧
    (s.mod.RunsFor lport.val f slot op none → f.col.kind = 5 →
      ∃ m' : Module, exec (.doneReceive lport f) s = .next { s with mod := m' } ∧ m'.op slot = none ∧
        ∀ k, evtKey .col_OP_DONE op.home = some k → m'.getF k = 1) ∧
    (s.mod.RunsFor lport.val f slot op none → f.col.kind = 6 → f.h.phase = 1 →
      ∃ m' : Module, exec (.abortReceive lport f) s = .next { s with mod := m' } ∧ m'.op slot = none ∧
        ∀ k, evtKey .col_OP_ABORT op.home = some k → m'.getF k = 1) ∧
    (∀ e, s.mod.RunsFor lport.val f slot op (some e) → f.col.kind = 6 → f.h.phase = 0 →
      (op.gdef.root = true →
        ∃ m' : Module, exec (.abortRequestReceive lport f) s = .next { s with mod := m' } ∧ m'.op slot = none) ∧
      (op.gdef.root = false → op.state ≠ 3 →
        ∃ (m' : Module) (op' : Op), exec (.abortRequestReceive lport f) s = .next { s with mod := m' } ∧
          m'.op slot = some op' ∧ op'.state = 3 ∧ op'.segs = []))

/-- SEGMENT_COMPLETE and SIDE_TOTAL_READY: a complete segment whose residue checks leaves its engine, sent where no earlier
segment of a common recipient is still to come, and else ready; a failed check is noted against the engine; the segment with the
side element is held until the other sums are in; what the engine that a moving segment has left forms is discarded and
counted. -/
def Obligations.SegmentsLeaveTheirEngine : Prop :=
  ∀ (slot : Fin 4096) (k : BitVec 20) (erred : Bool) (op : Op) (sg : Seg) (s : State),
    s.mod.op slot.val = some op → op.seg k.toNat = some sg → sg.k = k.toNat → op.segDone + 1 ≠ op.desc.segments →
    (∀ x ∈ op.segs, x.2.ready = false) →
    (op.state = 1 → op.segComplete sg = true → sg.window ≠ none → sg.moving = false → sg.sent = false →
      sg.sideHeld = false → (op.desc.ordered = true → ∀ r, r < op.n → s.mod.rankLost op r = false) →
      (sg.corrupt = none → (op.desc.keepsResidue = true → sg.rin % residueP = sg.residueOut) →
        (op.gdef.root = false ∨
            ((op.holdsSide (s.mod.opRecipe op) k.toNat = false ∨ op.sideOthers.isSome = true) ∧ op.inTurn k.toNat = true) →
          ∃ (m' : Module) (op' : Op), exec (.segmentComplete slot k false) s = .next { s with mod := m' } ∧
            m'.op slot.val = some op' ∧ op'.segDone = op.segDone + 1 ∧ (op'.seg k.toNat).map (·.sent) = some true) ∧
        (op.gdef.root = true → op.holdsSide (s.mod.opRecipe op) k.toNat = false → op.inTurn k.toNat = false →
          ∃ (m' : Module) (op' : Op), exec (.segmentComplete slot k false) s = .next { s with mod := m' } ∧
            m'.op slot.val = some op' ∧ op'.segDone = op.segDone ∧ m'.out = s.mod.out ∧
            (op'.seg k.toNat).map (·.ready) = some true) ∧
        (op.gdef.root = true → op.holdsSide (s.mod.opRecipe op) k.toNat = true → op.sideOthers = none →
          ∃ (m' : Module) (op' : Op), exec (.segmentComplete slot k false) s = .next { s with mod := m' } ∧
            m'.op slot.val = some op' ∧ (op'.seg k.toNat).map (·.sideHeld) = some true)) ∧
      (∃ m' : Module, exec (.segmentComplete slot k true) s = .next { s with mod := m' } ∧
        ((Tbl.get m'.rde.fails [] (sg.engine.getD 0)).head?.map (·.at_)) = some s.mod.elapsed)) ∧
    (op.state ≠ 1 ∨ sg.sent = true ∨
        (sg.moving = false ∧ (sg.window = none ∨ op.segComplete sg = false ∨ sg.sideHeld = true)) →
      exec (.segmentComplete slot k erred) s = .next s) ∧
    (op.state = 1 → sg.sent = false → sg.moving = true → op.home ∉ s.mod.power.sectorsDown →
      ∃ m' : Module, exec (.segmentComplete slot k erred) s = .next { s with mod := m' } ∧ m'.OnlyShows s.mod ∧
        m'.Happened s.mod .col_COLL_STALE_PLACE op.home) ∧
    (op.sideOthers.isSome = true → op.segs.find? (fun x => x.2.sideHeld) = some (k.toNat, sg) →
      (op.inTurn k.toNat = true →
        ∃ (m' : Module) (op' : Op), exec (.sideTotalReady ⟨slot, false⟩) s = .next { s with mod := m' } ∧
          m'.op slot.val = some op' ∧ op'.segDone = op.segDone + 1 ∧ (op'.seg k.toNat).map (·.sent) = some true) ∧
      (∃ m' : Module, exec (.sideTotalReady ⟨slot, true⟩) s = .next { s with mod := m' } ∧
        ((Tbl.get m'.rde.fails [] (sg.engine.getD 0)).head?.map (·.at_)) = some s.mod.elapsed)) ∧
    (op.sideOthers = none → exec (.sideTotalReady ⟨slot, erred⟩) s = .next s)

/-- ROOT_TIMEOUT, BACKSTOP_TIMEOUT and COL_ABORT_CMD: the root's timer, another module's backstop and the manager's command
each end the operation, which leaves its slot, or asks its parent for the ABORT where the manager's command meets another
module; a slot without an operation answers with STATUS 1. -/
def Obligations.TimersAndManagerEndOperations : Prop :=
  ∀ (slot : Fin 4096) (sec : Fin 8) (op : Op) (s : State),
    (s.mod.op slot.val = some op → op.state ≠ 3 →
      (op.gdef.root = true →
        (∃ m' : Module, exec (.rootTimeout slot) s = .next { s with mod := m' } ∧ m'.op slot.val = none ∧
          ∀ k, evtKey .col_OP_ABORT op.home = some k → m'.getF k = 1) ∧
        exec (.backstopTimeout slot) s = .next s) ∧
      (op.gdef.root = false →
        (∃ m' : Module, exec (.backstopTimeout slot) s = .next { s with mod := m' } ∧ m'.op slot.val = none ∧
          ∀ k, evtKey .col_OP_ABORT op.home = some k → m'.getF k = 1) ∧
        exec (.rootTimeout slot) s = .next s) ∧
      (op.home = sec.val → s.mod.answers .col sec.val = true → sec.val < s.mod.liveCount .col →
        s.mod.holdsWrites = false →
        ∃ m' : Module, exec (.colAbortCmd sec slot) s = .next { s with mod := m' } ∧
          m'.getF (K.colAbortResult_STATUS sec.val) = 0 ∧
          (op.gdef.root = true → m'.op slot.val = none) ∧
          (op.gdef.root = false → (m'.op slot.val).map (·.state) = some 3))) ∧
    (s.mod.op slot.val = none →
      exec (.rootTimeout slot) s = .next s ∧ exec (.backstopTimeout slot) s = .next s ∧
      (s.mod.answers .col sec.val = true → sec.val < s.mod.liveCount .col → s.mod.holdsWrites = false →
        exec (.colAbortCmd sec slot) s = .next { s with mod := s.mod.setF (K.colAbortResult_STATUS sec.val) 1 }))

/-- WINDOW_OPEN, ENGINE_FAIL and MIGRATE_READY: a free window goes to the earliest-placed segment that waits with a contribution,
a failed engine leaves service with its pair's spare in its place, a spare in reserve that fails takes no role any more, and a
quarantine of the same cycle gives way to the failure, and a moved segment is ready on its new engine, which counts
RECOMPUTE as it takes again, in a free window, what was retained. -/
def Obligations.EnginesAndWindows : Prop :=
  ∀ (e : Fin 18) (slot : Fin 4096) (k : BitVec 20) (w : Nat) (x : Nat × Nat × Seg) (op : Op) (sg : Seg) (s : State),
    (s.mod.freeWindow e.val = some w → earliest ((s.mod.engineSegs e.val).filter s.mod.wantsWindow) = some x →
      s.mod.op x.1 = some op → op.seg x.2.1 = some sg → sg.k = x.2.1 → s.mod.ranksLost op sg.got = false →
      ∃ (m' : Module) (op' : Op), exec (.windowOpen ⟨e, false⟩) s = .next { s with mod := m' } ∧ m'.op x.1 = some op' ∧
        (op'.seg x.2.1).map (·.window) = some (some w)) ∧
    (∀ erred, s.mod.freeWindow e.val = none ∨ earliest ((s.mod.engineSegs e.val).filter s.mod.wantsWindow) = none →
      exec (.windowOpen ⟨e, erred⟩) s = .next s) ∧
    ((s.mod.getF (K.rdeStatus_ROLE e.val) = 0 ∨ s.mod.getF (K.rdeStatus_ROLE e.val) = 2) → e.val < 16 →
      s.mod.getF (K.rdeStatus_ROLE (spareOf e.val)) = 1 →
      ∃ m' : Module, exec (.engineFail e) s = .next { s with mod := m' } ∧ m'.getF (K.rdeStatus_ROLE e.val) = 4 ∧
        m'.getF (K.rdeStatus_SERVES e.val) = 15 ∧ m'.getF (K.rdeStatus_ROLE (spareOf e.val)) = 2 ∧
        m'.getF (K.rdeStatus_REPLACES (spareOf e.val)) = e.val ∧
        m'.mpc.repairWait.getLast?.map Prod.fst =
          some (BitVec.ofNat 64 (8 * 2 ^ 40 + e.val * 2 ^ 16 + spareOf e.val))) ∧
    (s.mod.getF (K.rdeStatus_ROLE e.val) = 1 ∨
        (s.mod.getF (K.rdeStatus_ROLE e.val) = 3 ∧ Tbl.find s.mod.rde.quarantined e.val = some s.mod.elapsed) →
      ∃ m' : Module, exec (.engineFail e) s = .next { s with mod := m' } ∧ m'.getF (K.rdeStatus_ROLE e.val) = 4 ∧
        (m'.mpc.repairWait.getLast?.map (fun x => (Repair.ofBody x.1).kind)) = some 8 ∧
        (s.mod.getF (K.rdeStatus_ROLE e.val) = 1 →
          m'.RegsKept s.mod [K.rdeStatus_ROLE e.val, K.rdeStatus_SERVES e.val])) ∧
    (3 ≤ s.mod.getF (K.rdeStatus_ROLE e.val) → Tbl.find s.mod.rde.quarantined e.val ≠ some s.mod.elapsed →
      exec (.engineFail e) s = .next s) ∧
    (s.mod.op slot.val = some op → op.seg k.toNat = some sg → sg.k = k.toNat → sg.moving = true →
      s.mod.ranksLost op sg.got = false →
      ∃ (m' : Module) (op' : Op), exec (.migrateReady slot ⟨k, false⟩) s = .next { s with mod := m' } ∧
        m'.op slot.val = some op' ∧ (op'.seg k.toNat).map (·.moving) = some false ∧
        ∀ f w', sg.engine = some f →
          (s.mod.putOp slot.val (op.putSeg { sg with moving := false })).earlierWaits f sg.order = false →
          (s.mod.putOp slot.val (op.putSeg { sg with moving := false })).freeWindow f = some w' →
          (op'.seg k.toNat).map (·.window) = some (some w') ∧
            (s.mod.rdeAdmits f = true → (f, 6) ∉ sg.counted → (∃ d ∈ sg.got, d.epoch < sg.epoch) →
              ∀ key, evtKey .rde_RECOMPUTE f = some key → m'.getF key = 1)) ∧
    (∀ erred, s.mod.op slot.val = some op → op.seg k.toNat = some sg → sg.moving = false →
      exec (.migrateReady slot ⟨k, erred⟩) s = .next s)

/-! ### Photonic arrays and HBM -/

/-- PRA_CONVERSION, PRA_REFERENCE, PRA_CHANNEL_RETURN, PRA_WEIGHT_UPDATE and SHADOW_COMPARE: a conversion is one term in
flight; good references pass terms on to the engine or the shadow check, failed ones take the channel out of service until
it returns, and one that has lost a ring is retired for good; a term beyond four LSB is a violation, and the fourth within a
second trips the array. -/
def Obligations.ConversionsAreChecked : Prop :=
  ∀ (a : Fin 4) (slot : Fin 4096) (seg : BitVec 20) (fslot : BitVec 11) (elem : BitVec 10) (group : BitVec 6) (chan : Fin 64)
    (code : BitVec 10) (ranks : List Nat) (op : Op) (sg : Seg) (t0 : PraTerm) (s : State),
    (s.mod.op slot.val = some op → op.seg seg.toNat = some sg → s.mod.praState a.val = 2 → s.mod.admits (.pra a) = true →
      op.pra = true →
      praOf op.home = a.val → op.state = 1 → sg.window ≠ none → sg.moving = false → sg.sent = false →
      s.mod.chanUp a.val chan.val = true → elem.toNat < op.desc.slotElems seg.toNat fslot.toNat →
      s.mod.freeRanks a.val slot.val sg fslot.toNat elem.toNat (s.mod.groupRanks op group.toNat) = ranks → ranks ≠ [] →
      s.mod.badGroup op (s.mod.groupRanks op group.toNat) = false →
      (∀ r ∈ s.mod.groupRanks op group.toNat, (sg.delivery r fslot.toNat).isSome = true) →
      ∃ (m' : Module) (t : PraTerm), exec (.praConversion a slot seg fslot elem group chan code) s = .next { s with mod := m' } ∧
        m' = { s.mod with pra := m'.pra } ∧ (m'.praAt a.val).inFlight = (s.mod.praAt a.val).inFlight ++ [t] ∧
        t.slot = slot.val ∧ t.seg = seg.toNat ∧ t.elem = elem.toNat ∧ t.chan = chan.val ∧ t.code = code.toInt ∧
        t.ranks = ranks ∧ t.scale = sg.topScale op ranks fslot.toNat (elem.toNat / 32) ∧
        t.half = s.mod.halfRange op ranks t.scale ∧ t.shadow = s.mod.shadowed a.val t.block) ∧
    (s.mod.praRuns a.val = true → chan.val ∉ (s.mod.praAt a.val).retired → s.mod.chanUp a.val chan.val = true →
      (∃ m' : Module, exec (.praReference a chan true) s = .next { s with mod := m' } ∧
        (m'.praAt a.val).inFlight = (s.mod.praAt a.val).inFlight.filter (fun t => t.chan ≠ chan.val) ∧
        (m'.praAt a.val).compare = (s.mod.praAt a.val).compare ++
          (s.mod.praAt a.val).inFlight.filter (fun t => t.chan == chan.val && t.shadow)) ∧
      (∃ m' : Module, exec (.praReference a chan false) s = .next { s with mod := m' } ∧ m'.chanUp a.val chan.val = false ∧
        ∀ t ∈ (m'.praAt a.val).inFlight, t.chan ≠ chan.val)) ∧
    (s.mod.chanUp a.val chan.val = false → exec (.praReference a chan true) s = .next s) ∧
    (s.mod.praRuns a.val = true → s.mod.chanUp a.val chan.val = false → chan.val ∉ (s.mod.praAt a.val).retired →
      ∃ m' : Module, exec (.praChannelReturn a ⟨chan, false⟩) s = .next { s with mod := m' } ∧
        m'.chanUp a.val chan.val = true ∧ m' = { s.mod with regs := m'.regs }) ∧
    (chan.val ∉ (s.mod.praAt a.val).ringless → chan.val ∉ (s.mod.praAt a.val).retired →
      ∃ m' : Module, exec (.praChannelReturn a ⟨chan, true⟩) s = .next { s with mod := m' } ∧
        m'.chanUp a.val chan.val = false ∧ chan.val ∈ (m'.praAt a.val).retired ∧ chan.val ∈ (m'.praAt a.val).ringless ∧
        ∀ key, evtKey .pra_CHAN_RETIRED a.val = some key → m'.getF key = 1) ∧
    exec (.praWeightUpdate a) s = .next s ∧
    ((s.mod.praAt a.val).compare = [] → exec (.shadowCompare a) s = .next s) ∧
    ((s.mod.praAt a.val).openBlocks = [] → (s.mod.praAt a.val).inFlight = [] → (s.mod.praAt a.val).compare = [t0] →
      s.mod.op t0.slot = some op → op.seg t0.seg = some sg →
      (4 * t0.lsb < (s.mod.termError op sg t0).natAbs →
        ∃ m' : Module, exec (.shadowCompare a) s = .next { s with mod := m' } ∧ (m'.praAt a.val).compare = [] ∧
          m'.getF (K.praCapInfo_VIOL a.val) = 1 ∧ m'.getF (K.praCapInfo_CHAN a.val) = t0.chan % 64 ∧
          (3 ≤ ((s.mod.praAt a.val).viols.filter (fun v => decide (s.mod.elapsed - v ≤ perSec))).length →
            s.mod.praState a.val = 2 ∨ s.mod.praState a.val = 3 → m'.praState a.val = 4)) ∧
      ((s.mod.termError op sg t0).natAbs ≤ 4 * t0.lsb →
        ∃ m' : Module, exec (.shadowCompare a) s = .next { s with mod := m' } ∧ (m'.praAt a.val).compare = [] ∧
          m'.praState a.val = s.mod.praState a.val))

/-- PRA_CALIBRATION, CAL_DONE, PRA_REENABLE, PAUSE and PRA_RESUME: the states of an array, 0 off, 1 calibrating, 2 running,
3 paused while a cause lasts, 4 tripped, 5 failed; a calibration waits for the causes of pauses to end and for the governor,
and while the governor holds the array it does not end; with the last array calibrated step 10 ends. -/
def Obligations.ArraysChangeState : Prop :=
  ∀ (a : Fin 4) (passed : BitVec 64) (why : Fin 4) (s : State),
    (s.mod.praAllowed a.val = true → (s.mod.praAt a.val).causes = 0 → s.mod.admits (.pra a) = true →
      s.mod.praState a.val = 0 ∨ (s.mod.praAt a.val).reenable = true →
      ∃ m' : Module, exec (.praCalibration a) s = .next { s with mod := m' } ∧ m'.praState a.val = 1 ∧
        (m'.praAt a.val).seed = s.mod.time.count.toNat ∧ (m'.praAt a.val).retired = (s.mod.praAt a.val).ringless ∧
        m'.getF (K.praShdNLo_N a.val) = 0) ∧
    (s.mod.praAllowed a.val = false ∨ (s.mod.praAt a.val).causes ≠ 0 ∨ s.mod.admits (.pra a) = false →
      exec (.praCalibration a) s = .next s) ∧
    (s.mod.praState a.val ≠ 1 ∨ bitOf (s.mod.praAt a.val).causes 3 = true → exec (.calDone a passed) s = .next s) ∧
    (s.mod.praState a.val = 1 → bitOf (s.mod.praAt a.val).causes 3 = false →
      ∃ m' : Module, exec (.calDone a passed) s = .next { s with mod := m' } ∧
        (∀ c, c < 64 → passed.getLsbD c = false → c ∈ (m'.praAt a.val).retired ∧
          (c ∉ (s.mod.praAt a.val).retired → m'.chanUp a.val c = false)) ∧
        (∀ c, c < 64 → passed.getLsbD c = true → c ∉ (s.mod.praAt a.val).retired → m'.chanUp a.val c = true) ∧
        m'.praState a.val =
          (if (natsWhere 64 (fun c => passed.getLsbD c && !(s.mod.praAt a.val).retired.contains c)).length < 16 then 5
            else if (s.mod.praAt a.val).causes = 0 then 2 else 3) ∧
        (s.mod.atStep 10 = true → s.mod.isOn K.imgStatus_LOADED = true → (∀ b, b ≠ a.val → s.mod.calibrates b = false) →
          m'.getF K.pwrStatus_STEP = 11)) ∧
    (s.mod.answers .pra a.val = true → s.mod.holdsWrites = false → s.mod.praAllowed a.val = true → s.mod.praState a.val = 4 ∨ s.mod.praState a.val = 5 →
      ∃ m' : Module, exec (.praReenable a) s = .next { s with mod := m' } ∧
        (s.mod.praState a.val = 4 → m'.mpc.repairWait.getLast? =
          some (BitVec.ofNat 64 (0x0D * 2 ^ 40 + a.val * 2 ^ 16 + 0xFFFF), s.mod.time.count)) ∧
        (s.mod.praState a.val = 5 → m'.mpc = s.mod.mpc) ∧
        ((s.mod.praAt a.val).causes = 0 → s.mod.admits (.pra a) = true → m'.praState a.val = 1) ∧
        ((s.mod.praAt a.val).causes ≠ 0 ∨ s.mod.admits (.pra a) = false →
          m'.praState a.val = s.mod.praState a.val ∧ (m'.praAt a.val).reenable = true)) ∧
    (s.mod.answers .pra a.val = true → s.mod.holdsWrites = false → s.mod.praAllowed a.val = false →
      s.mod.praState a.val = 4 ∨ s.mod.praState a.val = 5 →
      ∃ m' : Module, exec (.praReenable a) s = .next { s with mod := m' } ∧ m'.praState a.val = 0) ∧
    (s.mod.answers .pra a.val = true → s.mod.holdsWrites = true → a.val < s.mod.liveCount .pra →
      ∃ m' : Module, exec (.praReenable a) s = .next { s with mod := m' } ∧ m'.pra = s.mod.pra ∧
        m'.lock.held.length = s.mod.lock.held.length + 1) ∧
    (s.mod.holdsWrites = false → s.mod.praState a.val ≠ 4 → s.mod.praState a.val ≠ 5 →
      exec (.praReenable a) s = .next s) ∧
    (∃ m' : Module, exec (.pause a why) s = .next { s with mod := m' } ∧
      (m'.praAt a.val).causes = (s.mod.praAt a.val).causes ||| 2 ^ why.val ∧
      (s.mod.praState a.val = 2 ∨ s.mod.praState a.val = 3 →
        m'.praState a.val = 3 ∧ bitOf (m'.getF (K.praStatus_PAUSE_WHY a.val)) why.val = true) ∧
      (s.mod.praState a.val = 2 → m'.Happened s.mod .pra_PAUSE a.val) ∧
      (s.mod.praState a.val ≠ 2 → s.mod.praState a.val ≠ 3 → m'.regs = s.mod.regs ∧ m'.counters = s.mod.counters)) ∧
    (s.mod.praState a.val = 3 → (s.mod.praAt a.val).causes = 2 ^ why.val → (s.mod.praAt a.val).reenable = false →
      ∃ m' : Module, exec (.praResume a why) s = .next { s with mod := m' } ∧ m'.praState a.val = 2 ∧
        m'.getF (K.praStatus_PAUSE_WHY a.val) = 0) ∧
    (s.mod.praState a.val = 3 → (s.mod.praAt a.val).causes &&& (0xF - 2 ^ why.val) ≠ 0 →
      ∃ m' : Module, exec (.praResume a why) s = .next { s with mod := m' } ∧ m'.praState a.val = 3 ∧
        m'.getF (K.praStatus_PAUSE_WHY a.val) = (s.mod.praAt a.val).causes &&& (0xF - 2 ^ why.val)) ∧
    (s.mod.praState a.val = 4 ∨ s.mod.praState a.val = 5 → (s.mod.praAt a.val).causes = 2 ^ why.val →
      (s.mod.praAt a.val).reenable = true → s.mod.admits (.pra a) = true →
      ∃ m' : Module, exec (.praResume a why) s = .next { s with mod := m' } ∧ m'.praState a.val = 1)

/-- HBM_TEMP_READ, HBM_HOT, HBM_SENSOR_TIMEOUT, HBM_REFRESH and SCRUB_LATE: readings stand in the registers, refresh doubles
above 85 °C, a hot stack gives up a quarter of its bandwidth, and one whose sensor is silent is treated as at HOT + 10 °C. -/
def Obligations.StacksActOnHeat : Prop :=
  ∀ (k : Fin 32) (temp : BitVec 8) (s : State),
    (s.mod.getF (K.hbmStatus_STATE k.val) ≠ 0 → ∃ m' : Module,
      exec (.hbmTempRead k temp) s = .next { s with mod := m' } ∧
      m' = { s.mod with regs := m'.regs, counters := m'.counters, hbm := m'.hbm
                        log := { s.mod.log with pend := m'.log.pend } } ∧
      (m'.stack k.val).silent = false ∧
      m'.getF (K.hbmTemp_TEMP k.val) = temp.toNat % 2 ^ (K.hbmTemp_TEMP k.val).width ∧
      m'.getF (K.hbmStatus_REFRESH_2X k.val) = (if 85 < temp.toNat then 1 else 0) ∧
      (temp.toNat < s.mod.getF (K.hbmCtrl_HOT k.val) → m'.getF (K.hbmStatus_HOT_ALARM k.val) = 0) ∧
      (s.mod.stackReady k.val = true → s.mod.getF (K.hbmCtrl_HOT k.val) ≤ temp.toNat →
        1 < s.mod.getF (K.hbmStatus_ADMIT k.val) → s.mod.getF (K.hbmStatus_ADMIT k.val) ≤ 4 →
        m'.getF (K.hbmStatus_ADMIT k.val) = s.mod.getF (K.hbmStatus_ADMIT k.val) - 1) ∧
      (s.mod.stackReady k.val = true → temp.toNat + 3 ≤ s.mod.getF (K.hbmCtrl_HOT k.val) →
        s.mod.getF (K.hbmStatus_ADMIT k.val) < 4 →
        m'.getF (K.hbmStatus_ADMIT k.val) = s.mod.getF (K.hbmStatus_ADMIT k.val) + 1) ∧
      (s.mod.stackReady k.val = true → temp.toNat < s.mod.getF (K.hbmCtrl_HOT k.val) →
        s.mod.getF (K.hbmCtrl_HOT k.val) < temp.toNat + 3 →
        m'.getF (K.hbmStatus_ADMIT k.val) = s.mod.getF (K.hbmStatus_ADMIT k.val))) ∧
    (s.mod.getF (K.hbmStatus_STATE k.val) = 0 → exec (.hbmTempRead k temp) s = .next s) ∧
    (s.mod.stackReady k.val = true → s.mod.getF (K.hbmStatus_ADMIT k.val) = 1 →
      s.mod.getF (K.hbmCtrl_HOT k.val) ≤ s.mod.tempNow k.val →
      ∃ m' : Module, exec (.hbmHot k) s = .next { s with mod := m' } ∧ m'.getF (K.hbmStatus_HOT_ALARM k.val) = 1 ∧
        m'.getF K.glbAlert_HBM_HOT = 1 ∧ m'.getF K.glbAlert_ASSERTED = 1 ∧ m'.OnlyShows s.mod) ∧
    (s.mod.getF (K.hbmStatus_ADMIT k.val) ≠ 1 ∨ s.mod.tempNow k.val < s.mod.getF (K.hbmCtrl_HOT k.val) →
      exec (.hbmHot k) s = .next s) ∧
    (s.mod.getF (K.hbmStatus_STATE k.val) ≠ 0 →
      ∃ m' : Module, exec (.hbmSensorTimeout k) s = .next { s with mod := m' } ∧ (m'.stack k.val).silent = true ∧
        m'.tempNow k.val = s.mod.getF (K.hbmCtrl_HOT k.val) + 10 ∧
        (s.mod.stackReady k.val = true → 1 < s.mod.getF (K.hbmStatus_ADMIT k.val) →
          s.mod.getF (K.hbmStatus_ADMIT k.val) ≤ 4 →
          m'.getF (K.hbmStatus_ADMIT k.val) = s.mod.getF (K.hbmStatus_ADMIT k.val) - 1 ∧
          m'.Happened s.mod .hbm_THROTTLE k.val)) ∧
    (s.mod.getF (K.hbmStatus_STATE k.val) = 0 → exec (.hbmSensorTimeout k) s = .next s) ∧
    exec (.hbmRefresh k) s = .next s ∧
    (s.mod.stackReady k.val = true →
      ∃ m' : Module, exec (.scrubLate k) s = .next { s with mod := m' } ∧ (m'.stack k.val).scrubLate = true ∧
        m'.Happened s.mod .hbm_SCRUB_LATE k.val) ∧
    (s.mod.stackReady k.val = false → exec (.scrubLate k) s = .next s)

/-- HBM_SCRUB_PASS, CHAN_FAIL and CHAN_MAPPED: corrected words are counted by channel, an uncorrectable one loses the chunk that
holds it; a failing channel closes, its stack with its last, and once evacuated it is mapped out and recorded. -/
def Obligations.ChannelsAreMappedOut : Prop :=
  ∀ (k ch : Fin 32) (chunk : Nat) (last : Bool) (lost : List Nat) (hard : Bool) (s : State),
    (s.mod.stackReady k.val = true → (s.mod.stack k.val).isOut ch.val = false →
      exec (.hbmScrubPass k ch .clean ⟨chunk, false⟩) s = .next s ∧
      (∃ m' : Module, exec (.hbmScrubPass k ch .clean ⟨chunk, true⟩) s = .next { s with mod := m' } ∧
        (m'.stack k.val).scrubLate = false ∧ m'.regs = s.mod.regs ∧ m'.counters = s.mod.counters) ∧
      (∃ m' : Module, exec (.hbmScrubPass k ch .single ⟨chunk, last⟩) s = .next { s with mod := m' } ∧
        Tbl.get (m'.stack k.val).ce 0 ch.val = min 0xFFFF (Tbl.get (s.mod.stack k.val).ce 0 ch.val + 1) ∧
        m'.Happened s.mod .hbm_HBM_CE k.val) ∧
      (∃ m' : Module, exec (.hbmScrubPass k ch .double ⟨chunk, last⟩) s = .next { s with mod := m' } ∧
        (∀ x, evtKey .hbm_HBM_UE k.val = some x → m'.getF x = 1) ∧
        Tbl.get (m'.stack k.val).ue [] ch.val = s.mod.elapsed :: s.mod.ueHour k.val ch.val ∧
        (∀ c, s.mod.hbmChunk chunk = some c → c.sector = k.val / 4 → c.octet = octetOf k.val ch.val →
          ∀ x, evtKey .hbm_CHUNK_LOST k.val = some x → m'.getF x = 1))) ∧
    (2 ≤ s.mod.getF (K.hbmStatus_STATE k.val) → (s.mod.stack k.val).isOut ch.val = false →
      (∃ m' : Module, exec (.chanFail k ch true lost) s = .next { s with mod := m' } ∧
        (m'.stack k.val).failing = (s.mod.stack k.val).failing ++ [(ch.val, true, false)] ∧
        (∀ x, evtKey .hbm_CHAN_FAIL k.val = some x → m'.getF x = 1) ∧
        (m'.channelsIn k.val = 0 → m'.getF (K.hbmStatus_STATE k.val) = 4)) ∧
      (s.mod.softFails k.val ch.val = true →
        ∃ m' : Module, exec (.chanFail k ch false lost) s = .next { s with mod := m' } ∧
          (m'.stack k.val).failing = (s.mod.stack k.val).failing ++ [(ch.val, false, false)] ∧
          m'.getF (K.hbmStatus_EVACUATING k.val) = 1) ∧
      (s.mod.softFails k.val ch.val = false → exec (.chanFail k ch false lost) s = .next s)) ∧
    ((s.mod.stack k.val).isOut ch.val = true → exec (.chanFail k ch hard lost) s = .next s) ∧
    (s.mod.getF (K.hbmStatus_STATE k.val) < 2 → exec (.chanFail k ch hard lost) s = .next s) ∧
    ((s.mod.stack k.val).failing.find? (fun x => x.1 == ch.val) = some (ch.val, hard, false) →
      ∃ m' : Module, exec (.chanMapped k ch lost) s = .next { s with mod := m' } ∧
        (m'.stack k.val).mapped = (s.mod.stack k.val).mapped ++ [(ch.val, hard, false)] ∧
        (∀ x ∈ (m'.stack k.val).failing, x.1 ≠ ch.val) ∧
        m'.mpc.repairWait.getLast? =
          some (BitVec.ofNat 64 (0x0B * 2 ^ 40 + (k.val * 32 + ch.val) * 2 ^ 16 + 0xFFFF), s.mod.time.count)) ∧
    ((s.mod.stack k.val).failing = [] → exec (.chanMapped k ch lost) s = .next s)

/-! ### The management complex -/

/-- CONTROL_FRAME_ARRIVE and CONTROL_INCOMPLETE: a frame for the module joins its priority's queue, or with no room there is
answered BUSY, or of priority 1 or 2 waits at its ingress; a repeat is given its reply, or waits for it, and a chunk still to
come of an answered request draws none; an unknown class, and a body still incomplete, are answered; on a host port the bridge
keeps a permitted frame for the token bucket and refuses every other. -/
def Obligations.ControlFramesQueue : Prop :=
  ∀ (lport : Fin 2048) (f : Frame) (src : Loc) (reqId : BitVec 16) (g : Gather) (r : Reply) (s : State),
    (s.mod.hears lport.val = true → f.h.dst = s.mod.loc → f.h.ftype = 7 → f.ctl.isReply = false → f.ctl.cls ≠ 3 →
      s.mod.link.hostPorts.contains lport.val = false →
      ((∀ x ∈ s.mod.mpc.gather, x.src ≠ f.h.src ∨ x.reqId ≠ f.ctl.reqId) →
        (s.mod.mpc.replies.find? (fun x => x.src == f.h.src && x.reqId == f.ctl.reqId) = some r →
          ((∀ x ∈ s.mod.mpc.awaited, isOf f.h.src f.ctl.reqId x = false) →
            ∃ m' : Module, exec (.controlFrameArrive lport f) s = .next { s with mod := m' } ∧ .reply r ∈ m'.out ∧
              m'.mpc.queue = s.mod.mpc.queue ∧ ∀ k, evtKey .mpc_DUP_REPLY 0 = some k → m'.getF k = 1) ∧
          ((∃ cs, (f.h.src, f.ctl.reqId, cs) ∈ s.mod.mpc.awaited ∧ f.ctl.place ∈ cs) →
            ∃ m' : Module, exec (.controlFrameArrive lport f) s = .next { s with mod := m' } ∧ m'.out = s.mod.out ∧
              m' = { s.mod with mpc := m'.mpc } ∧ m'.mpc.queue = s.mod.mpc.queue ∧ m'.mpc.replies = s.mod.mpc.replies)) ∧
        (s.mod.mpc.replies.find? (fun x => x.src == f.h.src && x.reqId == f.ctl.reqId) = none →
          s.mod.underWay f.h.src f.ctl.reqId = true → (∀ x ∈ s.mod.mpc.repeats, isOf f.h.src f.ctl.reqId x = false) →
          exec (.controlFrameArrive lport f) s = .next { s with mod := { s.mod with mpc := { s.mod.mpc with
            repeats := s.mod.mpc.repeats ++ [(f.h.src, f.ctl.reqId, f.ctl.others)] } } }) ∧
        (s.mod.mpc.replies.find? (fun x => x.src == f.h.src && x.reqId == f.ctl.reqId) = none →
          s.mod.underWay f.h.src f.ctl.reqId = false →
          (classPriority f.ctl.cls = 0 →
            ∃ m' : Module, exec (.controlFrameArrive lport f) s = .next { s with mod := m' } ∧
              m'.Answered ⟨f.h.src, f.ctl.reqId, f.ctl.cls, 4, []⟩) ∧
          (classPriority f.ctl.cls ≠ 0 → s.mod.endpointRoom (classPriority f.ctl.cls) = true → f.ctl.cls ≠ 8 →
            f.ctl.chunksM1 = 0 →
            ∃ m' : Module, exec (.controlFrameArrive lport f) s = .next { s with mod := m' } ∧
              m' = { s.mod with mpc := m'.mpc } ∧ m'.mpc.queue = s.mod.mpc.queue ++
                [⟨f.h.src, f.ctl.reqId, f.ctl.cls, f.data.take (min 8064 f.ctl.bodyLen), s.mod.elapsed, s.mod.timeNow, 1⟩]) ∧
          (classPriority f.ctl.cls ≠ 0 → s.mod.endpointRoom (classPriority f.ctl.cls) = false → classPriority f.ctl.cls ≤ 2 →
            ∃ m' : Module, exec (.controlFrameArrive lport f) s = .next { s with mod := m' } ∧ m'.mpc = s.mod.mpc ∧
              m'.fifo lport.val 0 = s.mod.fifo lport.val 0 ++ [s.mod.atIngress lport.val 0 f f .endpoint 0]) ∧
          (s.mod.endpointRoom (classPriority f.ctl.cls) = false → 3 ≤ classPriority f.ctl.cls →
            ∃ m' : Module, exec (.controlFrameArrive lport f) s = .next { s with mod := m' } ∧
              m'.Answered ⟨f.h.src, f.ctl.reqId, f.ctl.cls, 2, []⟩ ∧
              ∀ k, evtKey .mpc_MPC_BUSY 0 = some k → m'.getF k = 1)))) ∧
    (s.mod.hears lport.val = true → f.h.dst = s.mod.loc → isGroupType f.h.ftype.toNat = false →
      s.mod.link.hostPorts.contains lport.val = true →
      (f.h.ftype = 7 → f.h.src = s.mod.peerLoc lport.val → f.h.dst ∈ s.mod.mpc.group →
        exec (.controlFrameArrive lport f) s = .next { s with mod := { s.mod with mpc := { s.mod.mpc with
          hostWait := s.mod.mpc.hostWait ++ [(lport.val, 0, f)] } } }) ∧
      (f.h.ftype ≠ 7 ∨ f.h.src ≠ s.mod.peerLoc lport.val ∨ f.h.dst ∉ s.mod.mpc.group →
        ∃ m' : Module, exec (.controlFrameArrive lport f) s = .next { s with mod := m' } ∧ m'.mpc.queue = s.mod.mpc.queue ∧
          m'.mpc.hostWait = s.mod.mpc.hostWait ∧ ∀ k, evtKey .mpc_HOST_REFUSED 0 = some k → m'.getF k = 1)) ∧
    (f.h.dst ≠ s.mod.loc → exec (.controlFrameArrive lport f) s = .next s) ∧
    (s.mod.mpc.gather.find? (fun x => x.src == src && x.reqId == reqId) = some g →
      (g.cls ≠ 8 → ∃ m' : Module, exec (.controlIncomplete src reqId) s = .next { s with mod := m' } ∧
        m'.Answered ⟨src, reqId, g.cls, 7, []⟩ ∧ ∀ x ∈ m'.mpc.gather, x.src ≠ src ∨ x.reqId ≠ reqId) ∧
      (g.cls = 8 → ∃ m' : Module, exec (.controlIncomplete src reqId) s = .next { s with mod := m' } ∧
        m'.Answered ⟨src, reqId, 8, 7, []⟩ ∧ m'.img.gathering = false)) ∧
    (s.mod.mpc.gather.find? (fun x => x.src == src && x.reqId == reqId) = none →
      exec (.controlIncomplete src reqId) s = .next s)

/-- HEARTBEAT, REG_READ, REG_WRITE and TABLE: a queued request leaves the endpoint and is answered: NOT_READY before the
image is loaded, DENIED without the permission, and else with what it asked, after its effect. -/
def Obligations.RequestsAreAnswered : Prop :=
  ∀ (src : Loc) (reqId : BitVec 16) (r : CtlReq) (rr : RegName) (i j : Nat) (s : State),
    (s.mod.Queued src reqId 1 r →
      (s.mod.isOn K.imgStatus_LOADED = false → ∃ m' : Module, exec (.heartbeat src reqId) s = .next { s with mod := m' } ∧
        m'.Answered ⟨src, reqId, 1, 3, []⟩ ∧ m'.mpc.queue = (s.mod.unqueued src reqId 1).mpc.queue) ∧
      (s.mod.isOn K.imgStatus_LOADED = true → s.mod.permOf src = none →
        ∃ m' : Module, exec (.heartbeat src reqId) s = .next { s with mod := m' } ∧ m'.Answered ⟨src, reqId, 1, 1, []⟩ ∧
          ∀ k, evtKey .mpc_DENIED 0 = some k → m'.getF k = 1) ∧
      (s.mod.isOn K.imgStatus_LOADED = true → (s.mod.permOf src).isSome = true →
        ∃ (m' : Module) (rp : Reply), exec (.heartbeat src reqId) s = .next { s with mod := m' } ∧ m'.Answered rp ∧
          rp.src = src ∧ rp.reqId = reqId ∧ rp.cls = 1 ∧ rp.status = 0 ∧ rp.body.length = 24 ∧
          rp.body.take 8 = toBytes 8 (field r.body 0 8) ∧ rp.body.drop 16 = toBytes 8 s.mod.timeNow.toNat ∧
          m'.mpc.queue = (s.mod.unqueued src reqId 1).mpc.queue)) ∧
    (s.mod.Queued src reqId 4 r → s.mod.isOn K.imgStatus_LOADED = true →
      (s.mod.permits src 0 = true → field r.body 0 1 = 0 → s.mod.reach (r.addr 0) = .reg rr i j →
        Tbl.find s.mod.captured (.src src, rr, i, j) = none →
        ∃ m' : Module, exec (.regRead src reqId) s = .next { s with mod := m' } ∧
          m'.Answered ⟨src, reqId, 4, 0, r.regHead ++
            toBytes 4 ((s.mod.unqueued src reqId 4).regWord rr i j % 2 ^ 32)⟩) ∧
      (s.mod.permits src 0 = false → ∃ m' : Module, exec (.regRead src reqId) s = .next { s with mod := m' } ∧
        m'.Answered ⟨src, reqId, 4, 1, []⟩)) ∧
    (s.mod.Queued src reqId 5 r → s.mod.isOn K.imgStatus_LOADED = true → s.mod.permits src 1 = true →
      field r.body 0 1 = 0 → 12 ≤ r.body.length →
      (s.mod.reach (r.addr 0) = .reg rr i j →
        ∃ m1 m' : Module,
          exec (.registerWrite (.src src) (r.addr 0) (BitVec.ofNat 32 (field r.body 8 4)))
            { s with mod := s.mod.unqueued src reqId 5 } = .next { s with mod := m1 } ∧
          exec (.regWrite src reqId) s = .next { s with mod := m' } ∧ m' = m1.answer src reqId 5 0 r.regHead ∧
          m'.mpc.replies.head? = some ⟨src, reqId, 5, 0, r.regHead⟩) ∧
      (∀ a, s.mod.reach (r.addr 0) = .fault a → ∃ m' : Module, exec (.regWrite src reqId) s = .next { s with mod := m' } ∧
        m'.Answered ⟨src, reqId, 5, BitVec.ofNat 8 a.status, r.regHead⟩)) ∧
    (s.mod.Queued src reqId 6 r → s.mod.isOn K.imgStatus_LOADED = true → s.mod.permits src 2 = true →
      (bitOf (field r.body 0 1) 0 = true → s.mod.img.patch.isSome = true →
        ∃ m' : Module, exec (.table src reqId) s = .next { s with mod := m' } ∧ m'.Answered ⟨src, reqId, 6, 2, []⟩ ∧
          m'.fwd = s.mod.fwd) ∧
      (bitOf (field r.body 0 1) 0 = false → field r.body 1 2 = 1 → 48 ≤ r.body.length → field r.body 8 1 = 0 →
        s.mod.fwd.copying = false →
        ∃ m' : Module, exec (.table src reqId) s = .next { s with mod := m' } ∧ m'.Answered ⟨src, reqId, 6, 0, []⟩ ∧
          m'.fwd.shadow.entry .route (fwdIndex .route (field r.body 9 3)) =
            (RouteEntry.decode (BitVec.ofNat 64 (field r.body 16 32))).encode ∧
          m'.fwd.active = s.mod.fwd.active)) ∧
    (s.mod.mpc.queue = [] → exec (.heartbeat src reqId) s = .next s ∧ exec (.regRead src reqId) s = .next s ∧
      exec (.regWrite src reqId) s = .next s ∧ exec (.table src reqId) s = .next s)

/-- PATCH, PATCH_APPLY, TELEMETRY_READ and TELEMETRY_TAKE: a signed patch of the next sequence waits and is applied whole; a
read answers the time and its counters, and a take gives up to 250 records, oldest first. -/
def Obligations.PatchesAndTelemetry : Prop :=
  ∀ (src : Loc) (reqId : BitVec 16) (r : CtlReq) (rsaOk slhOk : Bool) (l : LiveSections)
    (structural : List Nat) (p : Patch) (x : BitVec 32 × BitVec 256) (s : State),
    (s.mod.Queued src reqId 8 r → s.mod.isOn K.imgStatus_LOADED = true → s.mod.permits src 4 = true →
      (field r.body 0 4 = s.mod.getF K.imgSeq_SEQ → field r.body 4 4 = s.mod.getF K.imgPatchSeq_SEQ + 1 →
        (rsaOk = true → slhOk = true →
          ∃ m' : Module, exec (.patch src reqId rsaOk slhOk l structural) s = .next { s with mod := m' } ∧
            m'.img.patch = some ⟨src, reqId, bitOf (field r.body 8 1) 0, l, structural, sha384 (patchPayload r.body)⟩ ∧
            m'.img.gathering = false ∧
            m' = { s.mod.unqueued src reqId 8 with img := m'.img }) ∧
        ((rsaOk && slhOk) = false →
          ∃ m' : Module, exec (.patch src reqId rsaOk slhOk l structural) s = .next { s with mod := m' } ∧
            m'.Answered ⟨src, reqId, 8, 6, []⟩ ∧ m'.img.patch = s.mod.img.patch ∧
            ∀ k, evtKey .img_PATCH_REFUSED 0 = some k → m'.getF k = 1)) ∧
      (field r.body 4 4 ≠ s.mod.getF K.imgPatchSeq_SEQ + 1 →
        ∃ m' : Module, exec (.patch src reqId rsaOk slhOk l structural) s = .next { s with mod := m' } ∧
          m'.Answered ⟨src, reqId, 8, 5, []⟩ ∧ m'.img.patch = s.mod.img.patch)) ∧
    (s.mod.img.patch = some p → s.mod.patchUnsound = false → s.mod.fwd.copying = false →
      s.mod.img.heldPatch = false →
      (s.mod.holdsWrites = true → ∃ m' : Module, exec .patchApply s = .next { s with mod := m' } ∧
        m'.img.heldPatch = true ∧ m'.img.patch = s.mod.img.patch ∧ m'.OnlyShows { s.mod with img := m'.img }) ∧
      (s.mod.holdsWrites = false → ∃ m' : Module, exec .patchApply s = .next { s with mod := m' } ∧ m'.img.patch = none ∧
        m'.img.liveApplied = s.mod.img.liveApplied ++ [p.live] ∧ (∀ n ∈ p.structural, n ∈ m'.img.structural) ∧
        m'.Answered ⟨p.src, p.reqId, 8, 0, []⟩ ∧
        m'.getF K.imgPatchSeq_SEQ = (s.mod.getF K.imgPatchSeq_SEQ + 1) % 2 ^ 32 ∧
        ∀ k, evtKey .img_PATCH_APPLIED 0 = some k → m'.getF k = 1)) ∧
    (s.mod.img.patch = none → exec .patchApply s = .next s) ∧
    (s.mod.Queued src reqId 10 r → s.mod.isOn K.imgStatus_LOADED = true → s.mod.permits src 0 = true →
      (field r.body 0 1 = 0 → field r.body 1 1 = 1 → field r.body 12 2 = 1 → field r.body 8 2 < 4096 →
        field r.body 10 2 < groupInstances (field r.body 8 2 / 32) →
        ∃ m' : Module, exec (.telemetryRead src reqId) s = .next { s with mod := m' } ∧
          m'.Answered ⟨src, reqId, 10, 0, toBytes 8 s.mod.timeNow.toNat ++
            toBytes 8 (s.mod.counter (field r.body 8 2) (field r.body 10 2))⟩) ∧
      (field r.body 0 1 ≠ 0 → s.mod.tel.samples.head? = some x →
        ∃ m' : Module, exec (.telemetryTake src reqId) s = .next { s with mod := m' } ∧
          m'.tel.samples = s.mod.tel.samples.drop 250 ∧
          m'.Answered ⟨src, reqId, 10, 0, recordsBody 1 (s.mod.tel.samples.take 250).length x.1.toNat 32
            ((s.mod.tel.samples.take 250).map (fun y => y.2.toNat))⟩))

/-- FLASH_ERASE, FLASH_WRITE and FLASH_VERIFY: an erase leaves a copy's every byte erased, a write that follows the last one
puts its bytes at its offset, no other byte of flash changes, and a verify judges the inactive copy. -/
def Obligations.FlashRequestsActOnFlash : Prop :=
  ∀ (src : Loc) (reqId : BitVec 16) (r : CtlReq) (base at_ : Nat) (rsaOk slhOk digestsOk : Bool) (s : State), FlashOk s →
    s.mod.Queued src reqId 9 r → s.mod.fallingBack = false → s.mod.isOn K.imgStatus_LOADED = true →
    s.mod.permits src 5 = true → base = copyBase r.region (s.mod.inactiveB r.region) →
    (r.flashOp = 0 → ∃ m' : Module, exec (.flashErase src reqId) s = .next { s with mod := m' } ∧
      m'.Answered ⟨src, reqId, 9, 0, []⟩ ∧ Tbl.find m'.img.written r.region = some 0 ∧
      (∀ a, inBytes base (copySize r.region) a → m'.flashByte a = flashErased) ∧
      ∀ a, ¬ inBytes base (copySize r.region) a → m'.flashByte a = s.mod.flashByte a) ∧
    (r.flashOp = 1 → at_ = field r.body 4 4 →
      (Tbl.find s.mod.img.written r.region = some at_ → at_ + (r.body.drop 8).length ≤ copySize r.region →
        ∃ m' : Module, exec (.flashWrite src reqId) s = .next { s with mod := m' } ∧ m'.Answered ⟨src, reqId, 9, 0, []⟩ ∧
          m'.flashBytes (base + at_) (r.body.drop 8).length = r.body.drop 8 ∧
          Tbl.find m'.img.written r.region = some (at_ + (r.body.drop 8).length) ∧
          ∀ a, ¬ inBytes (base + at_) (r.body.drop 8).length a → m'.flashByte a = s.mod.flashByte a) ∧
      (Tbl.find s.mod.img.written r.region ≠ some at_ →
        ∃ m' : Module, exec (.flashWrite src reqId) s = .next { s with mod := m' } ∧ m'.Answered ⟨src, reqId, 9, 5, []⟩ ∧
          m'.flash = s.mod.flash)) ∧
    (r.flashOp = 2 →
      (s.mod.copyVerifies r.region rsaOk slhOk digestsOk = true →
        ∃ m' : Module, exec (.flashVerify src reqId rsaOk slhOk digestsOk) s = .next { s with mod := m' } ∧
          m'.Answered ⟨src, reqId, 9, 0, []⟩ ∧ r.region ∈ m'.img.verified ∧ m'.flash = s.mod.flash) ∧
      (s.mod.copyVerifies r.region rsaOk slhOk digestsOk = false →
        ∃ m' : Module, exec (.flashVerify src reqId rsaOk slhOk digestsOk) s = .next { s with mod := m' } ∧
          m'.Answered ⟨src, reqId, 9, 6, []⟩ ∧ m'.img.verified = s.mod.img.verified ∧ m'.flash = s.mod.flash))

/-- SMB_FLASH_ADDR, SMB_FLASH_DATA_WRITE, SMB_FLASH_DATA_READ, SMB_FLASH_ERASE and REPAIR_RECORD_APPEND: recovery over SMBus
reads, writes and erases boot flash where start-up stopped; a substitution takes the next record of the repair table. -/
def Obligations.RecoveryAndRecordsReachFlash : Prop :=
  ∀ (pec : Pec) (addr : BitVec 32) (data : List Byte) (count : Fin 33) (base : Nat) (body time : BitVec 64)
    (rest : List (BitVec 64 × BitVec 64)) (s : State), FlashOk s → base = s.mod.mpc.smbFlash →
    (s.mod.smbAnswers = true → s.mod.pecOk pec = true → s.mod.isOn K.pwrStatus_STALLED = true →
      (s.mod.startStep = 4 ∨ s.mod.startStep = 5) →
      (∃ m' : Module, exec (.smbFlashAddr pec addr) s = .next { s with mod := m' } ∧ m'.mpc.smbFlash = addr.toNat ∧
        m' = { s.mod with mpc := m'.mpc }) ∧
      (data.length ≤ 32 →
        ∃ m' : Module, exec (.smbFlashDataWrite pec data) s = .next { s with mod := m' } ∧
          m'.flashBytes base data.length = data ∧ m'.mpc.smbFlash = (base + data.length) % 2 ^ 32 ∧
          ∀ a, ¬ inBytes base data.length a → m'.flashByte a = s.mod.flashByte a) ∧
      (base + 32 ≤ 0x45000000 → ∃ m' : Module, exec (.smbFlashDataRead count) s = .next { s with mod := m' } ∧
        m'.out = s.mod.out ++ [.smbBytes (s.mod.flashBytes base count.val)] ∧
        m'.mpc.smbFlash = (base + count.val) % 2 ^ 32 ∧ m'.flash = s.mod.flash) ∧
      (∃ m' : Module, exec (.smbFlashErase pec) s = .next { s with mod := m' } ∧
        (∀ a, inBytes (base / 65536 * 65536) 65536 a → m'.flashByte a = flashErased) ∧
        ∀ a, ¬ inBytes (base / 65536 * 65536) 65536 a → m'.flashByte a = s.mod.flashByte a)) ∧
    (s.mod.mpc.repairWait = [] → ∀ refused, exec (.repairRecordAppend refused) s = .next s) ∧
    (s.mod.mpc.repairWait = (body, time) :: rest →
      (∃ m' : Module, exec (.repairRecordAppend true) s = .next { s with mod := m' } ∧ m'.flash = s.mod.flash ∧
        m'.mpc.repairWait = rest ∧ m'.getF K.glbAlert_REPAIR_WRITE_FAIL = 1 ∧ m'.getF K.glbAlert_ASSERTED = 1) ∧
      (s.mod.mpc.repairUsed < repairSlots →
        ∃ m' : Module, exec (.repairRecordAppend false) s = .next { s with mod := m' } ∧ m'.mpc.repairWait = rest ∧
          m'.mpc.repairUsed = s.mod.mpc.repairUsed + 1 ∧
          m'.flashBytes (repairAt s.mod.mpc.repairHalf s.mod.mpc.repairUsed) 16 =
            repairRecord body.toNat (s.mod.getF K.glbIncarn_INCARNATION) (time.toNat / 10 ^ 9) ∧
          ∀ a, ¬ inBytes (repairAt s.mod.mpc.repairHalf s.mod.mpc.repairUsed) 16 a →
            m'.flashByte a = s.mod.flashByte a) ∧
      (repairSlots ≤ s.mod.mpc.repairUsed →
        ∃ m' : Module, exec (.repairRecordAppend false) s = .next { s with mod := m' } ∧ m'.mpc.repairWait = rest ∧
          m'.mpc.repairHalf = 1 - s.mod.mpc.repairHalf ∧
          m'.mpc.repairUsed = (inForce Repair.decode s.mod.repairRecords).length + 1))

/-- HOST_FRAME_RECEIVE, HOST_FRAME_ADMIT, MPC_OVERLOAD, MPC_OVERLOAD_CLEAR, SINK_PUSH, MPC_CORE_FAIL and MPC_CORE_TAKEOVER:
the bridge lets permitted control frames wait for its bucket and refuses others; overload shows; records go to the sink; the
spare core takes a failed core's role, and one that fails itself takes none. -/
def Obligations.BridgeSinkAndCores : Prop :=
  ∀ (lport : Fin 2048) (vc : Fin 8) (payload : List Byte) (f : Frame) (w : Nat × Nat × Frame) (x : BitVec 32 × BitVec 256)
    (c : Fin 5) (n : Nat) (s : State),
    (s.mod.hears lport.val = true → f = payloadFrame payload →
      (f.h.ftype = 7 → vc = 0 → f.h.src = s.mod.peerLoc lport.val → f.h.dst ∈ s.mod.mpc.group →
        ∃ m' : Module, exec (.hostFrameReceive lport vc payload) s = .next { s with mod := m' } ∧
          m'.mpc.hostWait = s.mod.mpc.hostWait ++ [(lport.val, creditUnits payload.length, f)] ∧
          m' = { s.mod with mpc := m'.mpc }) ∧
      (f.h.ftype ≠ 7 ∨ vc ≠ 0 ∨ f.h.src ≠ s.mod.peerLoc lport.val ∨ f.h.dst ∉ s.mod.mpc.group →
        ∃ m' : Module, exec (.hostFrameReceive lport vc payload) s = .next { s with mod := m' } ∧ m'.mpc = s.mod.mpc ∧
          ∀ k, evtKey .mpc_HOST_REFUSED 0 = some k → m'.getF k = 1)) ∧
    (s.mod.mpc.hostWait.find? (fun y => y.1 == lport.val) = some w → 0 < s.mod.hostTokens →
      ∃ m' : Module, exec (.hostFrameAdmit lport) s = .next { s with mod := m' } ∧
        m'.mpc.hostWait = s.mod.mpc.hostWait.erase w ∧ m'.mpc.hostTokens = s.mod.hostTokens - 1) ∧
    (s.mod.hostTokens = 0 → exec (.hostFrameAdmit lport) s = .next s) ∧
    (s.mod.queued 3 ≠ 0 → s.mod.isOn K.mpcStatus_OVERLOAD = false →
      ∃ m' : Module, exec .mpcOverload s = .next { s with mod := m' } ∧ m'.getF K.mpcStatus_OVERLOAD = 1 ∧
        m'.Happened s.mod .mpc_MPC_OVERLOAD 0 ∧ m'.OnlyShows s.mod) ∧
    (s.mod.queued 3 = 0 → exec .mpcOverload s = .next s) ∧
    (∃ m' : Module, exec .mpcOverloadClear s = .next { s with mod := m' } ∧ m'.getF K.mpcStatus_OVERLOAD = 0 ∧
      m'.RegsKept s.mod [K.mpcStatus_OVERLOAD]) ∧
    (s.mod.getF K.telSink_LOC = 0 → exec .sinkPush s = .next s) ∧
    (s.mod.getF K.telSink_LOC ≠ 0 → s.mod.coreFor 5 = true → s.mod.nextReq 5 = none → s.mod.tel.samples.head? = some x →
      ∃ m' : Module, exec .sinkPush s = .next { s with mod := m' } ∧ m'.tel.samples = s.mod.tel.samples.drop 250 ∧
        Emission.sinkFrame (BitVec.ofNat 32 (s.mod.getF K.telSink_LOC)) 1 x.1
          ((s.mod.tel.samples.take 250).map (fun y => y.2.toNat)) ∈ m'.out) ∧
    (bitOf (s.mod.getF K.mpcStatus_CORES_UP) c.val = false → c ≠ 4 ∨ s.mod.mpc.spareOut = true →
      exec (.mpcCoreFail c) s = .next s) ∧
    (s.mod.spareReady = true →
      ∃ m' : Module, exec (.mpcCoreFail 4) s = .next { s with mod := m' } ∧ m'.mpc.spareOut = true ∧
        m'.mpc.coreMoving = none ∧ m'.getF K.mpcStatus_CORES_UP = s.mod.getF K.mpcStatus_CORES_UP ∧
        m'.mpc.repairWait.getLast? = some (BitVec.ofNat 64 (0x0E * 2 ^ 40 + 4 * 2 ^ 16 + 0xFFFF), s.mod.time.count)) ∧
    (bitOf (s.mod.getF K.mpcStatus_CORES_UP) c.val = true → c ≠ 4 → s.mod.spareReady = true →
      s.mod.mpc.coreMoving = none →
      ∃ m' : Module, exec (.mpcCoreFail c) s = .next { s with mod := m' } ∧
        bitOf (m'.getF K.mpcStatus_CORES_UP) c.val = false ∧ m'.mpc.coreMoving = some c.val ∧
        m'.mpc.repairWait.getLast? = some (BitVec.ofNat 64 (0x0E * 2 ^ 40 + c.val * 2 ^ 16 + 4), s.mod.time.count)) ∧
    (bitOf (s.mod.getF K.mpcStatus_CORES_UP) 4 = true →
      ∃ m' : Module, exec (.mpcCoreFail 4) s = .next { s with mod := m' } ∧ m'.mpc.spareOut = true ∧
        bitOf (m'.getF K.mpcStatus_CORES_UP) 4 = false ∧ m'.mpc.coreMoving = s.mod.mpc.coreMoving) ∧
    (s.mod.mpc.coreMoving = some n →
      ∃ m' : Module, exec .mpcCoreTakeover s = .next { s with mod := m' } ∧
        bitOf (m'.getF K.mpcStatus_CORES_UP) 4 = true ∧ m'.mpc.coreMoving = none ∧
        m'.mpc.core0 = (if s.mod.mpc.core0 = n then 4 else s.mod.mpc.core0)) ∧
    (s.mod.mpc.coreMoving = none → exec .mpcCoreTakeover s = .next s)

/-- SMB_ADDR, SMB_DATA_WRITE, SMB_DATA_READ, SMB_STATUS, SMB_EVENT and SMB_ALERT_RESPONSE: ADDR moves on with each DATA,
which is a register access; STATUS clears ACCESS_FAULT; EVENT gives the oldest entry unread; a bad PEC does nothing but
count. JTAG_DRIVE_INSTRUCTION, TEST_LOGIC_RESET, JTAG_PRIVATE_ACCESS and JTAG_IDCODE: an instruction that drives the pins
holds the module in a cold reset until Test-Logic-Reset; private accesses go to the registers under the debug unlock alone.
-/
def Obligations.SmbusAndJtagAct : Prop :=
  (∀ (pec : Pec) (addr : Addr) (data : Word) (e : Nat × BitVec 128) (s : State),
     (s.mod.smbAnswers = true →
       (s.mod.pecOk pec = true →
         (∃ m' : Module, exec (.smbAddr pec addr) s = .next { s with mod := m' } ∧ m'.mpc.smbAddr = addr ∧
           m' = { s.mod with mpc := m'.mpc }) ∧
         (∃ m1 m' : Module, exec (.registerWrite .smb s.mod.mpc.smbAddr data) s = .next { s with mod := m1 } ∧
           exec (.smbDataWrite pec data) s = .next { s with mod := m' } ∧ m'.mpc.smbAddr = s.mod.mpc.smbAddr + 4 ∧
           m' = { m1 with mpc := m'.mpc })) ∧
       (s.mod.pecOk pec = false →
         exec (.smbAddr pec addr) s = .next { s with mod := s.mod.raise .mpc_SMB_PEC_FAIL 0 } ∧
         exec (.smbDataWrite pec data) s = .next { s with mod := s.mod.raise .mpc_SMB_PEC_FAIL 0 }) ∧
       (∀ r i j, s.mod.reach s.mod.mpc.smbAddr = .reg r i j → Tbl.find s.mod.captured (.smb, r, i, j) = none →
         ∃ m' : Module, exec .smbDataRead s = .next { s with mod := m' } ∧ m'.mpc.smbAddr = s.mod.mpc.smbAddr + 4 ∧
           m'.out = s.mod.out ++ [.smbBytes (toBytes 4 (s.mod.regWord r i j % 2 ^ 32))]) ∧
       (∀ a, s.mod.reach s.mod.mpc.smbAddr = .fault a →
         ∃ m' : Module, exec .smbDataRead s = .next { s with mod := m' } ∧ m'.mpc.smbFault = true ∧
           m'.out = s.mod.out ++ [.smbBytes (toBytes 4 0)] ∧ m'.Happened s.mod .tel_ACCESS_FAULT 0) ∧
       (∃ m' : Module, exec .smbStatus s = .next { s with mod := m' } ∧ m'.mpc.smbFault = false ∧
         m'.out = s.mod.out ++ [.smbBytes (toBytes 1
           (s.mod.startStep * 16 + 8 * flag s.mod.mpc.smbFault + 4 * flag s.mod.noImage))]) ∧
       (s.mod.log.entries.find? (fun x => x.1 == s.mod.log.smbSeq) = some e →
         ∃ m' : Module, exec .smbEvent s = .next { s with mod := m' } ∧ m'.log.smbSeq = (e.1 + 1) % 2 ^ 32 ∧
           m'.out = s.mod.out ++ [.smbBytes (toBytes 16 e.2.toNat)]) ∧
       (s.mod.isOn K.glbAlert_ASSERTED = true →
         ∃ (m' : Module) (low : Nat), exec .smbAlertResponse s = .next { s with mod := m' } ∧ low < 2 ∧
           m'.out = s.mod.out ++ [.smbBytes (toBytes 1 (2 * (0x40 + s.mod.power.strapAddr.toNat) + low))]) ∧
       (s.mod.isOn K.glbAlert_ASSERTED = false → exec .smbAlertResponse s = .next s)) ∧
     (s.mod.smbAnswers = false → exec (.smbAddr pec addr) s = .next s ∧ exec (.smbDataWrite pec data) s = .next s ∧
       exec .smbDataRead s = .next s ∧ exec .smbStatus s = .next s ∧ exec .smbEvent s = .next s)) ∧
  (∀ (addr : Addr) (data : Word) (s : State),
     (s.mod.tapAnswers = true →
       ((s.mod.power.inReset = none ∨ s.mod.power.inReset = some .core) →
         ∃ m' : Module, exec .jtagDriveInstruction s = .next { s with mod := m' } ∧ m'.power.inReset = some .cold ∧
           .jtag ∈ m'.power.holds) ∧
       (s.mod.sec.debug = true →
         exec (.jtagPrivateAccess addr (some data)) s = exec (.registerWrite .jtag addr data) s ∧
         (∀ r i j, s.mod.reach addr = .reg r i j → Tbl.find s.mod.captured (.jtag, r, i, j) = none →
           ∃ m' : Module, exec (.jtagPrivateAccess addr none) s = .next { s with mod := m' } ∧
             m'.out = s.mod.out ++ [.jtagWord (BitVec.ofNat 32 (s.mod.regWord r i j))])) ∧
       (∃ (m' : Module) (w : Word), exec .jtagIdcode s = .next { s with mod := m' } ∧ m' = { s.mod with out := m'.out } ∧
         m'.out = s.mod.out ++ [.jtagWord w] ∧ w.getLsbD 0 = true ∧
         (s.mod.getF K.glbId_MEMBER < 2 ^ 16 → w.toNat / 2 ^ 12 % 2 ^ 16 = s.mod.getF K.glbId_MEMBER))) ∧
     (s.mod.sec.debug = false → ∀ w, exec (.jtagPrivateAccess addr w) s = .next s) ∧
     (∃ m' : Module, exec .testLogicReset s = .next { s with mod := m' } ∧ .jtag ∉ m'.power.holds ∧
       (∀ h, h ≠ .jtag → (h ∈ m'.power.holds ↔ h ∈ s.mod.power.holds)) ∧ m' = { s.mod with power := m'.power }))

/-! ### Security and rehearsals -/

/-- QUORUM: a command that the endpoint has queued, or that SMBus brings, is refused at its first failing check, with that
check's QSTATUS and no effect; one that passes them all has its CMD_SEQ written and waits for its effect; over SMBus to a SEC
block that does not run it is an access that is not ready. -/
def Obligations.QuorumCommandsAreJudged : Prop :=
  ∀ (o : QOrigin) (body b : List Byte) (sigs : List (Bool × Bool)) (m1 : Module) (at_ : BitVec 64) (q : QBody) (v : Verdict)
    (k : Nat) (s : State),
    (o = .smbus → s.mod.secRuns = false →
      exec (.quorum o body sigs) s =
        .next { s with mod := if s.mod.smbAnswers then s.mod.smbFaults .notReady else s.mod }) ∧
    (o ≠ .smbus → s.mod.takeQuorum o body false = none → exec (.quorum o body sigs) s = .next s) ∧
    (s.mod.takeQuorum o body false = some (m1, b, at_) → q = QBody.decode b →
      k = (if q.opcode = 8 then 1 else s.mod.sec.state.k) →
      v = verifyEntries k s.mod.sec.state.managers.length (q.opcode == 8) ⟨[], 0⟩
        ((numbered q.keys).map (fun x => (x.2, sigs.getD x.1 (false, false)))) →
      (s.mod.secBusy o = true →
        ∃ m' : Module, exec (.quorum o body sigs) s = .next { s with mod := m' } ∧ m'.RefusedQuorum s.mod o q 8 0) ∧
      (s.mod.secBusy o = false →
        (q.wellFormed = false →
          ∃ m' : Module, exec (.quorum o body sigs) s = .next { s with mod := m' } ∧ m'.RefusedQuorum s.mod o q 1 0) ∧
        (q.wellFormed = true →
          (q.device ≠ Config.deviceId →
            ∃ m' : Module, exec (.quorum o body sigs) s = .next { s with mod := m' } ∧ m'.RefusedQuorum s.mod o q 2 0) ∧
          (q.device = Config.deviceId →
            (q.seq ≤ s.mod.sec.state.seq →
              ∃ m' : Module, exec (.quorum o body sigs) s = .next { s with mod := m' } ∧ m'.RefusedQuorum s.mod o q 3 0) ∧
            (s.mod.sec.state.seq < q.seq →
              (q.notAfter ≠ 0 → s.mod.isOn K.timStatus_SET = false ∨ q.notAfter < at_ →
                ∃ m' : Module, exec (.quorum o body sigs) s = .next { s with mod := m' } ∧
                  m'.RefusedQuorum s.mod o q 4 0) ∧
              (q.notAfter = 0 ∨ (s.mod.isOn K.timStatus_SET = true ∧ at_ ≤ q.notAfter) →
                (q.ver ≠ s.mod.sec.state.ver →
                  ∃ m' : Module, exec (.quorum o body sigs) s = .next { s with mod := m' } ∧
                    m'.RefusedQuorum s.mod o q 5 0) ∧
                (q.ver = s.mod.sec.state.ver →
                  (v.passed.length < k →
                    ∃ m' : Module, exec (.quorum o body sigs) s = .next { s with mod := m' } ∧
                      m'.RefusedQuorum s.mod o q 6 v.passed.length) ∧
                  (k ≤ v.passed.length → s.mod.permitted q = false →
                    ∃ m' : Module, exec (.quorum o body sigs) s = .next { s with mod := m' } ∧
                      m'.RefusedQuorum s.mod o q 7 v.passed.length) ∧
                  (k ≤ v.passed.length → s.mod.permitted q = true →
                    ∃ m' : Module, exec (.quorum o body sigs) s = .next { s with mod := m' } ∧
                      m'.sec.verified = some ⟨o, q.opcode, q.seq, v.passed.length, q.args⟩ ∧
                      m'.sec.state = { s.mod.sec.state with
                        seq := q.seq, pendingOp := some ⟨o, q.opcode, q.seq, v.passed.length, q.args⟩ } ∧
                      m'.getF K.secLast_QSTATUS = 0 ∧ m'.out = s.mod.out))))))))

/-- FENCE, UNFENCE, EXPEL, REHEARSE_GRANT, REHEARSE_REVOKE, KEYSET_ROTATE, DEBUG_UNLOCK and PROVISION: an accepted command
of the opcode takes its effect on the security state, and is answered. -/
def Obligations.AcceptedCommandsTakeEffect : Prop :=
  ∀ (c : QCmd) (g : Rehearsal) (s : State), g = Rehearsal.decode c.args →
    (s.mod.sec.verified = some c →
      (c.opcode = 1 → ∃ m' : Module, exec .fence s = .next { s with mod := m' } ∧ m'.ActedOn c ∧
        m'.sec.state = { s.mod.sec.state with pendingOp := none, fenced := true } ∧
        ∀ k, evtKey .sec_FENCE_ON 0 = some k → m'.getF k = 1) ∧
      (c.opcode = 2 → ∃ m' : Module, exec .unfence s = .next { s with mod := m' } ∧ m'.ActedOn c ∧
        m'.sec.state = { s.mod.sec.state with pendingOp := none, fenced := false, expelled := false } ∧
        ∀ r, s.mod.sec.rehearsal = some r → m'.sec.rehearsal = (if r.window = 2 then none else some r)) ∧
      (c.opcode = 3 → ∃ m' : Module, exec .expel s = .next { s with mod := m' } ∧ m'.ActedOn c ∧
        m'.sec.state.fenced = true ∧ m'.sec.state.expelled = true ∧ m'.sec.state.seq = s.mod.sec.state.seq ∧
        ∀ k, evtKey .sec_EXPELLED 0 = some k → m'.getF k = 1) ∧
      (c.opcode = 4 → ∃ m' : Module, exec .rehearseGrant s = .next { s with mod := m' } ∧ m'.ActedOn c ∧
        (g.window = 0 → m'.sec.state.armed = some g ∧ m'.sec.rehearsal = s.mod.sec.rehearsal) ∧
        (g.window ≠ 0 → m'.sec.state.armed = s.mod.sec.state.armed ∧ m'.sec.rehearsal = some g ∧
          m'.sec.rehearsalEnd = s.mod.elapsed + g.seconds * perSec)) ∧
      (c.opcode = 5 → ∃ m' : Module, exec .rehearseRevoke s = .next { s with mod := m' } ∧ m'.ActedOn c ∧
        m'.sec.rehearsal = none ∧ m'.sec.state = { s.mod.sec.state with pendingOp := none, armed := none }) ∧
      (c.opcode = 6 → ∃ m' : Module, exec .keysetRotate s = .next { s with mod := m' } ∧ m'.ActedOn c ∧
        m'.sec.state.k = field c.args 0 1 ∧ m'.sec.state.managers = keysetPairs c.args ∧
        m'.sec.state.ver = s.mod.sec.state.ver + 1 ∧ m'.sec.state.counter = s.mod.sec.state.counter + 1) ∧
      (c.opcode = 7 → ∃ m' : Module, exec .debugUnlock s = .next { s with mod := m' } ∧ m'.ActedOn c ∧
        m'.sec.debug = true ∧ m'.sec.state = { s.mod.sec.state with pendingOp := none }) ∧
      (c.opcode = 8 → ∃ m' : Module, exec .provision s = .next { s with mod := m' } ∧ m'.ActedOn c ∧
        m'.sec.state.provisioned = true ∧ m'.sec.state.k = field c.args 0 1 ∧
        m'.sec.state.managers = keysetPairs c.args)) ∧
    (s.mod.sec.verified = none → exec .fence s = .next s ∧ exec .unfence s = .next s ∧ exec .expel s = .next s ∧
      exec .rehearseGrant s = .next s ∧ exec .rehearseRevoke s = .next s ∧ exec .keysetRotate s = .next s ∧
      exec .debugUnlock s = .next s ∧ exec .provision s = .next s)

/-- ATTEST, ATTEST_DONE and REHEARSAL_EXPIRY: one report is signed at a time, and none while a quorum command is verified, over
its nonce and the state at the request;
it leaves when it is signed, its signature block and the identity keys behind it; and a permission ends at its DURATION. -/
def Obligations.ReportsAreSigned : Prop :=
  ∀ (o : QOrigin) (nonce b report signature : List Byte) (m1 : Module) (at_ : BitVec 64) (q : QBody) (src : Loc)
    (reqId : BitVec 16) (s : State),
    (s.mod.takeQuorum o (toBytes 32 (32 * 2 ^ 224) ++ nonce) true = some (m1, b, at_) → q = QBody.decode b →
      (s.mod.sec.attesting = none → s.mod.secBusy o = false →
        (q.argLen = 32 → q.args.length = 32 → s.mod.expired q at_ = false →
          ∃ m' : Module, exec (.attest o nonce) s = .next { s with mod := m' } ∧
            m'.sec.attesting = some (o, s.mod.attestation q.args) ∧ m'.sec.state = s.mod.sec.state ∧
            m' = { s.mod with sec := m'.sec, mpc := m'.mpc }) ∧
        (q.argLen = 32 → q.args.length = 32 → s.mod.expired q at_ = true →
          ∃ m' : Module, exec (.attest o nonce) s = .next { s with mod := m' } ∧ m'.RefusedQuorum s.mod o q 4 0) ∧
        (q.argLen ≠ 32 ∨ q.args.length ≠ 32 →
          ∃ m' : Module, exec (.attest o nonce) s = .next { s with mod := m' } ∧ m'.RefusedQuorum s.mod o q 1 0)) ∧
      (s.mod.sec.attesting.isSome = true ∨ s.mod.secBusy o = true →
        ∃ m' : Module, exec (.attest o nonce) s = .next { s with mod := m' } ∧ m'.RefusedQuorum s.mod o q 8 0)) ∧
    (s.mod.sec.attesting = some (.smbus, report) →
      ∃ m' : Module, exec (.attestDone signature) s = .next { s with mod := m' } ∧ m'.sec.attesting = none ∧
        m'.out = s.mod.out ++ [.attestReport .smbus report (attestTail signature)] ∧ m'.Happened s.mod .sec_ATTEST_DONE 0) ∧
    (s.mod.sec.attesting = some (.frame src reqId, report) →
      ∃ m' : Module, exec (.attestDone signature) s = .next { s with mod := m' } ∧ m'.sec.attesting = none ∧
        m'.Answered ⟨src, reqId, 2, 0, report ++ attestTail signature⟩ ∧
        ∀ k, evtKey .sec_ATTEST_DONE 0 = some k → m'.getF k = 1) ∧
    (s.mod.sec.attesting = none → exec (.attestDone signature) s = .next s) ∧
    (s.mod.sec.rehearsalEnd = 0 → exec .rehearsalExpiry s = .next s) ∧
    (s.mod.sec.rehearsalEnd ≠ 0 → s.mod.sec.rehearsal.isSome = true →
      ∃ m' : Module, exec .rehearsalExpiry s = .next { s with mod := m' } ∧ m'.sec.rehearsal = none ∧
        m'.sec.rehearsalEnd = 0 ∧ ∀ k, evtKey .sec_REHEARSAL_OFF 0 = some k → m'.getF k = 1)

/-- The eight INJECT rows are refused alike: while one runs they do nothing, and without a permission, without their kind in
it, or on a target in a substitution, STATUS says so and nothing else happens. INJECT_LINK_LOSS, INJECT_LASER_FADE,
INJECT_RING_MISLOCK, INJECT_RESIDUE_ERROR, INJECT_HBM_CHANNEL, INJECT_SRAM_ROW, INJECT_CLOCK_FAIL, INJECT_MPC_OVERLOAD and
INJECTION_END: each strikes its target as the fault does, and none is recorded. -/
def Obligations.InjectionsAreRefusedOrStrike : Prop :=
  (∀ (kind : Nat) (c : Instr) (dur : BitVec 16) (copied : List Nat) (s : State),
     (kind, c) ∈ [(0, Instr.injectLinkLoss dur), (1, .injectLaserFade), (2, .injectRingMislock), (3, .injectResidueError dur),
       (4, .injectHbmChannel copied), (5, .injectSramRow), (6, .injectClockFail), (7, .injectMpcOverload dur)] →
     (s.mod.isOn K.mpcInjStat_BUSY = true → exec c s = .next s) ∧
     (s.mod.isOn K.mpcInjStat_BUSY = false →
       (s.mod.sec.rehearsal = none → exec c s = .next { s with mod := s.mod.injRefused kind 1 }) ∧
       (s.mod.sec.rehearsal.isSome = true → s.mod.rehearses kind = false →
         exec c s = .next { s with mod := s.mod.injRefused kind 2 }) ∧
       (s.mod.rehearses kind = true → s.mod.targetBusy kind (s.mod.injAt kind) = true →
         exec c s = .next { s with mod := s.mod.injRefused kind 3 }))) ∧
  (∀ (dur : BitVec 16) (copied : List Nat) (t n g : Nat) (s : State),
     (s.mod.MayInject 0 → t = s.mod.injAt 0 →
       ∃ m' : Module, exec (.injectLinkLoss dur) s = .next { s with mod := m' } ∧ m'.Injected s.mod ∧
         m'.mpc.injection = some ⟨0, BitVec.ofNat 32 t, max 1 dur.toNat⟩ ∧ m'.getF K.mpcInjStat_BUSY = 1 ∧
         (s.mod.linkState t = 3 → m'.linkState t ≠ 3)) ∧
     (s.mod.MayInject 1 → t = s.mod.injAt 1 → s.mod.driverOf (bitsOf t 13 8) (t % 4) = some n →
       s.mod.hasSpare (bitsOf t 13 8) n = true →
       ∃ m' : Module, exec .injectLaserFade s = .next { s with mod := m' } ∧ m'.Injected s.mod ∧
         (m'.swapOf (bitsOf t 13 8)).map (fun w => (w.old, w.commanded)) = some (n, true)) ∧
     (s.mod.MayInject 2 → t = s.mod.injAt 2 → (s.mod.ring (bitsOf t 13 8) (t % 256)).locked = true →
       ∃ m' : Module, exec .injectRingMislock s = .next { s with mod := m' } ∧ m'.Injected s.mod ∧
         (m'.ring (bitsOf t 13 8) (t % 256)).locked = false ∧ m'.mpc.repairWait = s.mod.mpc.repairWait) ∧
     (s.mod.MayInject 3 → t = s.mod.injAt 3 →
       ∃ m' : Module, exec (.injectResidueError dur) s = .next { s with mod := m' } ∧ m'.Injected s.mod ∧
         m'.rde.inject = [(t % 32, clampTo 1 16 dur.toNat)] ∧ m'.rde.injectQuar = bitOf t 8 ∧ m'.getF K.mpcInjStat_BUSY = 1) ∧
     (s.mod.MayInject 4 → t = s.mod.injAt 4 → (s.mod.stack (bitsOf t 9 5)).isOut (t % 32) = false →
       ∃ m' : Module, exec (.injectHbmChannel copied) s = .next { s with mod := m' } ∧ m'.Injected s.mod ∧
         (m'.stack (bitsOf t 9 5)).failing = (s.mod.stack (bitsOf t 9 5)).failing ++ [(t % 32, true, true)] ∧
         m'.mpc.repairWait = s.mod.mpc.repairWait) ∧
     (s.mod.MayInject 5 → t = s.mod.injAt 5 → (s.mod.sramRow (bitsOf t 22 20) (bitsOf t 19 11) (bitsOf t 10 0)).retired = false →
       (s.mod.sramRow (bitsOf t 22 20) (bitsOf t 19 11) (bitsOf t 10 0)).moving = none →
       (s.mod.sramRow (bitsOf t 22 20) (bitsOf t 19 11) (bitsOf t 10 0)).remaps < 2 →
       s.mod.rowSpare (bitsOf t 22 20) (bitsOf t 19 11) (bitsOf t 10 0) = some g →
       ∃ m' : Module, exec .injectSramRow s = .next { s with mod := m' } ∧ m'.Injected s.mod ∧
         (m'.sramRow (bitsOf t 22 20) (bitsOf t 19 11) (bitsOf t 10 0)).moving = some g ∧
         (m'.sramRow (bitsOf t 22 20) (bitsOf t 19 11) (bitsOf t 10 0)).rehearsed = true ∧
         m'.mpc.repairWait = s.mod.mpc.repairWait) ∧
     (s.mod.MayInject 6 → s.mod.injAt 6 % 8 = 3 → s.mod.clockFailed 6 = false → s.mod.domSource 3 ≠ 4 →
       s.mod.isOn K.clkCtrl_FAIL_ACTION = false →
       ∃ m' : Module, exec .injectClockFail s = .next { s with mod := m' } ∧ m'.Injected s.mod ∧ m'.clockFailed 3 = true ∧
         3 ∈ m'.clock.rehearsed ∧ m'.domSource 3 = 1 ∧ m'.getF K.clkStatus_NMI = 1) ∧
     (s.mod.MayInject 7 → ∃ m' : Module, exec (.injectMpcOverload dur) s = .next { s with mod := m' } ∧ m'.Injected s.mod ∧
       m'.mpc.injection = some ⟨7, 0, max 1 dur.toNat⟩ ∧ m'.getF K.mpcInjStat_BUSY = 1 ∧ m'.coresHeld = true) ∧
     (∀ i, s.mod.mpc.injection = some i →
       (i.kind = 3 → exec .injectionEnd s = .next s) ∧
       (i.kind ≠ 3 → ∃ m' : Module, exec .injectionEnd s = .next { s with mod := m' } ∧ m'.mpc.injection = none ∧
         m'.getF K.mpcInjStat_BUSY = 0 ∧ m'.RegsKept s.mod [K.mpcInjStat_BUSY])) ∧
     (s.mod.mpc.injection = none → exec .injectionEnd s = .next s))
end

