-- ==== Sys2Proof/Laws/Flash.lean ====
section
/-! SUPPORT. Boot flash: every operation on it keeps its canonical form, and what a byte reads as after a write or an erase. -/

namespace Sys2Proof.Machine

theorem cellsFrom_mono {n k : Nat} (h : n ≤ k) {l : List Host.Cell} (w : cellsFrom k l = true) : cellsFrom n l = true := by
  cases l with
  | nil => rfl
  | cons c t =>
    simp only [cellsFrom, Bool.and_eq_true, decide_eq_true_eq] at w ⊢
    exact ⟨⟨by omega, w.1.2⟩, w.2⟩

theorem cellsFrom_put {n a : Nat} {b : Byte} {l : List Host.Cell} (w : cellsFrom n l = true) (h : n ≤ a) :
    cellsFrom n (cellPut l a b) = true := by
  induction l generalizing n with
  | nil =>
    unfold cellPut
    split
    · rfl
    · next hb => simp [cellsFrom, h, hb]
  | cons c t ih =>
    have hw := w
    simp only [cellsFrom, Bool.and_eq_true, decide_eq_true_eq] at w
    obtain ⟨⟨h1, h2⟩, h3⟩ := w
    unfold cellPut
    repeat' split
    · exact cellsFrom_mono (by omega) h3
    · next hb => subst_vars; simp [cellsFrom, h, hb, h3]
    · exact hw
    · next hb =>
      simp only [cellsFrom, Bool.and_eq_true, decide_eq_true_eq]
      exact ⟨⟨h, hb⟩, ⟨by omega, h2⟩, h3⟩
    · simp only [cellsFrom, Bool.and_eq_true, decide_eq_true_eq]
      exact ⟨⟨h1, h2⟩, ih h3 (by omega)⟩

theorem Memory.wf_put {a : Nat} {b : Byte} {l : List Host.Cell} (w : Memory.wf l = true) : Memory.wf (cellPut l a b) = true :=
  cellsFrom_put w (Nat.zero_le a)

theorem Memory.wf_puts {a : Nat} {bs : List Byte} {l : List Host.Cell} (w : Memory.wf l = true) :
    Memory.wf (cellsPut l a bs) = true := by
  induction bs generalizing l a with
  | nil => exact w
  | cons b t ih => exact ih (Memory.wf_put w)

theorem cellsFrom_filter {n : Nat} {p : Host.Cell → Bool} {l : List Host.Cell} (w : cellsFrom n l = true) :
    cellsFrom n (l.filter p) = true := by
  induction l generalizing n with
  | nil => rfl
  | cons c t ih =>
    simp only [cellsFrom, Bool.and_eq_true, decide_eq_true_eq] at w
    simp only [List.filter_cons]
    split
    · simp only [cellsFrom, Bool.and_eq_true, decide_eq_true_eq]
      exact ⟨w.1, ih w.2⟩
    · exact ih (cellsFrom_mono (by omega) w.2)

theorem Memory.wf_flashWrite {m : Module} {a : Nat} {bs : List Byte} (w : Memory.wf m.flash = true) :
    Memory.wf (m.flashWrite a bs).flash = true := Memory.wf_puts w

theorem Memory.wf_flashErase {m : Module} {a n : Nat} (w : Memory.wf m.flash = true) :
    Memory.wf (m.flashErase a n).flash = true := cellsFrom_filter w

/-! ### What a byte reads as -/

theorem cellAt_below {n a : Nat} {l : List Host.Cell} (w : cellsFrom n l = true) (h : a < n) : cellAt l a = flashErased := by
  induction l generalizing n with
  | nil => rfl
  | cons c t ih =>
    simp only [cellsFrom, Bool.and_eq_true, decide_eq_true_eq] at w
    unfold cellAt
    rw [if_neg (by omega)]
    exact ih w.2 (by omega)

theorem cellAt_put {n a : Nat} {b : Byte} {l : List Host.Cell} (w : cellsFrom n l = true) (x : Nat) :
    cellAt (cellPut l a b) x = if x = a then b else cellAt l x := by
  induction l generalizing n with
  | nil =>
    unfold cellPut
    split <;> simp only [cellAt] <;> split <;> simp_all
    omega
  | cons c t ih =>
    simp only [cellsFrom, Bool.and_eq_true, decide_eq_true_eq] at w
    obtain ⟨⟨h1, h2⟩, h3⟩ := w
    have hb : c.1 = x → cellAt t x = flashErased := fun e => cellAt_below h3 (by omega)
    unfold cellPut
    by_cases hca : c.1 = a
    · rw [if_pos hca]
      by_cases he : b = flashErased
      · rw [if_pos he]
        by_cases hx : x = a
        · rw [if_pos hx, he]; exact hb (by omega)
        · rw [if_neg hx]; simp only [cellAt]; rw [if_neg (by omega)]
      · rw [if_neg he]
        simp only [cellAt]
        by_cases hx : x = a
        · rw [if_pos hx.symm, if_pos hx]
        · rw [if_neg (fun e => hx e.symm), if_neg hx, if_neg (by omega)]
    · rw [if_neg hca]
      by_cases hlt : a < c.1
      · rw [if_pos hlt]
        by_cases he : b = flashErased
        · rw [if_pos he]
          by_cases hx : x = a
          · rw [if_pos hx, he]
            exact cellAt_below (n := c.1) (by simp [cellsFrom, h2, h3]) (by omega)
          · rw [if_neg hx]
        · rw [if_neg he]
          by_cases hx : x = a
          · rw [if_pos hx]; simp [cellAt, hx]
          · rw [if_neg hx, cellAt, if_neg (fun e => hx e.symm)]
      · rw [if_neg hlt]
        simp only [cellAt]
        by_cases hc : c.1 = x
        · rw [if_pos hc, if_pos hc, if_neg (by omega)]
        · rw [if_neg hc, if_neg hc]; exact ih h3

/-- A byte after consecutive cells are written. -/
theorem cellAt_puts {a : Nat} {bs : List Byte} {l : List Host.Cell} (w : Memory.wf l = true) (x : Nat) :
    cellAt (cellsPut l a bs) x = if a ≤ x ∧ x < a + bs.length then bs.getD (x - a) 0 else cellAt l x := by
  induction bs generalizing l a with
  | nil => rw [if_neg (by simp)]; rfl
  | cons b t ih =>
    simp only [cellsPut]
    rw [ih (Memory.wf_put w), cellAt_put w]
    simp only [List.length_cons]
    by_cases h : a + 1 ≤ x ∧ x < a + 1 + t.length
    · rw [if_pos h, if_pos (by omega)]
      have : x - a = (x - (a + 1)) + 1 := by omega
      rw [this, List.getD_cons_succ]
    · rw [if_neg h]
      by_cases hx : x = a
      · rw [if_pos hx, if_pos (by omega)]; simp [hx]
      · rw [if_neg hx, if_neg (by omega)]

theorem cellAt_filter {p : Nat → Bool} {l : List Host.Cell} (x : Nat) :
    cellAt (l.filter (fun c => p c.1)) x = if p x = true then cellAt l x else flashErased := by
  induction l with
  | nil => simp [cellAt]
  | cons c t ih =>
    simp only [List.filter_cons]
    by_cases hp : p c.1 = true
    · rw [if_pos hp]
      simp only [cellAt]
      by_cases hc : c.1 = x
      · rw [if_pos hc, if_pos hc, if_pos (hc ▸ hp)]
      · rw [if_neg hc, if_neg hc, ih]
    · rw [if_neg hp, ih]
      by_cases hx : p x = true
      · rw [if_pos hx, if_pos hx]; simp only [cellAt]; rw [if_neg (fun e : c.1 = x => hp (by rw [e]; exact hx))]
      · rw [if_neg hx, if_neg hx]

theorem Module.flashByte_write {m : Module} (w : Memory.wf m.flash = true) (a : Nat) (bs : List Byte) (x : Nat) :
    (m.flashWrite a bs).flashByte x = if a ≤ x ∧ x < a + bs.length then bs.getD (x - a) 0 else m.flashByte x :=
  cellAt_puts w x

theorem Module.flashByte_erase (m : Module) (a n x : Nat) :
    (m.flashErase a n).flashByte x = if a ≤ x ∧ x < a + n then flashErased else m.flashByte x := by
  unfold Module.flashErase Module.flashByte
  dsimp only
  rw [cellAt_filter (p := fun k => decide (k < a) || decide (a + n ≤ k))]
  by_cases h : a ≤ x ∧ x < a + n
  · rw [if_pos h, if_neg (by simp; omega)]
  · rw [if_neg h, if_pos (by simp; omega)]

end Sys2Proof.Machine
end

