-- ==== Sys2Proof/Laws/State.lean ====
section
/-! SUPPORT. One lemma for each field of the state and each basic update of it, and what a register field and a counter
hold after an update. -/

namespace Sys2Proof.Machine

/-! ### The state -/

@[simp] theorem State.run_eq (s : State) (f : Module → Module) : s.run f = .next { s with mod := f s.mod } := rfl

/-! ### Sparse tables -/

section
variable {κ α : Type} [DecidableEq κ]

@[simp] theorem Tbl.get_nil (d : α) (k : κ) : Tbl.get ([] : Tbl κ α) d k = d := rfl

@[simp] theorem Tbl.find_put_self (t : Tbl κ α) (k : κ) (v : α) : Tbl.find (Tbl.put t k v) k = some v := by
  induction t with
  | nil => simp [Tbl.put, Tbl.find]
  | cons x r ih =>
    by_cases h : x.1 = k
    · simp [Tbl.put, Tbl.find, h]
    · simp [Tbl.put, Tbl.find, h, ih]

theorem Tbl.find_put_ne (t : Tbl κ α) {k k' : κ} (v : α) (h : k ≠ k') : Tbl.find (Tbl.put t k v) k' = Tbl.find t k' := by
  induction t with
  | nil => simp [Tbl.put, Tbl.find, h]
  | cons x r ih =>
    by_cases hx : x.1 = k
    · simp [Tbl.put, Tbl.find, hx, h]
    · by_cases hk : x.1 = k'
      · simp [Tbl.put, Tbl.find, hk, h.symm]
      · simp [Tbl.put, Tbl.find, hx, hk, ih]

@[simp] theorem Tbl.get_put_self (t : Tbl κ α) (d : α) (k : κ) (v : α) : Tbl.get (Tbl.put t k v) d k = v := by
  simp [Tbl.get]

theorem Tbl.get_put_ne (t : Tbl κ α) (d : α) {k k' : κ} (v : α) (h : k ≠ k') :
    Tbl.get (Tbl.put t k v) d k' = Tbl.get t d k' := by
  simp [Tbl.get, Tbl.find_put_ne t v h]

theorem Tbl.get_put (t : Tbl κ α) (d : α) (k k' : κ) (v : α) :
    Tbl.get (Tbl.put t k v) d k' = if k = k' then v else Tbl.get t d k' := by
  split
  · next h => rw [← h]; simp
  · next h => exact Tbl.get_put_ne t d v h

end

/-! ### Fields of the module -/

@[simp] theorem Module.setF_elapsed (m : Module) (k : FKey) (v : Nat) : (m.setF k v).elapsed = m.elapsed := rfl
@[simp] theorem Module.setF_counters (m : Module) (k : FKey) (v : Nat) : (m.setF k v).counters = m.counters := rfl
@[simp] theorem Module.setF_loHeld (m : Module) (k : FKey) (v : Nat) : (m.setF k v).loHeld = m.loHeld := rfl
@[simp] theorem Module.setF_captured (m : Module) (k : FKey) (v : Nat) : (m.setF k v).captured = m.captured := rfl
@[simp] theorem Module.setF_time (m : Module) (k : FKey) (v : Nat) : (m.setF k v).time = m.time := rfl
@[simp] theorem Module.setF_clock (m : Module) (k : FKey) (v : Nat) : (m.setF k v).clock = m.clock := rfl
@[simp] theorem Module.setF_lock (m : Module) (k : FKey) (v : Nat) : (m.setF k v).lock = m.lock := rfl
@[simp] theorem Module.setF_power (m : Module) (k : FKey) (v : Nat) : (m.setF k v).power = m.power := rfl
@[simp] theorem Module.setF_log (m : Module) (k : FKey) (v : Nat) : (m.setF k v).log = m.log := rfl
@[simp] theorem Module.setF_tel (m : Module) (k : FKey) (v : Nat) : (m.setF k v).tel = m.tel := rfl
@[simp] theorem Module.setF_lpe (m : Module) (k : FKey) (v : Nat) : (m.setF k v).lpe = m.lpe := rfl
@[simp] theorem Module.setF_fly (m : Module) (k : FKey) (v : Nat) : (m.setF k v).fly = m.fly := rfl
@[simp] theorem Module.setF_link (m : Module) (k : FKey) (v : Nat) : (m.setF k v).link = m.link := rfl
@[simp] theorem Module.setF_fwd (m : Module) (k : FKey) (v : Nat) : (m.setF k v).fwd = m.fwd := rfl
@[simp] theorem Module.setF_buf (m : Module) (k : FKey) (v : Nat) : (m.setF k v).buf = m.buf := rfl
@[simp] theorem Module.setF_sram (m : Module) (k : FKey) (v : Nat) : (m.setF k v).sram = m.sram := rfl
@[simp] theorem Module.setF_col (m : Module) (k : FKey) (v : Nat) : (m.setF k v).col = m.col := rfl
@[simp] theorem Module.setF_rde (m : Module) (k : FKey) (v : Nat) : (m.setF k v).rde = m.rde := rfl
@[simp] theorem Module.setF_pra (m : Module) (k : FKey) (v : Nat) : (m.setF k v).pra = m.pra := rfl
@[simp] theorem Module.setF_hbm (m : Module) (k : FKey) (v : Nat) : (m.setF k v).hbm = m.hbm := rfl
@[simp] theorem Module.setF_mpc (m : Module) (k : FKey) (v : Nat) : (m.setF k v).mpc = m.mpc := rfl
@[simp] theorem Module.setF_sec (m : Module) (k : FKey) (v : Nat) : (m.setF k v).sec = m.sec := rfl
@[simp] theorem Module.setF_img (m : Module) (k : FKey) (v : Nat) : (m.setF k v).img = m.img := rfl
@[simp] theorem Module.setF_flash (m : Module) (k : FKey) (v : Nat) : (m.setF k v).flash = m.flash := rfl
@[simp] theorem Module.setF_out (m : Module) (k : FKey) (v : Nat) : (m.setF k v).out = m.out := rfl
@[simp] theorem Module.setF_fresh (m : Module) (k : FKey) (v : Nat) : (m.setF k v).fresh = m.fresh := rfl

@[simp] theorem Module.setB_elapsed (m : Module) (k : FKey) (b : Bool) : (m.setB k b).elapsed = m.elapsed := rfl
@[simp] theorem Module.setB_counters (m : Module) (k : FKey) (b : Bool) : (m.setB k b).counters = m.counters := rfl
@[simp] theorem Module.setB_loHeld (m : Module) (k : FKey) (b : Bool) : (m.setB k b).loHeld = m.loHeld := rfl
@[simp] theorem Module.setB_captured (m : Module) (k : FKey) (b : Bool) : (m.setB k b).captured = m.captured := rfl
@[simp] theorem Module.setB_time (m : Module) (k : FKey) (b : Bool) : (m.setB k b).time = m.time := rfl
@[simp] theorem Module.setB_clock (m : Module) (k : FKey) (b : Bool) : (m.setB k b).clock = m.clock := rfl
@[simp] theorem Module.setB_lock (m : Module) (k : FKey) (b : Bool) : (m.setB k b).lock = m.lock := rfl
@[simp] theorem Module.setB_power (m : Module) (k : FKey) (b : Bool) : (m.setB k b).power = m.power := rfl
@[simp] theorem Module.setB_log (m : Module) (k : FKey) (b : Bool) : (m.setB k b).log = m.log := rfl
@[simp] theorem Module.setB_tel (m : Module) (k : FKey) (b : Bool) : (m.setB k b).tel = m.tel := rfl
@[simp] theorem Module.setB_lpe (m : Module) (k : FKey) (b : Bool) : (m.setB k b).lpe = m.lpe := rfl
@[simp] theorem Module.setB_fly (m : Module) (k : FKey) (b : Bool) : (m.setB k b).fly = m.fly := rfl
@[simp] theorem Module.setB_link (m : Module) (k : FKey) (b : Bool) : (m.setB k b).link = m.link := rfl
@[simp] theorem Module.setB_fwd (m : Module) (k : FKey) (b : Bool) : (m.setB k b).fwd = m.fwd := rfl
@[simp] theorem Module.setB_buf (m : Module) (k : FKey) (b : Bool) : (m.setB k b).buf = m.buf := rfl
@[simp] theorem Module.setB_sram (m : Module) (k : FKey) (b : Bool) : (m.setB k b).sram = m.sram := rfl
@[simp] theorem Module.setB_col (m : Module) (k : FKey) (b : Bool) : (m.setB k b).col = m.col := rfl
@[simp] theorem Module.setB_rde (m : Module) (k : FKey) (b : Bool) : (m.setB k b).rde = m.rde := rfl
@[simp] theorem Module.setB_pra (m : Module) (k : FKey) (b : Bool) : (m.setB k b).pra = m.pra := rfl
@[simp] theorem Module.setB_hbm (m : Module) (k : FKey) (b : Bool) : (m.setB k b).hbm = m.hbm := rfl
@[simp] theorem Module.setB_mpc (m : Module) (k : FKey) (b : Bool) : (m.setB k b).mpc = m.mpc := rfl
@[simp] theorem Module.setB_sec (m : Module) (k : FKey) (b : Bool) : (m.setB k b).sec = m.sec := rfl
@[simp] theorem Module.setB_img (m : Module) (k : FKey) (b : Bool) : (m.setB k b).img = m.img := rfl
@[simp] theorem Module.setB_flash (m : Module) (k : FKey) (b : Bool) : (m.setB k b).flash = m.flash := rfl
@[simp] theorem Module.setB_out (m : Module) (k : FKey) (b : Bool) : (m.setB k b).out = m.out := rfl
@[simp] theorem Module.setB_fresh (m : Module) (k : FKey) (b : Bool) : (m.setB k b).fresh = m.fresh := rfl

@[simp] theorem Module.setBit_elapsed (m : Module) (k : FKey) (b : Nat) (v : Bool) : (m.setBit k b v).elapsed = m.elapsed := rfl
@[simp] theorem Module.setBit_counters (m : Module) (k : FKey) (b : Nat) (v : Bool) : (m.setBit k b v).counters = m.counters := rfl
@[simp] theorem Module.setBit_loHeld (m : Module) (k : FKey) (b : Nat) (v : Bool) : (m.setBit k b v).loHeld = m.loHeld := rfl
@[simp] theorem Module.setBit_captured (m : Module) (k : FKey) (b : Nat) (v : Bool) : (m.setBit k b v).captured = m.captured := rfl
@[simp] theorem Module.setBit_time (m : Module) (k : FKey) (b : Nat) (v : Bool) : (m.setBit k b v).time = m.time := rfl
@[simp] theorem Module.setBit_clock (m : Module) (k : FKey) (b : Nat) (v : Bool) : (m.setBit k b v).clock = m.clock := rfl
@[simp] theorem Module.setBit_lock (m : Module) (k : FKey) (b : Nat) (v : Bool) : (m.setBit k b v).lock = m.lock := rfl
@[simp] theorem Module.setBit_power (m : Module) (k : FKey) (b : Nat) (v : Bool) : (m.setBit k b v).power = m.power := rfl
@[simp] theorem Module.setBit_log (m : Module) (k : FKey) (b : Nat) (v : Bool) : (m.setBit k b v).log = m.log := rfl
@[simp] theorem Module.setBit_tel (m : Module) (k : FKey) (b : Nat) (v : Bool) : (m.setBit k b v).tel = m.tel := rfl
@[simp] theorem Module.setBit_lpe (m : Module) (k : FKey) (b : Nat) (v : Bool) : (m.setBit k b v).lpe = m.lpe := rfl
@[simp] theorem Module.setBit_fly (m : Module) (k : FKey) (b : Nat) (v : Bool) : (m.setBit k b v).fly = m.fly := rfl
@[simp] theorem Module.setBit_link (m : Module) (k : FKey) (b : Nat) (v : Bool) : (m.setBit k b v).link = m.link := rfl
@[simp] theorem Module.setBit_fwd (m : Module) (k : FKey) (b : Nat) (v : Bool) : (m.setBit k b v).fwd = m.fwd := rfl
@[simp] theorem Module.setBit_buf (m : Module) (k : FKey) (b : Nat) (v : Bool) : (m.setBit k b v).buf = m.buf := rfl
@[simp] theorem Module.setBit_sram (m : Module) (k : FKey) (b : Nat) (v : Bool) : (m.setBit k b v).sram = m.sram := rfl
@[simp] theorem Module.setBit_col (m : Module) (k : FKey) (b : Nat) (v : Bool) : (m.setBit k b v).col = m.col := rfl
@[simp] theorem Module.setBit_rde (m : Module) (k : FKey) (b : Nat) (v : Bool) : (m.setBit k b v).rde = m.rde := rfl
@[simp] theorem Module.setBit_pra (m : Module) (k : FKey) (b : Nat) (v : Bool) : (m.setBit k b v).pra = m.pra := rfl
@[simp] theorem Module.setBit_hbm (m : Module) (k : FKey) (b : Nat) (v : Bool) : (m.setBit k b v).hbm = m.hbm := rfl
@[simp] theorem Module.setBit_mpc (m : Module) (k : FKey) (b : Nat) (v : Bool) : (m.setBit k b v).mpc = m.mpc := rfl
@[simp] theorem Module.setBit_sec (m : Module) (k : FKey) (b : Nat) (v : Bool) : (m.setBit k b v).sec = m.sec := rfl
@[simp] theorem Module.setBit_img (m : Module) (k : FKey) (b : Nat) (v : Bool) : (m.setBit k b v).img = m.img := rfl
@[simp] theorem Module.setBit_flash (m : Module) (k : FKey) (b : Nat) (v : Bool) : (m.setBit k b v).flash = m.flash := rfl
@[simp] theorem Module.setBit_out (m : Module) (k : FKey) (b : Nat) (v : Bool) : (m.setBit k b v).out = m.out := rfl
@[simp] theorem Module.setBit_fresh (m : Module) (k : FKey) (b : Nat) (v : Bool) : (m.setBit k b v).fresh = m.fresh := rfl

@[simp] theorem Module.addSat_elapsed (m : Module) (k : FKey) (n most : Nat) : (m.addSat k n most).elapsed = m.elapsed := rfl
@[simp] theorem Module.addSat_counters (m : Module) (k : FKey) (n most : Nat) : (m.addSat k n most).counters = m.counters := rfl
@[simp] theorem Module.addSat_loHeld (m : Module) (k : FKey) (n most : Nat) : (m.addSat k n most).loHeld = m.loHeld := rfl
@[simp] theorem Module.addSat_captured (m : Module) (k : FKey) (n most : Nat) : (m.addSat k n most).captured = m.captured := rfl
@[simp] theorem Module.addSat_time (m : Module) (k : FKey) (n most : Nat) : (m.addSat k n most).time = m.time := rfl
@[simp] theorem Module.addSat_clock (m : Module) (k : FKey) (n most : Nat) : (m.addSat k n most).clock = m.clock := rfl
@[simp] theorem Module.addSat_lock (m : Module) (k : FKey) (n most : Nat) : (m.addSat k n most).lock = m.lock := rfl
@[simp] theorem Module.addSat_power (m : Module) (k : FKey) (n most : Nat) : (m.addSat k n most).power = m.power := rfl
@[simp] theorem Module.addSat_log (m : Module) (k : FKey) (n most : Nat) : (m.addSat k n most).log = m.log := rfl
@[simp] theorem Module.addSat_tel (m : Module) (k : FKey) (n most : Nat) : (m.addSat k n most).tel = m.tel := rfl
@[simp] theorem Module.addSat_lpe (m : Module) (k : FKey) (n most : Nat) : (m.addSat k n most).lpe = m.lpe := rfl
@[simp] theorem Module.addSat_fly (m : Module) (k : FKey) (n most : Nat) : (m.addSat k n most).fly = m.fly := rfl
@[simp] theorem Module.addSat_link (m : Module) (k : FKey) (n most : Nat) : (m.addSat k n most).link = m.link := rfl
@[simp] theorem Module.addSat_fwd (m : Module) (k : FKey) (n most : Nat) : (m.addSat k n most).fwd = m.fwd := rfl
@[simp] theorem Module.addSat_buf (m : Module) (k : FKey) (n most : Nat) : (m.addSat k n most).buf = m.buf := rfl
@[simp] theorem Module.addSat_sram (m : Module) (k : FKey) (n most : Nat) : (m.addSat k n most).sram = m.sram := rfl
@[simp] theorem Module.addSat_col (m : Module) (k : FKey) (n most : Nat) : (m.addSat k n most).col = m.col := rfl
@[simp] theorem Module.addSat_rde (m : Module) (k : FKey) (n most : Nat) : (m.addSat k n most).rde = m.rde := rfl
@[simp] theorem Module.addSat_pra (m : Module) (k : FKey) (n most : Nat) : (m.addSat k n most).pra = m.pra := rfl
@[simp] theorem Module.addSat_hbm (m : Module) (k : FKey) (n most : Nat) : (m.addSat k n most).hbm = m.hbm := rfl
@[simp] theorem Module.addSat_mpc (m : Module) (k : FKey) (n most : Nat) : (m.addSat k n most).mpc = m.mpc := rfl
@[simp] theorem Module.addSat_sec (m : Module) (k : FKey) (n most : Nat) : (m.addSat k n most).sec = m.sec := rfl
@[simp] theorem Module.addSat_img (m : Module) (k : FKey) (n most : Nat) : (m.addSat k n most).img = m.img := rfl
@[simp] theorem Module.addSat_flash (m : Module) (k : FKey) (n most : Nat) : (m.addSat k n most).flash = m.flash := rfl
@[simp] theorem Module.addSat_out (m : Module) (k : FKey) (n most : Nat) : (m.addSat k n most).out = m.out := rfl
@[simp] theorem Module.addSat_fresh (m : Module) (k : FKey) (n most : Nat) : (m.addSat k n most).fresh = m.fresh := rfl

@[simp] theorem Module.drawn_elapsed (m : Module)  : (m.drawn).elapsed = m.elapsed := rfl
@[simp] theorem Module.drawn_regs (m : Module)  : (m.drawn).regs = m.regs := rfl
@[simp] theorem Module.drawn_counters (m : Module)  : (m.drawn).counters = m.counters := rfl
@[simp] theorem Module.drawn_loHeld (m : Module)  : (m.drawn).loHeld = m.loHeld := rfl
@[simp] theorem Module.drawn_captured (m : Module)  : (m.drawn).captured = m.captured := rfl
@[simp] theorem Module.drawn_time (m : Module)  : (m.drawn).time = m.time := rfl
@[simp] theorem Module.drawn_clock (m : Module)  : (m.drawn).clock = m.clock := rfl
@[simp] theorem Module.drawn_lock (m : Module)  : (m.drawn).lock = m.lock := rfl
@[simp] theorem Module.drawn_power (m : Module)  : (m.drawn).power = m.power := rfl
@[simp] theorem Module.drawn_log (m : Module)  : (m.drawn).log = m.log := rfl
@[simp] theorem Module.drawn_tel (m : Module)  : (m.drawn).tel = m.tel := rfl
@[simp] theorem Module.drawn_lpe (m : Module)  : (m.drawn).lpe = m.lpe := rfl
@[simp] theorem Module.drawn_fly (m : Module)  : (m.drawn).fly = m.fly := rfl
@[simp] theorem Module.drawn_link (m : Module)  : (m.drawn).link = m.link := rfl
@[simp] theorem Module.drawn_fwd (m : Module)  : (m.drawn).fwd = m.fwd := rfl
@[simp] theorem Module.drawn_buf (m : Module)  : (m.drawn).buf = m.buf := rfl
@[simp] theorem Module.drawn_sram (m : Module)  : (m.drawn).sram = m.sram := rfl
@[simp] theorem Module.drawn_col (m : Module)  : (m.drawn).col = m.col := rfl
@[simp] theorem Module.drawn_rde (m : Module)  : (m.drawn).rde = m.rde := rfl
@[simp] theorem Module.drawn_pra (m : Module)  : (m.drawn).pra = m.pra := rfl
@[simp] theorem Module.drawn_hbm (m : Module)  : (m.drawn).hbm = m.hbm := rfl
@[simp] theorem Module.drawn_mpc (m : Module)  : (m.drawn).mpc = m.mpc := rfl
@[simp] theorem Module.drawn_sec (m : Module)  : (m.drawn).sec = m.sec := rfl
@[simp] theorem Module.drawn_img (m : Module)  : (m.drawn).img = m.img := rfl
@[simp] theorem Module.drawn_flash (m : Module)  : (m.drawn).flash = m.flash := rfl
@[simp] theorem Module.drawn_out (m : Module)  : (m.drawn).out = m.out := rfl

@[simp] theorem Module.emit_elapsed (m : Module) (e : Emission) : (m.emit e).elapsed = m.elapsed := rfl
@[simp] theorem Module.emit_regs (m : Module) (e : Emission) : (m.emit e).regs = m.regs := rfl
@[simp] theorem Module.emit_counters (m : Module) (e : Emission) : (m.emit e).counters = m.counters := rfl
@[simp] theorem Module.emit_loHeld (m : Module) (e : Emission) : (m.emit e).loHeld = m.loHeld := rfl
@[simp] theorem Module.emit_captured (m : Module) (e : Emission) : (m.emit e).captured = m.captured := rfl
@[simp] theorem Module.emit_time (m : Module) (e : Emission) : (m.emit e).time = m.time := rfl
@[simp] theorem Module.emit_clock (m : Module) (e : Emission) : (m.emit e).clock = m.clock := rfl
@[simp] theorem Module.emit_lock (m : Module) (e : Emission) : (m.emit e).lock = m.lock := rfl
@[simp] theorem Module.emit_power (m : Module) (e : Emission) : (m.emit e).power = m.power := rfl
@[simp] theorem Module.emit_log (m : Module) (e : Emission) : (m.emit e).log = m.log := rfl
@[simp] theorem Module.emit_tel (m : Module) (e : Emission) : (m.emit e).tel = m.tel := rfl
@[simp] theorem Module.emit_lpe (m : Module) (e : Emission) : (m.emit e).lpe = m.lpe := rfl
@[simp] theorem Module.emit_fly (m : Module) (e : Emission) : (m.emit e).fly = m.fly := rfl
@[simp] theorem Module.emit_link (m : Module) (e : Emission) : (m.emit e).link = m.link := rfl
@[simp] theorem Module.emit_fwd (m : Module) (e : Emission) : (m.emit e).fwd = m.fwd := rfl
@[simp] theorem Module.emit_buf (m : Module) (e : Emission) : (m.emit e).buf = m.buf := rfl
@[simp] theorem Module.emit_sram (m : Module) (e : Emission) : (m.emit e).sram = m.sram := rfl
@[simp] theorem Module.emit_col (m : Module) (e : Emission) : (m.emit e).col = m.col := rfl
@[simp] theorem Module.emit_rde (m : Module) (e : Emission) : (m.emit e).rde = m.rde := rfl
@[simp] theorem Module.emit_pra (m : Module) (e : Emission) : (m.emit e).pra = m.pra := rfl
@[simp] theorem Module.emit_hbm (m : Module) (e : Emission) : (m.emit e).hbm = m.hbm := rfl
@[simp] theorem Module.emit_mpc (m : Module) (e : Emission) : (m.emit e).mpc = m.mpc := rfl
@[simp] theorem Module.emit_sec (m : Module) (e : Emission) : (m.emit e).sec = m.sec := rfl
@[simp] theorem Module.emit_img (m : Module) (e : Emission) : (m.emit e).img = m.img := rfl
@[simp] theorem Module.emit_flash (m : Module) (e : Emission) : (m.emit e).flash = m.flash := rfl
@[simp] theorem Module.emit_fresh (m : Module) (e : Emission) : (m.emit e).fresh = m.fresh := rfl

@[simp] theorem Module.alert_elapsed (m : Module) (k : FKey) : (m.alert k).elapsed = m.elapsed := rfl
@[simp] theorem Module.alert_counters (m : Module) (k : FKey) : (m.alert k).counters = m.counters := rfl
@[simp] theorem Module.alert_loHeld (m : Module) (k : FKey) : (m.alert k).loHeld = m.loHeld := rfl
@[simp] theorem Module.alert_captured (m : Module) (k : FKey) : (m.alert k).captured = m.captured := rfl
@[simp] theorem Module.alert_time (m : Module) (k : FKey) : (m.alert k).time = m.time := rfl
@[simp] theorem Module.alert_clock (m : Module) (k : FKey) : (m.alert k).clock = m.clock := rfl
@[simp] theorem Module.alert_lock (m : Module) (k : FKey) : (m.alert k).lock = m.lock := rfl
@[simp] theorem Module.alert_power (m : Module) (k : FKey) : (m.alert k).power = m.power := rfl
@[simp] theorem Module.alert_log (m : Module) (k : FKey) : (m.alert k).log = m.log := rfl
@[simp] theorem Module.alert_tel (m : Module) (k : FKey) : (m.alert k).tel = m.tel := rfl
@[simp] theorem Module.alert_lpe (m : Module) (k : FKey) : (m.alert k).lpe = m.lpe := rfl
@[simp] theorem Module.alert_fly (m : Module) (k : FKey) : (m.alert k).fly = m.fly := rfl
@[simp] theorem Module.alert_link (m : Module) (k : FKey) : (m.alert k).link = m.link := rfl
@[simp] theorem Module.alert_fwd (m : Module) (k : FKey) : (m.alert k).fwd = m.fwd := rfl
@[simp] theorem Module.alert_buf (m : Module) (k : FKey) : (m.alert k).buf = m.buf := rfl
@[simp] theorem Module.alert_sram (m : Module) (k : FKey) : (m.alert k).sram = m.sram := rfl
@[simp] theorem Module.alert_col (m : Module) (k : FKey) : (m.alert k).col = m.col := rfl
@[simp] theorem Module.alert_rde (m : Module) (k : FKey) : (m.alert k).rde = m.rde := rfl
@[simp] theorem Module.alert_pra (m : Module) (k : FKey) : (m.alert k).pra = m.pra := rfl
@[simp] theorem Module.alert_hbm (m : Module) (k : FKey) : (m.alert k).hbm = m.hbm := rfl
@[simp] theorem Module.alert_mpc (m : Module) (k : FKey) : (m.alert k).mpc = m.mpc := rfl
@[simp] theorem Module.alert_sec (m : Module) (k : FKey) : (m.alert k).sec = m.sec := rfl
@[simp] theorem Module.alert_img (m : Module) (k : FKey) : (m.alert k).img = m.img := rfl
@[simp] theorem Module.alert_flash (m : Module) (k : FKey) : (m.alert k).flash = m.flash := rfl
@[simp] theorem Module.alert_out (m : Module) (k : FKey) : (m.alert k).out = m.out := rfl
@[simp] theorem Module.alert_fresh (m : Module) (k : FKey) : (m.alert k).fresh = m.fresh := rfl

@[simp] theorem Module.record_elapsed (m : Module) (a b c : Nat) : (m.record a b c).elapsed = m.elapsed := rfl
@[simp] theorem Module.record_regs (m : Module) (a b c : Nat) : (m.record a b c).regs = m.regs := rfl
@[simp] theorem Module.record_counters (m : Module) (a b c : Nat) : (m.record a b c).counters = m.counters := rfl
@[simp] theorem Module.record_loHeld (m : Module) (a b c : Nat) : (m.record a b c).loHeld = m.loHeld := rfl
@[simp] theorem Module.record_captured (m : Module) (a b c : Nat) : (m.record a b c).captured = m.captured := rfl
@[simp] theorem Module.record_time (m : Module) (a b c : Nat) : (m.record a b c).time = m.time := rfl
@[simp] theorem Module.record_clock (m : Module) (a b c : Nat) : (m.record a b c).clock = m.clock := rfl
@[simp] theorem Module.record_lock (m : Module) (a b c : Nat) : (m.record a b c).lock = m.lock := rfl
@[simp] theorem Module.record_power (m : Module) (a b c : Nat) : (m.record a b c).power = m.power := rfl
@[simp] theorem Module.record_log (m : Module) (a b c : Nat) : (m.record a b c).log = m.log := rfl
@[simp] theorem Module.record_tel (m : Module) (a b c : Nat) : (m.record a b c).tel = m.tel := rfl
@[simp] theorem Module.record_lpe (m : Module) (a b c : Nat) : (m.record a b c).lpe = m.lpe := rfl
@[simp] theorem Module.record_fly (m : Module) (a b c : Nat) : (m.record a b c).fly = m.fly := rfl
@[simp] theorem Module.record_link (m : Module) (a b c : Nat) : (m.record a b c).link = m.link := rfl
@[simp] theorem Module.record_fwd (m : Module) (a b c : Nat) : (m.record a b c).fwd = m.fwd := rfl
@[simp] theorem Module.record_buf (m : Module) (a b c : Nat) : (m.record a b c).buf = m.buf := rfl
@[simp] theorem Module.record_sram (m : Module) (a b c : Nat) : (m.record a b c).sram = m.sram := rfl
@[simp] theorem Module.record_col (m : Module) (a b c : Nat) : (m.record a b c).col = m.col := rfl
@[simp] theorem Module.record_rde (m : Module) (a b c : Nat) : (m.record a b c).rde = m.rde := rfl
@[simp] theorem Module.record_pra (m : Module) (a b c : Nat) : (m.record a b c).pra = m.pra := rfl
@[simp] theorem Module.record_hbm (m : Module) (a b c : Nat) : (m.record a b c).hbm = m.hbm := rfl
@[simp] theorem Module.record_sec (m : Module) (a b c : Nat) : (m.record a b c).sec = m.sec := rfl
@[simp] theorem Module.record_img (m : Module) (a b c : Nat) : (m.record a b c).img = m.img := rfl
@[simp] theorem Module.record_flash (m : Module) (a b c : Nat) : (m.record a b c).flash = m.flash := rfl
@[simp] theorem Module.record_out (m : Module) (a b c : Nat) : (m.record a b c).out = m.out := rfl
@[simp] theorem Module.record_fresh (m : Module) (a b c : Nat) : (m.record a b c).fresh = m.fresh := rfl

@[simp] theorem Module.drawn_fresh (m : Module) : m.drawn.fresh = m.fresh + 1 := rfl
@[simp] theorem Module.emit_out (m : Module) (e : Emission) : (m.emit e).out = m.out ++ [e] := rfl

@[simp] theorem Module.count_elapsed (m : Module) (num inst n : Nat) : (m.count num inst n).elapsed = m.elapsed := by unfold Module.count; split <;> rfl
@[simp] theorem Module.count_regs (m : Module) (num inst n : Nat) : (m.count num inst n).regs = m.regs := by unfold Module.count; split <;> rfl
@[simp] theorem Module.count_loHeld (m : Module) (num inst n : Nat) : (m.count num inst n).loHeld = m.loHeld := by unfold Module.count; split <;> rfl
@[simp] theorem Module.count_captured (m : Module) (num inst n : Nat) : (m.count num inst n).captured = m.captured := by unfold Module.count; split <;> rfl
@[simp] theorem Module.count_time (m : Module) (num inst n : Nat) : (m.count num inst n).time = m.time := by unfold Module.count; split <;> rfl
@[simp] theorem Module.count_clock (m : Module) (num inst n : Nat) : (m.count num inst n).clock = m.clock := by unfold Module.count; split <;> rfl
@[simp] theorem Module.count_lock (m : Module) (num inst n : Nat) : (m.count num inst n).lock = m.lock := by unfold Module.count; split <;> rfl
@[simp] theorem Module.count_power (m : Module) (num inst n : Nat) : (m.count num inst n).power = m.power := by unfold Module.count; split <;> rfl
@[simp] theorem Module.count_log (m : Module) (num inst n : Nat) : (m.count num inst n).log = m.log := by unfold Module.count; split <;> rfl
@[simp] theorem Module.count_tel (m : Module) (num inst n : Nat) : (m.count num inst n).tel = m.tel := by unfold Module.count; split <;> rfl
@[simp] theorem Module.count_lpe (m : Module) (num inst n : Nat) : (m.count num inst n).lpe = m.lpe := by unfold Module.count; split <;> rfl
@[simp] theorem Module.count_fly (m : Module) (num inst n : Nat) : (m.count num inst n).fly = m.fly := by unfold Module.count; split <;> rfl
@[simp] theorem Module.count_link (m : Module) (num inst n : Nat) : (m.count num inst n).link = m.link := by unfold Module.count; split <;> rfl
@[simp] theorem Module.count_fwd (m : Module) (num inst n : Nat) : (m.count num inst n).fwd = m.fwd := by unfold Module.count; split <;> rfl
@[simp] theorem Module.count_buf (m : Module) (num inst n : Nat) : (m.count num inst n).buf = m.buf := by unfold Module.count; split <;> rfl
@[simp] theorem Module.count_sram (m : Module) (num inst n : Nat) : (m.count num inst n).sram = m.sram := by unfold Module.count; split <;> rfl
@[simp] theorem Module.count_col (m : Module) (num inst n : Nat) : (m.count num inst n).col = m.col := by unfold Module.count; split <;> rfl
@[simp] theorem Module.count_rde (m : Module) (num inst n : Nat) : (m.count num inst n).rde = m.rde := by unfold Module.count; split <;> rfl
@[simp] theorem Module.count_pra (m : Module) (num inst n : Nat) : (m.count num inst n).pra = m.pra := by unfold Module.count; split <;> rfl
@[simp] theorem Module.count_hbm (m : Module) (num inst n : Nat) : (m.count num inst n).hbm = m.hbm := by unfold Module.count; split <;> rfl
@[simp] theorem Module.count_mpc (m : Module) (num inst n : Nat) : (m.count num inst n).mpc = m.mpc := by unfold Module.count; split <;> rfl
@[simp] theorem Module.count_sec (m : Module) (num inst n : Nat) : (m.count num inst n).sec = m.sec := by unfold Module.count; split <;> rfl
@[simp] theorem Module.count_img (m : Module) (num inst n : Nat) : (m.count num inst n).img = m.img := by unfold Module.count; split <;> rfl
@[simp] theorem Module.count_flash (m : Module) (num inst n : Nat) : (m.count num inst n).flash = m.flash := by unfold Module.count; split <;> rfl
@[simp] theorem Module.count_out (m : Module) (num inst n : Nat) : (m.count num inst n).out = m.out := by unfold Module.count; split <;> rfl
@[simp] theorem Module.count_fresh (m : Module) (num inst n : Nat) : (m.count num inst n).fresh = m.fresh := by unfold Module.count; split <;> rfl

@[simp] theorem Module.show_elapsed (m : Module) (e : Ev) (inst : Nat) : (m.show e inst).elapsed = m.elapsed := by unfold Module.show; split <;> rfl
@[simp] theorem Module.show_counters (m : Module) (e : Ev) (inst : Nat) : (m.show e inst).counters = m.counters := by unfold Module.show; split <;> rfl
@[simp] theorem Module.show_loHeld (m : Module) (e : Ev) (inst : Nat) : (m.show e inst).loHeld = m.loHeld := by unfold Module.show; split <;> rfl
@[simp] theorem Module.show_captured (m : Module) (e : Ev) (inst : Nat) : (m.show e inst).captured = m.captured := by unfold Module.show; split <;> rfl
@[simp] theorem Module.show_time (m : Module) (e : Ev) (inst : Nat) : (m.show e inst).time = m.time := by unfold Module.show; split <;> rfl
@[simp] theorem Module.show_clock (m : Module) (e : Ev) (inst : Nat) : (m.show e inst).clock = m.clock := by unfold Module.show; split <;> rfl
@[simp] theorem Module.show_lock (m : Module) (e : Ev) (inst : Nat) : (m.show e inst).lock = m.lock := by unfold Module.show; split <;> rfl
@[simp] theorem Module.show_power (m : Module) (e : Ev) (inst : Nat) : (m.show e inst).power = m.power := by unfold Module.show; split <;> rfl
@[simp] theorem Module.show_log (m : Module) (e : Ev) (inst : Nat) : (m.show e inst).log = m.log := by unfold Module.show; split <;> rfl
@[simp] theorem Module.show_tel (m : Module) (e : Ev) (inst : Nat) : (m.show e inst).tel = m.tel := by unfold Module.show; split <;> rfl
@[simp] theorem Module.show_lpe (m : Module) (e : Ev) (inst : Nat) : (m.show e inst).lpe = m.lpe := by unfold Module.show; split <;> rfl
@[simp] theorem Module.show_fly (m : Module) (e : Ev) (inst : Nat) : (m.show e inst).fly = m.fly := by unfold Module.show; split <;> rfl
@[simp] theorem Module.show_link (m : Module) (e : Ev) (inst : Nat) : (m.show e inst).link = m.link := by unfold Module.show; split <;> rfl
@[simp] theorem Module.show_fwd (m : Module) (e : Ev) (inst : Nat) : (m.show e inst).fwd = m.fwd := by unfold Module.show; split <;> rfl
@[simp] theorem Module.show_buf (m : Module) (e : Ev) (inst : Nat) : (m.show e inst).buf = m.buf := by unfold Module.show; split <;> rfl
@[simp] theorem Module.show_sram (m : Module) (e : Ev) (inst : Nat) : (m.show e inst).sram = m.sram := by unfold Module.show; split <;> rfl
@[simp] theorem Module.show_col (m : Module) (e : Ev) (inst : Nat) : (m.show e inst).col = m.col := by unfold Module.show; split <;> rfl
@[simp] theorem Module.show_rde (m : Module) (e : Ev) (inst : Nat) : (m.show e inst).rde = m.rde := by unfold Module.show; split <;> rfl
@[simp] theorem Module.show_pra (m : Module) (e : Ev) (inst : Nat) : (m.show e inst).pra = m.pra := by unfold Module.show; split <;> rfl
@[simp] theorem Module.show_hbm (m : Module) (e : Ev) (inst : Nat) : (m.show e inst).hbm = m.hbm := by unfold Module.show; split <;> rfl
@[simp] theorem Module.show_mpc (m : Module) (e : Ev) (inst : Nat) : (m.show e inst).mpc = m.mpc := by unfold Module.show; split <;> rfl
@[simp] theorem Module.show_sec (m : Module) (e : Ev) (inst : Nat) : (m.show e inst).sec = m.sec := by unfold Module.show; split <;> rfl
@[simp] theorem Module.show_img (m : Module) (e : Ev) (inst : Nat) : (m.show e inst).img = m.img := by unfold Module.show; split <;> rfl
@[simp] theorem Module.show_flash (m : Module) (e : Ev) (inst : Nat) : (m.show e inst).flash = m.flash := by unfold Module.show; split <;> rfl
@[simp] theorem Module.show_out (m : Module) (e : Ev) (inst : Nat) : (m.show e inst).out = m.out := by unfold Module.show; split <;> rfl
@[simp] theorem Module.show_fresh (m : Module) (e : Ev) (inst : Nat) : (m.show e inst).fresh = m.fresh := by unfold Module.show; split <;> rfl

@[simp] theorem Module.pend_elapsed (m : Module) (e : Ev) (inst detail : Nat) : (m.pend e inst detail).elapsed = m.elapsed := by unfold Module.pend; split <;> rfl
@[simp] theorem Module.pend_regs (m : Module) (e : Ev) (inst detail : Nat) : (m.pend e inst detail).regs = m.regs := by unfold Module.pend; split <;> rfl
@[simp] theorem Module.pend_counters (m : Module) (e : Ev) (inst detail : Nat) : (m.pend e inst detail).counters = m.counters := by unfold Module.pend; split <;> rfl
@[simp] theorem Module.pend_loHeld (m : Module) (e : Ev) (inst detail : Nat) : (m.pend e inst detail).loHeld = m.loHeld := by unfold Module.pend; split <;> rfl
@[simp] theorem Module.pend_captured (m : Module) (e : Ev) (inst detail : Nat) : (m.pend e inst detail).captured = m.captured := by unfold Module.pend; split <;> rfl
@[simp] theorem Module.pend_time (m : Module) (e : Ev) (inst detail : Nat) : (m.pend e inst detail).time = m.time := by unfold Module.pend; split <;> rfl
@[simp] theorem Module.pend_clock (m : Module) (e : Ev) (inst detail : Nat) : (m.pend e inst detail).clock = m.clock := by unfold Module.pend; split <;> rfl
@[simp] theorem Module.pend_lock (m : Module) (e : Ev) (inst detail : Nat) : (m.pend e inst detail).lock = m.lock := by unfold Module.pend; split <;> rfl
@[simp] theorem Module.pend_power (m : Module) (e : Ev) (inst detail : Nat) : (m.pend e inst detail).power = m.power := by unfold Module.pend; split <;> rfl
@[simp] theorem Module.pend_tel (m : Module) (e : Ev) (inst detail : Nat) : (m.pend e inst detail).tel = m.tel := by unfold Module.pend; split <;> rfl
@[simp] theorem Module.pend_lpe (m : Module) (e : Ev) (inst detail : Nat) : (m.pend e inst detail).lpe = m.lpe := by unfold Module.pend; split <;> rfl
@[simp] theorem Module.pend_fly (m : Module) (e : Ev) (inst detail : Nat) : (m.pend e inst detail).fly = m.fly := by unfold Module.pend; split <;> rfl
@[simp] theorem Module.pend_link (m : Module) (e : Ev) (inst detail : Nat) : (m.pend e inst detail).link = m.link := by unfold Module.pend; split <;> rfl
@[simp] theorem Module.pend_fwd (m : Module) (e : Ev) (inst detail : Nat) : (m.pend e inst detail).fwd = m.fwd := by unfold Module.pend; split <;> rfl
@[simp] theorem Module.pend_buf (m : Module) (e : Ev) (inst detail : Nat) : (m.pend e inst detail).buf = m.buf := by unfold Module.pend; split <;> rfl
@[simp] theorem Module.pend_sram (m : Module) (e : Ev) (inst detail : Nat) : (m.pend e inst detail).sram = m.sram := by unfold Module.pend; split <;> rfl
@[simp] theorem Module.pend_col (m : Module) (e : Ev) (inst detail : Nat) : (m.pend e inst detail).col = m.col := by unfold Module.pend; split <;> rfl
@[simp] theorem Module.pend_rde (m : Module) (e : Ev) (inst detail : Nat) : (m.pend e inst detail).rde = m.rde := by unfold Module.pend; split <;> rfl
@[simp] theorem Module.pend_pra (m : Module) (e : Ev) (inst detail : Nat) : (m.pend e inst detail).pra = m.pra := by unfold Module.pend; split <;> rfl
@[simp] theorem Module.pend_hbm (m : Module) (e : Ev) (inst detail : Nat) : (m.pend e inst detail).hbm = m.hbm := by unfold Module.pend; split <;> rfl
@[simp] theorem Module.pend_mpc (m : Module) (e : Ev) (inst detail : Nat) : (m.pend e inst detail).mpc = m.mpc := by unfold Module.pend; split <;> rfl
@[simp] theorem Module.pend_sec (m : Module) (e : Ev) (inst detail : Nat) : (m.pend e inst detail).sec = m.sec := by unfold Module.pend; split <;> rfl
@[simp] theorem Module.pend_img (m : Module) (e : Ev) (inst detail : Nat) : (m.pend e inst detail).img = m.img := by unfold Module.pend; split <;> rfl
@[simp] theorem Module.pend_flash (m : Module) (e : Ev) (inst detail : Nat) : (m.pend e inst detail).flash = m.flash := by unfold Module.pend; split <;> rfl
@[simp] theorem Module.pend_out (m : Module) (e : Ev) (inst detail : Nat) : (m.pend e inst detail).out = m.out := by unfold Module.pend; split <;> rfl
@[simp] theorem Module.pend_fresh (m : Module) (e : Ev) (inst detail : Nat) : (m.pend e inst detail).fresh = m.fresh := by unfold Module.pend; split <;> rfl

@[simp] theorem Module.raise_elapsed (m : Module) (e : Ev) (inst detail : Nat) : (m.raise e inst detail).elapsed = m.elapsed := by simp [Module.raise]
@[simp] theorem Module.raise_loHeld (m : Module) (e : Ev) (inst detail : Nat) : (m.raise e inst detail).loHeld = m.loHeld := by simp [Module.raise]
@[simp] theorem Module.raise_captured (m : Module) (e : Ev) (inst detail : Nat) : (m.raise e inst detail).captured = m.captured := by simp [Module.raise]
@[simp] theorem Module.raise_time (m : Module) (e : Ev) (inst detail : Nat) : (m.raise e inst detail).time = m.time := by simp [Module.raise]
@[simp] theorem Module.raise_clock (m : Module) (e : Ev) (inst detail : Nat) : (m.raise e inst detail).clock = m.clock := by simp [Module.raise]
@[simp] theorem Module.raise_lock (m : Module) (e : Ev) (inst detail : Nat) : (m.raise e inst detail).lock = m.lock := by simp [Module.raise]
@[simp] theorem Module.raise_power (m : Module) (e : Ev) (inst detail : Nat) : (m.raise e inst detail).power = m.power := by simp [Module.raise]
@[simp] theorem Module.raise_tel (m : Module) (e : Ev) (inst detail : Nat) : (m.raise e inst detail).tel = m.tel := by simp [Module.raise]
@[simp] theorem Module.raise_lpe (m : Module) (e : Ev) (inst detail : Nat) : (m.raise e inst detail).lpe = m.lpe := by simp [Module.raise]
@[simp] theorem Module.raise_fly (m : Module) (e : Ev) (inst detail : Nat) : (m.raise e inst detail).fly = m.fly := by simp [Module.raise]
@[simp] theorem Module.raise_link (m : Module) (e : Ev) (inst detail : Nat) : (m.raise e inst detail).link = m.link := by simp [Module.raise]
@[simp] theorem Module.raise_fwd (m : Module) (e : Ev) (inst detail : Nat) : (m.raise e inst detail).fwd = m.fwd := by simp [Module.raise]
@[simp] theorem Module.raise_buf (m : Module) (e : Ev) (inst detail : Nat) : (m.raise e inst detail).buf = m.buf := by simp [Module.raise]
@[simp] theorem Module.raise_sram (m : Module) (e : Ev) (inst detail : Nat) : (m.raise e inst detail).sram = m.sram := by simp [Module.raise]
@[simp] theorem Module.raise_col (m : Module) (e : Ev) (inst detail : Nat) : (m.raise e inst detail).col = m.col := by simp [Module.raise]
@[simp] theorem Module.raise_rde (m : Module) (e : Ev) (inst detail : Nat) : (m.raise e inst detail).rde = m.rde := by simp [Module.raise]
@[simp] theorem Module.raise_pra (m : Module) (e : Ev) (inst detail : Nat) : (m.raise e inst detail).pra = m.pra := by simp [Module.raise]
@[simp] theorem Module.raise_hbm (m : Module) (e : Ev) (inst detail : Nat) : (m.raise e inst detail).hbm = m.hbm := by simp [Module.raise]
@[simp] theorem Module.raise_mpc (m : Module) (e : Ev) (inst detail : Nat) : (m.raise e inst detail).mpc = m.mpc := by simp [Module.raise]
@[simp] theorem Module.raise_sec (m : Module) (e : Ev) (inst detail : Nat) : (m.raise e inst detail).sec = m.sec := by simp [Module.raise]
@[simp] theorem Module.raise_img (m : Module) (e : Ev) (inst detail : Nat) : (m.raise e inst detail).img = m.img := by simp [Module.raise]
@[simp] theorem Module.raise_flash (m : Module) (e : Ev) (inst detail : Nat) : (m.raise e inst detail).flash = m.flash := by simp [Module.raise]
@[simp] theorem Module.raise_out (m : Module) (e : Ev) (inst detail : Nat) : (m.raise e inst detail).out = m.out := by simp [Module.raise]
@[simp] theorem Module.raise_fresh (m : Module) (e : Ev) (inst detail : Nat) : (m.raise e inst detail).fresh = m.fresh := by simp [Module.raise]

/-! ### Register fields -/

theorem Module.getF_congr {m m' : Module} (k : FKey) (h : m'.regs = m.regs) : m'.getF k = m.getF k := by
  simp [Module.getF, h]

@[simp] theorem Module.getF_setF_self (m : Module) (k : FKey) (v : Nat) : (m.setF k v).getF k = v % 2 ^ k.width := by
  simp [Module.getF, Module.setF]

theorem Module.getF_setF_ne (m : Module) {k k' : FKey} (v : Nat) (h : k ≠ k') : (m.setF k v).getF k' = m.getF k' := by
  simp [Module.getF, Module.setF, Tbl.get_put_ne _ _ _ h]

theorem Module.getF_setF (m : Module) (k k' : FKey) (v : Nat) :
    (m.setF k v).getF k' = if k = k' then v % 2 ^ k.width else m.getF k' := by
  split
  · next h => rw [← h]; simp
  · next h => exact m.getF_setF_ne v h

@[simp] theorem Module.getF_drawn (m : Module) (k : FKey) : m.drawn.getF k = m.getF k := rfl
@[simp] theorem Module.getF_emit (m : Module) (e : Emission) (k : FKey) : (m.emit e).getF k = m.getF k := rfl
@[simp] theorem Module.getF_record (m : Module) (a b c : Nat) (k : FKey) : (m.record a b c).getF k = m.getF k := rfl
@[simp] theorem Module.getF_count (m : Module) (num inst n : Nat) (k : FKey) : (m.count num inst n).getF k = m.getF k :=
  Module.getF_congr k (by simp)
@[simp] theorem Module.getF_pend (m : Module) (e : Ev) (inst detail : Nat) (k : FKey) :
    (m.pend e inst detail).getF k = m.getF k := Module.getF_congr k (by simp)

/-- What a register field holds after an event: the event's own bit is 1, the others are as they were. -/
theorem Module.getF_raise (m : Module) (e : Ev) (inst detail : Nat) (k : FKey) :
    (m.raise e inst detail).getF k = if evtKey e inst = some k then 1 % 2 ^ k.width else m.getF k := by
  simp only [Module.raise, Module.getF_pend, Module.show]
  split
  · next k' h =>
    simp only [Module.getF_setF, Module.getF_count, h, Option.some.injEq]
    split
    · next hk => rw [hk]
    · rfl
  · next h => simp [h]

/-! ### Counters -/

@[simp] theorem Module.counter_setF (m : Module) (k : FKey) (v n i : Nat) : (m.setF k v).counter n i = m.counter n i := rfl
@[simp] theorem Module.counter_setB (m : Module) (k : FKey) (b : Bool) (n i : Nat) : (m.setB k b).counter n i = m.counter n i := rfl
@[simp] theorem Module.counter_emit (m : Module) (e : Emission) (n i : Nat) : (m.emit e).counter n i = m.counter n i := rfl
@[simp] theorem Module.counter_drawn (m : Module) (n i : Nat) : m.drawn.counter n i = m.counter n i := rfl
@[simp] theorem Module.counter_record (m : Module) (a b c n i : Nat) : (m.record a b c).counter n i = m.counter n i := rfl
@[simp] theorem Module.counter_show (m : Module) (e : Ev) (j n i : Nat) : (m.show e j).counter n i = m.counter n i := by
  simp [Module.counter]
@[simp] theorem Module.counter_pend (m : Module) (e : Ev) (j d n i : Nat) : (m.pend e j d).counter n i = m.counter n i := by
  simp [Module.counter]

/-- A counter after a count: it alone has gone up, modulo 2^64, and not where its sector is in reset (R471). -/
theorem Module.counter_count (m : Module) (num inst n num' inst' : Nat) :
    (m.count num inst n).counter num' inst' =
      if (num, inst) = (num', inst') ∧ m.countsNow num inst then (m.counter num inst + n) % 2 ^ 64 else m.counter num' inst' := by
  unfold Module.count
  by_cases hc : m.countsNow num inst
  · simp only [hc, if_true, and_true]
    simp only [Module.counter, Tbl.get_put]
  · simp [hc]

/-- A counter after an event. -/
theorem Module.counter_raise (m : Module) (e : Ev) (inst detail num' inst' : Nat) :
    (m.raise e inst detail).counter num' inst' =
      if (e.num, inst) = (num', inst') ∧ m.countsNow e.num inst then (m.counter e.num inst + 1) % 2 ^ 64
      else m.counter num' inst' := by
  simp [Module.raise, Module.counter_count]

end Sys2Proof.Machine
end

