-- ==== Sys2Proof/Laws/Kept.lean ====
section
/-! SUPPORT. What each operation leaves as it was of boot flash and of the kept security state: both, for all but the few
operations that are there to change one of them. -/

set_option linter.unusedSimpArgs false

namespace Sys2Proof.Machine

/-- Boot flash and the kept security state. -/
def Module.kept (m : Module) : List Host.Cell × SecState := (m.flash, m.sec.state)

@[simp] theorem Module.kept_mk (e rg c lh ca ti cl lk pw lg te lp fl ln fw bu sr co rd pr hb mp se im fs ou fr) :
    Module.kept ⟨e, rg, c, lh, ca, ti, cl, lk, pw, lg, te, lp, fl, ln, fw, bu, sr, co, rd, pr, hb, mp, se, im, fs, ou, fr⟩ =
      (fs, se.state) := rfl
theorem Module.kept_sec (m : Module) (u : SecUnit) (h : u.state = m.sec.state) : ({ m with sec := u } : Module).kept = m.kept := by
  unfold Module.kept
  rw [h]
@[simp] theorem Module.kept_fold (m : Module) : (m.flash, m.sec.state) = m.kept := rfl
/-- The module that an arriving frame leaves, whichever way it is taken. -/
def Arrival.mod (a : Arrival) : Module :=
  match a with
  | .taken m => m
  | .noPlace m _ => m
  | .noToll m => m
  | .noCtx m => m

/-- The module after a group frame has come. -/
def Taken.mod (t : Taken) : Module :=
  match t with
  | .taken m => m
  | .waits m => m

/-- The module after a frame has asked for a place in its queue. -/
def Admit.mod (t : Admit) : Module :=
  match t with
  | .taken m => m
  | .refused m _ => m

/-- The module after a held frame's turn has come. -/
def Release.modOr (t : Release) (_m : Module) : Module :=
  match t with
  | .out m => m
  | .bad m => m
  | .waits m _ => m

@[simp] theorem Arrival.mod_taken (m : Module) : (Arrival.taken m).mod = m := rfl
@[simp] theorem Arrival.mod_noPlace (m : Module) (f : QFrame) : (Arrival.noPlace m f).mod = m := rfl
@[simp] theorem Arrival.mod_noToll (m : Module) : (Arrival.noToll m).mod = m := rfl
@[simp] theorem Arrival.mod_noCtx (m : Module) : (Arrival.noCtx m).mod = m := rfl
@[simp] theorem Taken.mod_taken (m : Module) : (Taken.taken m).mod = m := rfl
@[simp] theorem Taken.mod_waits (m : Module) : (Taken.waits m).mod = m := rfl
@[simp] theorem Admit.mod_taken (m : Module) : (Admit.taken m).mod = m := rfl
@[simp] theorem Admit.mod_refused (m : Module) (f : QFrame) : (Admit.refused m f).mod = m := rfl
@[simp] theorem Release.modOr_out (m n : Module) : (Release.out m).modOr n = m := rfl
@[simp] theorem Release.modOr_bad (m n : Module) : (Release.bad m).modOr n = m := rfl
@[simp] theorem Release.modOr_waits (m n : Module) (f : QFrame) : (Release.waits m f).modOr n = m := rfl

theorem Module.each_kept {α : Type} {m : Module} {l : List α} {f : Module → α → Module} (h : ∀ m x, (f m x).kept = m.kept) :
    (m.each l f).kept = m.kept := by
  unfold Module.each
  induction l generalizing m with
  | nil => rfl
  | cons a t ih => simp only [List.foldl_cons]; rw [ih, h]

theorem Module.foldl_kept {α : Type} {m : Module} {l : List α} {f : Module → α → Module} (h : ∀ m x, (f m x).kept = m.kept) :
    (l.foldl f m).kept = m.kept := Module.each_kept h

theorem Module.foldlPair_kept {α β : Type} {x : Module × β} {l : List α} {f : Module × β → α → Module × β}
    (h : ∀ x a, (f x a).1.kept = x.1.kept) : (l.foldl f x).1.kept = x.1.kept := by
  induction l generalizing x with
  | nil => rfl
  | cons a t ih => simp only [List.foldl_cons]; rw [ih, h]

theorem Module.foldr_kept {α : Type} {m : Module} {l : List α} {f : α → Module → Module} (h : ∀ m x, (f x m).kept = m.kept) :
    (l.foldr f m).kept = m.kept := by
  induction l with
  | nil => rfl
  | cons a t ih => simp only [List.foldr_cons]; rw [h, ih]

@[simp] theorem Module.setF_kept (m : Module) (k : FKey) (v : Nat) :
    (Module.setF m k v).kept = m.kept := by
  rfl

@[simp] theorem Module.setB_kept (m : Module) (k : FKey) (b : Bool) :
    (Module.setB m k b).kept = m.kept := by
  rfl

@[simp] theorem Module.setBit_kept (m : Module) (k : FKey) (b : Nat) (v : Bool) :
    (Module.setBit m k b v).kept = m.kept := by
  rfl

@[simp] theorem Module.addSat_kept (m : Module) (k : FKey) (n most : Nat) :
    (Module.addSat m k n most).kept = m.kept := by
  unfold Module.addSat
  repeat' (first
    | (simp [apply_ite Module.kept]; done) | split | simp | rw [Module.each_kept] | rw [Module.foldl_kept] | rw [Module.foldlPair_kept] | intro _
    | (rename_i hq; replace hq := congrArg (fun p => (Prod.fst p).kept) hq; simp at hq; simp [apply_ite Module.kept, hq]; done)
    | dsimp only)

@[simp] theorem Module.drawn_kept (m : Module) :
    (Module.drawn m).kept = m.kept := by
  rfl

@[simp] theorem Module.emit_kept (m : Module) (e : Emission) :
    (Module.emit m e).kept = m.kept := by
  rfl

@[simp] theorem Module.count_kept (m : Module) (num inst n : Nat) :
    (Module.count m num inst n).kept = m.kept := by
  unfold Module.count
  repeat' (first
    | (simp [apply_ite Module.kept]; done) | split | simp | rw [Module.each_kept] | rw [Module.foldl_kept] | rw [Module.foldlPair_kept] | intro _
    | (rename_i hq; replace hq := congrArg (fun p => (Prod.fst p).kept) hq; simp at hq; simp [apply_ite Module.kept, hq]; done)
    | dsimp only)

@[simp] theorem Module.pend_kept (m : Module) (e : Ev) (inst detail : Nat) :
    (Module.pend m e inst detail).kept = m.kept := by
  unfold Module.pend
  repeat' (first
    | (simp [apply_ite Module.kept]; done) | split | simp | rw [Module.each_kept] | rw [Module.foldl_kept] | rw [Module.foldlPair_kept] | intro _
    | (rename_i hq; replace hq := congrArg (fun p => (Prod.fst p).kept) hq; simp at hq; simp [apply_ite Module.kept, hq]; done)
    | dsimp only)

@[simp] theorem Module.show_kept (m : Module) (e : Ev) (inst : Nat) :
    (Module.show m e inst).kept = m.kept := by
  unfold Module.show; split <;> simp

@[simp] theorem Module.raise_kept (m : Module) (e : Ev) (inst : Nat) (detail : Nat := 0) :
    (Module.raise m e inst detail).kept = m.kept := by
  unfold Module.raise; simp

@[simp] theorem Module.raiseN_kept (m : Module) (e : Ev) (inst n : Nat) :
    (Module.raiseN m e inst n).kept = m.kept := by
  unfold Module.raiseN
  repeat' (first
    | (simp [apply_ite Module.kept]; done) | split | simp | rw [Module.each_kept] | rw [Module.foldl_kept] | rw [Module.foldlPair_kept] | intro _
    | (rename_i hq; replace hq := congrArg (fun p => (Prod.fst p).kept) hq; simp at hq; simp [apply_ite Module.kept, hq]; done)
    | dsimp only)

@[simp] theorem Module.raiseLocked_kept (m : Module) (e : Ev) (s : Nat) :
    (Module.raiseLocked m e s).kept = m.kept := by
  unfold Module.raiseLocked
  repeat' (first
    | (simp [apply_ite Module.kept]; done) | split | simp | rw [Module.each_kept] | rw [Module.foldl_kept] | rw [Module.foldlPair_kept] | intro _
    | (rename_i hq; replace hq := congrArg (fun p => (Prod.fst p).kept) hq; simp at hq; simp [apply_ite Module.kept, hq]; done)
    | dsimp only)

@[simp] theorem Module.setAll_kept (m : Module) (n : Nat) (k : Nat → FKey) (v : Nat) :
    (Module.setAll m n k v).kept = m.kept := by
  unfold Module.setAll
  repeat' (first
    | (simp [apply_ite Module.kept]; done) | split | simp | rw [Module.each_kept] | rw [Module.foldl_kept] | rw [Module.foldlPair_kept] | intro _
    | (rename_i hq; replace hq := congrArg (fun p => (Prod.fst p).kept) hq; simp at hq; simp [apply_ite Module.kept, hq]; done)
    | dsimp only)

@[simp] theorem Module.record_kept (m : Module) (kind location data : Nat) :
    (Module.record m kind location data).kept = m.kept := by
  unfold Module.record
  repeat' (first
    | (simp [apply_ite Module.kept]; done) | split | simp | rw [Module.each_kept] | rw [Module.foldl_kept] | rw [Module.foldlPair_kept] | intro _
    | (rename_i hq; replace hq := congrArg (fun p => (Prod.fst p).kept) hq; simp at hq; simp [apply_ite Module.kept, hq]; done)
    | dsimp only)

@[simp] theorem Module.goStep_kept (m : Module) (n : Nat) :
    (Module.goStep m n).kept = m.kept := by
  unfold Module.goStep
  repeat' (first
    | (simp [apply_ite Module.kept]; done) | split | simp | rw [Module.each_kept] | rw [Module.foldl_kept] | rw [Module.foldlPair_kept] | intro _
    | (rename_i hq; replace hq := congrArg (fun p => (Prod.fst p).kept) hq; simp at hq; simp [apply_ite Module.kept, hq]; done)
    | dsimp only)

@[simp] theorem Module.alert_kept (m : Module) (k : FKey) :
    (Module.alert m k).kept = m.kept := by
  rfl

@[simp] theorem Module.putLnk_kept (m : Module) (lport : Nat) (l : Link) :
    (Module.putLnk m lport l).kept = m.kept := by
  rfl

@[simp] theorem Module.modLnk_kept (m : Module) (lport : Nat) (f : Link → Link) :
    (Module.modLnk m lport f).kept = m.kept := by
  rfl

@[simp] theorem Module.setLinkState_kept (m : Module) (lport st : Nat) :
    (Module.setLinkState m lport st).kept = m.kept := by
  unfold Module.setLinkState
  repeat' (first
    | (simp [apply_ite Module.kept]; done) | split | simp | rw [Module.each_kept] | rw [Module.foldl_kept] | rw [Module.foldlPair_kept] | intro _
    | (rename_i hq; replace hq := congrArg (fun p => (Prod.fst p).kept) hq; simp at hq; simp [apply_ite Module.kept, hq]; done)
    | dsimp only)

@[simp] theorem Module.raiseLnk_kept (m : Module) (e : Ev) (lport : Nat) (detail : Nat := 0) :
    (Module.raiseLnk m e lport detail).kept = m.kept := by
  unfold Module.raiseLnk; simp

@[simp] theorem Module.raiseLink_kept (m : Module) (e : Ev) (lport : Nat) :
    (Module.raiseLink m e lport).kept = m.kept := by
  unfold Module.raiseLink; simp

@[simp] theorem Module.slots_kept (m : Module) (lport cls : Nat) (sub : Option Nat) (n : Nat) :
    (Module.slots m lport cls sub n).kept = m.kept := by
  unfold Module.slots
  repeat' (first
    | (simp [apply_ite Module.kept]; done) | split | simp | rw [Module.each_kept] | rw [Module.foldl_kept] | rw [Module.foldlPair_kept] | intro _
    | (rename_i hq; replace hq := congrArg (fun p => (Prod.fst p).kept) hq; simp at hq; simp [apply_ite Module.kept, hq]; done)
    | dsimp only)

@[simp] theorem Module.overhead_kept (m : Module) (lport n : Nat) :
    (Module.overhead m lport n).kept = m.kept := by
  unfold Module.overhead
  repeat' (first
    | (simp [apply_ite Module.kept]; done) | split | simp | rw [Module.each_kept] | rw [Module.foldl_kept] | rw [Module.foldlPair_kept] | intro _
    | (rename_i hq; replace hq := congrArg (fun p => (Prod.fst p).kept) hq; simp at hq; simp [apply_ite Module.kept, hq]; done)
    | dsimp only)

@[simp] theorem Module.transmit_kept (m : Module) (lport : Nat) (only : Option Nat) (e : Emission) :
    (Module.transmit m lport only e).kept = m.kept := by
  unfold Module.transmit
  repeat' (first
    | (simp [apply_ite Module.kept]; done) | split | simp | rw [Module.each_kept] | rw [Module.foldl_kept] | rw [Module.foldlPair_kept] | intro _
    | (rename_i hq; replace hq := congrArg (fun p => (Prod.fst p).kept) hq; simp at hq; simp [apply_ite Module.kept, hq]; done)
    | dsimp only)

@[simp] theorem Module.sendSet_kept (m : Module) (lport : Nat) (os : OrderedSet) :
    (Module.sendSet m lport os).kept = m.kept := by
  unfold Module.sendSet; simp

@[simp] theorem Module.sendCredits_kept (m : Module) (lport vc fuel n : Nat) :
    (m.sendCredits lport vc fuel n).kept = m.kept := by
  induction fuel generalizing m n with
  | zero => rfl
  | succ k ih => simp [Module.sendCredits, apply_ite Module.kept, ih] --

@[simp] theorem Module.returnCredits_kept (m : Module) (lport vc n : Nat) :
    (Module.returnCredits m lport vc n).kept = m.kept := by
  unfold Module.returnCredits
  repeat' (first
    | (simp [apply_ite Module.kept]; done) | split | simp | rw [Module.each_kept] | rw [Module.foldl_kept] | rw [Module.foldlPair_kept] | intro _
    | (rename_i hq; replace hq := congrArg (fun p => (Prod.fst p).kept) hq; simp at hq; simp [apply_ite Module.kept, hq]; done)
    | dsimp only)

@[simp] theorem Module.takeCredits_kept (m : Module) (lport vc n : Nat) :
    (Module.takeCredits m lport vc n).kept = m.kept := by
  unfold Module.takeCredits
  repeat' (first
    | (simp [apply_ite Module.kept]; done) | split | simp | rw [Module.each_kept] | rw [Module.foldl_kept] | rw [Module.foldlPair_kept] | intro _
    | (rename_i hq; replace hq := congrArg (fun p => (Prod.fst p).kept) hq; simp at hq; simp [apply_ite Module.kept, hq]; done)
    | dsimp only)

@[simp] theorem Module.countRetrain_kept (m : Module) (lport : Nat) :
    (Module.countRetrain m lport).kept = m.kept := by
  unfold Module.countRetrain; simp

@[simp] theorem Module.putStack_kept (m : Module) (k : Nat) (h : HbmStack) :
    (Module.putStack m k h).kept = m.kept := by
  rfl

@[simp] theorem Module.issueAt_kept (m : Module) (k p n cost : Nat) (write : Bool) :
    (Module.issueAt m k p n cost write).kept = m.kept := by
  unfold Module.issueAt
  repeat' (first
    | (simp [apply_ite Module.kept]; done) | split | simp | rw [Module.each_kept] | rw [Module.foldl_kept] | rw [Module.foldlPair_kept] | intro _
    | (rename_i hq; replace hq := congrArg (fun p => (Prod.fst p).kept) hq; simp at hq; simp [apply_ite Module.kept, hq]; done)
    | dsimp only)

@[simp] theorem Module.issue_kept (m : Module) (k p n : Nat) (write : Bool) :
    (Module.issue m k p n write).kept = m.kept := by
  unfold Module.issue
  repeat' (first
    | (simp [apply_ite Module.kept]; done) | split | simp | rw [Module.each_kept] | rw [Module.foldl_kept] | rw [Module.foldlPair_kept] | intro _
    | (rename_i hq; replace hq := congrArg (fun p => (Prod.fst p).kept) hq; simp at hq; simp [apply_ite Module.kept, hq]; done)
    | dsimp only)

@[simp] theorem Module.newChunk_kept (m : Module) (s r : Nat) (pool : Bool) (avoid : Option Nat) (use : ChunkUse) :
    (Module.newChunk m s r pool avoid use).kept = m.kept := by
  unfold Module.newChunk
  repeat' (first
    | (simp [apply_ite Module.kept]; done) | split | simp | rw [Module.each_kept] | rw [Module.foldl_kept] | rw [Module.foldlPair_kept] | intro _
    | (rename_i hq; replace hq := congrArg (fun p => (Prod.fst p).kept) hq; simp at hq; simp [apply_ite Module.kept, hq]; done)
    | dsimp only)

@[simp] theorem Module.newChunks_kept (m : Module) (s r : Nat) (pool : Bool) (use : ChunkUse) (n : Nat) :
    (Module.newChunks m s r pool use n).1.kept = m.kept := by
  unfold Module.newChunks
  repeat' (first
    | (simp [apply_ite Module.kept]; done) | split | simp | rw [Module.each_kept] | rw [Module.foldl_kept] | rw [Module.foldlPair_kept] | intro _
    | (rename_i hq; replace hq := congrArg (fun p => (Prod.fst p).kept) hq; simp at hq; simp [apply_ite Module.kept, hq]; done)
    | dsimp only)

@[simp] theorem Module.freeChunks_kept (m : Module) (nos : List Nat) :
    (Module.freeChunks m nos).kept = m.kept := by
  unfold Module.freeChunks
  repeat' (first
    | (simp [apply_ite Module.kept]; done) | split | simp | rw [Module.each_kept] | rw [Module.foldl_kept] | rw [Module.foldlPair_kept] | intro _
    | (rename_i hq; replace hq := congrArg (fun p => (Prod.fst p).kept) hq; simp at hq; simp [apply_ite Module.kept, hq]; done)
    | dsimp only)

@[simp] theorem Module.readChunks_kept (m : Module) (nos : List Nat) :
    (Module.readChunks m nos).kept = m.kept := by
  unfold Module.readChunks
  repeat' (first
    | (simp [apply_ite Module.kept]; done) | split | simp | rw [Module.each_kept] | rw [Module.foldl_kept] | rw [Module.foldlPair_kept] | intro _
    | (rename_i hq; replace hq := congrArg (fun p => (Prod.fst p).kept) hq; simp at hq; simp [apply_ite Module.kept, hq]; done)
    | dsimp only)

@[simp] theorem Module.copyUnit_kept (m : Module) (s u : Nat) :
    (Module.copyUnit m s u).kept = m.kept := by
  unfold Module.copyUnit
  repeat' (first
    | (simp [apply_ite Module.kept]; done) | split | simp | rw [Module.each_kept] | rw [Module.foldl_kept] | rw [Module.foldlPair_kept] | intro _
    | (rename_i hq; replace hq := congrArg (fun p => (Prod.fst p).kept) hq; simp at hq; simp [apply_ite Module.kept, hq]; done)
    | dsimp only)

@[simp] theorem Module.regionFull_kept (m : Module) (s : Nat) :
    (Module.regionFull m s).kept = m.kept := by
  unfold Module.regionFull; simp

@[simp] theorem Module.conflict_kept (m : Module) (resource : Nat) (runtime : Bool) :
    (Module.conflict m resource runtime).kept = m.kept := by
  unfold Module.conflict; simp

@[simp] theorem Module.conflictOnce_kept (m : Module) (resource : Nat) (runtime : Bool) :
    (Module.conflictOnce m resource runtime).kept = m.kept := by
  simp [Module.conflictOnce, apply_ite Module.kept]

@[simp] theorem Module.putQ_kept (m : Module) (lport vc : Nat) (q : OutQueue) :
    (Module.putQ m lport vc q).kept = m.kept := by
  unfold Module.putQ
  repeat' (first
    | (simp [apply_ite Module.kept]; done) | split | simp | rw [Module.each_kept] | rw [Module.foldl_kept] | rw [Module.foldlPair_kept] | intro _
    | (rename_i hq; replace hq := congrArg (fun p => (Prod.fst p).kept) hq; simp at hq; simp [apply_ite Module.kept, hq]; done)
    | dsimp only)

@[simp] theorem Module.putFifo_kept (m : Module) (lport vc : Nat) (fs : List QFrame) :
    (Module.putFifo m lport vc fs).kept = m.kept := by
  unfold Module.putFifo
  repeat' (first
    | (simp [apply_ite Module.kept]; done) | split | simp | rw [Module.each_kept] | rw [Module.foldl_kept] | rw [Module.foldlPair_kept] | intro _
    | (rename_i hq; replace hq := congrArg (fun p => (Prod.fst p).kept) hq; simp at hq; simp [apply_ite Module.kept, hq]; done)
    | dsimp only)

@[simp] theorem Module.refillQ_kept (m : Module) (lport vc : Nat) :
    (Module.refillQ m lport vc).kept = m.kept := by
  unfold Module.refillQ
  repeat' (first
    | (simp [apply_ite Module.kept]; done) | split | simp | rw [Module.each_kept] | rw [Module.foldl_kept] | rw [Module.foldlPair_kept] | intro _
    | (rename_i hq; replace hq := congrArg (fun p => (Prod.fst p).kept) hq; simp at hq; simp [apply_ite Module.kept, hq]; done)
    | dsimp only)

@[simp] theorem Module.activateQ_kept (m : Module) (lport vc : Nat) :
    (Module.activateQ m lport vc).kept = m.kept := by
  unfold Module.activateQ
  repeat' (first
    | (simp [apply_ite Module.kept]; done) | split | simp | rw [Module.each_kept] | rw [Module.foldl_kept] | rw [Module.foldlPair_kept] | intro _
    | (rename_i hq; replace hq := congrArg (fun p => (Prod.fst p).kept) hq; simp at hq; simp [apply_ite Module.kept, hq]; done)
    | dsimp only)

@[simp] theorem Module.emptiedQ_kept (m : Module) (lport vc : Nat) :
    (Module.emptiedQ m lport vc).kept = m.kept := by
  unfold Module.emptiedQ
  repeat' (first
    | (simp [apply_ite Module.kept]; done) | split | simp | rw [Module.each_kept] | rw [Module.foldl_kept] | rw [Module.foldlPair_kept] | intro _
    | (rename_i hq; replace hq := congrArg (fun p => (Prod.fst p).kept) hq; simp at hq; simp [apply_ite Module.kept, hq]; done)
    | dsimp only)

@[simp] theorem Module.settleQ_kept (m : Module) (lport vc : Nat) (before : OutQueue) :
    (Module.settleQ m lport vc before).kept = m.kept := by
  unfold Module.settleQ
  repeat' (first
    | (simp [apply_ite Module.kept]; done) | split | simp | rw [Module.each_kept] | rw [Module.foldl_kept] | rw [Module.foldlPair_kept] | intro _
    | (rename_i hq; replace hq := congrArg (fun p => (Prod.fst p).kept) hq; simp at hq; simp [apply_ite Module.kept, hq]; done)
    | dsimp only)

@[simp] theorem Module.tollAdd_kept (m : Module) (s b : Nat) :
    (Module.tollAdd m s b).kept = m.kept := by
  unfold Module.tollAdd
  repeat' (first
    | (simp [apply_ite Module.kept]; done) | split | simp | rw [Module.each_kept] | rw [Module.foldl_kept] | rw [Module.foldlPair_kept] | intro _
    | (rename_i hq; replace hq := congrArg (fun p => (Prod.fst p).kept) hq; simp at hq; simp [apply_ite Module.kept, hq]; done)
    | dsimp only)

@[simp] theorem Module.tollSub_kept (m : Module) (s b : Nat) :
    (Module.tollSub m s b).kept = m.kept := by
  unfold Module.tollSub
  repeat' (first
    | (simp [apply_ite Module.kept]; done) | split | simp | rw [Module.each_kept] | rw [Module.foldl_kept] | rw [Module.foldlPair_kept] | intro _
    | (rename_i hq; replace hq := congrArg (fun p => (Prod.fst p).kept) hq; simp at hq; simp [apply_ite Module.kept, hq]; done)
    | dsimp only)

@[simp] theorem Module.tollIn_kept (m : Module) (f : QFrame) :
    (Module.tollIn m f).kept = m.kept := by
  unfold Module.tollIn
  repeat' (first
    | (simp [apply_ite Module.kept]; done) | split | simp | rw [Module.each_kept] | rw [Module.foldl_kept] | rw [Module.foldlPair_kept] | intro _
    | (rename_i hq; replace hq := congrArg (fun p => (Prod.fst p).kept) hq; simp at hq; simp [apply_ite Module.kept, hq]; done)
    | dsimp only)

@[simp] theorem Module.tollOut_kept (m : Module) (f : QFrame) :
    (Module.tollOut m f).kept = m.kept := by
  unfold Module.tollOut
  repeat' (first
    | (simp [apply_ite Module.kept]; done) | split | simp | rw [Module.each_kept] | rw [Module.foldl_kept] | rw [Module.foldlPair_kept] | intro _
    | (rename_i hq; replace hq := congrArg (fun p => (Prod.fst p).kept) hq; simp at hq; simp [apply_ite Module.kept, hq]; done)
    | dsimp only)

@[simp] theorem Module.spend_kept (m : Module) (s : Nat) :
    (Module.spend m s).kept = m.kept := by
  rfl

@[simp] theorem Module.contestPool_kept (m : Module) (s : Nat) :
    (Module.contestPool m s).kept = m.kept := by
  simp [Module.contestPool, apply_ite Module.kept]

@[simp] theorem Module.noteFull_kept (m : Module) (p : Nat) :
    (Module.noteFull m p).kept = m.kept := by
  unfold Module.noteFull
  repeat' (first
    | (simp [apply_ite Module.kept]; done) | split | simp | rw [Module.each_kept] | rw [Module.foldl_kept] | rw [Module.foldlPair_kept] | intro _
    | (rename_i hq; replace hq := congrArg (fun p => (Prod.fst p).kept) hq; simp at hq; simp [apply_ite Module.kept, hq]; done)
    | dsimp only)

@[simp] theorem Module.noteSpill_kept (m : Module) (lport vc : Nat) :
    (Module.noteSpill m lport vc).kept = m.kept := by
  unfold Module.noteSpill
  repeat' (first
    | (simp [apply_ite Module.kept]; done) | split | simp | rw [Module.each_kept] | rw [Module.foldl_kept] | rw [Module.foldlPair_kept] | intro _
    | (rename_i hq; replace hq := congrArg (fun p => (Prod.fst p).kept) hq; simp at hq; simp [apply_ite Module.kept, hq]; done)
    | dsimp only)

@[simp] theorem Module.settleSpill_kept (m : Module) (lport vc : Nat) :
    (Module.settleSpill m lport vc).kept = m.kept := by
  unfold Module.settleSpill
  repeat' (first
    | (simp [apply_ite Module.kept]; done) | split | simp | rw [Module.each_kept] | rw [Module.foldl_kept] | rw [Module.foldlPair_kept] | intro _
    | (rename_i hq; replace hq := congrArg (fun p => (Prod.fst p).kept) hq; simp at hq; simp [apply_ite Module.kept, hq]; done)
    | dsimp only)

@[simp] theorem Module.takeCarafe_kept (m : Module) (lport vc : Nat) (use : ChunkUse) :
    (Module.takeCarafe m lport vc use).kept = m.kept := by
  unfold Module.takeCarafe
  repeat' (first
    | (simp [apply_ite Module.kept]; done) | split | simp | rw [Module.each_kept] | rw [Module.foldl_kept] | rw [Module.foldlPair_kept] | intro _
    | (rename_i hq; replace hq := congrArg (fun p => (Prod.fst p).kept) hq; simp at hq; simp [apply_ite Module.kept, hq]; done)
    | dsimp only)

@[simp] theorem Module.openChunk_kept (m : Module) (lport vc : Nat) (cont : Bool) :
    (Module.openChunk m lport vc cont).kept = m.kept := by
  unfold Module.openChunk
  repeat' (first
    | (simp [apply_ite Module.kept]; done) | split | simp | rw [Module.each_kept] | rw [Module.foldl_kept] | rw [Module.foldlPair_kept] | intro _
    | (rename_i hq; replace hq := congrArg (fun p => (Prod.fst p).kept) hq; simp at hq; simp [apply_ite Module.kept, hq]; done)
    | dsimp only)

@[simp] theorem Module.freeChunk_kept (m : Module) (p : Nat) (c : Chunk) :
    (Module.freeChunk m p c).kept = m.kept := by
  simp [Module.freeChunk, apply_ite Module.kept]

@[simp] theorem Module.writeCarafe_kept (m : Module) (lport vc : Nat) (f : QFrame) (rest fuel : Nat) :
    (m.writeCarafe lport vc f rest fuel).kept = m.kept := by
  induction fuel generalizing m rest with
  | zero => rfl
  | succ k ih =>
    unfold Module.writeCarafe
    dsimp only
    repeat' split
    all_goals simp [ih] --

@[simp] theorem Module.appendCarafe_kept (m : Module) (lport vc : Nat) (f : QFrame) :
    (Module.appendCarafe m lport vc f).kept = m.kept := by
  unfold Module.appendCarafe
  repeat' (first
    | (simp [apply_ite Module.kept]; done) | split | simp | rw [Module.each_kept] | rw [Module.foldl_kept] | rw [Module.foldlPair_kept] | intro _
    | (rename_i hq; replace hq := congrArg (fun p => (Prod.fst p).kept) hq; simp at hq; simp [apply_ite Module.kept, hq]; done)
    | dsimp only)

@[simp] theorem Module.appendSram_kept (m : Module) (lport vc : Nat) (f : QFrame) :
    (Module.appendSram m lport vc f).kept = m.kept := by
  unfold Module.appendSram
  repeat' (first
    | (simp [apply_ite Module.kept]; done) | split | simp | rw [Module.each_kept] | rw [Module.foldl_kept] | rw [Module.foldlPair_kept] | intro _
    | (rename_i hq; replace hq := congrArg (fun p => (Prod.fst p).kept) hq; simp at hq; simp [apply_ite Module.kept, hq]; done)
    | dsimp only)

@[simp] theorem Module.enqueue_kept (m : Module) (lport vc : Nat) (f : QFrame) (carafe : Bool) :
    (Module.enqueue m lport vc f carafe).kept = m.kept := by
  unfold Module.enqueue
  repeat' (first
    | (simp [apply_ite Module.kept]; done) | split | simp | rw [Module.each_kept] | rw [Module.foldl_kept] | rw [Module.foldlPair_kept] | intro _
    | (rename_i hq; replace hq := congrArg (fun p => (Prod.fst p).kept) hq; simp at hq; simp [apply_ite Module.kept, hq]; done)
    | dsimp only)

@[simp] theorem Module.wantPool_kept (m : Module) (p n : Nat) :
    (Module.wantPool m p n).kept = m.kept := by
  unfold Module.wantPool
  repeat' (first
    | (simp [apply_ite Module.kept]; done) | split | simp | rw [Module.each_kept] | rw [Module.foldl_kept] | rw [Module.foldlPair_kept] | intro _
    | (rename_i hq; replace hq := congrArg (fun p => (Prod.fst p).kept) hq; simp at hq; simp [apply_ite Module.kept, hq]; done)
    | dsimp only)

@[simp] theorem Module.contested_kept (m : Module) (lport vc len : Nat) :
    (Module.contested m lport vc len).kept = m.kept := by
  unfold Module.contested
  repeat' (first
    | (simp [apply_ite Module.kept]; done) | split | simp | rw [Module.each_kept] | rw [Module.foldl_kept] | rw [Module.foldlPair_kept] | intro _
    | (rename_i hq; replace hq := congrArg (fun p => (Prod.fst p).kept) hq; simp at hq; simp [apply_ite Module.kept, hq]; done)
    | dsimp only)

@[simp] theorem Module.noteNoRoom_kept (m : Module) (p n : Nat) (f : QFrame) :
    (Module.noteNoRoom m p n f).1.kept = m.kept := by
  unfold Module.noteNoRoom
  repeat' (first
    | (simp [apply_ite Module.kept]; done) | split | simp | rw [Module.each_kept] | rw [Module.foldl_kept] | rw [Module.foldlPair_kept] | intro _
    | (rename_i hq; replace hq := congrArg (fun p => (Prod.fst p).kept) hq; simp at hq; simp [apply_ite Module.kept, hq]; done)
    | dsimp only)

@[simp] theorem Module.lookup_kept (m : Module) (sector : Nat) (f : Frame) :
    (Module.lookup m sector f).1.kept = m.kept := by
  unfold Module.lookup; dsimp only; repeat' split
  all_goals simp

@[simp] theorem Module.crossXbar_kept (m : Module) (f : QFrame) (lport : Nat) :
    (Module.crossXbar m f lport).kept = m.kept := by
  unfold Module.crossXbar; simp

@[simp] theorem Module.tryAdmit_kept (m : Module) (lport vc : Nat) (f : QFrame) :
    (Module.tryAdmit m lport vc f).mod.kept = m.kept := by
  unfold Module.tryAdmit
  repeat' (first
    | (simp [apply_ite Module.kept]; done) | split | simp | rw [Module.each_kept] | rw [Module.foldl_kept] | rw [Module.foldlPair_kept] | intro _
    | (rename_i hq; replace hq := congrArg (fun p => (Prod.fst p).kept) hq; simp at hq; simp [apply_ite Module.kept, hq]; done)
    | dsimp only)

@[simp] theorem Module.drainOwn_kept (m : Module) (lport vc fuel : Nat) : (m.drainOwn lport vc fuel).kept = m.kept := by
  induction fuel generalizing m with
  | zero => rfl
  | succ k ih =>
    unfold Module.drainOwn
    split
    · rfl
    · split
      · next h =>
        have := congrArg (fun p => (Admit.mod p).kept) h
        simp at this; simp [ih, this]
      · next h =>
        have := congrArg (fun p => (Admit.mod p).kept) h
        simp at this; simp [this] --

@[simp] theorem Module.originate_kept (m : Module) (sector lport vc : Nat) (formed f : Frame) :
    (Module.originate m sector lport vc formed f).kept = m.kept := by
  unfold Module.originate
  repeat' (first
    | (simp [apply_ite Module.kept]; done) | split | simp | rw [Module.each_kept] | rw [Module.foldl_kept] | rw [Module.foldlPair_kept] | intro _
    | (rename_i hq; replace hq := congrArg (fun p => (Prod.fst p).kept) hq; simp at hq; simp [apply_ite Module.kept, hq]; done)
    | dsimp only)

@[simp] theorem Module.sendControl_kept (m : Module) (dst : Loc) (h : CtlHeader) (body : List Byte) :
    (Module.sendControl m dst h body).kept = m.kept := by
  unfold Module.sendControl
  repeat' (first
    | (simp [apply_ite Module.kept]; done) | split | simp | rw [Module.each_kept] | rw [Module.foldl_kept] | rw [Module.foldlPair_kept] | intro _
    | (rename_i hq; replace hq := congrArg (fun p => (Prod.fst p).kept) hq; simp at hq; simp [apply_ite Module.kept, hq]; done)
    | dsimp only)

@[simp] theorem Module.sendReply_kept (m : Module) (r : Reply) :
    (Module.sendReply m r).kept = m.kept := by
  unfold Module.sendReply; dsimp only; rw [Module.each_kept]
  · simp
  · intro _ _; simp

@[simp] theorem Module.awaitChunks_kept (m : Module) (src : Loc) (reqId : BitVec 16) (chunks : List Nat) :
    (Module.awaitChunks m src reqId chunks).kept = m.kept := by
  unfold Module.awaitChunks
  repeat' (first
    | (simp [apply_ite Module.kept]; done) | split | simp | rw [Module.each_kept] | rw [Module.foldl_kept] | rw [Module.foldlPair_kept] | intro _
    | (rename_i hq; replace hq := congrArg (fun p => (Prod.fst p).kept) hq; simp at hq; simp [apply_ite Module.kept, hq]; done)
    | dsimp only)

@[simp] theorem Module.answer_kept (m : Module) (src : Loc) (reqId : BitVec 16) (cls status : Nat) (body : List Byte) :
    (Module.answer m src reqId cls status body).kept = m.kept := by
  unfold Module.answer
  repeat' (first
    | (simp [apply_ite Module.kept]; done) | split | simp | rw [Module.each_kept] | rw [Module.foldl_kept] | rw [Module.foldlPair_kept] | intro _
    | (rename_i hq; replace hq := congrArg (fun p => (Prod.fst p).kept) hq; simp at hq; simp [apply_ite Module.kept, hq]; done)
    | dsimp only)

@[simp] theorem Module.deny_kept (m : Module) (r : CtlReq) :
    (Module.deny m r).kept = m.kept := by
  unfold Module.deny; simp

@[simp] theorem Module.enqueueReq_kept (m : Module) (r : CtlReq) :
    (Module.enqueueReq m r).kept = m.kept := by
  rfl

@[simp] theorem Module.takeChunk_kept (m : Module) (src : Loc) (h : CtlHeader) (part : List Byte) :
    (Module.takeChunk m src h part).kept = m.kept := by
  simp [Module.takeChunk, apply_ite Module.kept]

@[simp] theorem Module.refuseChunk_kept (m : Module) (src : Loc) (h : CtlHeader) (g : Gather) :
    (Module.refuseChunk m src h g).kept = m.kept := by
  unfold Module.refuseChunk
  repeat' (first
    | (simp [apply_ite Module.kept]; done) | split | simp | rw [Module.each_kept] | rw [Module.foldl_kept] | rw [Module.foldlPair_kept] | intro _
    | (rename_i hq; replace hq := congrArg (fun p => (Prod.fst p).kept) hq; simp at hq; simp [apply_ite Module.kept, hq]; done)
    | dsimp only)

@[simp] theorem Module.answerFirst_kept (m : Module) (src : Loc) (h : CtlHeader) (status : Nat) :
    (Module.answerFirst m src h status).kept = m.kept := by
  unfold Module.answerFirst
  repeat' (first
    | (simp [apply_ite Module.kept]; done) | split | simp | rw [Module.each_kept] | rw [Module.foldl_kept] | rw [Module.foldlPair_kept] | intro _
    | (rename_i hq; replace hq := congrArg (fun p => (Prod.fst p).kept) hq; simp at hq; simp [apply_ite Module.kept, hq]; done)
    | dsimp only)

@[simp] theorem Module.repeatChunk_kept (m : Module) (src : Loc) (h : CtlHeader) (r : Reply) :
    (Module.repeatChunk m src h r).kept = m.kept := by
  unfold Module.repeatChunk
  repeat' (first
    | (simp [apply_ite Module.kept]; done) | split | simp | rw [Module.each_kept] | rw [Module.foldl_kept] | rw [Module.foldlPair_kept] | intro _
    | (rename_i hq; replace hq := congrArg (fun p => (Prod.fst p).kept) hq; simp at hq; simp [apply_ite Module.kept, hq]; done)
    | dsimp only)

@[simp] theorem Module.repeatWaits_kept (m : Module) (src : Loc) (h : CtlHeader) :
    (Module.repeatWaits m src h).kept = m.kept := by
  unfold Module.repeatWaits
  repeat' (first
    | (simp [apply_ite Module.kept]; done) | split | simp | rw [Module.each_kept] | rw [Module.foldl_kept] | rw [Module.foldlPair_kept] | intro _
    | (rename_i hq; replace hq := congrArg (fun p => (Prod.fst p).kept) hq; simp at hq; simp [apply_ite Module.kept, hq]; done)
    | dsimp only)

@[simp] theorem Module.controlArrive_kept (m : Module) (f : Frame) :
    ((m.controlArrive f).getD m).kept = m.kept := by
  unfold Module.controlArrive
  repeat' (first
    | (simp [apply_ite Module.kept]; done) | split | simp | rw [Module.each_kept] | rw [Module.foldl_kept] | rw [Module.foldlPair_kept] | intro _
    | (rename_i hq; replace hq := congrArg (fun p => (Prod.fst p).kept) hq; simp at hq; simp [apply_ite Module.kept, hq]; done)
    | dsimp only)

theorem Module.controlArrive_some {m m' : Module} {f : Frame} (h : m.controlArrive f = some m') : m'.kept = m.kept := by
  have := m.controlArrive_kept f
  rw [h] at this
  exact this

theorem Module.takeReq_kept {m : Module} {src : Loc} {reqId : BitVec 16} {cls : Nat} {p : Module × CtlReq}
    (h : m.takeReq src reqId cls = some p) : p.1.kept = m.kept := by
  unfold Module.takeReq at h
  dsimp only at h
  repeat' (first | contradiction | (cases h; rfl) | split at h)

@[simp] theorem Module.putSramRow_kept (m : Module) (s bank row : Nat) (r : RowState) :
    (Module.putSramRow m s bank row r).kept = m.kept := by
  unfold Module.putSramRow
  repeat' (first
    | (simp [apply_ite Module.kept]; done) | split | simp | rw [Module.each_kept] | rw [Module.foldl_kept] | rw [Module.foldlPair_kept] | intro _
    | (rename_i hq; replace hq := congrArg (fun p => (Prod.fst p).kept) hq; simp at hq; simp [apply_ite Module.kept, hq]; done)
    | dsimp only)

@[simp] theorem Module.rowFails_kept (m : Module) (s bank row : Nat) (injected : Bool) :
    (Module.rowFails m s bank row injected).kept = m.kept := by
  unfold Module.rowFails
  repeat' (first
    | (simp [apply_ite Module.kept]; done) | split | simp | rw [Module.each_kept] | rw [Module.foldl_kept] | rw [Module.foldlPair_kept] | intro _
    | (rename_i hq; replace hq := congrArg (fun p => (Prod.fst p).kept) hq; simp at hq; simp [apply_ite Module.kept, hq]; done)
    | dsimp only)

@[simp] theorem Module.remapDone_kept (m : Module) (s bank row : Nat) :
    (Module.remapDone m s bank row).kept = m.kept := by
  unfold Module.remapDone
  repeat' (first
    | (simp [apply_ite Module.kept]; done) | split | simp | rw [Module.each_kept] | rw [Module.foldl_kept] | rw [Module.foldlPair_kept] | intro _
    | (rename_i hq; replace hq := congrArg (fun p => (Prod.fst p).kept) hq; simp at hq; simp [apply_ite Module.kept, hq]; done)
    | dsimp only)

@[simp] theorem Module.undoRemap_kept (m : Module) (s bank row g : Nat) :
    (Module.undoRemap m s bank row g).kept = m.kept := by
  unfold Module.undoRemap
  repeat' (first
    | (simp [apply_ite Module.kept]; done) | split | simp | rw [Module.each_kept] | rw [Module.foldl_kept] | rw [Module.foldlPair_kept] | intro _
    | (rename_i hq; replace hq := congrArg (fun p => (Prod.fst p).kept) hq; simp at hq; simp [apply_ite Module.kept, hq]; done)
    | dsimp only)

@[simp] theorem Module.sramReset_kept (m : Module) (s : Nat) :
    (Module.sramReset m s).kept = m.kept := by
  unfold Module.sramReset
  repeat' (first
    | (simp [apply_ite Module.kept]; done) | split | simp | rw [Module.each_kept] | rw [Module.foldl_kept] | rw [Module.foldlPair_kept] | intro _
    | (rename_i hq; replace hq := congrArg (fun p => (Prod.fst p).kept) hq; simp at hq; simp [apply_ite Module.kept, hq]; done)
    | dsimp only)

@[simp] theorem Module.relook_kept (m : Module) (f : QFrame) :
    (Module.relook m f).1.kept = m.kept := by
  unfold Module.relook
  dsimp only
  split
  · simp
  · split
    all_goals
      rename_i hq
      replace hq := congrArg (fun p => (Prod.fst p).kept) hq
      simp at hq
      simp [hq]

@[simp] theorem Module.waitAgain_kept (m : Module) (fs : List QFrame) :
    (Module.waitAgain m fs).kept = m.kept := by
  unfold Module.waitAgain
  repeat' (first
    | (simp [apply_ite Module.kept]; done) | split | simp | rw [Module.each_kept] | rw [Module.foldl_kept] | rw [Module.foldlPair_kept] | intro _
    | (rename_i hq; replace hq := congrArg (fun p => (Prod.fst p).kept) hq; simp at hq; simp [apply_ite Module.kept, hq]; done)
    | dsimp only)

@[simp] theorem Module.handBack_kept (m : Module) (fs : List QFrame) :
    (Module.handBack m fs).kept = m.kept := by
  unfold Module.handBack
  repeat' (first
    | (simp [apply_ite Module.kept]; done) | split | simp | rw [Module.each_kept] | rw [Module.foldl_kept] | rw [Module.foldlPair_kept] | intro _
    | (rename_i hq; replace hq := congrArg (fun p => (Prod.fst p).kept) hq; simp at hq; simp [apply_ite Module.kept, hq]; done)
    | dsimp only)

@[simp] theorem Module.putCtx_kept (m : Module) (c : Ctx) :
    (Module.putCtx m c).kept = m.kept := by
  rfl

@[simp] theorem Module.closeCtx_kept (m : Module) (c : Ctx) :
    (Module.closeCtx m c).kept = m.kept := by
  rfl

@[simp] theorem Module.unhold_kept (m : Module) (f : QFrame) (lport : Nat) :
    (Module.unhold m f lport).kept = m.kept := by
  simp [Module.unhold, apply_ite Module.kept]

@[simp] theorem Module.readHeld_kept (m : Module) (f : QFrame) (errs : ReadErrs) :
    (m.readHeld f errs).1.kept = m.kept := by
  unfold Module.readHeld
  split <;> simp

@[simp] theorem Module.adoptChunks_kept (m : Module) (l v : Nat) (f : QFrame) :
    (Module.adoptChunks m l v f).kept = m.kept := by
  unfold Module.adoptChunks
  repeat' (first
    | (simp [apply_ite Module.kept]; done) | split | simp | rw [Module.each_kept] | rw [Module.foldl_kept] | rw [Module.foldlPair_kept] | intro _
    | (rename_i hq; replace hq := congrArg (fun p => (Prod.fst p).kept) hq; simp at hq; simp [apply_ite Module.kept, hq]; done)
    | dsimp only)

@[simp] theorem Module.failRowOf_kept (m : Module) (s : Nat) (f : QFrame) :
    (Module.failRowOf m s f).kept = m.kept := by
  unfold Module.failRowOf; simp

@[simp] theorem Module.readOut_kept (m n : Module) (l v : Nat) (f : QFrame) (errs : ReadErrs) (carafe : Bool) :
    ((m.readOut l v f errs carafe).modOr n).kept = m.kept := by
  unfold Module.readOut
  repeat' (first
    | (simp [apply_ite Module.kept]; done) | split | simp | rw [Module.each_kept] | rw [Module.foldl_kept] | rw [Module.foldlPair_kept] | intro _
    | (rename_i hq; replace hq := congrArg (fun p => (Prod.fst p).kept) hq; simp at hq; simp [apply_ite Module.kept, hq]; done)
    | dsimp only)

@[simp] theorem Module.noRoom_kept (m m' : Module) (l n : Nat) (f : QFrame) :
    ((m.noRoom l n f).modOr m').kept = m.kept := by
  simp [Module.noRoom]

@[simp] theorem Module.release_kept (m : Module) (f : QFrame) (errs : ReadErrs) :
    ((m.release f errs).modOr m).kept = m.kept := by
  unfold Module.release
  repeat' (first
    | (simp [apply_ite Module.kept]; done) | split | simp | rw [Module.each_kept] | rw [Module.foldl_kept] | rw [Module.foldlPair_kept] | intro _
    | (rename_i hq; replace hq := congrArg (fun p => (Prod.fst p).kept) hq; simp at hq; simp [apply_ite Module.kept, hq]; done)
    | dsimp only)

theorem Module.release_out {m m' : Module} {f : QFrame} {errs : ReadErrs} (h : m.release f errs = .out m') :
    m'.kept = m.kept := by
  have := m.release_kept f errs
  rw [h] at this
  exact this

theorem Module.release_bad {m m' : Module} {f : QFrame} {errs : ReadErrs} (h : m.release f errs = .bad m') :
    m'.kept = m.kept := by
  have := m.release_kept f errs
  rw [h] at this
  exact this

theorem Module.release_waits {m m' : Module} {f f' : QFrame} {errs : ReadErrs} (h : m.release f errs = .waits m' f') :
    m'.kept = m.kept := by
  have := m.release_kept f errs
  rw [h] at this
  exact this

@[simp] theorem Module.releaseRun_kept (m : Module) (c : Ctx) (errs : ReadErrs) (fuel : Nat) :
    (m.releaseRun c errs fuel).1.kept = m.kept := by
  induction fuel generalizing m c with
  | zero => rfl
  | succ k ih =>
    unfold Module.releaseRun
    split
    · dsimp only
      split
      · next h => simp [ih, Module.release_out h]
      · next h => simp [ih, Module.release_bad h]
      · next h => simp [Module.release_waits h]
    · repeat' (first | rfl | (simp [ih]; done) | split) --

@[simp] theorem Module.runCtx_kept (m : Module) (c : Ctx) (errs : ReadErrs) :
    (Module.runCtx m c errs).kept = m.kept := by
  unfold Module.runCtx
  repeat' (first
    | (simp [apply_ite Module.kept]; done) | split | simp | rw [Module.each_kept] | rw [Module.foldl_kept] | rw [Module.foldlPair_kept] | intro _
    | (rename_i hq; replace hq := congrArg (fun p => (Prod.fst p).kept) hq; simp at hq; simp [apply_ite Module.kept, hq]; done)
    | dsimp only)

@[simp] theorem Module.resume_kept (m : Module) (lport : Nat) :
    (Module.resume m lport).kept = m.kept := by
  unfold Module.resume
  repeat' (first
    | (simp [apply_ite Module.kept]; done) | split | simp | rw [Module.each_kept] | rw [Module.foldl_kept] | rw [Module.foldlPair_kept] | intro _
    | (rename_i hq; replace hq := congrArg (fun p => (Prod.fst p).kept) hq; simp at hq; simp [apply_ite Module.kept, hq]; done)
    | dsimp only)

@[simp] theorem Module.skipCtx_kept (m : Module) (c : Ctx) (errs : ReadErrs) :
    (Module.skipCtx m c errs).kept = m.kept := by
  unfold Module.skipCtx
  repeat' (first
    | (simp [apply_ite Module.kept]; done) | split | simp | rw [Module.each_kept] | rw [Module.foldl_kept] | rw [Module.foldlPair_kept] | intro _
    | (rename_i hq; replace hq := congrArg (fun p => (Prod.fst p).kept) hq; simp at hq; simp [apply_ite Module.kept, hq]; done)
    | dsimp only)

@[simp] theorem Module.endOpening_kept (m : Module) (c : Ctx) (errs : ReadErrs) :
    (Module.endOpening m c errs).kept = m.kept := by
  unfold Module.endOpening
  repeat' (first
    | (simp [apply_ite Module.kept]; done) | split | simp | rw [Module.each_kept] | rw [Module.foldl_kept] | rw [Module.foldlPair_kept] | intro _
    | (rename_i hq; replace hq := congrArg (fun p => (Prod.fst p).kept) hq; simp at hq; simp [apply_ite Module.kept, hq]; done)
    | dsimp only)

@[simp] theorem Module.discardCtx_kept (m : Module) (c : Ctx) :
    (Module.discardCtx m c).kept = m.kept := by
  unfold Module.discardCtx
  repeat' (first
    | (simp [apply_ite Module.kept]; done) | split | simp | rw [Module.each_kept] | rw [Module.foldl_kept] | rw [Module.foldlPair_kept] | intro _
    | (rename_i hq; replace hq := congrArg (fun p => (Prod.fst p).kept) hq; simp at hq; simp [apply_ite Module.kept, hq]; done)
    | dsimp only)

@[simp] theorem Module.keep_kept (m : Module) (c : Ctx) (f : QFrame) (lport : Nat) :
    (Module.keep m c f lport).kept = m.kept := by
  unfold Module.keep
  repeat' (first
    | (simp [apply_ite Module.kept]; done) | split | simp | rw [Module.each_kept] | rw [Module.foldl_kept] | rw [Module.foldlPair_kept] | intro _
    | (rename_i hq; replace hq := congrArg (fun p => (Prod.fst p).kept) hq; simp at hq; simp [apply_ite Module.kept, hq]; done)
    | dsimp only)

@[simp] theorem Module.holdIn_kept (m : Module) (c : Ctx) (f : QFrame) (lport vc : Nat) :
    (m.holdIn c f lport vc).mod.kept = m.kept := by
  unfold Module.holdIn
  dsimp only
  repeat' (first
    | (simp [apply_ite Module.kept]; done) | split
    | (simp only [Arrival.mod, Module.keep_kept]; rw [Module.each_kept (fun _ _ => by simp)]; simp; done)) --

@[simp] theorem Module.judge_kept (m : Module) (c : Ctx) (f : QFrame) (lport vc : Nat) (errs : ReadErrs) (skips : Nat) :
    (m.judge c f lport vc errs skips).mod.kept = m.kept := by
  induction skips generalizing m c with
  | zero =>
    unfold Module.judge
    dsimp only
    repeat' (first
      | (simp; done) | split
      | (rename_i hq; replace hq := congrArg (fun p => (Admit.mod p).kept) hq; simp at hq; simp [hq]; done))
  | succ k ih =>
    unfold Module.judge
    dsimp only
    repeat' (first
      | (simp [ih, apply_ite Module.kept]; done) | split
      | (rename_i hq; replace hq := congrArg (fun p => (Admit.mod p).kept) hq; simp at hq; simp [hq]; done)) --

@[simp] theorem Module.openCtx_kept (m : Module) (f : QFrame) (lport vc : Nat) (errs : ReadErrs) :
    (m.openCtx f lport vc errs).mod.kept = m.kept := by
  unfold Module.openCtx
  dsimp only
  repeat' (first | (simp; done) | split) --

@[simp] theorem Module.reseqArrive_kept (m : Module) (f : QFrame) (lport vc : Nat) (errs : ReadErrs) :
    (Module.reseqArrive m f lport vc errs).mod.kept = m.kept := by
  unfold Module.reseqArrive
  repeat' (first
    | (simp [apply_ite Module.kept]; done) | split | simp | rw [Module.each_kept] | rw [Module.foldl_kept] | rw [Module.foldlPair_kept] | intro _
    | (rename_i hq; replace hq := congrArg (fun p => (Prod.fst p).kept) hq; simp at hq; simp [apply_ite Module.kept, hq]; done)
    | dsimp only)

@[simp] theorem Module.putOp_kept (m : Module) (slot : Nat) (op : Op) :
    (Module.putOp m slot op).kept = m.kept := by
  rfl

@[simp] theorem Module.retireNum_kept (m : Module) (defIdx jobEpoch num : Nat) :
    (Module.retireNum m defIdx jobEpoch num).kept = m.kept := by
  unfold Module.retireNum
  repeat' (first
    | (simp [apply_ite Module.kept]; done) | split | simp | rw [Module.each_kept] | rw [Module.foldl_kept] | rw [Module.foldlPair_kept] | intro _
    | (rename_i hq; replace hq := congrArg (fun p => (Prod.fst p).kept) hq; simp at hq; simp [apply_ite Module.kept, hq]; done)
    | dsimp only)

@[simp] theorem Module.sendUp_kept (m : Module) (op : Op) (f : Frame) :
    (Module.sendUp m op f).kept = m.kept := by
  unfold Module.sendUp; simp

@[simp] theorem Module.sendDown_kept (m : Module) (home : Nat) (es : List MemberEntry) (f : Frame) :
    (Module.sendDown m home es f).kept = m.kept := by
  unfold Module.sendDown; rw [Module.each_kept]; intro _ _; simp

@[simp] theorem Module.sentSeq_kept (m : Module) (slot n : Nat) :
    (Module.sentSeq m slot n).kept = m.kept := by
  unfold Module.sentSeq
  repeat' (first
    | (simp [apply_ite Module.kept]; done) | split | simp | rw [Module.each_kept] | rw [Module.foldl_kept] | rw [Module.foldlPair_kept] | intro _
    | (rename_i hq; replace hq := congrArg (fun p => (Prod.fst p).kept) hq; simp at hq; simp [apply_ite Module.kept, hq]; done)
    | dsimp only)

@[simp] theorem Module.putPra_kept (m : Module) (a : Nat) (p : PraArray) :
    (Module.putPra m a p).kept = m.kept := by
  rfl

@[simp] theorem Module.dropTerms_kept (m : Module) (a slot : Nat) :
    (Module.dropTerms m a slot).kept = m.kept := by
  unfold Module.dropTerms
  repeat' (first
    | (simp [apply_ite Module.kept]; done) | split | simp | rw [Module.each_kept] | rw [Module.foldl_kept] | rw [Module.foldlPair_kept] | intro _
    | (rename_i hq; replace hq := congrArg (fun p => (Prod.fst p).kept) hq; simp at hq; simp [apply_ite Module.kept, hq]; done)
    | dsimp only)

@[simp] theorem Module.dropSegTerms_kept (m : Module) (a slot seg : Nat) :
    (Module.dropSegTerms m a slot seg).kept = m.kept := by
  unfold Module.dropSegTerms
  repeat' (first
    | (simp [apply_ite Module.kept]; done) | split | simp | rw [Module.each_kept] | rw [Module.foldl_kept] | rw [Module.foldlPair_kept] | intro _
    | (rename_i hq; replace hq := congrArg (fun p => (Prod.fst p).kept) hq; simp at hq; simp [apply_ite Module.kept, hq]; done)
    | dsimp only)

@[simp] theorem Module.dropSegs_kept (m : Module) (slot : Nat) :
    (Module.dropSegs m slot).kept = m.kept := by
  unfold Module.dropSegs
  repeat' (first
    | (simp [apply_ite Module.kept]; done) | split | simp | rw [Module.each_kept] | rw [Module.foldl_kept] | rw [Module.foldlPair_kept] | intro _
    | (rename_i hq; replace hq := congrArg (fun p => (Prod.fst p).kept) hq; simp at hq; simp [apply_ite Module.kept, hq]; done)
    | dsimp only)

@[simp] theorem Module.retireOp_kept (m : Module) (slot : Nat) (done : Bool) :
    (Module.retireOp m slot done).kept = m.kept := by
  unfold Module.retireOp; split <;> simp

@[simp] theorem Module.countCode_kept (m : Module) (code home : Nat) :
    (Module.countCode m code home).kept = m.kept := by
  unfold Module.countCode
  repeat' (first
    | (simp [apply_ite Module.kept]; done) | split | simp | rw [Module.each_kept] | rw [Module.foldl_kept] | rw [Module.foldlPair_kept] | intro _
    | (rename_i hq; replace hq := congrArg (fun p => (Prod.fst p).kept) hq; simp at hq; simp [apply_ite Module.kept, hq]; done)
    | dsimp only)

@[simp] theorem Module.abortDown_kept (m : Module) (slot code count rankX : Nat) :
    (Module.abortDown m slot code count rankX).kept = m.kept := by
  unfold Module.abortDown
  repeat' (first
    | (simp [apply_ite Module.kept]; done) | split | simp | rw [Module.each_kept] | rw [Module.foldl_kept] | rw [Module.foldlPair_kept] | intro _
    | (rename_i hq; replace hq := congrArg (fun p => (Prod.fst p).kept) hq; simp at hq; simp [apply_ite Module.kept, hq]; done)
    | dsimp only)

@[simp] theorem Module.askAbort_kept (m : Module) (slot code count rankX : Nat) :
    (Module.askAbort m slot code count rankX).kept = m.kept := by
  unfold Module.askAbort
  repeat' (first
    | (simp [apply_ite Module.kept]; done) | split | simp | rw [Module.each_kept] | rw [Module.foldl_kept] | rw [Module.foldlPair_kept] | intro _
    | (rename_i hq; replace hq := congrArg (fun p => (Prod.fst p).kept) hq; simp at hq; simp [apply_ite Module.kept, hq]; done)
    | dsimp only)

@[simp] theorem Module.requestAbort_kept (m : Module) (slot code count rankX : Nat) :
    (Module.requestAbort m slot code count rankX).kept = m.kept := by
  unfold Module.requestAbort
  repeat' (first
    | (simp [apply_ite Module.kept]; done) | split | simp | rw [Module.each_kept] | rw [Module.foldl_kept] | rw [Module.foldlPair_kept] | intro _
    | (rename_i hq; replace hq := congrArg (fun p => (Prod.fst p).kept) hq; simp at hq; simp [apply_ite Module.kept, hq]; done)
    | dsimp only)

@[simp] theorem Module.failOp_kept (m : Module) (slot code : Nat) (count : Option Nat := none) :
    (Module.failOp m slot code count).kept = m.kept := by
  unfold Module.failOp
  repeat' (first
    | (simp [apply_ite Module.kept]; done) | split | simp | rw [Module.each_kept] | rw [Module.foldl_kept] | rw [Module.foldlPair_kept] | intro _
    | (rename_i hq; replace hq := congrArg (fun p => (Prod.fst p).kept) hq; simp at hq; simp [apply_ite Module.kept, hq]; done)
    | dsimp only)

@[simp] theorem Module.cutOp_kept (m : Module) (slot code : Nat) :
    (Module.cutOp m slot code).kept = m.kept := by
  unfold Module.cutOp
  repeat' (first
    | (simp [apply_ite Module.kept]; done) | split | simp | rw [Module.each_kept] | rw [Module.foldl_kept] | rw [Module.foldlPair_kept] | intro _
    | (rename_i hq; replace hq := congrArg (fun p => (Prod.fst p).kept) hq; simp at hq; simp [apply_ite Module.kept, hq]; done)
    | dsimp only)

@[simp] theorem Module.breakOp_kept (m : Module) (slot lport : Nat) :
    (Module.breakOp m slot lport).kept = m.kept := by
  unfold Module.breakOp
  repeat' (first
    | (simp [apply_ite Module.kept]; done) | split | simp | rw [Module.each_kept] | rw [Module.foldl_kept] | rw [Module.foldlPair_kept] | intro _
    | (rename_i hq; replace hq := congrArg (fun p => (Prod.fst p).kept) hq; simp at hq; simp [apply_ite Module.kept, hq]; done)
    | dsimp only)

@[simp] theorem Module.checkAcks_kept (m : Module) (slot : Nat) :
    (Module.checkAcks m slot).kept = m.kept := by
  unfold Module.checkAcks; dsimp only; repeat' split
  all_goals simp

@[simp] theorem Module.awaitAcks_kept (m : Module) (slot : Nat) :
    (Module.awaitAcks m slot).kept = m.kept := by
  unfold Module.awaitAcks
  repeat' (first
    | (simp [apply_ite Module.kept]; done) | split | simp | rw [Module.each_kept] | rw [Module.foldl_kept] | rw [Module.foldlPair_kept] | intro _
    | (rename_i hq; replace hq := congrArg (fun p => (Prod.fst p).kept) hq; simp at hq; simp [apply_ite Module.kept, hq]; done)
    | dsimp only)

@[simp] theorem Module.stageContest_kept (m : Module) (s : Nat) :
    (Module.stageContest m s).kept = m.kept := by
  simp [Module.stageContest, apply_ite Module.kept]

@[simp] theorem Module.takeChunks_kept (m : Module) (s : Nat) (ordered : Bool) (use : ChunkUse) (n : Nat) :
    (Module.takeChunks m s ordered use n).1.kept = m.kept := by
  unfold Module.takeChunks
  repeat' (first
    | (simp [apply_ite Module.kept]; done) | split | simp | rw [Module.each_kept] | rw [Module.foldl_kept] | rw [Module.foldlPair_kept] | intro _
    | (rename_i hq; replace hq := congrArg (fun p => (Prod.fst p).kept) hq; simp at hq; simp [apply_ite Module.kept, hq]; done)
    | dsimp only)

@[simp] theorem Module.countSeg_kept (m : Module) (sg : Seg) (bits : List Nat) :
    (Module.countSeg m sg bits).kept = m.kept := by
  unfold Module.countSeg
  exact Module.each_kept (fun m b => by simp)

@[simp] theorem Module.fetchRank_kept (m : Module) (op : Op) (rank : Nat) :
    (Module.fetchRank m op rank).kept = m.kept := by
  unfold Module.fetchRank
  repeat' (first
    | (simp [apply_ite Module.kept]; done) | split | simp | rw [Module.each_kept] | rw [Module.foldl_kept] | rw [Module.foldlPair_kept] | intro _
    | (rename_i hq; replace hq := congrArg (fun p => (Prod.fst p).kept) hq; simp at hq; simp [apply_ite Module.kept, hq]; done)
    | dsimp only)

@[simp] theorem Module.readBackSeg_kept (m : Module) (op : Op) (sg : Seg) :
    (Module.readBackSeg m op sg).kept = m.kept := by
  unfold Module.readBackSeg
  repeat' (first
    | (simp [apply_ite Module.kept]; done) | split | simp | rw [Module.each_kept] | rw [Module.foldl_kept] | rw [Module.foldlPair_kept] | intro _
    | (rename_i hq; replace hq := congrArg (fun p => (Prod.fst p).kept) hq; simp at hq; simp [apply_ite Module.kept, hq]; done)
    | dsimp only)

@[simp] theorem Module.takeInjection_kept (m : Module) (op : Op) (e : Nat) :
    (Module.takeInjection m op e).1.kept = m.kept := by
  unfold Module.takeInjection; dsimp only; repeat' split
  all_goals simp

@[simp] theorem Module.placeBound_kept (m : Module) (op : Op) (k : Nat) (b : Binding) :
    (Module.placeBound m op k b).1.kept = m.kept := by
  unfold Module.placeBound; dsimp only; repeat' split
  all_goals simp

@[simp] theorem Module.placeSeg_kept (m : Module) (op : Op) (k : Nat) :
    (Module.placeSeg m op k).1.kept = m.kept := by
  unfold Module.placeSeg; dsimp only; repeat' split
  all_goals (first | rfl | simp)

@[simp] theorem Module.retain_kept (m : Module) (slot : Nat) (op : Op) (sg : Seg) (n : Nat) :
    (Module.retain m slot op sg n).1.kept = m.kept := by
  unfold Module.retain
  repeat' (first
    | (simp [apply_ite Module.kept]; done) | split | simp | rw [Module.each_kept] | rw [Module.foldl_kept] | rw [Module.foldlPair_kept] | intro _
    | (rename_i hq; replace hq := congrArg (fun p => (Prod.fst p).kept) hq; simp at hq; simp [apply_ite Module.kept, hq]; done)
    | dsimp only)

@[simp] theorem Module.moveSeg_kept (m : Module) (slot k : Nat) (without : Option Nat) :
    (Module.moveSeg m slot k without).kept = m.kept := by
  unfold Module.moveSeg
  repeat' (first
    | (simp [apply_ite Module.kept]; done) | split | simp | rw [Module.each_kept] | rw [Module.foldl_kept] | rw [Module.foldlPair_kept] | intro _
    | (rename_i hq; replace hq := congrArg (fun p => (Prod.fst p).kept) hq; simp at hq; simp [apply_ite Module.kept, hq]; done)
    | dsimp only)

@[simp] theorem Module.moveAll_kept (m : Module) (e : Nat) :
    (Module.moveAll m e).kept = m.kept := by
  unfold Module.moveAll; rw [Module.each_kept]; intro _ _; simp

@[simp] theorem Module.sendResults_kept (m : Module) (slot : Nat) (op : Op) (k : Nat) (data : List Byte) :
    (Module.sendResults m slot op k data).kept = m.kept := by
  unfold Module.sendResults
  repeat' (first
    | (simp [apply_ite Module.kept]; done) | split | simp | rw [Module.each_kept] | rw [Module.foldl_kept] | rw [Module.foldlPair_kept] | intro _
    | (rename_i hq; replace hq := congrArg (fun p => (Prod.fst p).kept) hq; simp at hq; simp [apply_ite Module.kept, hq]; done)
    | dsimp only)

@[simp] theorem Module.sendPartial_kept (m : Module) (slot : Nat) (op : Op) (sg : Seg) (i : Nat) :
    (Module.sendPartial m slot op sg i).kept = m.kept := by
  unfold Module.sendPartial
  repeat' (first
    | (simp [apply_ite Module.kept]; done) | split | simp | rw [Module.each_kept] | rw [Module.foldl_kept] | rw [Module.foldlPair_kept] | intro _
    | (rename_i hq; replace hq := congrArg (fun p => (Prod.fst p).kept) hq; simp at hq; simp [apply_ite Module.kept, hq]; done)
    | dsimp only)

@[simp] theorem Module.segOut_kept (m : Module) (slot k : Nat) :
    (Module.segOut m slot k).kept = m.kept := by
  unfold Module.segOut
  repeat' (first
    | (simp [apply_ite Module.kept]; done) | split | simp | rw [Module.each_kept] | rw [Module.foldl_kept] | rw [Module.foldlPair_kept] | intro _
    | (rename_i hq; replace hq := congrArg (fun p => (Prod.fst p).kept) hq; simp at hq; simp [apply_ite Module.kept, hq]; done)
    | dsimp only)

@[simp] theorem Module.finishRoot_kept (m : Module) (slot k : Nat) :
    (Module.finishRoot m slot k).kept = m.kept := by
  unfold Module.finishRoot
  repeat' (first
    | (simp [apply_ite Module.kept]; done) | split | simp | rw [Module.each_kept] | rw [Module.foldl_kept] | rw [Module.foldlPair_kept] | intro _
    | (rename_i hq; replace hq := congrArg (fun p => (Prod.fst p).kept) hq; simp at hq; simp [apply_ite Module.kept, hq]; done)
    | dsimp only)

@[simp] theorem Module.sendReady_kept (m : Module) (slot fuel : Nat) : (m.sendReady slot fuel).kept = m.kept := by
  induction fuel generalizing m with
  | zero => rfl
  | succ k ih =>
    unfold Module.sendReady
    repeat' (first | rfl | (simp [ih]; done) | split) --

@[simp] theorem Module.leaveRoot_kept (m : Module) (slot : Nat) (op : Op) (sg : Seg) :
    (Module.leaveRoot m slot op sg).kept = m.kept := by
  unfold Module.leaveRoot
  repeat' (first
    | (simp [apply_ite Module.kept]; done) | split | simp | rw [Module.each_kept] | rw [Module.foldl_kept] | rw [Module.foldlPair_kept] | intro _
    | (rename_i hq; replace hq := congrArg (fun p => (Prod.fst p).kept) hq; simp at hq; simp [apply_ite Module.kept, hq]; done)
    | dsimp only)

@[simp] theorem Module.noteFailure_kept (m : Module) (e : Nat) (op : Op) (diff : Nat) (counts first : Bool) :
    (Module.noteFailure m e op diff counts first).kept = m.kept := by
  unfold Module.noteFailure; cases first <;> simp

@[simp] theorem Module.engineOut_kept (m : Module) (e role : Nat) (keep : Bool) :
    (Module.engineOut m e role keep).kept = m.kept := by
  unfold Module.engineOut
  repeat' (first
    | (simp [apply_ite Module.kept]; done) | split | simp | rw [Module.each_kept] | rw [Module.foldl_kept] | rw [Module.foldlPair_kept] | intro _
    | (rename_i hq; replace hq := congrArg (fun p => (Prod.fst p).kept) hq; simp at hq; simp [apply_ite Module.kept, hq]; done)
    | dsimp only)

@[simp] theorem Module.quarantine_kept (m : Module) (e : Nat) (real : Bool) :
    (Module.quarantine m e real).kept = m.kept := by
  unfold Module.quarantine
  repeat' (first
    | (simp [apply_ite Module.kept]; done) | split | simp | rw [Module.each_kept] | rw [Module.foldl_kept] | rw [Module.foldlPair_kept] | intro _
    | (rename_i hq; replace hq := congrArg (fun p => (Prod.fst p).kept) hq; simp at hq; simp [apply_ite Module.kept, hq]; done)
    | dsimp only)

@[simp] theorem Module.toSpare_kept (m : Module) (slot k e : Nat) :
    (Module.toSpare m slot k e).kept = m.kept := by
  unfold Module.toSpare
  repeat' (first
    | (simp [apply_ite Module.kept]; done) | split | simp | rw [Module.each_kept] | rw [Module.foldl_kept] | rw [Module.foldlPair_kept] | intro _
    | (rename_i hq; replace hq := congrArg (fun p => (Prod.fst p).kept) hq; simp at hq; simp [apply_ite Module.kept, hq]; done)
    | dsimp only)

@[simp] theorem Module.residueFail_kept (m : Module) (slot k diff : Nat) :
    (Module.residueFail m slot k diff).kept = m.kept := by
  unfold Module.residueFail
  repeat' (first
    | (simp [apply_ite Module.kept]; done) | split | simp | rw [Module.each_kept] | rw [Module.foldl_kept] | rw [Module.foldlPair_kept] | intro _
    | (rename_i hq; replace hq := congrArg (fun p => (Prod.fst p).kept) hq; simp at hq; simp [apply_ite Module.kept, hq]; done)
    | dsimp only)

@[simp] theorem Module.completeSeg_kept (m : Module) (slot k : Nat) (erred : Bool) :
    (Module.completeSeg m slot k erred).kept = m.kept := by
  unfold Module.completeSeg
  repeat' (first
    | (simp [apply_ite Module.kept]; done) | split | simp | rw [Module.each_kept] | rw [Module.foldl_kept] | rw [Module.foldlPair_kept] | intro _
    | (rename_i hq; replace hq := congrArg (fun p => (Prod.fst p).kept) hq; simp at hq; simp [apply_ite Module.kept, hq]; done)
    | dsimp only)

@[simp] theorem Module.engineTakes_kept (m : Module) (slot : Nat) (op : Op) (sg : Seg) (erred : Bool) :
    (Module.engineTakes m slot op sg erred).kept = m.kept := by
  unfold Module.engineTakes
  repeat' (first
    | (simp [apply_ite Module.kept]; done) | split | simp | rw [Module.each_kept] | rw [Module.foldl_kept] | rw [Module.foldlPair_kept] | intro _
    | (rename_i hq; replace hq := congrArg (fun p => (Prod.fst p).kept) hq; simp at hq; simp [apply_ite Module.kept, hq]; done)
    | dsimp only)

@[simp] theorem Module.openWindow_kept (m : Module) (slot k w : Nat) (erred : Bool) :
    (Module.openWindow m slot k w erred).kept = m.kept := by
  unfold Module.openWindow
  repeat' (first
    | (simp [apply_ite Module.kept]; done) | split | simp | rw [Module.each_kept] | rw [Module.foldl_kept] | rw [Module.foldlPair_kept] | intro _
    | (rename_i hq; replace hq := congrArg (fun p => (Prod.fst p).kept) hq; simp at hq; simp [apply_ite Module.kept, hq]; done)
    | dsimp only)

@[simp] theorem Module.engineStarts_kept (m : Module) (e : Nat) :
    (Module.engineStarts m e).kept = m.kept := by
  unfold Module.engineStarts
  repeat' (first
    | (simp [apply_ite Module.kept]; done) | split | simp | rw [Module.each_kept] | rw [Module.foldl_kept] | rw [Module.foldlPair_kept] | intro _
    | (rename_i hq; replace hq := congrArg (fun p => (Prod.fst p).kept) hq; simp at hq; simp [apply_ite Module.kept, hq]; done)
    | dsimp only)

@[simp] theorem Module.checkCopied_kept (m : Module) (slot : Nat) :
    (Module.checkCopied m slot).kept = m.kept := by
  unfold Module.checkCopied
  repeat' (first
    | (simp [apply_ite Module.kept]; done) | split | simp | rw [Module.each_kept] | rw [Module.foldl_kept] | rw [Module.foldlPair_kept] | intro _
    | (rename_i hq; replace hq := congrArg (fun p => (Prod.fst p).kept) hq; simp at hq; simp [apply_ite Module.kept, hq]; done)
    | dsimp only)

@[simp] theorem Module.startOp_kept (m : Module) (found : Found) (num dst : Nat) (x : CollExt) :
    (Module.startOp m found num dst x).kept = m.kept := by
  unfold Module.startOp
  repeat' (first
    | (simp [apply_ite Module.kept]; done) | split | simp | rw [Module.each_kept] | rw [Module.foldl_kept] | rw [Module.foldlPair_kept] | intro _
    | (rename_i hq; replace hq := congrArg (fun p => (Prod.fst p).kept) hq; simp at hq; simp [apply_ite Module.kept, hq]; done)
    | dsimp only)

@[simp] theorem Module.deliver_kept (m : Module) (slot : Nat) (op : Op) (k : Nat) (d : Delivery) (subsM1 : Nat) (x : Crossing) :
    (m.deliver slot op k d subsM1 x).mod.kept = m.kept := by
  unfold Module.deliver
  dsimp only
  split
  · next h =>
    have placed : _ = m.kept := (congrArg (fun p => (Prod.fst p).kept) h).symm.trans (by split <;> simp)
    simpa using placed
  · next m' sg h =>
    have placed : m'.kept = m.kept := (congrArg (fun p => (Prod.fst p).kept) h).symm.trans (by split <;> simp)
    clear h
    split
    · simpa using placed
    · have stale : (if (x.stale && decide (0 < sg.epoch)) = true then m'.raise .col_COLL_STALE_PLACE op.home else m').kept
          = m.kept := by split <;> simp [placed]
      generalize (if (x.stale && decide (0 < sg.epoch)) = true then m'.raise .col_COLL_STALE_PLACE op.home else m') = n at *
      by_cases hb : n.hasHbm op.home = true
      all_goals simp only [hb, if_true, if_false, Bool.false_eq_true]
      · split
        · simpa using stale
        · split
          all_goals
            next h2 =>
            have := congrArg (fun p => (Prod.fst p).kept) h2
            simp at this
            simp [apply_ite Module.kept, ← this, stale]
      · split
        · simpa using stale
        · simp [apply_ite Module.kept, stale] --

@[simp] theorem Module.passOn_kept (m : Module) (slot : Nat) (op : Op) (k i : Nat) (x : CollExt) (f : Frame) :
    (Module.passOn m slot op k i x f).kept = m.kept := by
  unfold Module.passOn
  repeat' (first
    | (simp [apply_ite Module.kept]; done) | split | simp | rw [Module.each_kept] | rw [Module.foldl_kept] | rw [Module.foldlPair_kept] | intro _
    | (rename_i hq; replace hq := congrArg (fun p => (Prod.fst p).kept) hq; simp at hq; simp [apply_ite Module.kept, hq]; done)
    | dsimp only)

@[simp] theorem Module.takeContribution_kept (m : Module) (slot : Nat) (op : Op) (e : MemberEntry) (x : CollExt) (f : Frame) (c : Crossing) :
    (Module.takeContribution m slot op e x f c).mod.kept = m.kept := by
  unfold Module.takeContribution
  repeat' (first
    | (simp [apply_ite Module.kept]; done) | split | simp | rw [Module.each_kept] | rw [Module.foldl_kept] | rw [Module.foldlPair_kept] | intro _
    | (rename_i hq; replace hq := congrArg (fun p => (Prod.fst p).kept) hq; simp at hq; simp [apply_ite Module.kept, hq]; done)
    | dsimp only)

@[simp] theorem Module.takeResult_kept (m : Module) (slot : Nat) (op : Op) (x : CollExt) (f : Frame) :
    (Module.takeResult m slot op x f).kept = m.kept := by
  unfold Module.takeResult
  repeat' (first
    | (simp [apply_ite Module.kept]; done) | split | simp | rw [Module.each_kept] | rw [Module.foldl_kept] | rw [Module.foldlPair_kept] | intro _
    | (rename_i hq; replace hq := congrArg (fun p => (Prod.fst p).kept) hq; simp at hq; simp [apply_ite Module.kept, hq]; done)
    | dsimp only)

@[simp] theorem Module.takeAck_kept (m : Module) (slot : Nat) (op : Op) (lport : Nat) (x : CollExt) :
    (Module.takeAck m slot op lport x).kept = m.kept := by
  simp [Module.takeAck, apply_ite Module.kept]

@[simp] theorem Module.takeRequest_kept (m : Module) (slot : Nat) (op : Op) (x : CollExt) :
    (Module.takeRequest m slot op x).kept = m.kept := by
  simp [Module.takeRequest, apply_ite Module.kept]

@[simp] theorem Module.takeDone_kept (m : Module) (slot : Nat) (op : Op) (f : Frame) :
    (Module.takeDone m slot op f).kept = m.kept := by
  unfold Module.takeDone; simp

@[simp] theorem Module.takeAbort_kept (m : Module) (slot : Nat) (op : Op) (f : Frame) :
    (Module.takeAbort m slot op f).kept = m.kept := by
  unfold Module.takeAbort; simp

@[simp] theorem Module.mismatch_kept (m : Module) (slot : Nat) (op : Op) (child : Bool) (source : Nat) :
    (Module.mismatch m slot op child source).kept = m.kept := by
  simp [Module.mismatch, apply_ite Module.kept]

@[simp] theorem Module.opFrame_kept (m : Module) (slot lport : Nat) (e : Option MemberEntry) (f : Frame) (c : Crossing) :
    (Module.opFrame m slot lport e f c).mod.kept = m.kept := by
  unfold Module.opFrame
  repeat' (first
    | (simp [apply_ite Module.kept]; done) | split | simp | rw [Module.each_kept] | rw [Module.foldl_kept] | rw [Module.foldlPair_kept] | intro _
    | (rename_i hq; replace hq := congrArg (fun p => (Prod.fst p).kept) hq; simp at hq; simp [apply_ite Module.kept, hq]; done)
    | dsimp only)

@[simp] theorem Module.collect_kept (m : Module) (lport : Nat) (f : Frame) (found : Found) (c : Crossing) :
    (Module.collect m lport f found c).mod.kept = m.kept := by
  unfold Module.collect
  repeat' (first
    | (simp [apply_ite Module.kept]; done) | split | simp | rw [Module.each_kept] | rw [Module.foldl_kept] | rw [Module.foldlPair_kept] | intro _
    | (rename_i hq; replace hq := congrArg (fun p => (Prod.fst p).kept) hq; simp at hq; simp [apply_ite Module.kept, hq]; done)
    | dsimp only)

@[simp] theorem Module.waitIngress_kept (m : Module) (f : QFrame) :
    (Module.waitIngress m f).kept = m.kept := by
  rfl

@[simp] theorem Module.queueCopies_kept (m : Module) (lport vc : Nat) (rcvd : Frame) (n : Nat) (l : List (Frame × Nat × Nat)) :
    (m.queueCopies lport vc rcvd n l).kept = m.kept := by
  induction l generalizing m with
  | nil => simp [Module.queueCopies]
  | cons x t ih =>
    cases t with
    | nil => simp [Module.queueCopies]
    | cons y t => unfold Module.queueCopies; rw [ih]; simp --

@[simp] theorem Module.pipeline_kept (m : Module) (lport vc : Nat) (f : Frame) (len n : Nat) :
    (Module.pipeline m lport vc f len n).kept = m.kept := by
  unfold Module.pipeline
  repeat' (first
    | (simp [apply_ite Module.kept]; done) | split | simp | rw [Module.each_kept] | rw [Module.foldl_kept] | rw [Module.foldlPair_kept] | intro _
    | (rename_i hq; replace hq := congrArg (fun p => (Prod.fst p).kept) hq; simp at hq; simp [apply_ite Module.kept, hq]; done)
    | dsimp only)

@[simp] theorem Module.enterPipe_kept (m : Module) (lport vc : Nat) (f : Frame) (len n : Nat) :
    (Module.enterPipe m lport vc f len n).kept = m.kept := by
  unfold Module.enterPipe
  repeat' (first
    | (simp [apply_ite Module.kept]; done) | split | simp | rw [Module.each_kept] | rw [Module.foldl_kept] | rw [Module.foldlPair_kept] | intro _
    | (rename_i hq; replace hq := congrArg (fun p => (Prod.fst p).kept) hq; simp at hq; simp [apply_ite Module.kept, hq]; done)
    | dsimp only)

@[simp] theorem Module.lookupHead_kept (m : Module) (lport vc : Nat) (f : QFrame) (rest : List QFrame) (len : Nat) :
    (Module.lookupHead m lport vc f rest len).kept = m.kept := by
  unfold Module.lookupHead
  repeat' (first
    | (simp [apply_ite Module.kept]; done) | split | simp | rw [Module.each_kept] | rw [Module.foldl_kept] | rw [Module.foldlPair_kept] | intro _
    | (rename_i hq; replace hq := congrArg (fun p => (Prod.fst p).kept) hq; simp at hq; simp [apply_ite Module.kept, hq]; done)
    | dsimp only)

@[simp] theorem Module.hostReceive_kept (m : Module) (lport vc : Nat) (f : Frame) (n : Nat) :
    (Module.hostReceive m lport vc f n).kept = m.kept := by
  unfold Module.hostReceive
  repeat' (first
    | (simp [apply_ite Module.kept]; done) | split | simp | rw [Module.each_kept] | rw [Module.foldl_kept] | rw [Module.foldlPair_kept] | intro _
    | (rename_i hq; replace hq := congrArg (fun p => (Prod.fst p).kept) hq; simp at hq; simp [apply_ite Module.kept, hq]; done)
    | dsimp only)

@[simp] theorem Module.hostAdmit_kept (m : Module) (lport : Nat) :
    (Module.hostAdmit m lport).kept = m.kept := by
  unfold Module.hostAdmit; dsimp only; repeat' split
  all_goals simp

@[simp] theorem Module.accept_kept (m : Module) (lport vc : Nat) (payload : List Byte) :
    (Module.accept m lport vc payload).kept = m.kept := by
  unfold Module.accept
  repeat' (first
    | (simp [apply_ite Module.kept]; done) | split | simp | rw [Module.each_kept] | rw [Module.foldl_kept] | rw [Module.foldlPair_kept] | intro _
    | (rename_i hq; replace hq := congrArg (fun p => (Prod.fst p).kept) hq; simp at hq; simp [apply_ite Module.kept, hq]; done)
    | dsimp only)

@[simp] theorem Module.waitHead_kept (m : Module) (lport vc : Nat) (f : QFrame) (rest : List QFrame) :
    (Module.waitHead m lport vc f rest).kept = m.kept := by
  unfold Module.waitHead
  repeat' (first
    | (simp [apply_ite Module.kept]; done) | split | simp | rw [Module.each_kept] | rw [Module.foldl_kept] | rw [Module.foldlPair_kept] | intro _
    | (rename_i hq; replace hq := congrArg (fun p => (Prod.fst p).kept) hq; simp at hq; simp [apply_ite Module.kept, hq]; done)
    | dsimp only)

@[simp] theorem Module.leaveIngress_kept (m : Module) (lport vc : Nat) (f : QFrame) (rest : List QFrame) :
    (Module.leaveIngress m lport vc f rest).kept = m.kept := by
  unfold Module.leaveIngress
  repeat' (first
    | (simp [apply_ite Module.kept]; done) | split | simp | rw [Module.each_kept] | rw [Module.foldl_kept] | rw [Module.foldlPair_kept] | intro _
    | (rename_i hq; replace hq := congrArg (fun p => (Prod.fst p).kept) hq; simp at hq; simp [apply_ite Module.kept, hq]; done)
    | dsimp only)

@[simp] theorem Module.tookTurn_kept (m : Module) (out ovc p : Nat) :
    (Module.tookTurn m out ovc p).kept = m.kept := by
  unfold Module.tookTurn
  repeat' (first
    | (simp [apply_ite Module.kept]; done) | split | simp | rw [Module.each_kept] | rw [Module.foldl_kept] | rw [Module.foldlPair_kept] | intro _
    | (rename_i hq; replace hq := congrArg (fun p => (Prod.fst p).kept) hq; simp at hq; simp [apply_ite Module.kept, hq]; done)
    | dsimp only)

@[simp] theorem Module.holdToll_kept (m : Module) (lport vc : Nat) (f : QFrame) (rest : List QFrame) (out : Nat) :
    (Module.holdToll m lport vc f rest out).kept = m.kept := by
  unfold Module.holdToll
  repeat' (first
    | (simp [apply_ite Module.kept]; done) | split | simp | rw [Module.each_kept] | rw [Module.foldl_kept] | rw [Module.foldlPair_kept] | intro _
    | (rename_i hq; replace hq := congrArg (fun p => (Prod.fst p).kept) hq; simp at hq; simp [apply_ite Module.kept, hq]; done)
    | dsimp only)

@[simp] theorem Module.enterOut_kept (m : Module) (lport vc : Nat) (f : QFrame) (rest : List QFrame) (out ovc : Nat) (errs : ReadErrs) :
    (m.enterOut lport vc f rest out ovc errs).kept = m.kept := by
  unfold Module.enterOut
  split
  · split
    all_goals
      next h =>
      have := congrArg (fun p => (Arrival.mod p).kept) h
      simp at this
      simp [apply_ite Module.kept, ← this]
  · split
    · simp
    · split
      all_goals
        next h =>
        have := congrArg (fun p => (Admit.mod p).kept) h
        simp at this
        simp [← this] --

@[simp] theorem Module.admitOut_kept (m : Module) (lport vc : Nat) (f : QFrame) (rest : List QFrame) (out ovc : Nat) (errs : ReadErrs) :
    (Module.admitOut m lport vc f rest out ovc errs).kept = m.kept := by
  unfold Module.admitOut
  repeat' (first
    | (simp [apply_ite Module.kept]; done) | split | simp | rw [Module.each_kept] | rw [Module.foldl_kept] | rw [Module.foldlPair_kept] | intro _
    | (rename_i hq; replace hq := congrArg (fun p => (Prod.fst p).kept) hq; simp at hq; simp [apply_ite Module.kept, hq]; done)
    | dsimp only)

@[simp] theorem Module.admitHead_kept (m : Module) (lport vc : Nat) (errs : ReadErrs) : (m.admitHead lport vc errs).kept = m.kept := by
  unfold Module.admitHead
  repeat' (first
    | (simp; done) | split
    | (rename_i hq; replace hq := congrArg (fun p => (Taken.mod p).kept) hq; simp at hq; simp [hq]; done)
    | (rename_i hq; simp [Module.controlArrive_some hq]; done)) --

@[simp] theorem Module.admission_kept (m : Module) (lport vc : Nat) (found : Secded) (errs : ReadErrs) :
    (Module.admission m lport vc found errs).kept = m.kept := by
  unfold Module.admission
  repeat' (first
    | (simp [apply_ite Module.kept]; done) | split | simp | rw [Module.each_kept] | rw [Module.foldl_kept] | rw [Module.foldlPair_kept] | intro _
    | (rename_i hq; replace hq := congrArg (fun p => (Prod.fst p).kept) hq; simp at hq; simp [apply_ite Module.kept, hq]; done)
    | dsimp only)

@[simp] theorem Module.escapeHead_kept (m : Module) (lport vc : Nat) :
    (Module.escapeHead m lport vc).kept = m.kept := by
  unfold Module.escapeHead
  repeat' (first
    | (simp [apply_ite Module.kept]; done) | split | simp | rw [Module.each_kept] | rw [Module.foldl_kept] | rw [Module.foldlPair_kept] | intro _
    | (rename_i hq; replace hq := congrArg (fun p => (Prod.fst p).kept) hq; simp at hq; simp [apply_ite Module.kept, hq]; done)
    | dsimp only)

@[simp] theorem Module.linkDiscard_kept (m : Module) (lport : Nat) :
    (Module.linkDiscard m lport).kept = m.kept := by
  unfold Module.linkDiscard; simp

@[simp] theorem Module.discardRetry_kept (m : Module) (lport : Nat) :
    (Module.discardRetry m lport).kept = m.kept := by
  unfold Module.discardRetry
  repeat' (first
    | (simp [apply_ite Module.kept]; done) | split | simp | rw [Module.each_kept] | rw [Module.foldl_kept] | rw [Module.foldlPair_kept] | intro _
    | (rename_i hq; replace hq := congrArg (fun p => (Prod.fst p).kept) hq; simp at hq; simp [apply_ite Module.kept, hq]; done)
    | dsimp only)

@[simp] theorem Module.breakTrees_kept (m : Module) (lport : Nat) :
    (Module.breakTrees m lport).kept = m.kept := by
  unfold Module.breakTrees; rw [Module.each_kept]; intro _ _; simp

@[simp] theorem Module.breakFrames_kept (m : Module) (lport : Nat) (fs : List QFrame) :
    (Module.breakFrames m lport fs).kept = m.kept := by
  unfold Module.breakFrames
  repeat' (first
    | (simp [apply_ite Module.kept]; done) | split | simp | rw [Module.each_kept] | rw [Module.foldl_kept] | rw [Module.foldlPair_kept] | intro _
    | (rename_i hq; replace hq := congrArg (fun p => (Prod.fst p).kept) hq; simp at hq; simp [apply_ite Module.kept, hq]; done)
    | dsimp only)

@[simp] theorem Module.loseBound_kept (m : Module) (lport vc : Nat) :
    (Module.loseBound m lport vc).kept = m.kept := by
  unfold Module.loseBound
  repeat' (first
    | (simp [apply_ite Module.kept]; done) | split | simp | rw [Module.each_kept] | rw [Module.foldl_kept] | rw [Module.foldlPair_kept] | intro _
    | (rename_i hq; replace hq := congrArg (fun p => (Prod.fst p).kept) hq; simp at hq; simp [apply_ite Module.kept, hq]; done)
    | dsimp only)

@[simp] theorem Module.loseGroups_kept (m : Module) (lport : Nat) (resumes : Bool) :
    (Module.loseGroups m lport resumes).kept = m.kept := by
  unfold Module.loseGroups
  repeat' (first
    | (simp [apply_ite Module.kept]; done) | split | simp | rw [Module.each_kept] | rw [Module.foldl_kept] | rw [Module.foldlPair_kept] | intro _
    | (rename_i hq; replace hq := congrArg (fun p => (Prod.fst p).kept) hq; simp at hq; simp [apply_ite Module.kept, hq]; done)
    | dsimp only)

@[simp] theorem Module.clearQueue_kept (m : Module) (lport vc : Nat) :
    (Module.clearQueue m lport vc).kept = m.kept := by
  unfold Module.clearQueue
  repeat' (first
    | (simp [apply_ite Module.kept]; done) | split | simp | rw [Module.each_kept] | rw [Module.foldl_kept] | rw [Module.foldlPair_kept] | intro _
    | (rename_i hq; replace hq := congrArg (fun p => (Prod.fst p).kept) hq; simp at hq; simp [apply_ite Module.kept, hq]; done)
    | dsimp only)

@[simp] theorem Module.clearOwn_kept (m : Module) (lport vc : Nat) :
    (Module.clearOwn m lport vc).kept = m.kept := by
  unfold Module.clearOwn
  repeat' (first
    | (simp [apply_ite Module.kept]; done) | split | simp | rw [Module.each_kept] | rw [Module.foldl_kept] | rw [Module.foldlPair_kept] | intro _
    | (rename_i hq; replace hq := congrArg (fun p => (Prod.fst p).kept) hq; simp at hq; simp [apply_ite Module.kept, hq]; done)
    | dsimp only)

@[simp] theorem Module.discardHeld_kept (m : Module) (lport : Nat) :
    (Module.discardHeld m lport).kept = m.kept := by
  unfold Module.discardHeld
  repeat' (first
    | (simp [apply_ite Module.kept]; done) | split | simp | rw [Module.each_kept] | rw [Module.foldl_kept] | rw [Module.foldlPair_kept] | intro _
    | (rename_i hq; replace hq := congrArg (fun p => (Prod.fst p).kept) hq; simp at hq; simp [apply_ite Module.kept, hq]; done)
    | dsimp only)

@[simp] theorem Module.setLanes_kept (m : Module) (lport map : Nat) :
    (Module.setLanes m lport map).kept = m.kept := by
  unfold Module.setLanes
  repeat' (first
    | (simp [apply_ite Module.kept]; done) | split | simp | rw [Module.each_kept] | rw [Module.foldl_kept] | rw [Module.foldlPair_kept] | intro _
    | (rename_i hq; replace hq := congrArg (fun p => (Prod.fst p).kept) hq; simp at hq; simp [apply_ite Module.kept, hq]; done)
    | dsimp only)

@[simp] theorem Module.setOffered_kept (m : Module) (lport map : Nat) :
    (Module.setOffered m lport map).kept = m.kept := by
  unfold Module.setOffered
  repeat' (first
    | (simp [apply_ite Module.kept]; done) | split | simp | rw [Module.each_kept] | rw [Module.foldl_kept] | rw [Module.foldlPair_kept] | intro _
    | (rename_i hq; replace hq := congrArg (fun p => (Prod.fst p).kept) hq; simp at hq; simp [apply_ite Module.kept, hq]; done)
    | dsimp only)

@[simp] theorem Module.loseHostFrames_kept (m : Module) (lport : Nat) :
    (Module.loseHostFrames m lport).kept = m.kept := by
  unfold Module.loseHostFrames
  repeat' (first
    | (simp [apply_ite Module.kept]; done) | split | simp | rw [Module.each_kept] | rw [Module.foldl_kept] | rw [Module.foldlPair_kept] | intro _
    | (rename_i hq; replace hq := congrArg (fun p => (Prod.fst p).kept) hq; simp at hq; simp [apply_ite Module.kept, hq]; done)
    | dsimp only)

@[simp] theorem Module.leaveUp_kept (m : Module) (lport st : Nat) (resumes : Bool) :
    (Module.leaveUp m lport st resumes).kept = m.kept := by
  unfold Module.leaveUp
  repeat' (first
    | (simp [apply_ite Module.kept]; done) | split | simp | rw [Module.each_kept] | rw [Module.foldl_kept] | rw [Module.foldlPair_kept] | intro _
    | (rename_i hq; replace hq := congrArg (fun p => (Prod.fst p).kept) hq; simp at hq; simp [apply_ite Module.kept, hq]; done)
    | dsimp only)

@[simp] theorem Module.sendTrain_kept (m : Module) (lport phase map : Nat) :
    (Module.sendTrain m lport phase map).kept = m.kept := by
  unfold Module.sendTrain
  repeat' (first
    | (simp [apply_ite Module.kept]; done) | split | simp | rw [Module.each_kept] | rw [Module.foldl_kept] | rw [Module.foldlPair_kept] | intro _
    | (rename_i hq; replace hq := congrArg (fun p => (Prod.fst p).kept) hq; simp at hq; simp [apply_ite Module.kept, hq]; done)
    | dsimp only)

@[simp] theorem Module.startTraining_kept (m : Module) (lport st : Nat) :
    (Module.startTraining m lport st).kept = m.kept := by
  unfold Module.startTraining
  repeat' (first
    | (simp [apply_ite Module.kept]; done) | split | simp | rw [Module.each_kept] | rw [Module.foldl_kept] | rw [Module.foldlPair_kept] | intro _
    | (rename_i hq; replace hq := congrArg (fun p => (Prod.fst p).kept) hq; simp at hq; simp [apply_ite Module.kept, hq]; done)
    | dsimp only)

@[simp] theorem Module.goRetrain_kept (m : Module) (lport : Nat) (resumes : Bool) :
    (Module.goRetrain m lport resumes).kept = m.kept := by
  unfold Module.goRetrain
  repeat' (first
    | (simp [apply_ite Module.kept]; done) | split | simp | rw [Module.each_kept] | rw [Module.foldl_kept] | rw [Module.foldlPair_kept] | intro _
    | (rename_i hq; replace hq := congrArg (fun p => (Prod.fst p).kept) hq; simp at hq; simp [apply_ite Module.kept, hq]; done)
    | dsimp only)

@[simp] theorem Module.retrain_kept (m : Module) (lport : Nat) :
    (Module.retrain m lport).kept = m.kept := by
  simp [Module.retrain, apply_ite Module.kept]

@[simp] theorem Module.lossOfLink_kept (m : Module) (lport : Nat) :
    (Module.lossOfLink m lport).kept = m.kept := by
  unfold Module.lossOfLink; simp

@[simp] theorem Module.linkDark_kept (m : Module) (lport : Nat) :
    (Module.linkDark m lport).kept = m.kept := by
  simp [Module.linkDark, apply_ite Module.kept]

@[simp] theorem Module.trainLane_kept (m : Module) (lane : Nat) :
    (Module.trainLane m lane).kept = m.kept := by
  simp [Module.trainLane, apply_ite Module.kept]

@[simp] theorem Module.announce_kept (m : Module) (lport lane : Nat) (add retried : Bool) :
    (Module.announce m lport lane add retried).kept = m.kept := by
  unfold Module.announce
  repeat' (first
    | (simp [apply_ite Module.kept]; done) | split | simp | rw [Module.each_kept] | rw [Module.foldl_kept] | rw [Module.foldlPair_kept] | intro _
    | (rename_i hq; replace hq := congrArg (fun p => (Prod.fst p).kept) hq; simp at hq; simp [apply_ite Module.kept, hq]; done)
    | dsimp only)

@[simp] theorem Module.removeLane_kept (m : Module) (lane : Nat) :
    (Module.removeLane m lane).kept = m.kept := by
  simp [Module.removeLane, apply_ite Module.kept]

@[simp] theorem Module.loseLane_kept (m : Module) (lane : Nat) :
    (Module.loseLane m lane).kept = m.kept := by
  simp [Module.loseLane, apply_ite Module.kept]

@[simp] theorem Module.barLane_kept (m : Module) (lane : Nat) (why : LaneBar) :
    (Module.barLane m lane why).kept = m.kept := by
  unfold Module.barLane; simp

@[simp] theorem Module.unbarLane_kept (m : Module) (lane : Nat) (why : LaneBar) :
    (Module.unbarLane m lane why).kept = m.kept := by
  simp [Module.unbarLane, apply_ite Module.kept]

@[simp] theorem Module.takeSample_kept (m : Module) (r : BitVec 256) (full : Bool) :
    (Module.takeSample m r full).kept = m.kept := by
  unfold Module.takeSample
  repeat' (first
    | (simp [apply_ite Module.kept]; done) | split | simp | rw [Module.each_kept] | rw [Module.foldl_kept] | rw [Module.foldlPair_kept] | intro _
    | (rename_i hq; replace hq := congrArg (fun p => (Prod.fst p).kept) hq; simp at hq; simp [apply_ite Module.kept, hq]; done)
    | dsimp only)

@[simp] theorem Module.takeMirror_kept (m : Module) (s : Nat) (r : BitVec 1280) (full : Bool) :
    (Module.takeMirror m s r full).kept = m.kept := by
  unfold Module.takeMirror
  repeat' (first
    | (simp [apply_ite Module.kept]; done) | split | simp | rw [Module.each_kept] | rw [Module.foldl_kept] | rw [Module.foldlPair_kept] | intro _
    | (rename_i hq; replace hq := congrArg (fun p => (Prod.fst p).kept) hq; simp at hq; simp [apply_ite Module.kept, hq]; done)
    | dsimp only)

@[simp] theorem Module.observe_kept (m : Module) (lport vc : Nat) (f : QFrame) (full : Bool) :
    (Module.observe m lport vc f full).kept = m.kept := by
  unfold Module.observe
  repeat' (first
    | (simp [apply_ite Module.kept]; done) | split | simp | rw [Module.each_kept] | rw [Module.foldl_kept] | rw [Module.foldlPair_kept] | intro _
    | (rename_i hq; replace hq := congrArg (fun p => (Prod.fst p).kept) hq; simp at hq; simp [apply_ite Module.kept, hq]; done)
    | dsimp only)

@[simp] theorem Module.putTurn_kept (m : Module) (lport : Nat) (t : Turn) :
    (Module.putTurn m lport t).kept = m.kept := by
  rfl

@[simp] theorem Module.seek_kept (m : Module) (lport fuel : Nat) : (m.seek lport fuel).1.kept = m.kept := by
  induction fuel generalizing m with
  | zero => rfl
  | succ k ih =>
    unfold Module.seek
    dsimp only
    repeat' (first | (simp [ih]; done) | split) --

@[simp] theorem Module.noteGuard_kept (m : Module) (lport : Nat) :
    (Module.noteGuard m lport).kept = m.kept := by
  unfold Module.noteGuard
  repeat' (first
    | (simp [apply_ite Module.kept]; done) | split | simp | rw [Module.each_kept] | rw [Module.foldl_kept] | rw [Module.foldlPair_kept] | intro _
    | (rename_i hq; replace hq := congrArg (fun p => (Prod.fst p).kept) hq; simp at hq; simp [apply_ite Module.kept, hq]; done)
    | dsimp only)

@[simp] theorem Module.seekReady_kept (m : Module) (lport : Nat) :
    (Module.seekReady m lport).1.kept = m.kept := by
  unfold Module.seekReady
  repeat' (first
    | (simp [apply_ite (Prod.fst (α := Module)), apply_ite Module.kept]; done) | split | simp | rw [Module.each_kept] | rw [Module.foldl_kept] | rw [Module.foldlPair_kept] | intro _
    | (rename_i hq; replace hq := congrArg (fun p => (Prod.fst p).kept) hq; simp at hq; simp [apply_ite (Prod.fst (α := Module)), apply_ite Module.kept, hq]; done)
    | dsimp only)

@[simp] theorem Module.dequeue_kept (m : Module) (lport vc : Nat) (rest : List QFrame) (l : Nat) (charge : Bool) :
    (Module.dequeue m lport vc rest l charge).kept = m.kept := by
  unfold Module.dequeue
  repeat' (first
    | (simp [apply_ite Module.kept]; done) | split | simp | rw [Module.each_kept] | rw [Module.foldl_kept] | rw [Module.foldlPair_kept] | intro _
    | (rename_i hq; replace hq := congrArg (fun p => (Prod.fst p).kept) hq; simp at hq; simp [apply_ite Module.kept, hq]; done)
    | dsimp only)

@[simp] theorem Module.sendData_kept (m : Module) (lport vc : Nat) (f : QFrame) (l : Nat) :
    (Module.sendData m lport vc f l).kept = m.kept := by
  unfold Module.sendData
  repeat' (first
    | (simp [apply_ite Module.kept]; done) | split | simp | rw [Module.each_kept] | rw [Module.foldl_kept] | rw [Module.foldlPair_kept] | intro _
    | (rename_i hq; replace hq := congrArg (fun p => (Prod.fst p).kept) hq; simp at hq; simp [apply_ite Module.kept, hq]; done)
    | dsimp only)

@[simp] theorem Module.stampSync_kept (m : Module) (lport : Nat) (f : QFrame) :
    (Module.stampSync m lport f).1.kept = m.kept := by
  unfold Module.stampSync; dsimp only; repeat' split
  all_goals simp

@[simp] theorem Module.launch_kept (m : Module) (lport : Nat) (found : Secded) (full : Bool) : (m.launch lport found full).kept = m.kept := by
  unfold Module.launch
  dsimp only
  split
  · rfl
  · split
    · next h =>
      have := congrArg (fun p => (Prod.fst p).kept) h
      simp at this
      simp [← this]
    · next h =>
      have := congrArg (fun p => (Prod.fst p).kept) h
      simp at this
      split
      · simp [← this]
      · split <;> simp [apply_ite Module.kept, ← this] --

@[simp] theorem Module.wheelSlot_kept (m : Module) (s : Nat) :
    (Module.wheelSlot m s).kept = m.kept := by
  unfold Module.wheelSlot
  repeat' (first
    | (simp [apply_ite Module.kept]; done) | split | simp | rw [Module.each_kept] | rw [Module.foldl_kept] | rw [Module.foldlPair_kept] | intro _
    | (rename_i hq; replace hq := congrArg (fun p => (Prod.fst p).kept) hq; simp at hq; simp [apply_ite Module.kept, hq]; done)
    | dsimp only)

@[simp] theorem Module.askShaper_kept (m : Module) (lport vc : Nat) (rate burst : Option Nat) (apply : Bool) :
    (Module.askShaper m lport vc rate burst apply).kept = m.kept := by
  unfold Module.askShaper
  repeat' (first
    | (simp [apply_ite Module.kept]; done) | split | simp | rw [Module.each_kept] | rw [Module.foldl_kept] | rw [Module.foldlPair_kept] | intro _
    | (rename_i hq; replace hq := congrArg (fun p => (Prod.fst p).kept) hq; simp at hq; simp [apply_ite Module.kept, hq]; done)
    | dsimp only)

@[simp] theorem Module.closeChunk_kept (m : Module) (lport vc : Nat) :
    (Module.closeChunk m lport vc).kept = m.kept := by
  unfold Module.closeChunk
  repeat' (first
    | (simp [apply_ite Module.kept]; done) | split | simp | rw [Module.each_kept] | rw [Module.foldl_kept] | rw [Module.foldlPair_kept] | intro _
    | (rename_i hq; replace hq := congrArg (fun p => (Prod.fst p).kept) hq; simp at hq; simp [apply_ite Module.kept, hq]; done)
    | dsimp only)

@[simp] theorem Module.readBack_kept (m : Module) (lport vc : Nat) :
    (Module.readBack m lport vc).kept = m.kept := by
  unfold Module.readBack
  repeat' (first
    | (simp [apply_ite Module.kept]; done) | split | simp | rw [Module.each_kept] | rw [Module.foldl_kept] | rw [Module.foldlPair_kept] | intro _
    | (rename_i hq; replace hq := congrArg (fun p => (Prod.fst p).kept) hq; simp at hq; simp [apply_ite Module.kept, hq]; done)
    | dsimp only)

@[simp] theorem Module.putRx_kept (m : Module) (lane : Nat) (r : RxLane) :
    (Module.putRx m lane r).kept = m.kept := by
  unfold Module.putRx
  repeat' (first
    | (simp [apply_ite Module.kept]; done) | split | simp | rw [Module.each_kept] | rw [Module.foldl_kept] | rw [Module.foldlPair_kept] | intro _
    | (rename_i hq; replace hq := congrArg (fun p => (Prod.fst p).kept) hq; simp at hq; simp [apply_ite Module.kept, hq]; done)
    | dsimp only)

@[simp] theorem Module.codeword_kept (m : Module) (lane : Nat) (w : BitVec 5440) :
    (Module.codeword m lane w).kept = m.kept := by
  unfold Module.codeword
  repeat' (first
    | (simp [apply_ite Module.kept]; done) | split | simp | rw [Module.each_kept] | rw [Module.foldl_kept] | rw [Module.foldlPair_kept] | intro _
    | (rename_i hq; replace hq := congrArg (fun p => (Prod.fst p).kept) hq; simp at hq; simp [apply_ite Module.kept, hq]; done)
    | dsimp only)

@[simp] theorem Module.takeAckNo_kept (m : Module) (lport : Nat) (ack : BitVec 16) :
    (Module.takeAckNo m lport ack).kept = m.kept := by
  unfold Module.takeAckNo
  repeat' (first
    | (simp [apply_ite Module.kept]; done) | split | simp | rw [Module.each_kept] | rw [Module.foldl_kept] | rw [Module.foldlPair_kept] | intro _
    | (rename_i hq; replace hq := congrArg (fun p => (Prod.fst p).kept) hq; simp at hq; simp [apply_ite Module.kept, hq]; done)
    | dsimp only)

@[simp] theorem Module.askRetry_kept (m : Module) (lport : Nat) (reason : BitVec 8) :
    (Module.askRetry m lport reason).kept = m.kept := by
  unfold Module.askRetry; simp

@[simp] theorem Module.askOnce_kept (m : Module) (lport : Nat) (reason : BitVec 8) :
    (Module.askOnce m lport reason).kept = m.kept := by
  simp [Module.askOnce, apply_ite Module.kept]

@[simp] theorem Module.replayGap_kept (m : Module) (lport : Nat) (lseq : BitVec 16) :
    (Module.replayGap m lport lseq).kept = m.kept := by
  unfold Module.replayGap
  repeat' (first
    | (simp [apply_ite Module.kept]; done) | split | simp | rw [Module.each_kept] | rw [Module.foldl_kept] | rw [Module.foldlPair_kept] | intro _
    | (rename_i hq; replace hq := congrArg (fun p => (Prod.fst p).kept) hq; simp at hq; simp [apply_ite Module.kept, hq]; done)
    | dsimp only)

@[simp] theorem Module.dataFrame_kept (m : Module) (lport : Nat) (h : LinkHeader) (crc : BitVec 32) (payload : List Byte) :
    (Module.dataFrame m lport h crc payload).kept = m.kept := by
  unfold Module.dataFrame
  repeat' (first
    | (simp [apply_ite Module.kept]; done) | split | simp | rw [Module.each_kept] | rw [Module.foldl_kept] | rw [Module.foldlPair_kept] | intro _
    | (rename_i hq; replace hq := congrArg (fun p => (Prod.fst p).kept) hq; simp at hq; simp [apply_ite Module.kept, hq]; done)
    | dsimp only)

@[simp] theorem Module.retryTimeout_kept (m : Module) (lport : Nat) :
    (Module.retryTimeout m lport).kept = m.kept := by
  unfold Module.retryTimeout
  repeat' (first
    | (simp [apply_ite Module.kept]; done) | split | simp | rw [Module.each_kept] | rw [Module.foldl_kept] | rw [Module.foldlPair_kept] | intro _
    | (rename_i hq; replace hq := congrArg (fun p => (Prod.fst p).kept) hq; simp at hq; simp [apply_ite Module.kept, hq]; done)
    | dsimp only)

@[simp] theorem Module.replay_kept (m : Module) (lport : Nat) (lseq : BitVec 16) :
    (Module.replay m lport lseq).kept = m.kept := by
  unfold Module.replay; rw [Module.each_kept]; intro _ _; simp

@[simp] theorem Module.badSet_kept (m : Module) (lport : Nat) :
    (Module.badSet m lport).kept = m.kept := by
  unfold Module.badSet; simp

@[simp] theorem Module.retryReq_kept (m : Module) (lport : Nat) (crc : BitVec 32) (lseq : BitVec 16) (reason : BitVec 8) :
    (Module.retryReq m lport crc lseq reason).kept = m.kept := by
  unfold Module.retryReq
  repeat' (first
    | (simp [apply_ite Module.kept]; done) | split | simp | rw [Module.each_kept] | rw [Module.foldl_kept] | rw [Module.foldlPair_kept] | intro _
    | (rename_i hq; replace hq := congrArg (fun p => (Prod.fst p).kept) hq; simp at hq; simp [apply_ite Module.kept, hq]; done)
    | dsimp only)

@[simp] theorem Module.stall_kept (m : Module) (lport : Nat) :
    (Module.stall m lport).kept = m.kept := by
  simp [Module.stall, apply_ite Module.kept]

@[simp] theorem Module.creditFrame_kept (m : Module) (lport : Nat) (crc : BitVec 32) (ack : BitVec 16) (cvc : Fin 8) (ccount : BitVec 13) :
    (Module.creditFrame m lport crc ack cvc ccount).kept = m.kept := by
  unfold Module.creditFrame
  repeat' (first
    | (simp [apply_ite Module.kept]; done) | split | simp | rw [Module.each_kept] | rw [Module.foldl_kept] | rw [Module.foldlPair_kept] | intro _
    | (rename_i hq; replace hq := congrArg (fun p => (Prod.fst p).kept) hq; simp at hq; simp [apply_ite Module.kept, hq]; done)
    | dsimp only)

@[simp] theorem Module.keepaliveSend_kept (m : Module) (lport k : Nat) :
    (Module.keepaliveSend m lport k).kept = m.kept := by
  unfold Module.keepaliveSend
  repeat' (first
    | (simp [apply_ite Module.kept]; done) | split | simp | rw [Module.each_kept] | rw [Module.foldl_kept] | rw [Module.foldlPair_kept] | intro _
    | (rename_i hq; replace hq := congrArg (fun p => (Prod.fst p).kept) hq; simp at hq; simp [apply_ite Module.kept, hq]; done)
    | dsimp only)

@[simp] theorem Module.setPeerState_kept (m : Module) (lport st : Nat) :
    (Module.setPeerState m lport st).kept = m.kept := by
  unfold Module.setPeerState
  repeat' (first
    | (simp [apply_ite Module.kept]; done) | split | simp | rw [Module.each_kept] | rw [Module.foldl_kept] | rw [Module.foldlPair_kept] | intro _
    | (rename_i hq; replace hq := congrArg (fun p => (Prod.fst p).kept) hq; simp at hq; simp [apply_ite Module.kept, hq]; done)
    | dsimp only)

@[simp] theorem Module.keepaliveReceive_kept (m : Module) (lport : Nat) (crc : BitVec 32) (k : Keepalive) :
    (Module.keepaliveReceive m lport crc k).kept = m.kept := by
  unfold Module.keepaliveReceive
  repeat' (first
    | (simp [apply_ite Module.kept]; done) | split | simp | rw [Module.each_kept] | rw [Module.foldl_kept] | rw [Module.foldlPair_kept] | intro _
    | (rename_i hq; replace hq := congrArg (fun p => (Prod.fst p).kept) hq; simp at hq; simp [apply_ite Module.kept, hq]; done)
    | dsimp only)

@[simp] theorem Module.echoMap_kept (m : Module) (lport : Nat) (l : LaneMap) :
    (Module.echoMap m lport l).kept = m.kept := by
  unfold Module.echoMap; simp

@[simp] theorem Module.mapRemove_kept (m : Module) (lport : Nat) (crc : BitVec 32) (l : LaneMap) :
    (Module.mapRemove m lport crc l).kept = m.kept := by
  unfold Module.mapRemove
  repeat' (first
    | (simp [apply_ite Module.kept]; done) | split | simp | rw [Module.each_kept] | rw [Module.foldl_kept] | rw [Module.foldlPair_kept] | intro _
    | (rename_i hq; replace hq := congrArg (fun p => (Prod.fst p).kept) hq; simp at hq; simp [apply_ite Module.kept, hq]; done)
    | dsimp only)

@[simp] theorem Module.mapAdd_kept (m : Module) (lport : Nat) (crc : BitVec 32) (l : LaneMap) :
    (Module.mapAdd m lport crc l).kept = m.kept := by
  unfold Module.mapAdd
  repeat' (first
    | (simp [apply_ite Module.kept]; done) | split | simp | rw [Module.each_kept] | rw [Module.foldl_kept] | rw [Module.foldlPair_kept] | intro _
    | (rename_i hq; replace hq := congrArg (fun p => (Prod.fst p).kept) hq; simp at hq; simp [apply_ite Module.kept, hq]; done)
    | dsimp only)

@[simp] theorem Module.mapEcho_kept (m : Module) (lport : Nat) (crc : BitVec 32) (l : LaneMap) :
    (Module.mapEcho m lport crc l).kept = m.kept := by
  unfold Module.mapEcho
  repeat' (first
    | (simp [apply_ite Module.kept]; done) | split | simp | rw [Module.each_kept] | rw [Module.foldl_kept] | rw [Module.foldlPair_kept] | intro _
    | (rename_i hq; replace hq := congrArg (fun p => (Prod.fst p).kept) hq; simp at hq; simp [apply_ite Module.kept, hq]; done)
    | dsimp only)

@[simp] theorem Module.laneIn_kept (m : Module) (lport k : Nat) :
    (Module.laneIn m lport k).kept = m.kept := by
  unfold Module.laneIn
  repeat' (first
    | (simp [apply_ite Module.kept]; done) | split | simp | rw [Module.each_kept] | rw [Module.foldl_kept] | rw [Module.foldlPair_kept] | intro _
    | (rename_i hq; replace hq := congrArg (fun p => (Prod.fst p).kept) hq; simp at hq; simp [apply_ite Module.kept, hq]; done)
    | dsimp only)

@[simp] theorem Module.mapEffective_kept (m : Module) (lport : Nat) (tag : BitVec 16) :
    (Module.mapEffective m lport tag).kept = m.kept := by
  unfold Module.mapEffective
  repeat' (first
    | (simp [apply_ite Module.kept]; done) | split | simp | rw [Module.each_kept] | rw [Module.foldl_kept] | rw [Module.foldlPair_kept] | intro _
    | (rename_i hq; replace hq := congrArg (fun p => (Prod.fst p).kept) hq; simp at hq; simp [apply_ite Module.kept, hq]; done)
    | dsimp only)

@[simp] theorem Module.laneLock_kept (m : Module) (lane : Nat) :
    (Module.laneLock m lane).kept = m.kept := by
  simp [Module.laneLock, apply_ite Module.kept]

@[simp] theorem Module.addTimeout_kept (m : Module) (lport : Nat) (tag : BitVec 16) :
    (Module.addTimeout m lport tag).kept = m.kept := by
  unfold Module.addTimeout; dsimp only; repeat' split
  all_goals simp

@[simp] theorem Module.claimESpare_kept (m : Module) (pb : Nat) (transmit : Bool) (lane : Nat) :
    (Module.claimESpare m pb transmit lane).kept = m.kept := by
  unfold Module.claimESpare; split <;> simp

@[simp] theorem Module.elaneFailing_kept (m : Module) (pb : Nat) (transmit : Bool) (lane : Nat) :
    (Module.elaneFailing m pb transmit lane).kept = m.kept := by
  unfold Module.elaneFailing; dsimp only; repeat' split
  all_goals simp

@[simp] theorem Module.elaneSpared_kept (m : Module) (pb : Nat) (transmit : Bool) (lane : Nat) :
    (Module.elaneSpared m pb transmit lane).kept = m.kept := by
  unfold Module.elaneSpared; split <;> simp

@[simp] theorem Module.trainIdentity_kept (m : Module) (lport : Nat) (t : Train) :
    (Module.trainIdentity m lport t).kept = m.kept := by
  simp [Module.trainIdentity, apply_ite Module.kept]

@[simp] theorem Module.agree_kept (m : Module) (lport : Nat) (t : Train) :
    (Module.agree m lport t).kept = m.kept := by
  unfold Module.agree
  repeat' (first
    | (simp [apply_ite Module.kept]; done) | split | simp | rw [Module.each_kept] | rw [Module.foldl_kept] | rw [Module.foldlPair_kept] | intro _
    | (rename_i hq; replace hq := congrArg (fun p => (Prod.fst p).kept) hq; simp at hq; simp [apply_ite Module.kept, hq]; done)
    | dsimp only)

@[simp] theorem Module.trainReceive_kept (m : Module) (lport : Nat) (crc : BitVec 32) (t : Train) :
    (Module.trainReceive m lport crc t).kept = m.kept := by
  unfold Module.trainReceive
  repeat' (first
    | (simp [apply_ite Module.kept]; done) | split | simp | rw [Module.each_kept] | rw [Module.foldl_kept] | rw [Module.foldlPair_kept] | intro _
    | (rename_i hq; replace hq := congrArg (fun p => (Prod.fst p).kept) hq; simp at hq; simp [apply_ite Module.kept, hq]; done)
    | dsimp only)

@[simp] theorem Module.grantRest_kept (m : Module) (lport : Nat) :
    (Module.grantRest m lport).kept = m.kept := by
  unfold Module.grantRest
  repeat' (first
    | (simp [apply_ite Module.kept]; done) | split | simp | rw [Module.each_kept] | rw [Module.foldl_kept] | rw [Module.foldlPair_kept] | intro _
    | (rename_i hq; replace hq := congrArg (fun p => (Prod.fst p).kept) hq; simp at hq; simp [apply_ite Module.kept, hq]; done)
    | dsimp only)

@[simp] theorem Module.activateAll_kept (m : Module) (lport : Nat) :
    (Module.activateAll m lport).kept = m.kept := by
  unfold Module.activateAll
  repeat' (first
    | (simp [apply_ite Module.kept]; done) | split | simp | rw [Module.each_kept] | rw [Module.foldl_kept] | rw [Module.foldlPair_kept] | intro _
    | (rename_i hq; replace hq := congrArg (fun p => (Prod.fst p).kept) hq; simp at hq; simp [apply_ite Module.kept, hq]; done)
    | dsimp only)

@[simp] theorem Module.linkUp_kept (m : Module) (lport : Nat) (locked skew : Nat) :
    (Module.linkUp m lport locked skew).kept = m.kept := by
  unfold Module.linkUp
  repeat' (first
    | (simp [apply_ite Module.kept]; done) | split | simp | rw [Module.each_kept] | rw [Module.foldl_kept] | rw [Module.foldlPair_kept] | intro _
    | (rename_i hq; replace hq := congrArg (fun p => (Prod.fst p).kept) hq; simp at hq; simp [apply_ite Module.kept, hq]; done)
    | dsimp only)

@[simp] theorem Module.trainingTimeout_kept (m : Module) (lport : Nat) :
    (Module.trainingTimeout m lport).kept = m.kept := by
  simp [Module.trainingTimeout, apply_ite Module.kept]

@[simp] theorem Module.stopShapers_kept (m : Module) (lport : Nat) :
    (Module.stopShapers m lport).kept = m.kept := by
  unfold Module.stopShapers
  repeat' (first
    | (simp [apply_ite Module.kept]; done) | split | simp | rw [Module.each_kept] | rw [Module.foldl_kept] | rw [Module.foldlPair_kept] | intro _
    | (rename_i hq; replace hq := congrArg (fun p => (Prod.fst p).kept) hq; simp at hq; simp [apply_ite Module.kept, hq]; done)
    | dsimp only)

@[simp] theorem Module.startDrain_kept (m : Module) (reset : Bool) (lport : Nat) :
    (Module.startDrain m reset lport).kept = m.kept := by
  simp [Module.startDrain, apply_ite Module.kept]

@[simp] theorem Module.drainOp_kept (m : Module) (slot : Nat) :
    (Module.drainOp m slot).kept = m.kept := by
  unfold Module.drainOp; dsimp only; repeat' split
  all_goals simp

@[simp] theorem Module.drainOps_kept (m : Module) (p : Op → Bool) :
    (Module.drainOps m p).kept = m.kept := by
  unfold Module.drainOps; rw [Module.each_kept]; intro _ _; simp

@[simp] theorem Module.drainedPoint_kept (m : Module) (lport : Nat) :
    (Module.drainedPoint m lport).kept = m.kept := by
  simp [Module.drainedPoint, apply_ite Module.kept]

@[simp] theorem Module.drainDark_kept (m : Module) (lport : Nat) :
    (Module.drainDark m lport).kept = m.kept := by
  simp [Module.drainDark, apply_ite Module.kept]

@[simp] theorem Module.loseStaged_kept (m : Module) (lport vc i : Nat) :
    (Module.loseStaged m lport vc i).kept = m.kept := by
  unfold Module.loseStaged
  repeat' (first
    | (simp [apply_ite Module.kept]; done) | split | simp | rw [Module.each_kept] | rw [Module.foldl_kept] | rw [Module.foldlPair_kept] | intro _
    | (rename_i hq; replace hq := congrArg (fun p => (Prod.fst p).kept) hq; simp at hq; simp [apply_ite Module.kept, hq]; done)
    | dsimp only)

@[simp] theorem Module.loseUse_kept (m : Module) (u : SramUse) :
    (Module.loseUse m u).kept = m.kept := by
  unfold Module.loseUse
  repeat' (first
    | (simp [apply_ite Module.kept]; done) | split | simp | rw [Module.each_kept] | rw [Module.foldl_kept] | rw [Module.foldlPair_kept] | intro _
    | (rename_i hq; replace hq := congrArg (fun p => (Prod.fst p).kept) hq; simp at hq; simp [apply_ite Module.kept, hq]; done)
    | dsimp only)

@[simp] theorem Module.sramScrub_kept (m : Module) (s word : Nat) (found : Secded) :
    (Module.sramScrub m s word found).kept = m.kept := by
  unfold Module.sramScrub
  repeat' (first
    | (simp [apply_ite Module.kept]; done) | split | simp | rw [Module.each_kept] | rw [Module.foldl_kept] | rw [Module.foldlPair_kept] | intro _
    | (rename_i hq; replace hq := congrArg (fun p => (Prod.fst p).kept) hq; simp at hq; simp [apply_ite Module.kept, hq]; done)
    | dsimp only)

@[simp] theorem Module.setPlanes_kept (m : Module) (mask spare : Nat) :
    (Module.setPlanes m mask spare).kept = m.kept := by
  unfold Module.setPlanes
  repeat' (first
    | (simp [apply_ite Module.kept]; done) | split | simp | rw [Module.each_kept] | rw [Module.foldl_kept] | rw [Module.foldlPair_kept] | intro _
    | (rename_i hq; replace hq := congrArg (fun p => (Prod.fst p).kept) hq; simp at hq; simp [apply_ite Module.kept, hq]; done)
    | dsimp only)

@[simp] theorem Module.raiseAll_kept (m : Module) (e : Ev) :
    (Module.raiseAll m e).kept = m.kept := by
  unfold Module.raiseAll; rw [Module.each_kept]; intro _ _; simp

@[simp] theorem Module.planeFail_kept (m : Module) (p : Nat) :
    (Module.planeFail m p).kept = m.kept := by
  unfold Module.planeFail; dsimp only; repeat' split
  all_goals simp

@[simp] theorem Module.planeSpared_kept (m : Module) :
    (Module.planeSpared m).kept = m.kept := by
  unfold Module.planeSpared; split <;> simp

@[simp] theorem Module.loseCarafe_kept (m : Module) (lport vc no : Nat) :
    (Module.loseCarafe m lport vc no).kept = m.kept := by
  unfold Module.loseCarafe
  repeat' (first
    | (simp [apply_ite Module.kept]; done) | split | simp | rw [Module.each_kept] | rw [Module.foldl_kept] | rw [Module.foldlPair_kept] | intro _
    | (rename_i hq; replace hq := congrArg (fun p => (Prod.fst p).kept) hq; simp at hq; simp [apply_ite Module.kept, hq]; done)
    | dsimp only)

@[simp] theorem Module.loseHeld_kept (m : Module) (lport : Nat) (flow : Flow) (no : Nat) :
    (Module.loseHeld m lport flow no).kept = m.kept := by
  unfold Module.loseHeld
  repeat' (first
    | (simp [apply_ite Module.kept]; done) | split | simp | rw [Module.each_kept] | rw [Module.foldl_kept] | rw [Module.foldlPair_kept] | intro _
    | (rename_i hq; replace hq := congrArg (fun p => (Prod.fst p).kept) hq; simp at hq; simp [apply_ite Module.kept, hq]; done)
    | dsimp only)

@[simp] theorem Module.loseRetained_kept (m : Module) (slot k no : Nat) :
    (Module.loseRetained m slot k no).kept = m.kept := by
  unfold Module.loseRetained
  repeat' (first
    | (simp [apply_ite Module.kept]; done) | split | simp | rw [Module.each_kept] | rw [Module.foldl_kept] | rw [Module.foldlPair_kept] | intro _
    | (rename_i hq; replace hq := congrArg (fun p => (Prod.fst p).kept) hq; simp at hq; simp [apply_ite Module.kept, hq]; done)
    | dsimp only)

@[simp] theorem Module.loseUnit_kept (m : Module) (s u copy : Nat) :
    (Module.loseUnit m s u copy).kept = m.kept := by
  unfold Module.loseUnit
  repeat' (first
    | (simp [apply_ite Module.kept]; done) | split | simp | rw [Module.each_kept] | rw [Module.foldl_kept] | rw [Module.foldlPair_kept] | intro _
    | (rename_i hq; replace hq := congrArg (fun p => (Prod.fst p).kept) hq; simp at hq; simp [apply_ite Module.kept, hq]; done)
    | dsimp only)

@[simp] theorem Module.loseWhat_kept (m : Module) (c : HbmChunk) :
    (Module.loseWhat m c).kept = m.kept := by
  unfold Module.loseWhat
  repeat' (first
    | (simp [apply_ite Module.kept]; done) | split | simp | rw [Module.each_kept] | rw [Module.foldl_kept] | rw [Module.foldlPair_kept] | intro _
    | (rename_i hq; replace hq := congrArg (fun p => (Prod.fst p).kept) hq; simp at hq; simp [apply_ite Module.kept, hq]; done)
    | dsimp only)

@[simp] theorem Module.loseChunk_kept (m : Module) (no : Nat) :
    (Module.loseChunk m no).kept = m.kept := by
  unfold Module.loseChunk
  repeat' (first
    | (simp [apply_ite Module.kept]; done) | split | simp | rw [Module.each_kept] | rw [Module.foldl_kept] | rw [Module.foldlPair_kept] | intro _
    | (rename_i hq; replace hq := congrArg (fun p => (Prod.fst p).kept) hq; simp at hq; simp [apply_ite Module.kept, hq]; done)
    | dsimp only)

@[simp] theorem Module.moveChunk_kept (m : Module) (no : Nat) :
    (Module.moveChunk m no).kept = m.kept := by
  unfold Module.moveChunk
  repeat' (first
    | (simp [apply_ite Module.kept]; done) | split | simp | rw [Module.each_kept] | rw [Module.foldl_kept] | rw [Module.foldlPair_kept] | intro _
    | (rename_i hq; replace hq := congrArg (fun p => (Prod.fst p).kept) hq; simp at hq; simp [apply_ite Module.kept, hq]; done)
    | dsimp only)

@[simp] theorem Module.hasCopied_kept (m : Module) (copied : Copied) (no : Nat) :
    (m.hasCopied copied no).1.kept = m.kept := by
  unfold Module.hasCopied
  split <;> simp

@[simp] theorem Module.clearOctet_kept (m : Module) (s j : Nat) (copied : Copied) :
    (Module.clearOctet m s j copied).kept = m.kept := by
  unfold Module.clearOctet
  apply Module.each_kept
  intro m c
  split
  · simp
  · split
    all_goals
      rename_i hq
      replace hq := congrArg (fun p => (Prod.fst p).kept) hq
      simp at hq
      simp [hq]

@[simp] theorem Module.failChannel_kept (m : Module) (k ch : Nat) (hard rehearsal : Bool) (copied : Copied) :
    (Module.failChannel m k ch hard rehearsal copied).kept = m.kept := by
  unfold Module.failChannel
  repeat' (first
    | (simp [apply_ite Module.kept]; done) | split | simp | rw [Module.each_kept] | rw [Module.foldl_kept] | rw [Module.foldlPair_kept] | intro _
    | (rename_i hq; replace hq := congrArg (fun p => (Prod.fst p).kept) hq; simp at hq; simp [apply_ite Module.kept, hq]; done)
    | dsimp only)

@[simp] theorem Module.chanFail_kept (m : Module) (k ch : Nat) (hard : Bool) (copied : List Nat) :
    (Module.chanFail m k ch hard copied).kept = m.kept := by
  unfold Module.chanFail
  repeat' (first
    | (simp [apply_ite Module.kept]; done) | split | simp | rw [Module.each_kept] | rw [Module.foldl_kept] | rw [Module.foldlPair_kept] | intro _
    | (rename_i hq; replace hq := congrArg (fun p => (Prod.fst p).kept) hq; simp at hq; simp [apply_ite Module.kept, hq]; done)
    | dsimp only)

@[simp] theorem Module.evacuated_kept (m : Module) (s j : Nat) (unread : List Nat) :
    (Module.evacuated m s j unread).kept = m.kept := by
  unfold Module.evacuated
  repeat' (first
    | (simp [apply_ite Module.kept]; done) | split | simp | rw [Module.each_kept] | rw [Module.foldl_kept] | rw [Module.foldlPair_kept] | intro _
    | (rename_i hq; replace hq := congrArg (fun p => (Prod.fst p).kept) hq; simp at hq; simp [apply_ite Module.kept, hq]; done)
    | dsimp only)

@[simp] theorem Module.chanMapped_kept (m : Module) (k ch : Nat) (unread : List Nat) :
    (Module.chanMapped m k ch unread).kept = m.kept := by
  unfold Module.chanMapped
  repeat' (first
    | (simp [apply_ite Module.kept]; done) | split | simp | rw [Module.each_kept] | rw [Module.foldl_kept] | rw [Module.foldlPair_kept] | intro _
    | (rename_i hq; replace hq := congrArg (fun p => (Prod.fst p).kept) hq; simp at hq; simp [apply_ite Module.kept, hq]; done)
    | dsimp only)

@[simp] theorem Module.hbmUe_kept (m : Module) (k ch chunk : Nat) :
    (Module.hbmUe m k ch chunk).kept = m.kept := by
  unfold Module.hbmUe
  repeat' (first
    | (simp [apply_ite Module.kept]; done) | split | simp | rw [Module.each_kept] | rw [Module.foldl_kept] | rw [Module.foldlPair_kept] | intro _
    | (rename_i hq; replace hq := congrArg (fun p => (Prod.fst p).kept) hq; simp at hq; simp [apply_ite Module.kept, hq]; done)
    | dsimp only)

@[simp] theorem Module.hbmScrub_kept (m : Module) (k ch : Nat) (found : Secded) (chunk : Nat) (last : Bool) :
    (Module.hbmScrub m k ch found chunk last).kept = m.kept := by
  unfold Module.hbmScrub
  repeat' (first
    | (simp [apply_ite Module.kept]; done) | split | simp | rw [Module.each_kept] | rw [Module.foldl_kept] | rw [Module.foldlPair_kept] | intro _
    | (rename_i hq; replace hq := congrArg (fun p => (Prod.fst p).kept) hq; simp at hq; simp [apply_ite Module.kept, hq]; done)
    | dsimp only)

@[simp] theorem Module.scrubLate_kept (m : Module) (k : Nat) :
    (Module.scrubLate m k).kept = m.kept := by
  simp [Module.scrubLate, apply_ite Module.kept]

@[simp] theorem Module.readBackBad_kept (m : Module) (lport vc burst : Nat) :
    (Module.readBackBad m lport vc burst).kept = m.kept := by
  unfold Module.readBackBad
  repeat' (first
    | (simp [apply_ite Module.kept]; done) | split | simp | rw [Module.each_kept] | rw [Module.foldl_kept] | rw [Module.foldlPair_kept] | intro _
    | (rename_i hq; replace hq := congrArg (fun p => (Prod.fst p).kept) hq; simp at hq; simp [apply_ite Module.kept, hq]; done)
    | dsimp only)

@[simp] theorem Module.stepAdmit_kept (m : Module) (k temp : Nat) :
    (Module.stepAdmit m k temp).kept = m.kept := by
  unfold Module.stepAdmit
  repeat' (first
    | (simp [apply_ite Module.kept]; done) | split | simp | rw [Module.each_kept] | rw [Module.foldl_kept] | rw [Module.foldlPair_kept] | intro _
    | (rename_i hq; replace hq := congrArg (fun p => (Prod.fst p).kept) hq; simp at hq; simp [apply_ite Module.kept, hq]; done)
    | dsimp only)

@[simp] theorem Module.heed_kept (m : Module) (k : Nat) :
    (Module.heed m k).kept = m.kept := by
  unfold Module.heed
  repeat' (first
    | (simp [apply_ite Module.kept]; done) | split | simp | rw [Module.each_kept] | rw [Module.foldl_kept] | rw [Module.foldlPair_kept] | intro _
    | (rename_i hq; replace hq := congrArg (fun p => (Prod.fst p).kept) hq; simp at hq; simp [apply_ite Module.kept, hq]; done)
    | dsimp only)

@[simp] theorem Module.hbmTemp_kept (m : Module) (k temp : Nat) :
    (Module.hbmTemp m k temp).kept = m.kept := by
  unfold Module.hbmTemp
  repeat' (first
    | (simp [apply_ite Module.kept]; done) | split | simp | rw [Module.each_kept] | rw [Module.foldl_kept] | rw [Module.foldlPair_kept] | intro _
    | (rename_i hq; replace hq := congrArg (fun p => (Prod.fst p).kept) hq; simp at hq; simp [apply_ite Module.kept, hq]; done)
    | dsimp only)

@[simp] theorem Module.hbmSilent_kept (m : Module) (k : Nat) :
    (Module.hbmSilent m k).kept = m.kept := by
  simp [Module.hbmSilent, apply_ite Module.kept]

@[simp] theorem Module.hbmHot_kept (m : Module) (k : Nat) :
    (Module.hbmHot m k).kept = m.kept := by
  simp [Module.hbmHot, apply_ite Module.kept]

@[simp] theorem Module.abandonEvacuation_kept (m : Module) (k : Nat) :
    (Module.abandonEvacuation m k).kept = m.kept := by
  unfold Module.abandonEvacuation
  repeat' (first
    | (simp [apply_ite Module.kept]; done) | split | simp | rw [Module.each_kept] | rw [Module.foldl_kept] | rw [Module.foldlPair_kept] | intro _
    | (rename_i hq; replace hq := congrArg (fun p => (Prod.fst p).kept) hq; simp at hq; simp [apply_ite Module.kept, hq]; done)
    | dsimp only)

@[simp] theorem Module.trainStack_kept (m : Module) (k : Nat) (failed : List Nat) :
    (Module.trainStack m k failed).kept = m.kept := by
  unfold Module.trainStack
  repeat' (first
    | (simp [apply_ite Module.kept]; done) | split | simp | rw [Module.each_kept] | rw [Module.foldl_kept] | rw [Module.foldlPair_kept] | intro _
    | (rename_i hq; replace hq := congrArg (fun p => (Prod.fst p).kept) hq; simp at hq; simp [apply_ite Module.kept, hq]; done)
    | dsimp only)

@[simp] theorem Module.setInc_kept (m : Module) (v : Nat) :
    (Module.setInc m v).kept = m.kept := by
  rfl

@[simp] theorem Module.endSlew_kept (m : Module) :
    (Module.endSlew m).kept = m.kept := by
  simp [Module.endSlew, apply_ite Module.kept]

@[simp] theorem Module.passTime_kept (m : Module) (n : Nat) :
    (Module.passTime m n).kept = m.kept := by
  simp [Module.passTime, apply_ite Module.kept]

@[simp] theorem Module.passSlots_kept (m : Module) (lport units : Nat) :
    (Module.passSlots m lport units).kept = m.kept := by
  unfold Module.passSlots
  repeat' (first
    | (simp [apply_ite Module.kept]; done) | split | simp | rw [Module.each_kept] | rw [Module.foldl_kept] | rw [Module.foldlPair_kept] | intro _
    | (rename_i hq; replace hq := congrArg (fun p => (Prod.fst p).kept) hq; simp at hq; simp [apply_ite Module.kept, hq]; done)
    | dsimp only)

@[simp] theorem Module.passWarm_kept (m : Module) :
    (Module.passWarm m).kept = m.kept := by
  unfold Module.passWarm
  repeat' (first
    | (simp [apply_ite Module.kept]; done) | split | simp | rw [Module.each_kept] | rw [Module.foldl_kept] | rw [Module.foldlPair_kept] | intro _
    | (rename_i hq; replace hq := congrArg (fun p => (Prod.fst p).kept) hq; simp at hq; simp [apply_ite Module.kept, hq]; done)
    | dsimp only)

@[simp] theorem Module.pass_kept (m : Module) (n : Nat) :
    (Module.pass m n).kept = m.kept := by
  unfold Module.pass
  repeat' (first
    | (simp [apply_ite Module.kept]; done) | split | simp | rw [Module.each_kept] | rw [Module.foldl_kept] | rw [Module.foldlPair_kept] | intro _
    | (rename_i hq; replace hq := congrArg (fun p => (Prod.fst p).kept) hq; simp at hq; simp [apply_ite Module.kept, hq]; done)
    | dsimp only)

@[simp] theorem Module.setTime_kept (m : Module) (v : BitVec 64) :
    (Module.setTime m v).kept = m.kept := by
  simp [Module.setTime, apply_ite Module.kept]

@[simp] theorem Module.adjTime_kept (m : Module) (v : BitVec 64) :
    (Module.adjTime m v).kept = m.kept := by
  simp [Module.adjTime, apply_ite Module.kept]

@[simp] theorem Module.finishSlew_kept (m : Module) :
    (Module.finishSlew m).kept = m.kept := by
  simp [Module.finishSlew, apply_ite Module.kept]

@[simp] theorem Module.pulseEdge_kept (m : Module) (syncIn : Bool) :
    (Module.pulseEdge m syncIn).kept = m.kept := by
  simp [Module.pulseEdge, apply_ite Module.kept]

@[simp] theorem Module.pulseMissing_kept (m : Module) :
    (Module.pulseMissing m).kept = m.kept := by
  unfold Module.pulseMissing
  repeat' (first
    | (simp [apply_ite Module.kept]; done) | split | simp | rw [Module.each_kept] | rw [Module.foldl_kept] | rw [Module.foldlPair_kept] | intro _
    | (rename_i hq; replace hq := congrArg (fun p => (Prod.fst p).kept) hq; simp at hq; simp [apply_ite Module.kept, hq]; done)
    | dsimp only)

@[simp] theorem Module.risePps_kept (m : Module) :
    (Module.risePps m).kept = m.kept := by
  unfold Module.risePps
  repeat' (first
    | (simp [apply_ite Module.kept]; done) | split | simp | rw [Module.each_kept] | rw [Module.foldl_kept] | rw [Module.foldlPair_kept] | intro _
    | (rename_i hq; replace hq := congrArg (fun p => (Prod.fst p).kept) hq; simp at hq; simp [apply_ite Module.kept, hq]; done)
    | dsimp only)

@[simp] theorem Module.fallPps_kept (m : Module) :
    (Module.fallPps m).kept = m.kept := by
  unfold Module.fallPps
  repeat' (first
    | (simp [apply_ite Module.kept]; done) | split | simp | rw [Module.each_kept] | rw [Module.foldl_kept] | rw [Module.foldlPair_kept] | intro _
    | (rename_i hq; replace hq := congrArg (fun p => (Prod.fst p).kept) hq; simp at hq; simp [apply_ite Module.kept, hq]; done)
    | dsimp only)

@[simp] theorem Module.gatePps_kept (m : Module) :
    (Module.gatePps m).kept = m.kept := by
  unfold Module.gatePps
  repeat' (first
    | (simp [apply_ite Module.kept]; done) | split | simp | rw [Module.each_kept] | rw [Module.foldl_kept] | rw [Module.foldlPair_kept] | intro _
    | (rename_i hq; replace hq := congrArg (fun p => (Prod.fst p).kept) hq; simp at hq; simp [apply_ite Module.kept, hq]; done)
    | dsimp only)

@[simp] theorem Module.sendSync_kept (m : Module) (lport : Nat) (dst : Loc) (reply : Bool) (tag : BitVec 16) (body : List Byte) :
    (Module.sendSync m lport dst reply tag body).kept = m.kept := by
  unfold Module.sendSync; simp

@[simp] theorem Module.syncCmd_kept (m : Module) (data : Nat) :
    (Module.syncCmd m data).kept = m.kept := by
  simp [Module.syncCmd, apply_ite Module.kept]

@[simp] theorem Module.syncReq_kept (m : Module) (lport : Nat) (tag : BitVec 16) :
    (Module.syncReq m lport tag).kept = m.kept := by
  simp [Module.syncReq, apply_ite Module.kept]

@[simp] theorem Module.setStamp_kept (m : Module) (n : Nat) (t : BitVec 64) :
    (Module.setStamp m n t).kept = m.kept := by
  rfl

@[simp] theorem Module.syncResp_kept (m : Module) (lport : Nat) (tag : BitVec 16) (peerSet : Bool) (t2 t3 : BitVec 64) :
    (Module.syncResp m lport tag peerSet t2 t3).kept = m.kept := by
  unfold Module.syncResp
  repeat' (first
    | (simp [apply_ite Module.kept]; done) | split | simp | rw [Module.each_kept] | rw [Module.foldl_kept] | rw [Module.foldlPair_kept] | intro _
    | (rename_i hq; replace hq := congrArg (fun p => (Prod.fst p).kept) hq; simp at hq; simp [apply_ite Module.kept, hq]; done)
    | dsimp only)

@[simp] theorem Module.syncTimeoutTim_kept (m : Module) :
    (Module.syncTimeoutTim m).kept = m.kept := by
  unfold Module.syncTimeoutTim; split <;> simp

@[simp] theorem Module.dirty_kept (m : Module) :
    (Module.dirty m).kept = m.kept := by
  rfl

@[simp] theorem Module.writeRoute_kept (m : Module) (k : FwdTable) (i : Nat) (v : BitVec 64) :
    (Module.writeRoute m k i v).kept = m.kept := by
  simp [Module.writeRoute, apply_ite Module.kept]

@[simp] theorem Module.writeGroup_kept (m : Module) (member : Bool) (i : Nat) (v : BitVec 256) :
    (Module.writeGroup m member i v).kept = m.kept := by
  simp [Module.writeGroup, apply_ite Module.kept]

@[simp] theorem Module.switchTables_kept (m : Module) :
    (Module.switchTables m).kept = m.kept := by
  unfold Module.switchTables
  repeat' (first
    | (simp [apply_ite Module.kept]; done) | split | simp | rw [Module.each_kept] | rw [Module.foldl_kept] | rw [Module.foldlPair_kept] | intro _
    | (rename_i hq; replace hq := congrArg (fun p => (Prod.fst p).kept) hq; simp at hq; simp [apply_ite Module.kept, hq]; done)
    | dsimp only)

@[simp] theorem Module.switchNow_kept (m : Module) :
    (Module.switchNow m).kept = m.kept := by
  unfold Module.switchNow
  repeat' (first
    | (simp [apply_ite Module.kept]; done) | split | simp | rw [Module.each_kept] | rw [Module.foldl_kept] | rw [Module.foldlPair_kept] | intro _
    | (rename_i hq; replace hq := congrArg (fun p => (Prod.fst p).kept) hq; simp at hq; simp [apply_ite Module.kept, hq]; done)
    | dsimp only)

@[simp] theorem Module.askSwitch_kept (m : Module) :
    (Module.askSwitch m).kept = m.kept := by
  unfold Module.askSwitch
  repeat' (first
    | (simp [apply_ite Module.kept]; done) | split | simp | rw [Module.each_kept] | rw [Module.foldl_kept] | rw [Module.foldlPair_kept] | intro _
    | (rename_i hq; replace hq := congrArg (fun p => (Prod.fst p).kept) hq; simp at hq; simp [apply_ite Module.kept, hq]; done)
    | dsimp only)

@[simp] theorem Module.tableDone_kept (m : Module) (src : Loc) (reqId : BitVec 16) :
    (Module.tableDone m src reqId).kept = m.kept := by
  unfold Module.tableDone
  repeat' (first
    | (simp [apply_ite Module.kept]; done) | split | simp | rw [Module.each_kept] | rw [Module.foldl_kept] | rw [Module.foldlPair_kept] | intro _
    | (rename_i hq; replace hq := congrArg (fun p => (Prod.fst p).kept) hq; simp at hq; simp [apply_ite Module.kept, hq]; done)
    | dsimp only)

@[simp] theorem Module.applyWaiting_kept (m : Module) (l : List HeldTable) :
    (m.applyWaiting l).kept = m.kept := by
  induction l generalizing m with
  | nil => rfl
  | cons x rest ih => cases x <;> simp [Module.applyWaiting, ih]

@[simp] theorem Module.copyDone_kept (m : Module) :
    (Module.copyDone m).kept = m.kept := by
  unfold Module.copyDone
  repeat' (first
    | (simp [apply_ite Module.kept]; done) | split | simp | rw [Module.each_kept] | rw [Module.foldl_kept] | rw [Module.foldlPair_kept] | intro _
    | (rename_i hq; replace hq := congrArg (fun p => (Prod.fst p).kept) hq; simp at hq; simp [apply_ite Module.kept, hq]; done)
    | dsimp only)

@[simp] theorem Module.fwdGo_kept (m : Module) (req : Requester) (s op : Nat) (k : FwdTable) (i : Nat) :
    (Module.fwdGo m req s op k i).kept = m.kept := by
  unfold Module.fwdGo
  repeat' (first
    | (simp [apply_ite Module.kept]; done) | split | simp | rw [Module.each_kept] | rw [Module.foldl_kept] | rw [Module.foldlPair_kept] | intro _
    | (rename_i hq; replace hq := congrArg (fun p => (Prod.fst p).kept) hq; simp at hq; simp [apply_ite Module.kept, hq]; done)
    | dsimp only)

@[simp] theorem Module.fwdDone_kept (m : Module) (s : Nat) :
    (Module.fwdDone m s).kept = m.kept := by
  unfold Module.fwdDone; dsimp only; repeat' split
  all_goals simp

@[simp] theorem Module.grpGo_kept (m : Module) (s op : Nat) (member : Bool) (i : Nat) :
    (Module.grpGo m s op member i).kept = m.kept := by
  unfold Module.grpGo
  repeat' (first
    | (simp [apply_ite Module.kept]; done) | split | simp | rw [Module.each_kept] | rw [Module.foldl_kept] | rw [Module.foldlPair_kept] | intro _
    | (rename_i hq; replace hq := congrArg (fun p => (Prod.fst p).kept) hq; simp at hq; simp [apply_ite Module.kept, hq]; done)
    | dsimp only)

@[simp] theorem Module.grpDone_kept (m : Module) (s : Nat) :
    (Module.grpDone m s).kept = m.kept := by
  unfold Module.grpDone
  repeat' (first
    | (simp [apply_ite Module.kept]; done) | split | simp | rw [Module.each_kept] | rw [Module.foldl_kept] | rw [Module.foldlPair_kept] | intro _
    | (rename_i hq; replace hq := congrArg (fun p => (Prod.fst p).kept) hq; simp at hq; simp [apply_ite Module.kept, hq]; done)
    | dsimp only)

@[simp] theorem Module.raiseSched_kept (m : Module) (e : Ev) :
    (Module.raiseSched m e).kept = m.kept := by
  unfold Module.raiseSched; rw [Module.each_kept]; intro _ _; simp

@[simp] theorem Module.setLock_kept (m : Module) (st : Nat) :
    (Module.setLock m st).kept = m.kept := by
  unfold Module.setLock; simp

@[simp] theorem Module.aligned_kept (m : Module) :
    (Module.aligned m).kept = m.kept := by
  simp [Module.aligned, apply_ite Module.kept]

@[simp] theorem Module.loseLock_kept (m : Module) :
    (Module.loseLock m).kept = m.kept := by
  simp [Module.loseLock, apply_ite Module.kept]

@[simp] theorem Module.startAlignment_kept (m : Module) :
    (Module.startAlignment m).kept = m.kept := by
  simp [Module.startAlignment, apply_ite Module.kept]

@[simp] theorem Module.syncInPulse_kept (m : Module) (samples : Nat) :
    (Module.syncInPulse m samples).kept = m.kept := by
  unfold Module.syncInPulse
  repeat' (first
    | (simp [apply_ite Module.kept]; done) | split | simp | rw [Module.each_kept] | rw [Module.foldl_kept] | rw [Module.foldlPair_kept] | intro _
    | (rename_i hq; replace hq := congrArg (fun p => (Prod.fst p).kept) hq; simp at hq; simp [apply_ite Module.kept, hq]; done)
    | dsimp only)

@[simp] theorem Module.syncWaitEnds_kept (m : Module) :
    (Module.syncWaitEnds m).kept = m.kept := by
  simp [Module.syncWaitEnds, apply_ite Module.kept]

@[simp] theorem Module.alignmentEdge_kept (m : Module) :
    (Module.alignmentEdge m).kept = m.kept := by
  unfold Module.alignmentEdge
  repeat' (first
    | (simp [apply_ite Module.kept]; done) | split | simp | rw [Module.each_kept] | rw [Module.foldl_kept] | rw [Module.foldlPair_kept] | intro _
    | (rename_i hq; replace hq := congrArg (fun p => (Prod.fst p).kept) hq; simp at hq; simp [apply_ite Module.kept, hq]; done)
    | dsimp only)

@[simp] theorem Module.alignFails_kept (m : Module) :
    (Module.alignFails m).kept = m.kept := by
  simp [Module.alignFails, apply_ite Module.kept]

@[simp] theorem Module.verifyFail_kept (m : Module) :
    (Module.verifyFail m).kept = m.kept := by
  simp [Module.verifyFail, apply_ite Module.kept]

@[simp] theorem Module.verifyEnd_kept (m : Module) :
    (Module.verifyEnd m).kept = m.kept := by
  simp [Module.verifyEnd, apply_ite Module.kept]

@[simp] theorem Module.periodZero_kept (m : Module) :
    (Module.periodZero m).kept = m.kept := by
  simp [Module.periodZero, apply_ite Module.kept]

@[simp] theorem Module.modPra_kept (m : Module) (a : Nat) (f : PraArray → PraArray) :
    (Module.modPra m a f).kept = m.kept := by
  rfl

@[simp] theorem Module.setChan_kept (m : Module) (a c : Nat) (v : Bool) :
    (Module.setChan m a c v).kept = m.kept := by
  unfold Module.setChan
  repeat' (first
    | (simp [apply_ite Module.kept]; done) | split | simp | rw [Module.each_kept] | rw [Module.foldl_kept] | rw [Module.foldlPair_kept] | intro _
    | (rename_i hq; replace hq := congrArg (fun p => (Prod.fst p).kept) hq; simp at hq; simp [apply_ite Module.kept, hq]; done)
    | dsimp only)

@[simp] theorem Module.regroup_kept (m : Module) (a : Nat) :
    (Module.regroup m a).kept = m.kept := by
  unfold Module.regroup
  repeat' (first
    | (simp [apply_ite Module.kept]; done) | split | simp | rw [Module.each_kept] | rw [Module.foldl_kept] | rw [Module.foldlPair_kept] | intro _
    | (rename_i hq; replace hq := congrArg (fun p => (Prod.fst p).kept) hq; simp at hq; simp [apply_ite Module.kept, hq]; done)
    | dsimp only)

@[simp] theorem Module.loseCarrier_kept (m : Module) (a c : Nat) :
    (Module.loseCarrier m a c).kept = m.kept := by
  unfold Module.loseCarrier
  repeat' (first
    | (simp [apply_ite Module.kept]; done) | split | simp | rw [Module.each_kept] | rw [Module.foldl_kept] | rw [Module.foldlPair_kept] | intro _
    | (rename_i hq; replace hq := congrArg (fun p => (Prod.fst p).kept) hq; simp at hq; simp [apply_ite Module.kept, hq]; done)
    | dsimp only)

@[simp] theorem Module.retireChan_kept (m : Module) (a c : Nat) :
    (Module.retireChan m a c).kept = m.kept := by
  unfold Module.retireChan
  repeat' (first
    | (simp [apply_ite Module.kept]; done) | split | simp | rw [Module.each_kept] | rw [Module.foldl_kept] | rw [Module.foldlPair_kept] | intro _
    | (rename_i hq; replace hq := congrArg (fun p => (Prod.fst p).kept) hq; simp at hq; simp [apply_ite Module.kept, hq]; done)
    | dsimp only)

@[simp] theorem Module.loseChan_kept (m : Module) (a c : Nat) :
    (Module.loseChan m a c).kept = m.kept := by
  unfold Module.loseChan
  repeat' (first
    | (simp [apply_ite Module.kept]; done) | split | simp | rw [Module.each_kept] | rw [Module.foldl_kept] | rw [Module.foldlPair_kept] | intro _
    | (rename_i hq; replace hq := congrArg (fun p => (Prod.fst p).kept) hq; simp at hq; simp [apply_ite Module.kept, hq]; done)
    | dsimp only)

@[simp] theorem Module.addTerm_kept (m : Module) (t : PraTerm) :
    (Module.addTerm m t).kept = m.kept := by
  unfold Module.addTerm; dsimp only; repeat' split
  all_goals simp

@[simp] theorem Module.addExactly_kept (m : Module) (t : PraTerm) :
    (Module.addExactly m t).kept = m.kept := by
  unfold Module.addExactly; dsimp only; repeat' split
  all_goals simp

@[simp] theorem Module.convert_kept (m : Module) (a slot seg fslot elem group chan : Nat) (code : Int) :
    (Module.convert m a slot seg fslot elem group chan code).kept = m.kept := by
  unfold Module.convert
  repeat' (first
    | (simp [apply_ite Module.kept]; done) | split | simp | rw [Module.each_kept] | rw [Module.foldl_kept] | rw [Module.foldlPair_kept] | intro _
    | (rename_i hq; replace hq := congrArg (fun p => (Prod.fst p).kept) hq; simp at hq; simp [apply_ite Module.kept, hq]; done)
    | dsimp only)

@[simp] theorem Module.refPassed_kept (m : Module) (a chan : Nat) :
    (Module.refPassed m a chan).kept = m.kept := by
  unfold Module.refPassed
  repeat' (first
    | (simp [apply_ite Module.kept]; done) | split | simp | rw [Module.each_kept] | rw [Module.foldl_kept] | rw [Module.foldlPair_kept] | intro _
    | (rename_i hq; replace hq := congrArg (fun p => (Prod.fst p).kept) hq; simp at hq; simp [apply_ite Module.kept, hq]; done)
    | dsimp only)

@[simp] theorem Module.blockExactly_kept (m : Module) (a : Nat) (t : PraTerm) :
    (Module.blockExactly m a t).kept = m.kept := by
  unfold Module.blockExactly
  repeat' (first
    | (simp [apply_ite Module.kept]; done) | split | simp | rw [Module.each_kept] | rw [Module.foldl_kept] | rw [Module.foldlPair_kept] | intro _
    | (rename_i hq; replace hq := congrArg (fun p => (Prod.fst p).kept) hq; simp at hq; simp [apply_ite Module.kept, hq]; done)
    | dsimp only)

@[simp] theorem Module.refFailed_kept (m : Module) (a chan : Nat) :
    (Module.refFailed m a chan).kept = m.kept := by
  unfold Module.refFailed
  repeat' (first
    | (simp [apply_ite Module.kept]; done) | split | simp | rw [Module.each_kept] | rw [Module.foldl_kept] | rw [Module.foldlPair_kept] | intro _
    | (rename_i hq; replace hq := congrArg (fun p => (Prod.fst p).kept) hq; simp at hq; simp [apply_ite Module.kept, hq]; done)
    | dsimp only)

@[simp] theorem Module.set64_kept (m : Module) (lo hi : FKey) (v : Nat) :
    (Module.set64 m lo hi v).kept = m.kept := by
  unfold Module.set64
  repeat' (first
    | (simp [apply_ite Module.kept]; done) | split | simp | rw [Module.each_kept] | rw [Module.foldl_kept] | rw [Module.foldlPair_kept] | intro _
    | (rename_i hq; replace hq := congrArg (fun p => (Prod.fst p).kept) hq; simp at hq; simp [apply_ite Module.kept, hq]; done)
    | dsimp only)

@[simp] theorem Module.tripSegs_kept (m : Module) (a : Nat) :
    (Module.tripSegs m a).kept = m.kept := by
  unfold Module.tripSegs
  repeat' (first
    | (simp [apply_ite Module.kept]; done) | split | simp | rw [Module.each_kept] | rw [Module.foldl_kept] | rw [Module.foldlPair_kept] | intro _
    | (rename_i hq; replace hq := congrArg (fun p => (Prod.fst p).kept) hq; simp at hq; simp [apply_ite Module.kept, hq]; done)
    | dsimp only)

@[simp] theorem Module.trip_kept (m : Module) (a : Nat) :
    (Module.trip m a).kept = m.kept := by
  unfold Module.trip; simp

@[simp] theorem Module.shadowStat_kept (m : Module) (a : Nat) (e8 : Int) (bin : Nat) :
    (Module.shadowStat m a e8 bin).kept = m.kept := by
  rfl

@[simp] theorem Module.shadowBlock_kept (m : Module) (a : Nat) :
    (Module.shadowBlock m a).kept = m.kept := by
  unfold Module.shadowBlock
  repeat' (first
    | (simp [apply_ite Module.kept]; done) | split | simp | rw [Module.each_kept] | rw [Module.foldl_kept] | rw [Module.foldlPair_kept] | intro _
    | (rename_i hq; replace hq := congrArg (fun p => (Prod.fst p).kept) hq; simp at hq; simp [apply_ite Module.kept, hq]; done)
    | dsimp only)

@[simp] theorem Module.calibrate_kept (m : Module) (a : Nat) :
    (Module.calibrate m a).kept = m.kept := by
  unfold Module.calibrate
  repeat' (first
    | (simp [apply_ite Module.kept]; done) | split | simp | rw [Module.each_kept] | rw [Module.foldl_kept] | rw [Module.foldlPair_kept] | intro _
    | (rename_i hq; replace hq := congrArg (fun p => (Prod.fst p).kept) hq; simp at hq; simp [apply_ite Module.kept, hq]; done)
    | dsimp only)

@[simp] theorem Module.settlePause_kept (m : Module) (a : Nat) :
    (Module.settlePause m a).kept = m.kept := by
  unfold Module.settlePause
  repeat' (first
    | (simp [apply_ite Module.kept]; done) | split | simp | rw [Module.each_kept] | rw [Module.foldl_kept] | rw [Module.foldlPair_kept] | intro _
    | (rename_i hq; replace hq := congrArg (fun p => (Prod.fst p).kept) hq; simp at hq; simp [apply_ite Module.kept, hq]; done)
    | dsimp only)

@[simp] theorem Module.calibrated_kept (m : Module) (a passed : Nat) :
    (Module.calibrated m a passed).kept = m.kept := by
  unfold Module.calibrated
  repeat' (first
    | (simp [apply_ite Module.kept]; done) | split | simp | rw [Module.each_kept] | rw [Module.foldl_kept] | rw [Module.foldlPair_kept] | intro _
    | (rename_i hq; replace hq := congrArg (fun p => (Prod.fst p).kept) hq; simp at hq; simp [apply_ite Module.kept, hq]; done)
    | dsimp only)

@[simp] theorem Module.pausePra_kept (m : Module) (a why : Nat) :
    (Module.pausePra m a why).kept = m.kept := by
  unfold Module.pausePra
  repeat' (first
    | (simp [apply_ite Module.kept]; done) | split | simp | rw [Module.each_kept] | rw [Module.foldl_kept] | rw [Module.foldlPair_kept] | intro _
    | (rename_i hq; replace hq := congrArg (fun p => (Prod.fst p).kept) hq; simp at hq; simp [apply_ite Module.kept, hq]; done)
    | dsimp only)

@[simp] theorem Module.tryReenable_kept (m : Module) (a : Nat) :
    (Module.tryReenable m a).kept = m.kept := by
  unfold Module.tryReenable
  repeat' (first
    | (simp [apply_ite Module.kept]; done) | split | simp | rw [Module.each_kept] | rw [Module.foldl_kept] | rw [Module.foldlPair_kept] | intro _
    | (rename_i hq; replace hq := congrArg (fun p => (Prod.fst p).kept) hq; simp at hq; simp [apply_ite Module.kept, hq]; done)
    | dsimp only)

@[simp] theorem Module.resumePra_kept (m : Module) (a why : Nat) :
    (Module.resumePra m a why).kept = m.kept := by
  unfold Module.resumePra
  repeat' (first
    | (simp [apply_ite Module.kept]; done) | split | simp | rw [Module.each_kept] | rw [Module.foldl_kept] | rw [Module.foldlPair_kept] | intro _
    | (rename_i hq; replace hq := congrArg (fun p => (Prod.fst p).kept) hq; simp at hq; simp [apply_ite Module.kept, hq]; done)
    | dsimp only)

@[simp] theorem Module.reenablePra_kept (m : Module) (a : Nat) :
    (Module.reenablePra m a).kept = m.kept := by
  simp [Module.reenablePra, apply_ite Module.kept]

@[simp] theorem Module.modRing_kept (m : Module) (e r : Nat) (f : Ring → Ring) :
    (Module.modRing m e r f).kept = m.kept := by
  unfold Module.modRing
  repeat' (first
    | (simp [apply_ite Module.kept]; done) | split | simp | rw [Module.each_kept] | rw [Module.foldl_kept] | rw [Module.foldlPair_kept] | intro _
    | (rename_i hq; replace hq := congrArg (fun p => (Prod.fst p).kept) hq; simp at hq; simp [apply_ite Module.kept, hq]; done)
    | dsimp only)

@[simp] theorem Module.setSlot_kept (m : Module) (s st : Nat) :
    (Module.setSlot m s st).kept = m.kept := by
  unfold Module.setSlot
  repeat' (first
    | (simp [apply_ite Module.kept]; done) | split | simp | rw [Module.each_kept] | rw [Module.foldl_kept] | rw [Module.foldlPair_kept] | intro _
    | (rename_i hq; replace hq := congrArg (fun p => (Prod.fst p).kept) hq; simp at hq; simp [apply_ite Module.kept, hq]; done)
    | dsimp only)

@[simp] theorem Module.modServing_kept (m : Module) (port k w : Nat) (f : Ring → Ring) :
    (Module.modServing m port k w f).kept = m.kept := by
  unfold Module.modServing
  repeat' (first
    | (simp [apply_ite Module.kept]; done) | split | simp | rw [Module.each_kept] | rw [Module.foldl_kept] | rw [Module.foldlPair_kept] | intro _
    | (rename_i hq; replace hq := congrArg (fun p => (Prod.fst p).kept) hq; simp at hq; simp [apply_ite Module.kept, hq]; done)
    | dsimp only)

@[simp] theorem Module.showTx_kept (m : Module) (port : Nat) (tx : BitVec 16) :
    (Module.showTx m port tx).kept = m.kept := by
  unfold Module.showTx
  repeat' (first
    | (simp [apply_ite Module.kept]; done) | split | simp | rw [Module.each_kept] | rw [Module.foldl_kept] | rw [Module.foldlPair_kept] | intro _
    | (rename_i hq; replace hq := congrArg (fun p => (Prod.fst p).kept) hq; simp at hq; simp [apply_ite Module.kept, hq]; done)
    | dsimp only)

@[simp] theorem Module.reducedLaunch_kept (m : Module) (e i : Nat) :
    (Module.reducedLaunch m e i).kept = m.kept := by
  unfold Module.reducedLaunch
  repeat' (first
    | (simp [apply_ite Module.kept]; done) | split | simp | rw [Module.each_kept] | rw [Module.foldl_kept] | rw [Module.foldlPair_kept] | intro _
    | (rename_i hq; replace hq := congrArg (fun p => (Prod.fst p).kept) hq; simp at hq; simp [apply_ite Module.kept, hq]; done)
    | dsimp only)

@[simp] theorem Module.retotal_kept (m : Module) (port : Nat) :
    (Module.retotal m port).kept = m.kept := by
  unfold Module.retotal
  repeat' (first
    | (simp [apply_ite Module.kept]; done) | split | simp | rw [Module.each_kept] | rw [Module.foldl_kept] | rw [Module.foldlPair_kept] | intro _
    | (rename_i hq; replace hq := congrArg (fun p => (Prod.fst p).kept) hq; simp at hq; simp [apply_ite Module.kept, hq]; done)
    | dsimp only)

@[simp] theorem Module.interrupt_kept (m : Module) (s : Nat) :
    (Module.interrupt m s).kept = m.kept := by
  simp [Module.interrupt, apply_ite Module.kept]

@[simp] theorem Module.restore_kept (m : Module) (s : Nat) :
    (Module.restore m s).kept = m.kept := by
  simp [Module.restore, apply_ite Module.kept]

@[simp] theorem Module.detuneServing_kept (m : Module) (port k w : Nat) :
    (Module.detuneServing m port k w).kept = m.kept := by
  unfold Module.detuneServing
  repeat' (first
    | (simp [apply_ite Module.kept]; done) | split | simp | rw [Module.each_kept] | rw [Module.foldl_kept] | rw [Module.foldlPair_kept] | intro _
    | (rename_i hq; replace hq := congrArg (fun p => (Prod.fst p).kept) hq; simp at hq; simp [apply_ite Module.kept, hq]; done)
    | dsimp only)

@[simp] theorem Module.lockServing_kept (m : Module) (port k w : Nat) :
    (Module.lockServing m port k w).kept = m.kept := by
  unfold Module.lockServing
  repeat' (first
    | (simp [apply_ite Module.kept]; done) | split | simp | rw [Module.each_kept] | rw [Module.foldl_kept] | rw [Module.foldlPair_kept] | intro _
    | (rename_i hq; replace hq := congrArg (fun p => (Prod.fst p).kept) hq; simp at hq; simp [apply_ite Module.kept, hq]; done)
    | dsimp only)

@[simp] theorem Module.tuneCircuit_kept (m : Module) (s : Nat) :
    (Module.tuneCircuit m s).kept = m.kept := by
  unfold Module.tuneCircuit
  repeat' (first
    | (simp [apply_ite Module.kept]; done) | split | simp | rw [Module.each_kept] | rw [Module.foldl_kept] | rw [Module.foldlPair_kept] | intro _
    | (rename_i hq; replace hq := congrArg (fun p => (Prod.fst p).kept) hq; simp at hq; simp [apply_ite Module.kept, hq]; done)
    | dsimp only)

@[simp] theorem Module.keepDetuned_kept (m : Module) (s : Nat) :
    (Module.keepDetuned m s).kept = m.kept := by
  unfold Module.keepDetuned
  repeat' (first
    | (simp [apply_ite Module.kept]; done) | split | simp | rw [Module.each_kept] | rw [Module.foldl_kept] | rw [Module.foldlPair_kept] | intro _
    | (rename_i hq; replace hq := congrArg (fun p => (Prod.fst p).kept) hq; simp at hq; simp [apply_ite Module.kept, hq]; done)
    | dsimp only)

@[simp] theorem Module.lockCircuit_kept (m : Module) (s : Nat) :
    (Module.lockCircuit m s).kept = m.kept := by
  unfold Module.lockCircuit
  repeat' (first
    | (simp [apply_ite Module.kept]; done) | split | simp | rw [Module.each_kept] | rw [Module.foldl_kept] | rw [Module.foldlPair_kept] | intro _
    | (rename_i hq; replace hq := congrArg (fun p => (Prod.fst p).kept) hq; simp at hq; simp [apply_ite Module.kept, hq]; done)
    | dsimp only)

@[simp] theorem Module.letGo_kept (m : Module) (port k w : Nat) :
    (Module.letGo m port k w).kept = m.kept := by
  unfold Module.letGo
  repeat' (first
    | (simp [apply_ite Module.kept]; done) | split | simp | rw [Module.each_kept] | rw [Module.foldl_kept] | rw [Module.foldlPair_kept] | intro _
    | (rename_i hq; replace hq := congrArg (fun p => (Prod.fst p).kept) hq; simp at hq; simp [apply_ite Module.kept, hq]; done)
    | dsimp only)

@[simp] theorem Module.detuneCircuit_kept (m : Module) (s : Nat) :
    (Module.detuneCircuit m s).kept = m.kept := by
  unfold Module.detuneCircuit
  repeat' (first
    | (simp [apply_ite Module.kept]; done) | split | simp | rw [Module.each_kept] | rw [Module.foldl_kept] | rw [Module.foldlPair_kept] | intro _
    | (rename_i hq; replace hq := congrArg (fun p => (Prod.fst p).kept) hq; simp at hq; simp [apply_ite Module.kept, hq]; done)
    | dsimp only)

@[simp] theorem Module.restCombiner_kept (m : Module) (e w : Nat) :
    (Module.restCombiner m e w).kept = m.kept := by
  unfold Module.restCombiner
  repeat' (first
    | (simp [apply_ite Module.kept]; done) | split | simp | rw [Module.each_kept] | rw [Module.foldl_kept] | rw [Module.foldlPair_kept] | intro _
    | (rename_i hq; replace hq := congrArg (fun p => (Prod.fst p).kept) hq; simp at hq; simp [apply_ite Module.kept, hq]; done)
    | dsimp only)

@[simp] theorem Module.lockCombiner_kept (m : Module) (e w : Nat) :
    (Module.lockCombiner m e w).kept = m.kept := by
  unfold Module.lockCombiner
  repeat' (first
    | (simp [apply_ite Module.kept]; done) | split | simp | rw [Module.each_kept] | rw [Module.foldl_kept] | rw [Module.foldlPair_kept] | intro _
    | (rename_i hq; replace hq := congrArg (fun p => (Prod.fst p).kept) hq; simp at hq; simp [apply_ite Module.kept, hq]; done)
    | dsimp only)

@[simp] theorem Module.ringOut_kept (m : Module) (e r : Nat) :
    (Module.ringOut m e r).kept = m.kept := by
  unfold Module.ringOut
  repeat' (first
    | (simp [apply_ite Module.kept]; done) | split | simp | rw [Module.each_kept] | rw [Module.foldl_kept] | rw [Module.foldlPair_kept] | intro _
    | (rename_i hq; replace hq := congrArg (fun p => (Prod.fst p).kept) hq; simp at hq; simp [apply_ite Module.kept, hq]; done)
    | dsimp only)

@[simp] theorem Module.supplyBack_kept (m : Module) (e : Nat) :
    (Module.supplyBack m e).kept = m.kept := by
  unfold Module.supplyBack
  repeat' (first
    | (simp [apply_ite Module.kept]; done) | split | simp | rw [Module.each_kept] | rw [Module.foldl_kept] | rw [Module.foldlPair_kept] | intro _
    | (rename_i hq; replace hq := congrArg (fun p => (Prod.fst p).kept) hq; simp at hq; simp [apply_ite Module.kept, hq]; done)
    | dsimp only)

@[simp] theorem Module.ringBack_kept (m : Module) (e r : Nat) :
    (Module.ringBack m e r).kept = m.kept := by
  unfold Module.ringBack
  repeat' (first
    | (simp [apply_ite Module.kept]; done) | split | simp | rw [Module.each_kept] | rw [Module.foldl_kept] | rw [Module.foldlPair_kept] | intro _
    | (rename_i hq; replace hq := congrArg (fun p => (Prod.fst p).kept) hq; simp at hq; simp [apply_ite Module.kept, hq]; done)
    | dsimp only)

@[simp] theorem Module.mislockRing_kept (m : Module) (e r : Nat) :
    (Module.mislockRing m e r).kept = m.kept := by
  unfold Module.mislockRing
  repeat' (first
    | (simp [apply_ite Module.kept]; done) | split | simp | rw [Module.each_kept] | rw [Module.foldl_kept] | rw [Module.foldlPair_kept] | intro _
    | (rename_i hq; replace hq := congrArg (fun p => (Prod.fst p).kept) hq; simp at hq; simp [apply_ite Module.kept, hq]; done)
    | dsimp only)

@[simp] theorem Module.acquire_kept (m : Module) (e r relocks : Nat) :
    (Module.acquire m e r relocks).kept = m.kept := by
  unfold Module.acquire
  repeat' (first
    | (simp [apply_ite Module.kept]; done) | split | simp | rw [Module.each_kept] | rw [Module.foldl_kept] | rw [Module.foldlPair_kept] | intro _
    | (rename_i hq; replace hq := congrArg (fun p => (Prod.fst p).kept) hq; simp at hq; simp [apply_ite Module.kept, hq]; done)
    | dsimp only)

@[simp] theorem Module.relockRing_kept (m : Module) (e r : Nat) :
    (Module.relockRing m e r).kept = m.kept := by
  unfold Module.relockRing
  repeat' (first
    | (simp [apply_ite Module.kept]; done) | split | simp | rw [Module.each_kept] | rw [Module.foldl_kept] | rw [Module.foldlPair_kept] | intro _
    | (rename_i hq; replace hq := congrArg (fun p => (Prod.fst p).kept) hq; simp at hq; simp [apply_ite Module.kept, hq]; done)
    | dsimp only)

@[simp] theorem Module.losePortLambda_kept (m : Module) (e r w : Nat) :
    (Module.losePortLambda m e r w).kept = m.kept := by
  unfold Module.losePortLambda
  repeat' (first
    | (simp [apply_ite Module.kept]; done) | split | simp | rw [Module.each_kept] | rw [Module.foldl_kept] | rw [Module.foldlPair_kept] | intro _
    | (rename_i hq; replace hq := congrArg (fun p => (Prod.fst p).kept) hq; simp at hq; simp [apply_ite Module.kept, hq]; done)
    | dsimp only)

@[simp] theorem Module.removeLambda_kept (m : Module) (e w : Nat) :
    (Module.removeLambda m e w).kept = m.kept := by
  unfold Module.removeLambda
  repeat' (first
    | (simp [apply_ite Module.kept]; done) | split | simp | rw [Module.each_kept] | rw [Module.foldl_kept] | rw [Module.foldlPair_kept] | intro _
    | (rename_i hq; replace hq := congrArg (fun p => (Prod.fst p).kept) hq; simp at hq; simp [apply_ite Module.kept, hq]; done)
    | dsimp only)

@[simp] theorem Module.loseFeed_kept (m : Module) (e r : Nat) :
    (Module.loseFeed m e r).kept = m.kept := by
  unfold Module.loseFeed
  repeat' (first
    | (simp [apply_ite Module.kept]; done) | split | simp | rw [Module.each_kept] | rw [Module.foldl_kept] | rw [Module.foldlPair_kept] | intro _
    | (rename_i hq; replace hq := congrArg (fun p => (Prod.fst p).kept) hq; simp at hq; simp [apply_ite Module.kept, hq]; done)
    | dsimp only)

@[simp] theorem Module.spareRing_kept (m : Module) (e r : Nat) :
    (Module.spareRing m e r).kept = m.kept := by
  unfold Module.spareRing
  repeat' (first
    | (simp [apply_ite Module.kept]; done) | split | simp | rw [Module.each_kept] | rw [Module.foldl_kept] | rw [Module.foldlPair_kept] | intro _
    | (rename_i hq; replace hq := congrArg (fun p => (Prod.fst p).kept) hq; simp at hq; simp [apply_ite Module.kept, hq]; done)
    | dsimp only)

@[simp] theorem Module.spareLocks_kept (m : Module) (e r : Nat) :
    (Module.spareLocks m e r).kept = m.kept := by
  unfold Module.spareLocks
  repeat' (first
    | (simp [apply_ite Module.kept]; done) | split | simp | rw [Module.each_kept] | rw [Module.foldl_kept] | rw [Module.foldlPair_kept] | intro _
    | (rename_i hq; replace hq := congrArg (fun p => (Prod.fst p).kept) hq; simp at hq; simp [apply_ite Module.kept, hq]; done)
    | dsimp only)

@[simp] theorem Module.setRole_kept (m : Module) (e n v : Nat) :
    (Module.setRole m e n v).kept = m.kept := by
  unfold Module.setRole
  repeat' (first
    | (simp [apply_ite Module.kept]; done) | split | simp | rw [Module.each_kept] | rw [Module.foldl_kept] | rw [Module.foldlPair_kept] | intro _
    | (rename_i hq; replace hq := congrArg (fun p => (Prod.fst p).kept) hq; simp at hq; simp [apply_ite Module.kept, hq]; done)
    | dsimp only)

@[simp] theorem Module.putSwap_kept (m : Module) (e : Nat) (w : Option Swap) :
    (Module.putSwap m e w).kept = m.kept := by
  rfl

@[simp] theorem Module.setWaiting_kept (m : Module) (e : Nat) (l : List Nat) :
    (Module.setWaiting m e l).kept = m.kept := by
  rfl

@[simp] theorem Module.withoutSpare_kept (m : Module) (e n : Nat) :
    (Module.withoutSpare m e n).kept = m.kept := by
  unfold Module.withoutSpare
  repeat' (first
    | (simp [apply_ite Module.kept]; done) | split | simp | rw [Module.each_kept] | rw [Module.foldl_kept] | rw [Module.foldlPair_kept] | intro _
    | (rename_i hq; replace hq := congrArg (fun p => (Prod.fst p).kept) hq; simp at hq; simp [apply_ite Module.kept, hq]; done)
    | dsimp only)

@[simp] theorem Module.beginSwap_kept (m : Module) (e n : Nat) (commanded : Bool) :
    (Module.beginSwap m e n commanded).kept = m.kept := by
  unfold Module.beginSwap
  repeat' (first
    | (simp [apply_ite Module.kept]; done) | split | simp | rw [Module.each_kept] | rw [Module.foldl_kept] | rw [Module.foldlPair_kept] | intro _
    | (rename_i hq; replace hq := congrArg (fun p => (Prod.fst p).kept) hq; simp at hq; simp [apply_ite Module.kept, hq]; done)
    | dsimp only)

@[simp] theorem Module.fade_kept (m : Module) (e n : Nat) :
    (Module.fade m e n).kept = m.kept := by
  unfold Module.fade
  repeat' (first
    | (simp [apply_ite Module.kept]; done) | split | simp | rw [Module.each_kept] | rw [Module.foldl_kept] | rw [Module.foldlPair_kept] | intro _
    | (rename_i hq; replace hq := congrArg (fun p => (Prod.fst p).kept) hq; simp at hq; simp [apply_ite Module.kept, hq]; done)
    | dsimp only)

@[simp] theorem Module.nextSwap_kept (m : Module) (e : Nat) :
    (Module.nextSwap m e).kept = m.kept := by
  unfold Module.nextSwap; dsimp only; repeat' split
  all_goals simp

@[simp] theorem Module.laserAverage_kept (m : Module) (e n : Nat) (tap : BitVec 16) (bias : BitVec 12) :
    (Module.laserAverage m e n tap bias).kept = m.kept := by
  unfold Module.laserAverage
  repeat' (first
    | (simp [apply_ite Module.kept]; done) | split | simp | rw [Module.each_kept] | rw [Module.foldl_kept] | rw [Module.foldlPair_kept] | intro _
    | (rename_i hq; replace hq := congrArg (fun p => (Prod.fst p).kept) hq; simp at hq; simp [apply_ite Module.kept, hq]; done)
    | dsimp only)

@[simp] theorem Module.swapTuned_kept (m : Module) (e : Nat) :
    (Module.swapTuned m e).kept = m.kept := by
  unfold Module.swapTuned
  repeat' (first
    | (simp [apply_ite Module.kept]; done) | split | simp | rw [Module.each_kept] | rw [Module.foldl_kept] | rw [Module.foldlPair_kept] | intro _
    | (rename_i hq; replace hq := congrArg (fun p => (Prod.fst p).kept) hq; simp at hq; simp [apply_ite Module.kept, hq]; done)
    | dsimp only)

@[simp] theorem Module.swapLocked_kept (m : Module) (e : Nat) :
    (Module.swapLocked m e).kept = m.kept := by
  unfold Module.swapLocked
  repeat' (first
    | (simp [apply_ite Module.kept]; done) | split | simp | rw [Module.each_kept] | rw [Module.foldl_kept] | rw [Module.foldlPair_kept] | intro _
    | (rename_i hq; replace hq := congrArg (fun p => (Prod.fst p).kept) hq; simp at hq; simp [apply_ite Module.kept, hq]; done)
    | dsimp only)

@[simp] theorem Module.laserDark_kept (m : Module) (e n : Nat) :
    (Module.laserDark m e n).kept = m.kept := by
  unfold Module.laserDark
  repeat' (first
    | (simp [apply_ite Module.kept]; done) | split | simp | rw [Module.each_kept] | rw [Module.foldl_kept] | rw [Module.foldlPair_kept] | intro _
    | (rename_i hq; replace hq := congrArg (fun p => (Prod.fst p).kept) hq; simp at hq; simp [apply_ite Module.kept, hq]; done)
    | dsimp only)

@[simp] theorem Module.spareFailed_kept (m : Module) (e : Nat) (w : Swap) :
    (Module.spareFailed m e w).kept = m.kept := by
  simp [Module.spareFailed, apply_ite Module.kept]

@[simp] theorem Module.tuneTimeout_kept (m : Module) (e : Nat) :
    (Module.tuneTimeout m e).kept = m.kept := by
  unfold Module.tuneTimeout
  repeat' (first
    | (simp [apply_ite Module.kept]; done) | split | simp | rw [Module.each_kept] | rw [Module.foldl_kept] | rw [Module.foldlPair_kept] | intro _
    | (rename_i hq; replace hq := congrArg (fun p => (Prod.fst p).kept) hq; simp at hq; simp [apply_ite Module.kept, hq]; done)
    | dsimp only)

@[simp] theorem Module.lockTimeout_kept (m : Module) (e : Nat) :
    (Module.lockTimeout m e).kept = m.kept := by
  unfold Module.lockTimeout
  repeat' (first
    | (simp [apply_ite Module.kept]; done) | split | simp | rw [Module.each_kept] | rw [Module.foldl_kept] | rw [Module.foldlPair_kept] | intro _
    | (rename_i hq; replace hq := congrArg (fun p => (Prod.fst p).kept) hq; simp at hq; simp [apply_ite Module.kept, hq]; done)
    | dsimp only)

@[simp] theorem Module.combine1_kept (m : Module) (e : Nat) :
    (Module.combine1 m e).kept = m.kept := by
  unfold Module.combine1
  repeat' (first
    | (simp [apply_ite Module.kept]; done) | split | simp | rw [Module.each_kept] | rw [Module.foldl_kept] | rw [Module.foldlPair_kept] | intro _
    | (rename_i hq; replace hq := congrArg (fun p => (Prod.fst p).kept) hq; simp at hq; simp [apply_ite Module.kept, hq]; done)
    | dsimp only)

@[simp] theorem Module.setLambda_kept (m : Module) (e n lambda : Nat) :
    (Module.setLambda m e n lambda).kept = m.kept := by
  unfold Module.setLambda
  repeat' (first
    | (simp [apply_ite Module.kept]; done) | split | simp | rw [Module.each_kept] | rw [Module.foldl_kept] | rw [Module.foldlPair_kept] | intro _
    | (rename_i hq; replace hq := congrArg (fun p => (Prod.fst p).kept) hq; simp at hq; simp [apply_ite Module.kept, hq]; done)
    | dsimp only)

@[simp] theorem Module.takeLambda_kept (m : Module) (e new lambda : Nat) :
    (Module.takeLambda m e new lambda).kept = m.kept := by
  unfold Module.takeLambda
  repeat' (first
    | (simp [apply_ite Module.kept]; done) | split | simp | rw [Module.each_kept] | rw [Module.foldl_kept] | rw [Module.foldlPair_kept] | intro _
    | (rename_i hq; replace hq := congrArg (fun p => (Prod.fst p).kept) hq; simp at hq; simp [apply_ite Module.kept, hq]; done)
    | dsimp only)

@[simp] theorem Module.toReserve_kept (m : Module) (e n lambda : Nat) :
    (Module.toReserve m e n lambda).kept = m.kept := by
  unfold Module.toReserve
  repeat' (first
    | (simp [apply_ite Module.kept]; done) | split | simp | rw [Module.each_kept] | rw [Module.foldl_kept] | rw [Module.foldlPair_kept] | intro _
    | (rename_i hq; replace hq := congrArg (fun p => (Prod.fst p).kept) hq; simp at hq; simp [apply_ite Module.kept, hq]; done)
    | dsimp only)

@[simp] theorem Module.swapEnds_kept (m : Module) (e : Nat) :
    (Module.swapEnds m e).kept = m.kept := by
  unfold Module.swapEnds; dsimp only; repeat' split
  all_goals simp

@[simp] theorem Module.abandonSwap_kept (m : Module) (e : Nat) :
    (Module.abandonSwap m e).kept = m.kept := by
  unfold Module.abandonSwap
  repeat' (first
    | (simp [apply_ite Module.kept]; done) | split | simp | rw [Module.each_kept] | rw [Module.foldl_kept] | rw [Module.foldlPair_kept] | intro _
    | (rename_i hq; replace hq := congrArg (fun p => (Prod.fst p).kept) hq; simp at hq; simp [apply_ite Module.kept, hq]; done)
    | dsimp only)

@[simp] theorem Module.swapCommand_kept (m : Module) (e w : Nat) :
    (Module.swapCommand m e w).kept = m.kept := by
  unfold Module.swapCommand
  repeat' (first
    | (simp [apply_ite Module.kept]; done) | split | simp | rw [Module.each_kept] | rw [Module.foldl_kept] | rw [Module.foldlPair_kept] | intro _
    | (rename_i hq; replace hq := congrArg (fun p => (Prod.fst p).kept) hq; simp at hq; simp [apply_ite Module.kept, hq]; done)
    | dsimp only)

@[simp] theorem Module.capLimit_kept (m : Module) (e i : Nat) :
    (Module.capLimit m e i).kept = m.kept := by
  unfold Module.capLimit
  repeat' (first
    | (simp [apply_ite Module.kept]; done) | split | simp | rw [Module.each_kept] | rw [Module.foldl_kept] | rw [Module.foldlPair_kept] | intro _
    | (rename_i hq; replace hq := congrArg (fun p => (Prod.fst p).kept) hq; simp at hq; simp [apply_ite Module.kept, hq]; done)
    | dsimp only)

@[simp] theorem Module.measure_kept (m : Module) (s : Nat) (power : BitVec 16) (loss : Int) :
    (Module.measure m s power loss).kept = m.kept := by
  unfold Module.measure
  repeat' (first
    | (simp [apply_ite Module.kept]; done) | split | simp | rw [Module.each_kept] | rw [Module.foldl_kept] | rw [Module.foldlPair_kept] | intro _
    | (rename_i hq; replace hq := congrArg (fun p => (Prod.fst p).kept) hq; simp at hq; simp [apply_ite Module.kept, hq]; done)
    | dsimp only)

@[simp] theorem Module.circuitDark_kept (m : Module) (s : Nat) :
    (Module.circuitDark m s).kept = m.kept := by
  unfold Module.circuitDark
  repeat' (first
    | (simp [apply_ite Module.kept]; done) | split | simp | rw [Module.each_kept] | rw [Module.foldl_kept] | rw [Module.foldlPair_kept] | intro _
    | (rename_i hq; replace hq := congrArg (fun p => (Prod.fst p).kept) hq; simp at hq; simp [apply_ite Module.kept, hq]; done)
    | dsimp only)

@[simp] theorem Module.remeasure_kept (m : Module) (s : Nat) :
    (Module.remeasure m s).kept = m.kept := by
  unfold Module.remeasure
  repeat' (first
    | (simp [apply_ite Module.kept]; done) | split | simp | rw [Module.each_kept] | rw [Module.foldl_kept] | rw [Module.foldlPair_kept] | intro _
    | (rename_i hq; replace hq := congrArg (fun p => (Prod.fst p).kept) hq; simp at hq; simp [apply_ite Module.kept, hq]; done)
    | dsimp only)

@[simp] theorem Module.loseOut_kept (m : Module) (s : Nat) :
    (Module.loseOut m s).kept = m.kept := by
  unfold Module.loseOut
  repeat' (first
    | (simp [apply_ite Module.kept]; done) | split | simp | rw [Module.each_kept] | rw [Module.foldl_kept] | rw [Module.foldlPair_kept] | intro _
    | (rename_i hq; replace hq := congrArg (fun p => (Prod.fst p).kept) hq; simp at hq; simp [apply_ite Module.kept, hq]; done)
    | dsimp only)

@[simp] theorem Module.regainOut_kept (m : Module) (s : Nat) :
    (Module.regainOut m s).kept = m.kept := by
  unfold Module.regainOut
  repeat' (first
    | (simp [apply_ite Module.kept]; done) | split | simp | rw [Module.each_kept] | rw [Module.foldl_kept] | rw [Module.foldlPair_kept] | intro _
    | (rename_i hq; replace hq := congrArg (fun p => (Prod.fst p).kept) hq; simp at hq; simp [apply_ite Module.kept, hq]; done)
    | dsimp only)

@[simp] theorem Module.lossOfLight_kept (m : Module) (e i : Nat) (rx : BitVec 16) :
    (Module.lossOfLight m e i rx).kept = m.kept := by
  unfold Module.lossOfLight
  repeat' (first
    | (simp [apply_ite Module.kept]; done) | split | simp | rw [Module.each_kept] | rw [Module.foldl_kept] | rw [Module.foldlPair_kept] | intro _
    | (rename_i hq; replace hq := congrArg (fun p => (Prod.fst p).kept) hq; simp at hq; simp [apply_ite Module.kept, hq]; done)
    | dsimp only)

@[simp] theorem Module.aprExit_kept (m : Module) (e i : Nat) (rx tx : BitVec 16) :
    (Module.aprExit m e i rx tx).kept = m.kept := by
  unfold Module.aprExit
  repeat' (first
    | (simp [apply_ite Module.kept]; done) | split | simp | rw [Module.each_kept] | rw [Module.foldl_kept] | rw [Module.foldlPair_kept] | intro _
    | (rename_i hq; replace hq := congrArg (fun p => (Prod.fst p).kept) hq; simp at hq; simp [apply_ite Module.kept, hq]; done)
    | dsimp only)

@[simp] theorem Module.flyEnds_kept (m : Module) (c : FlyCmd) (status : Nat) (done : Bool) :
    (Module.flyEnds m c status done).kept = m.kept := by
  unfold Module.flyEnds; dsimp only; repeat' split
  all_goals simp

@[simp] theorem Module.flyQueue_kept (m : Module) (c : FlyCmd) :
    (Module.flyQueue m c).kept = m.kept := by
  simp [Module.flyQueue, apply_ite Module.kept]

@[simp] theorem Module.flyCommand_kept (m : Module) (c : FlyCmd) : (m.flyCommand c).kept = m.kept := by
  unfold Module.flyCommand
  split
  · split
    · rfl
    · next h =>
      have := Module.takeReq_kept h
      dsimp only at this ⊢
      repeat' (first | rfl | (simp [this]; done) | split)
  · simp --

@[simp] theorem Module.beginSetUp_kept (m : Module) (c : FlyCmd) :
    (Module.beginSetUp m c).kept = m.kept := by
  unfold Module.beginSetUp; simp

@[simp] theorem Module.flyStart_kept (m : Module) :
    (Module.flyStart m).kept = m.kept := by
  unfold Module.flyStart; dsimp only; repeat' split
  all_goals simp

@[simp] theorem Module.circuitUp_kept (m : Module) (light : Option (BitVec 16 × Fin 401)) :
    (Module.circuitUp m light).kept = m.kept := by
  unfold Module.circuitUp
  repeat' (first
    | (simp [apply_ite Module.kept]; done) | split | simp | rw [Module.each_kept] | rw [Module.foldl_kept] | rw [Module.foldlPair_kept] | intro _
    | (rename_i hq; replace hq := congrArg (fun p => (Prod.fst p).kept) hq; simp at hq; simp [apply_ite Module.kept, hq]; done)
    | dsimp only)

@[simp] theorem Module.freeCircuit_kept (m : Module) (s : Nat) :
    (Module.freeCircuit m s).kept = m.kept := by
  unfold Module.freeCircuit
  repeat' (first
    | (simp [apply_ite Module.kept]; done) | split | simp | rw [Module.each_kept] | rw [Module.foldl_kept] | rw [Module.foldlPair_kept] | intro _
    | (rename_i hq; replace hq := congrArg (fun p => (Prod.fst p).kept) hq; simp at hq; simp [apply_ite Module.kept, hq]; done)
    | dsimp only)

@[simp] theorem Module.dropCircuit_kept (m : Module) (s : Nat) :
    (Module.dropCircuit m s).kept = m.kept := by
  unfold Module.dropCircuit
  repeat' (first
    | (simp [apply_ite Module.kept]; done) | split | simp | rw [Module.each_kept] | rw [Module.foldl_kept] | rw [Module.foldlPair_kept] | intro _
    | (rename_i hq; replace hq := congrArg (fun p => (Prod.fst p).kept) hq; simp at hq; simp [apply_ite Module.kept, hq]; done)
    | dsimp only)

@[simp] theorem Module.circuitDown_kept (m : Module) :
    (Module.circuitDown m).kept = m.kept := by
  unfold Module.circuitDown; dsimp only; repeat' split
  all_goals simp

@[simp] theorem Module.restoreLaser_kept (m : Module) (e w n : Nat) :
    (Module.restoreLaser m e w n).kept = m.kept := by
  unfold Module.restoreLaser
  repeat' (first
    | (simp [apply_ite Module.kept]; done) | split | simp | rw [Module.each_kept] | rw [Module.foldl_kept] | rw [Module.foldlPair_kept] | intro _
    | (rename_i hq; replace hq := congrArg (fun p => (Prod.fst p).kept) hq; simp at hq; simp [apply_ite Module.kept, hq]; done)
    | dsimp only)

@[simp] theorem Module.restoreLoss_kept (m : Module) (e w : Nat) :
    (Module.restoreLoss m e w).kept = m.kept := by
  unfold Module.restoreLoss
  repeat' (first
    | (simp [apply_ite Module.kept]; done) | split | simp | rw [Module.each_kept] | rw [Module.foldl_kept] | rw [Module.foldlPair_kept] | intro _
    | (rename_i hq; replace hq := congrArg (fun p => (Prod.fst p).kept) hq; simp at hq; simp [apply_ite Module.kept, hq]; done)
    | dsimp only)

@[simp] theorem Module.restoreRing_kept (m : Module) (e r : Nat) :
    (Module.restoreRing m e r).kept = m.kept := by
  unfold Module.restoreRing
  repeat' (first
    | (simp [apply_ite Module.kept]; done) | split | simp | rw [Module.each_kept] | rw [Module.foldl_kept] | rw [Module.foldlPair_kept] | intro _
    | (rename_i hq; replace hq := congrArg (fun p => (Prod.fst p).kept) hq; simp at hq; simp [apply_ite Module.kept, hq]; done)
    | dsimp only)

@[simp] theorem Module.restoreELane_kept (m : Module) (pb : Nat) (transmit : Bool) (lane s : Nat) :
    (Module.restoreELane m pb transmit lane s).kept = m.kept := by
  unfold Module.restoreELane
  repeat' (first
    | (simp [apply_ite Module.kept]; done) | split | simp | rw [Module.each_kept] | rw [Module.foldl_kept] | rw [Module.foldlPair_kept] | intro _
    | (rename_i hq; replace hq := congrArg (fun p => (Prod.fst p).kept) hq; simp at hq; simp [apply_ite Module.kept, hq]; done)
    | dsimp only)

@[simp] theorem Module.restorePlane_kept (m : Module) (p spare : Nat) :
    (Module.restorePlane m p spare).kept = m.kept := by
  unfold Module.restorePlane
  repeat' (first
    | (simp [apply_ite Module.kept]; done) | split | simp | rw [Module.each_kept] | rw [Module.foldl_kept] | rw [Module.foldlPair_kept] | intro _
    | (rename_i hq; replace hq := congrArg (fun p => (Prod.fst p).kept) hq; simp at hq; simp [apply_ite Module.kept, hq]; done)
    | dsimp only)

@[simp] theorem Module.restoreEngine_kept (m : Module) (e role sp : Nat) :
    (Module.restoreEngine m e role sp).kept = m.kept := by
  unfold Module.restoreEngine
  repeat' (first
    | (simp [apply_ite Module.kept]; done) | split | simp | rw [Module.each_kept] | rw [Module.foldl_kept] | rw [Module.foldlPair_kept] | intro _
    | (rename_i hq; replace hq := congrArg (fun p => (Prod.fst p).kept) hq; simp at hq; simp [apply_ite Module.kept, hq]; done)
    | dsimp only)

@[simp] theorem Module.restoreRow_kept (m : Module) (s bank row : Nat) (spare : Option Nat) :
    (Module.restoreRow m s bank row spare).kept = m.kept := by
  unfold Module.restoreRow
  repeat' (first
    | (simp [apply_ite Module.kept]; done) | split | simp | rw [Module.each_kept] | rw [Module.foldl_kept] | rw [Module.foldlPair_kept] | intro _
    | (rename_i hq; replace hq := congrArg (fun p => (Prod.fst p).kept) hq; simp at hq; simp [apply_ite Module.kept, hq]; done)
    | dsimp only)

@[simp] theorem Module.restoreChannel_kept (m : Module) (k ch : Nat) :
    (Module.restoreChannel m k ch).kept = m.kept := by
  unfold Module.restoreChannel
  repeat' (first
    | (simp [apply_ite Module.kept]; done) | split | simp | rw [Module.each_kept] | rw [Module.foldl_kept] | rw [Module.foldlPair_kept] | intro _
    | (rename_i hq; replace hq := congrArg (fun p => (Prod.fst p).kept) hq; simp at hq; simp [apply_ite Module.kept, hq]; done)
    | dsimp only)

@[simp] theorem Module.lowestTakes0_kept (m : Module) :
    (Module.lowestTakes0 m).kept = m.kept := by
  unfold Module.lowestTakes0
  repeat' (first
    | (simp [apply_ite Module.kept]; done) | split | simp | rw [Module.each_kept] | rw [Module.foldl_kept] | rw [Module.foldlPair_kept] | intro _
    | (rename_i hq; replace hq := congrArg (fun p => (Prod.fst p).kept) hq; simp at hq; simp [apply_ite Module.kept, hq]; done)
    | dsimp only)

@[simp] theorem Module.coreOut_kept (m : Module) (c : Nat) :
    (Module.coreOut m c).kept = m.kept := by
  unfold Module.coreOut
  repeat' (first
    | (simp [apply_ite Module.kept]; done) | split | simp | rw [Module.each_kept] | rw [Module.foldl_kept] | rw [Module.foldlPair_kept] | intro _
    | (rename_i hq; replace hq := congrArg (fun p => (Prod.fst p).kept) hq; simp at hq; simp [apply_ite Module.kept, hq]; done)
    | dsimp only)

@[simp] theorem Module.spareFails_kept (m : Module) :
    (Module.spareFails m).kept = m.kept := by
  unfold Module.spareFails
  repeat' (first
    | (simp [apply_ite Module.kept]; done) | split | simp | rw [Module.each_kept] | rw [Module.foldl_kept] | rw [Module.foldlPair_kept] | intro _
    | (rename_i hq; replace hq := congrArg (fun p => (Prod.fst p).kept) hq; simp at hq; simp [apply_ite Module.kept, hq]; done)
    | dsimp only)

@[simp] theorem Module.coreIn_kept (m : Module) :
    (Module.coreIn m).kept = m.kept := by
  unfold Module.coreIn; split <;> simp

@[simp] theorem Module.reapply_kept (m : Module) (r : Repair) :
    (Module.reapply m r).kept = m.kept := by
  unfold Module.reapply; dsimp only; repeat' split
  all_goals simp

@[simp] theorem Module.reapplyKinds_kept (m : Module) (kinds : List Nat) :
    (Module.reapplyKinds m kinds).kept = m.kept := by
  unfold Module.reapplyKinds; rw [Module.each_kept]; intro _ _; simp

@[simp] theorem Module.stopClocks_kept (m : Module) (k : ResetKind) :
    (Module.stopClocks m k).kept = m.kept := by
  unfold Module.stopClocks
  repeat' (first
    | (simp [apply_ite Module.kept]; done) | split | simp | rw [Module.each_kept] | rw [Module.foldl_kept] | rw [Module.foldlPair_kept] | intro _
    | (rename_i hq; replace hq := congrArg (fun p => (Prod.fst p).kept) hq; simp at hq; simp [apply_ite Module.kept, hq]; done)
    | dsimp only)

@[simp] theorem Module.restarted_kept (m : Module) (k : ResetKind) (cause : Nat) :
    (Module.restarted m k cause).kept = m.kept := by
  unfold Module.restarted
  repeat' (first
    | (simp [apply_ite Module.kept]; done) | split | simp | rw [Module.each_kept] | rw [Module.foldl_kept] | rw [Module.foldlPair_kept] | intro _
    | (rename_i hq; replace hq := congrArg (fun p => (Prod.fst p).kept) hq; simp at hq; simp [apply_ite Module.kept, hq]; done)
    | dsimp only)

@[simp] theorem Module.powerOn_kept (m : Module) (cause : Nat) (aonFell : Bool) :
    (Module.powerOn m cause aonFell).kept = m.kept := by
  rfl

@[simp] theorem Module.holdsLost_kept (m : Module) (n : Nat) :
    (Module.holdsLost m n).kept = m.kept := by
  unfold Module.holdsLost; simp

@[simp] theorem Module.endResidue_kept (m : Module) :
    (Module.endResidue m).kept = m.kept := by
  unfold Module.endResidue; dsimp only; repeat' split
  all_goals simp

@[simp] theorem Module.endRehearsal_kept (m : Module) :
    (Module.endRehearsal m).kept = m.kept := by
  unfold Module.endRehearsal; split <;> simp

@[simp] theorem Module.enterReset_kept (m : Module) (k : ResetKind) (cause : Nat) (aonFell : Bool) :
    (Module.enterReset m k cause aonFell).kept = m.kept := by
  unfold Module.enterReset; dsimp only; repeat' split
  all_goals simp

@[simp] theorem Module.requestReset_kept (m : Module) (r : ResetReq) :
    (Module.requestReset m r).kept = m.kept := by
  unfold Module.requestReset
  repeat' (first
    | (simp [apply_ite Module.kept]; done) | split | simp | rw [Module.each_kept] | rw [Module.foldl_kept] | rw [Module.foldlPair_kept] | intro _
    | (rename_i hq; replace hq := congrArg (fun p => (Prod.fst p).kept) hq; simp at hq; simp [apply_ite Module.kept, hq]; done)
    | dsimp only)

@[simp] theorem Module.acceptReset_kept (m : Module) (r : ResetReq) :
    (Module.acceptReset m r).kept = m.kept := by
  simp [Module.acceptReset, apply_ite Module.kept]

@[simp] theorem Module.resetCmd_kept (m : Module) (k : ResetKind) (cause : Nat) (notice : Bool) :
    (Module.resetCmd m k cause notice).kept = m.kept := by
  simp [Module.resetCmd, apply_ite Module.kept]

@[simp] theorem Module.sectorCmd_kept (m : Module) (s : Nat) :
    (Module.sectorCmd m s).kept = m.kept := by
  simp [Module.sectorCmd, apply_ite Module.kept]

@[simp] theorem Module.nextSectorReset_kept (m : Module) :
    (Module.nextSectorReset m).kept = m.kept := by
  unfold Module.nextSectorReset; split <;> simp

@[simp] theorem Module.holdReset_kept (m : Module) (h : HoldCause) :
    (Module.holdReset m h).kept = m.kept := by
  simp [Module.holdReset, apply_ite Module.kept]

@[simp] theorem Module.releaseReset_kept (m : Module) (h : HoldCause) :
    (Module.releaseReset m h).kept = m.kept := by
  rfl

@[simp] theorem Module.coldNow_kept (m : Module) (cause : Nat) (h : HoldCause) :
    (Module.coldNow m cause h).kept = m.kept := by
  simp [Module.coldNow, apply_ite Module.kept]

@[simp] theorem Module.powerGood_kept (m : Module) (profile : BitVec 2) (addr : BitVec 3) :
    (Module.powerGood m profile addr).kept = m.kept := by
  simp [Module.powerGood, apply_ite Module.kept]

@[simp] theorem Module.pwrOkFall_kept (m : Module) (ns : Nat) :
    (Module.pwrOkFall m ns).kept = m.kept := by
  simp [Module.pwrOkFall, apply_ite Module.kept]

@[simp] theorem Module.porst_kept (m : Module) (ns : Nat) :
    (Module.porst m ns).kept = m.kept := by
  unfold Module.porst
  repeat' (first
    | (simp [apply_ite Module.kept]; done) | split | simp | rw [Module.each_kept] | rw [Module.foldl_kept] | rw [Module.foldlPair_kept] | intro _
    | (rename_i hq; replace hq := congrArg (fun p => (Prod.fst p).kept) hq; simp at hq; simp [apply_ite Module.kept, hq]; done)
    | dsimp only)

@[simp] theorem Module.warmrst_kept (m : Module) (ns : Nat) :
    (Module.warmrst m ns).kept = m.kept := by
  simp [Module.warmrst, apply_ite Module.kept]

@[simp] theorem Module.warmrstEnds_kept (m : Module) :
    (Module.warmrstEnds m).kept = m.kept := by
  rfl

@[simp] theorem Module.showRail_kept (m : Module) (n : Nat) (r : RailReading) :
    (Module.showRail m n r).kept = m.kept := by
  rfl

@[simp] theorem Module.railCheck_kept (m : Module) (n : Nat) (r : RailReading) :
    (Module.railCheck m n r).kept = m.kept := by
  simp [Module.railCheck, apply_ite Module.kept]

@[simp] theorem Module.setLevel_kept (m : Module) (u : GovUnit) (l : Nat) (step : Int) :
    (Module.setLevel m u l step).kept = m.kept := by
  rfl

@[simp] theorem Module.showWaits_kept (m : Module) : m.showWaits.kept = m.kept := by
  simp [Module.showWaits] --

@[simp] theorem Module.raised_kept (m : Module) (u : GovUnit) :
    (Module.raised m u).kept = m.kept := by
  unfold Module.raised
  repeat' (first
    | (simp [apply_ite Module.kept]; done) | split | simp | rw [Module.each_kept] | rw [Module.foldl_kept] | rw [Module.foldlPair_kept] | intro _
    | (rename_i hq; replace hq := congrArg (fun p => (Prod.fst p).kept) hq; simp at hq; simp [apply_ite Module.kept, hq]; done)
    | dsimp only)

@[simp] theorem Module.endWaits_kept (m : Module) (u : GovUnit) :
    (Module.endWaits m u).kept = m.kept := by
  unfold Module.endWaits
  repeat' (first
    | (simp [apply_ite Module.kept]; done) | split | simp | rw [Module.each_kept] | rw [Module.foldl_kept] | rw [Module.foldlPair_kept] | intro _
    | (rename_i hq; replace hq := congrArg (fun p => (Prod.fst p).kept) hq; simp at hq; simp [apply_ite Module.kept, hq]; done)
    | dsimp only)

@[simp] theorem Module.holdRaise_kept (m : Module) (u : GovUnit) (slew cap : Bool) :
    (Module.holdRaise m u slew cap).kept = m.kept := by
  unfold Module.holdRaise
  repeat' (first
    | (simp [apply_ite Module.kept]; done) | split | simp | rw [Module.each_kept] | rw [Module.foldl_kept] | rw [Module.foldlPair_kept] | intro _
    | (rename_i hq; replace hq := congrArg (fun p => (Prod.fst p).kept) hq; simp at hq; simp [apply_ite Module.kept, hq]; done)
    | dsimp only)

@[simp] theorem Module.govRaise_kept (m : Module) (u : GovUnit) : (m.govRaise u).kept = m.kept := by
  unfold Module.govRaise
  dsimp only
  repeat' (first
    | rfl | (simp [apply_ite Module.kept]; done) | split | simp only [Module.showWaits_kept] | simp [apply_ite Module.kept]) --

@[simp] theorem Module.govLower_kept (m : Module) (u : GovUnit) :
    (Module.govLower m u).kept = m.kept := by
  simp [Module.govLower, apply_ite Module.kept]

@[simp] theorem Module.thermtrip_kept (m : Module) (die : Nat) :
    (Module.thermtrip m die).kept = m.kept := by
  unfold Module.thermtrip; simp

@[simp] theorem Module.dieTemps_kept (m : Module) (die : Nat) (temps : List Nat) :
    (Module.dieTemps m die temps).kept = m.kept := by
  simp [Module.dieTemps, apply_ite Module.kept]

@[simp] theorem Module.setThrottle_kept (m : Module) (die v : Nat) :
    (Module.setThrottle m die v).kept = m.kept := by
  unfold Module.setThrottle
  repeat' (first
    | (simp [apply_ite Module.kept]; done) | split | simp | rw [Module.each_kept] | rw [Module.foldl_kept] | rw [Module.foldlPair_kept] | intro _
    | (rename_i hq; replace hq := congrArg (fun p => (Prod.fst p).kept) hq; simp at hq; simp [apply_ite Module.kept, hq]; done)
    | dsimp only)

@[simp] theorem Module.throttleStep_kept (m : Module) (die : Nat) :
    (Module.throttleStep m die).kept = m.kept := by
  simp [Module.throttleStep, apply_ite Module.kept]

@[simp] theorem Module.stallStart_kept (m : Module) :
    (Module.stallStart m).kept = m.kept := by
  unfold Module.stallStart; simp

@[simp] theorem Module.requalify_kept (m : Module) :
    (Module.requalify m).kept = m.kept := by
  unfold Module.requalify
  repeat' (first
    | (simp [apply_ite Module.kept]; done) | split | simp | rw [Module.each_kept] | rw [Module.foldl_kept] | rw [Module.foldlPair_kept] | intro _
    | (rename_i hq; replace hq := congrArg (fun p => (Prod.fst p).kept) hq; simp at hq; simp [apply_ite Module.kept, hq]; done)
    | dsimp only)

@[simp] theorem Module.qualify_kept (m : Module) (n : Nat) :
    (Module.qualify m n).kept = m.kept := by
  unfold Module.qualify; dsimp only; repeat' split
  all_goals simp

@[simp] theorem Module.xtalWindow_kept (m : Module) (n : Nat) :
    (Module.xtalWindow m n).kept = m.kept := by
  unfold Module.xtalWindow
  dsimp only
  split
  · rfl
  · split <;> split <;> (try split) <;> simp

@[simp] theorem Module.xtalQualFails_kept (m : Module) :
    (Module.xtalQualFails m).kept = m.kept := by
  simp [Module.xtalQualFails, apply_ite Module.kept]

@[simp] theorem Module.ramp_kept (m : Module) (d source : Nat) :
    (Module.ramp m d source).kept = m.kept := by
  unfold Module.ramp
  repeat' (first
    | (simp [apply_ite Module.kept]; done) | split | simp | rw [Module.each_kept] | rw [Module.foldl_kept] | rw [Module.foldlPair_kept] | intro _
    | (rename_i hq; replace hq := congrArg (fun p => (Prod.fst p).kept) hq; simp at hq; simp [apply_ite Module.kept, hq]; done)
    | dsimp only)

@[simp] theorem Module.showHoldover_kept (m : Module) :
    (Module.showHoldover m).kept = m.kept := by
  rfl

@[simp] theorem Module.rampStep_kept (m : Module) (d : Nat) :
    (Module.rampStep m d).kept = m.kept := by
  simp [Module.rampStep, apply_ite Module.kept]

@[simp] theorem Module.handBack50ppm_kept (m : Module) :
    (Module.handBack50ppm m).kept = m.kept := by
  unfold Module.handBack50ppm; split <;> simp

@[simp] theorem Module.startPll_kept (m : Module) :
    (Module.startPll m).kept = m.kept := by
  unfold Module.startPll
  repeat' (first
    | (simp [apply_ite Module.kept]; done) | split | simp | rw [Module.each_kept] | rw [Module.foldl_kept] | rw [Module.foldlPair_kept] | intro _
    | (rename_i hq; replace hq := congrArg (fun p => (Prod.fst p).kept) hq; simp at hq; simp [apply_ite Module.kept, hq]; done)
    | dsimp only)

@[simp] theorem Module.bothOscillators_kept (m : Module) :
    (Module.bothOscillators m).kept = m.kept := by
  unfold Module.bothOscillators; simp

@[simp] theorem Module.failAction_kept (m : Module) :
    (Module.failAction m).kept = m.kept := by
  simp [Module.failAction, apply_ite Module.kept]

@[simp] theorem Module.noteClock_kept (m : Module) (d dies : Nat) (nmi : Bool) :
    (Module.noteClock m d dies nmi).kept = m.kept := by
  unfold Module.noteClock
  repeat' (first
    | (simp [apply_ite Module.kept]; done) | split | simp | rw [Module.each_kept] | rw [Module.foldl_kept] | rw [Module.foldlPair_kept] | intro _
    | (rename_i hq; replace hq := congrArg (fun p => (Prod.fst p).kept) hq; simp at hq; simp [apply_ite Module.kept, hq]; done)
    | dsimp only)

@[simp] theorem Module.toBackup_kept (m : Module) (ds : List Nat) :
    (Module.toBackup m ds).kept = m.kept := by
  unfold Module.toBackup
  repeat' (first
    | (simp [apply_ite Module.kept]; done) | split | simp | rw [Module.each_kept] | rw [Module.foldl_kept] | rw [Module.foldlPair_kept] | intro _
    | (rename_i hq; replace hq := congrArg (fun p => (Prod.fst p).kept) hq; simp at hq; simp [apply_ite Module.kept, hq]; done)
    | dsimp only)

@[simp] theorem Module.clockFail_kept (m : Module) (d dies : Nat) :
    (Module.clockFail m d dies).kept = m.kept := by
  unfold Module.clockFail
  repeat' (first
    | (simp [apply_ite Module.kept]; done) | split | simp | rw [Module.each_kept] | rw [Module.foldl_kept] | rw [Module.foldlPair_kept] | intro _
    | (rename_i hq; replace hq := congrArg (fun p => (Prod.fst p).kept) hq; simp at hq; simp [apply_ite Module.kept, hq]; done)
    | dsimp only)

@[simp] theorem Module.monitorWindow_kept (m : Module) (d dies : Nat) (dev : BitVec 16) :
    (Module.monitorWindow m d dies dev).kept = m.kept := by
  unfold Module.monitorWindow
  repeat' (first
    | (simp [apply_ite Module.kept]; done) | split | simp | rw [Module.each_kept] | rw [Module.foldl_kept] | rw [Module.foldlPair_kept] | intro _
    | (rename_i hq; replace hq := congrArg (fun p => (Prod.fst p).kept) hq; simp at hq; simp [apply_ite Module.kept, hq]; done)
    | dsimp only)

@[simp] theorem Module.releaseNmi_kept (m : Module) :
    (Module.releaseNmi m).kept = m.kept := by
  simp [Module.releaseNmi, apply_ite Module.kept]

@[simp] theorem Module.setWeights_kept (m : Module) (s : Nat) (w : List Nat) :
    (Module.setWeights m s w).kept = m.kept := by
  unfold Module.setWeights; rw [Module.each_kept]; intro _ _; simp

@[simp] theorem Module.setOvh_kept (m : Module) (port : Nat) (v : Int) :
    (Module.setOvh m port v).kept = m.kept := by
  rfl

@[simp] theorem Module.applyShapers_kept (m : Module) (sh : ShaperSection) (p : Nat → Bool) :
    (Module.applyShapers m sh p).kept = m.kept := by
  unfold Module.applyShapers
  repeat' (first
    | (simp [apply_ite Module.kept]; done) | split | simp | rw [Module.each_kept] | rw [Module.foldl_kept] | rw [Module.foldlPair_kept] | intro _
    | (rename_i hq; replace hq := congrArg (fun p => (Prod.fst p).kept) hq; simp at hq; simp [apply_ite Module.kept, hq]; done)
    | dsimp only)

@[simp] theorem Module.applyLive_kept (m : Module) (l : LiveSections) (switch : Bool) :
    (Module.applyLive m l switch).kept = m.kept := by
  unfold Module.applyLive
  repeat' (first
    | (simp [apply_ite Module.kept]; done) | split | simp | rw [Module.each_kept] | rw [Module.foldl_kept] | rw [Module.foldlPair_kept] | intro _
    | (rename_i hq; replace hq := congrArg (fun p => (Prod.fst p).kept) hq; simp at hq; simp [apply_ite Module.kept, hq]; done)
    | dsimp only)

@[simp] theorem Module.loadIdentity_kept (m : Module) (d : Identity) :
    (Module.loadIdentity m d).kept = m.kept := by
  rfl

@[simp] theorem Module.loadTables_kept (m : Module) (l : LiveSections) :
    (Module.loadTables m l).kept = m.kept := by
  unfold Module.loadTables; split <;> simp

@[simp] theorem Module.loadSector_kept (m : Module) (i : Image) (s : Nat) :
    (Module.loadSector m i s).kept = m.kept := by
  unfold Module.loadSector; dsimp only; repeat' split
  all_goals simp

@[simp] theorem Module.loadLayout_kept (m : Module) (q : QueueLayout) :
    (Module.loadLayout m q).kept = m.kept := by
  rfl

@[simp] theorem Module.loadSchedule_kept (m : Module) (sc : Option Schedule) :
    (Module.loadSchedule m sc).kept = m.kept := by
  unfold Module.loadSchedule
  repeat' (first
    | (simp [apply_ite Module.kept]; done) | split | simp | rw [Module.each_kept] | rw [Module.foldl_kept] | rw [Module.foldlPair_kept] | intro _
    | (rename_i hq; replace hq := congrArg (fun p => (Prod.fst p).kept) hq; simp at hq; simp [apply_ite Module.kept, hq]; done)
    | dsimp only)

@[simp] theorem Module.loadRecipes_kept (m : Module) (i : Image) :
    (Module.loadRecipes m i).kept = m.kept := by
  unfold Module.loadRecipes
  repeat' (first
    | (simp [apply_ite Module.kept]; done) | split | simp | rw [Module.each_kept] | rw [Module.foldl_kept] | rw [Module.foldlPair_kept] | intro _
    | (rename_i hq; replace hq := congrArg (fun p => (Prod.fst p).kept) hq; simp at hq; simp [apply_ite Module.kept, hq]; done)
    | dsimp only)

@[simp] theorem Module.loadManagement_kept (m : Module) (g : Management) :
    (Module.loadManagement m g).kept = m.kept := by
  rfl

@[simp] theorem Module.holdExit_kept (m : Module) :
    (Module.holdExit m).kept = m.kept := by
  unfold Module.holdExit
  repeat' (first
    | (simp [apply_ite Module.kept]; done) | split | simp | rw [Module.each_kept] | rw [Module.foldl_kept] | rw [Module.foldlPair_kept] | intro _
    | (rename_i hq; replace hq := congrArg (fun p => (Prod.fst p).kept) hq; simp at hq; simp [apply_ite Module.kept, hq]; done)
    | dsimp only)

@[simp] theorem Module.loadCircuits_kept (m : Module) (cs : List FlyCmd) :
    (Module.loadCircuits m cs).kept = m.kept := by
  unfold Module.loadCircuits
  repeat' (first
    | (simp [apply_ite Module.kept]; done) | split | simp | rw [Module.each_kept] | rw [Module.foldl_kept] | rw [Module.foldlPair_kept] | intro _
    | (rename_i hq; replace hq := congrArg (fun p => (Prod.fst p).kept) hq; simp at hq; simp [apply_ite Module.kept, hq]; done)
    | dsimp only)

@[simp] theorem Module.loadPra_kept (m : Module) (arrays : List Nat) :
    (Module.loadPra m arrays).kept = m.kept := by
  unfold Module.loadPra
  repeat' (first
    | (simp [apply_ite Module.kept]; done) | split | simp | rw [Module.each_kept] | rw [Module.foldl_kept] | rw [Module.foldlPair_kept] | intro _
    | (rename_i hq; replace hq := congrArg (fun p => (Prod.fst p).kept) hq; simp at hq; simp [apply_ite Module.kept, hq]; done)
    | dsimp only)

@[simp] theorem Module.loadConflicts_kept (m : Module) (i : Image) (named : Nat) :
    (Module.loadConflicts m i named).kept = m.kept := by
  simp [Module.loadConflicts, apply_ite Module.kept]

@[simp] theorem Module.loadImage_kept (m : Module) (i : Image) (d : Identity) (named sections : Nat) :
    (Module.loadImage m i d named sections).kept = m.kept := by
  unfold Module.loadImage
  repeat' (first
    | (simp [apply_ite Module.kept]; done) | split | simp | rw [Module.each_kept] | rw [Module.foldl_kept] | rw [Module.foldlPair_kept] | intro _
    | (rename_i hq; replace hq := congrArg (fun p => (Prod.fst p).kept) hq; simp at hq; simp [apply_ite Module.kept, hq]; done)
    | dsimp only)

@[simp] theorem Module.quorumAnswer_kept (m : Module) (o : QOrigin) (status qstatus counted : Nat) (seq : BitVec 64) :
    (Module.quorumAnswer m o status qstatus counted seq).kept = m.kept := by
  unfold Module.quorumAnswer
  repeat' (first
    | (simp [apply_ite Module.kept]; done) | split | simp | rw [Module.each_kept] | rw [Module.foldl_kept] | rw [Module.foldlPair_kept] | intro _
    | (rename_i hq; replace hq := congrArg (fun p => (Prod.fst p).kept) hq; simp at hq; simp [apply_ite Module.kept, hq]; done)
    | dsimp only)

@[simp] theorem Module.judged_kept (m : Module) (opcode qstatus : Nat) :
    (Module.judged m opcode qstatus).kept = m.kept := by
  unfold Module.judged
  repeat' (first
    | (simp [apply_ite Module.kept]; done) | split | simp | rw [Module.each_kept] | rw [Module.foldl_kept] | rw [Module.foldlPair_kept] | intro _
    | (rename_i hq; replace hq := congrArg (fun p => (Prod.fst p).kept) hq; simp at hq; simp [apply_ite Module.kept, hq]; done)
    | dsimp only)

@[simp] theorem Module.quorumRefuse_kept (m : Module) (o : QOrigin) (q : QBody) (qstatus counted : Nat) :
    (Module.quorumRefuse m o q qstatus counted).kept = m.kept := by
  unfold Module.quorumRefuse
  repeat' (first
    | (simp [apply_ite Module.kept]; done) | split | simp | rw [Module.each_kept] | rw [Module.foldl_kept] | rw [Module.foldlPair_kept] | intro _
    | (rename_i hq; replace hq := congrArg (fun p => (Prod.fst p).kept) hq; simp at hq; simp [apply_ite Module.kept, hq]; done)
    | dsimp only)

theorem Module.takeQuorum_kept {m : Module} {o : QOrigin} {body : List Byte} {attest : Bool} {p : Module × List Byte × BitVec 64}
    (h : m.takeQuorum o body attest = some p) : p.1.kept = m.kept := by
  unfold Module.takeQuorum at h
  split at h
  · split at h
    · next hr => split at h <;> cases h; exact (Module.takeReq_kept hr :)
    · cases h
  · split at h <;> cases h; rfl

@[simp] theorem Module.rehearsalExpires_kept (m : Module) :
    (Module.rehearsalExpires m).kept = m.kept := by
  simp [Module.rehearsalExpires, apply_ite Module.kept]

@[simp] theorem Module.unlockDebug_kept (m : Module) :
    (Module.unlockDebug m).kept = m.kept := by
  unfold Module.unlockDebug; simp

@[simp] theorem Module.attest_kept (m : Module) (o : QOrigin) (nonce : List Byte) : (m.attest o nonce).kept = m.kept := by
  unfold Module.attest
  dsimp only
  split
  · rfl
  · next h =>
    have := Module.takeQuorum_kept h
    dsimp only at this ⊢
    repeat' (first
      | (simp [this]; done) | split)

@[simp] theorem Module.attestDone_kept (m : Module) (signature : List Byte) :
    (Module.attestDone m signature).kept = m.kept := by
  unfold Module.attestDone; dsimp only; repeat' split
  all_goals simp

@[simp] theorem Module.chainPatch_kept (m : Module) (h : BitVec 384) : (m.chainPatch h).kept = m.kept := by
  unfold Module.chainPatch
  exact Module.kept_sec m _ rfl

@[simp] theorem Module.injectNow_kept (m : Module) (kind t dur : Nat) (copied : Copied) :
    (Module.injectNow m kind t dur copied).kept = m.kept := by
  unfold Module.injectNow
  repeat' (first
    | (simp [apply_ite Module.kept]; done) | split | simp | rw [Module.each_kept] | rw [Module.foldl_kept] | rw [Module.foldlPair_kept] | intro _
    | (rename_i hq; replace hq := congrArg (fun p => (Prod.fst p).kept) hq; simp at hq; simp [apply_ite Module.kept, hq]; done)
    | dsimp only)

@[simp] theorem Module.inject_kept (m : Module) (kind dur : Nat) (copied : Copied) :
    (Module.inject m kind dur copied).kept = m.kept := by
  unfold Module.inject
  repeat' (first
    | (simp [apply_ite Module.kept]; done) | split | simp | rw [Module.each_kept] | rw [Module.foldl_kept] | rw [Module.foldlPair_kept] | intro _
    | (rename_i hq; replace hq := congrArg (fun p => (Prod.fst p).kept) hq; simp at hq; simp [apply_ite Module.kept, hq]; done)
    | dsimp only)

@[simp] theorem Module.injectionEnds_kept (m : Module) :
    (Module.injectionEnds m).kept = m.kept := by
  unfold Module.injectionEnds; dsimp only; repeat' split
  all_goals simp

@[simp] theorem Module.holdLo_kept (m : Module) (req : Requester) (r : RegName) (i j : Nat) (w : Word) :
    (Module.holdLo m req r i j w).kept = m.kept := by
  unfold Module.holdLo
  repeat' (first
    | (simp [apply_ite Module.kept]; done) | split | simp | rw [Module.each_kept] | rw [Module.foldl_kept] | rw [Module.foldlPair_kept] | intro _
    | (rename_i hq; replace hq := congrArg (fun p => (Prod.fst p).kept) hq; simp at hq; simp [apply_ite Module.kept, hq]; done)
    | dsimp only)

@[simp] theorem Module.clearRc_kept (m : Module) (r : RegName) (i j : Nat) :
    (Module.clearRc m r i j).kept = m.kept := by
  unfold Module.clearRc
  repeat' (first
    | (simp [apply_ite Module.kept]; done) | split | simp | rw [Module.each_kept] | rw [Module.foldl_kept] | rw [Module.foldlPair_kept] | intro _
    | (rename_i hq; replace hq := congrArg (fun p => (Prod.fst p).kept) hq; simp at hq; simp [apply_ite Module.kept, hq]; done)
    | dsimp only)

@[simp] theorem Module.capture_kept (m : Module) (req : Requester) (r : RegName) (i j v : Nat) :
    (Module.capture m req r i j v).kept = m.kept := by
  unfold Module.capture
  repeat' (first
    | (simp [apply_ite Module.kept]; done) | split | simp | rw [Module.each_kept] | rw [Module.foldl_kept] | rw [Module.foldlPair_kept] | intro _
    | (rename_i hq; replace hq := congrArg (fun p => (Prod.fst p).kept) hq; simp at hq; simp [apply_ite Module.kept, hq]; done)
    | dsimp only)

@[simp] theorem Module.readTakes_kept (m : Module) (req : Requester) (r : RegName) (i j : Nat) :
    (Module.readTakes m req r i j).kept = m.kept := by
  unfold Module.readTakes
  repeat' (first
    | (simp [apply_ite Module.kept]; done) | split | simp | rw [Module.each_kept] | rw [Module.foldl_kept] | rw [Module.foldlPair_kept] | intro _
    | (rename_i hq; replace hq := congrArg (fun p => (Prod.fst p).kept) hq; simp at hq; simp [apply_ite Module.kept, hq]; done)
    | dsimp only)

@[simp] theorem Module.readReg_kept (m : Module) (req : Requester) (r : RegName) (i j : Nat) :
    (Module.readReg m req r i j).1.kept = m.kept := by
  unfold Module.readReg
  repeat' (first
    | (simp [apply_ite Module.kept]; done) | split | simp | rw [Module.each_kept] | rw [Module.foldl_kept] | rw [Module.foldlPair_kept] | intro _
    | (rename_i hq; replace hq := congrArg (fun p => (Prod.fst p).kept) hq; simp at hq; simp [apply_ite Module.kept, hq]; done)
    | dsimp only)

@[simp] theorem Module.read_kept (m : Module) (req : Requester) (addr : Addr) :
    (Module.read m req addr).1.kept = m.kept := by
  unfold Module.read; split <;> simp

@[simp] theorem Module.alerts_kept (m : Module) :
    (Module.alerts m).kept = m.kept := by
  simp [Module.alerts, apply_ite Module.kept]

@[simp] theorem Module.writeField_kept (m : Module) (k : FKey) (d : FieldDef) (w : Nat) :
    (Module.writeField m k d w).kept = m.kept := by
  unfold Module.writeField; dsimp only; repeat' split
  all_goals simp

@[simp] theorem Module.writeFields_kept (m : Module) (r : RegName) (i j w : Nat) :
    (Module.writeFields m r i j w).kept = m.kept := by
  unfold Module.writeFields
  repeat' (first
    | (simp [apply_ite Module.kept]; done) | split | simp | rw [Module.each_kept] | rw [Module.foldl_kept] | rw [Module.foldlPair_kept] | intro _
    | (rename_i hq; replace hq := congrArg (fun p => (Prod.fst p).kept) hq; simp at hq; simp [apply_ite Module.kept, hq]; done)
    | dsimp only)

@[simp] theorem Module.sampleConflict_kept (m : Module) :
    (Module.sampleConflict m).kept = m.kept := by
  simp [Module.sampleConflict, apply_ite Module.kept]

@[simp] theorem Module.writeTelCtrl_kept (m : Module) (w : Nat) :
    (Module.writeTelCtrl m w).kept = m.kept := by
  simp [Module.writeTelCtrl, apply_ite Module.kept]

@[simp] theorem Module.writeTelSel_kept (m : Module) (w : Nat) :
    (Module.writeTelSel m w).kept = m.kept := by
  simp [Module.writeTelSel, apply_ite Module.kept]

@[simp] theorem Module.writeSink_kept (m : Module) (w : Nat) :
    (Module.writeSink m w).kept = m.kept := by
  unfold Module.writeSink
  repeat' (first
    | (simp [apply_ite Module.kept]; done) | split | simp | rw [Module.each_kept] | rw [Module.foldl_kept] | rw [Module.foldlPair_kept] | intro _
    | (rename_i hq; replace hq := congrArg (fun p => (Prod.fst p).kept) hq; simp at hq; simp [apply_ite Module.kept, hq]; done)
    | dsimp only)

@[simp] theorem Module.popSample_kept (m : Module) :
    (Module.popSample m).kept = m.kept := by
  unfold Module.popSample
  repeat' (first
    | (simp [apply_ite Module.kept]; done) | split | simp | rw [Module.each_kept] | rw [Module.foldl_kept] | rw [Module.foldlPair_kept] | intro _
    | (rename_i hq; replace hq := congrArg (fun p => (Prod.fst p).kept) hq; simp at hq; simp [apply_ite Module.kept, hq]; done)
    | dsimp only)

@[simp] theorem Module.modGrant_kept (m : Module) (f : Grant → Grant) :
    (Module.modGrant m f).kept = m.kept := by
  rfl

@[simp] theorem Module.writeShaper_kept (m : Module) (at_ : Nat × Nat) (rate burst : Option Nat) (apply : Bool) :
    (Module.writeShaper m at_ rate burst apply).kept = m.kept := by
  unfold Module.writeShaper
  repeat' (first
    | (simp [apply_ite Module.kept]; done) | split | simp | rw [Module.each_kept] | rw [Module.foldl_kept] | rw [Module.foldlPair_kept] | intro _
    | (rename_i hq; replace hq := congrArg (fun p => (Prod.fst p).kept) hq; simp at hq; simp [apply_ite Module.kept, hq]; done)
    | dsimp only)

@[simp] theorem Module.abortCmd_kept (m : Module) (s slot : Nat) :
    (Module.abortCmd m s slot).kept = m.kept := by
  unfold Module.abortCmd
  repeat' (first
    | (simp [apply_ite Module.kept]; done) | split | simp | rw [Module.each_kept] | rw [Module.foldl_kept] | rw [Module.foldlPair_kept] | intro _
    | (rename_i hq; replace hq := congrArg (fun p => (Prod.fst p).kept) hq; simp at hq; simp [apply_ite Module.kept, hq]; done)
    | dsimp only)

@[simp] theorem Module.powerCmd_kept (m : Module) (w : Nat) :
    (Module.powerCmd m w).kept = m.kept := by
  unfold Module.powerCmd; dsimp only; repeat' split
  all_goals simp

@[simp] theorem Module.writeTimCtrl_kept (m : Module) (w : Nat) :
    (Module.writeTimCtrl m w).kept = m.kept := by
  simp [Module.writeTimCtrl, apply_ite Module.kept]

@[simp] theorem Module.writeFwdVer_kept (m : Module) (w : Nat) :
    (Module.writeFwdVer m w).kept = m.kept := by
  simp [Module.writeFwdVer, apply_ite Module.kept]

@[simp] theorem Module.writeOvh_kept (m : Module) (i j w : Nat) :
    (Module.writeOvh m i j w).kept = m.kept := by
  unfold Module.writeOvh
  repeat' (first
    | (simp [apply_ite Module.kept]; done) | split | simp | rw [Module.each_kept] | rw [Module.foldl_kept] | rw [Module.foldlPair_kept] | intro _
    | (rename_i hq; replace hq := congrArg (fun p => (Prod.fst p).kept) hq; simp at hq; simp [apply_ite Module.kept, hq]; done)
    | dsimp only)

@[simp] theorem Module.writeHi_kept (m : Module) (req : Requester) (r : RegName) (i j w : Nat) :
    (Module.writeHi m req r i j w).kept = m.kept := by
  unfold Module.writeHi
  repeat' (first
    | (simp [apply_ite Module.kept]; done) | split | simp | rw [Module.each_kept] | rw [Module.foldl_kept] | rw [Module.foldlPair_kept] | intro _
    | (rename_i hq; replace hq := congrArg (fun p => (Prod.fst p).kept) hq; simp at hq; simp [apply_ite Module.kept, hq]; done)
    | dsimp only)

@[simp] theorem Module.writeMgmt_kept (m : Module) (r : RegName) (i j w : Nat) :
    (Module.writeMgmt m r i j w).kept = m.kept := by
  unfold Module.writeMgmt
  repeat' (first
    | (simp [apply_ite Module.kept]; done) | split | simp | rw [Module.each_kept] | rw [Module.foldl_kept] | rw [Module.foldlPair_kept] | intro _
    | (rename_i hq; replace hq := congrArg (fun p => (Prod.fst p).kept) hq; simp at hq; simp [apply_ite Module.kept, hq]; done)
    | dsimp only)

@[simp] theorem Module.writeData_kept (m : Module) (req : Requester) (r : RegName) (i j w : Nat) (queue : Nat × Nat) :
    (Module.writeData m req r i j w queue).kept = m.kept := by
  unfold Module.writeData
  repeat' (first
    | (simp [apply_ite Module.kept]; done) | split | simp | rw [Module.each_kept] | rw [Module.foldl_kept] | rw [Module.foldlPair_kept] | intro _
    | (rename_i hq; replace hq := congrArg (fun p => (Prod.fst p).kept) hq; simp at hq; simp [apply_ite Module.kept, hq]; done)
    | dsimp only)

@[simp] theorem Module.writeReg_kept (m : Module) (req : Requester) (r : RegName) (i j : Nat) (w : Word) (queue : Nat × Nat) :
    (Module.writeReg m req r i j w queue).kept = m.kept := by
  unfold Module.writeReg
  repeat' (first
    | (simp [apply_ite Module.kept]; done) | split | simp | rw [Module.each_kept] | rw [Module.foldl_kept] | rw [Module.foldlPair_kept] | intro _
    | (rename_i hq; replace hq := congrArg (fun p => (Prod.fst p).kept) hq; simp at hq; simp [apply_ite Module.kept, hq]; done)
    | dsimp only)

@[simp] theorem Module.write_kept (m : Module) (req : Requester) (addr : Addr) (w : Word) :
    (Module.write m req addr w).1.kept = m.kept := by
  unfold Module.write; dsimp only; repeat' split
  all_goals simp

@[simp] theorem Module.applyHeld_kept (m : Module) (h : HeldWrite) :
    (Module.applyHeld m h).kept = m.kept := by
  unfold Module.applyHeld; split <;> simp

@[simp] theorem Module.smbFaults_kept (m : Module) (a : AccessResult) :
    (Module.smbFaults m a).kept = m.kept := by
  simp [Module.smbFaults, apply_ite Module.kept]

@[simp] theorem Module.accessWrite_kept (m : Module) (req : Requester) (addr : Addr) (w : Word) :
    (Module.accessWrite m req addr w).kept = m.kept := by
  simp [Module.accessWrite, apply_ite Module.kept]

@[simp] theorem Module.accessRead_kept (m : Module) (req : Requester) (addr : Addr) :
    (Module.accessRead m req addr).kept = m.kept := by
  simp [Module.accessRead, apply_ite Module.kept]

theorem Module.serve_kept {m : Module} {src : Loc} {reqId : BitVec 16} {cls : Nat} {want : CtlReq → Bool}
    {allowed : Module → CtlReq → Bool} {f : Module → CtlReq → Module} (hf : ∀ m r, (f m r).kept = m.kept) :
    (m.serve src reqId cls want allowed f).kept = m.kept := by
  unfold Module.serve
  split
  · rfl
  · next h =>
    have := Module.takeReq_kept h
    dsimp only at this ⊢
    repeat' (first
      | rfl | (simp [hf, this]; done) | split)

@[simp] theorem Module.heartbeat_kept (m : Module) (src : Loc) (reqId : BitVec 16) :
    (Module.heartbeat m src reqId).kept = m.kept := by
  unfold Module.heartbeat
  repeat' (first
    | (simp [apply_ite Module.kept]; done) | split | simp | rw [Module.each_kept] | rw [Module.foldl_kept] | rw [Module.foldlPair_kept] | intro _
    | (rename_i hq; replace hq := congrArg (fun p => (Prod.fst p).kept) hq; simp at hq; simp [apply_ite Module.kept, hq]; done)
    | dsimp only | rw [Module.serve_kept] | rw [Module.flashReq_kept] | rw [Module.smbWrite_kept] | rw [Module.smbRecovery_kept])

@[simp] theorem Module.readWords_kept (m : Module) (r : CtlReq) (n : Nat) :
    (Module.readWords m r n).1.kept = m.kept := by
  unfold Module.readWords
  repeat' (first
    | (simp [apply_ite Module.kept]; done) | split | simp | rw [Module.each_kept] | rw [Module.foldl_kept] | rw [Module.foldlPair_kept] | intro _
    | (rename_i hq; replace hq := congrArg (fun p => (Prod.fst p).kept) hq; simp at hq; simp [apply_ite Module.kept, hq]; done)
    | dsimp only)

@[simp] theorem Module.writeWords_kept (m : Module) (r : CtlReq) (n : Nat) :
    (Module.writeWords m r n).1.kept = m.kept := by
  unfold Module.writeWords
  repeat' (first
    | (simp [apply_ite Module.kept]; done) | split | simp | rw [Module.each_kept] | rw [Module.foldl_kept] | rw [Module.foldlPair_kept] | intro _
    | (rename_i hq; replace hq := congrArg (fun p => (Prod.fst p).kept) hq; simp at hq; simp [apply_ite Module.kept, hq]; done)
    | dsimp only)

@[simp] theorem Module.regRead_kept (m : Module) (src : Loc) (reqId : BitVec 16) :
    (Module.regRead m src reqId).kept = m.kept := by
  unfold Module.regRead
  repeat' (first
    | (simp [apply_ite Module.kept]; done) | split | simp | rw [Module.each_kept] | rw [Module.foldl_kept] | rw [Module.foldlPair_kept] | intro _
    | (rename_i hq; replace hq := congrArg (fun p => (Prod.fst p).kept) hq; simp at hq; simp [apply_ite Module.kept, hq]; done)
    | dsimp only | rw [Module.serve_kept] | rw [Module.flashReq_kept] | rw [Module.smbWrite_kept] | rw [Module.smbRecovery_kept])

@[simp] theorem Module.regWrite_kept (m : Module) (src : Loc) (reqId : BitVec 16) :
    (Module.regWrite m src reqId).kept = m.kept := by
  unfold Module.regWrite
  repeat' (first
    | (simp [apply_ite Module.kept]; done) | split | simp | rw [Module.each_kept] | rw [Module.foldl_kept] | rw [Module.foldlPair_kept] | intro _
    | (rename_i hq; replace hq := congrArg (fun p => (Prod.fst p).kept) hq; simp at hq; simp [apply_ite Module.kept, hq]; done)
    | dsimp only | rw [Module.serve_kept] | rw [Module.flashReq_kept] | rw [Module.smbWrite_kept] | rw [Module.smbRecovery_kept])

@[simp] theorem Module.tableEntry_kept (m : Module) (body : List Byte) (n : Nat) :
    (Module.tableEntry m body n).kept = m.kept := by
  unfold Module.tableEntry; split <;> simp

@[simp] theorem Module.tableReq_kept (m : Module) (src : Loc) (reqId : BitVec 16) :
    (Module.tableReq m src reqId).kept = m.kept := by
  unfold Module.tableReq
  repeat' (first
    | (simp [apply_ite Module.kept]; done) | split | simp | rw [Module.each_kept] | rw [Module.foldl_kept] | rw [Module.foldlPair_kept] | intro _
    | (rename_i hq; replace hq := congrArg (fun p => (Prod.fst p).kept) hq; simp at hq; simp [apply_ite Module.kept, hq]; done)
    | dsimp only | rw [Module.serve_kept] | rw [Module.flashReq_kept] | rw [Module.smbWrite_kept] | rw [Module.smbRecovery_kept])

theorem Module.flashReq_kept {m : Module} {src : Loc} {reqId : BitVec 16} {op : Nat} {f : Module → CtlReq → Module}
    (hf : ∀ m r, (f m r).kept = m.kept) : (m.flashReq src reqId op f).kept = m.kept := by
  unfold Module.flashReq
  split
  · split
    · next h =>
      have := Module.takeReq_kept h
      dsimp only at this ⊢
      split <;> simp [this]
    · rfl
  · exact Module.serve_kept hf

@[simp] theorem Module.flashVerifyReq_kept (m : Module) (src : Loc) (reqId : BitVec 16) (rsaOk slhOk digestsOk : Bool) :
    (m.flashVerifyReq src reqId rsaOk slhOk digestsOk).kept = m.kept := by
  unfold Module.flashVerifyReq
  apply Module.flashReq_kept
  intro n r
  dsimp only
  split <;> split <;> simp

@[simp] theorem Module.refusePatch_kept (m : Module) (src : Loc) (reqId : BitVec 16) (status : Nat) :
    (Module.refusePatch m src reqId status).kept = m.kept := by
  unfold Module.refusePatch; simp

@[simp] theorem Module.patchReq_kept (m : Module) (src : Loc) (reqId : BitVec 16) (rsaOk slhOk : Bool)
    (live : LiveSections) (structural : List Nat) : (m.patchReq src reqId rsaOk slhOk live structural).kept = m.kept := by
  unfold Module.patchReq
  split
  · rfl
  · next h =>
    have := Module.takeReq_kept h
    dsimp only at this ⊢
    repeat' (first | (simp [this]; done) | split) --

@[simp] theorem Module.applyPatch_kept (m : Module) :
    (Module.applyPatch m).kept = m.kept := by
  unfold Module.applyPatch; dsimp only; repeat' split
  all_goals simp

@[simp] theorem Module.patchApply_kept (m : Module) :
    (Module.patchApply m).kept = m.kept := by
  unfold Module.patchApply
  repeat' (first
    | (simp [apply_ite Module.kept]; done) | split | simp | rw [Module.each_kept] | rw [Module.foldl_kept] | rw [Module.foldlPair_kept] | intro _
    | (rename_i hq; replace hq := congrArg (fun p => (Prod.fst p).kept) hq; simp at hq; simp [apply_ite Module.kept, hq]; done)
    | dsimp only | rw [Module.serve_kept] | rw [Module.flashReq_kept] | rw [Module.smbWrite_kept] | rw [Module.smbRecovery_kept])

@[simp] theorem Module.controlIncomplete_kept (m : Module) (src : Loc) (reqId : BitVec 16) :
    (Module.controlIncomplete m src reqId).kept = m.kept := by
  unfold Module.controlIncomplete; dsimp only; repeat' split
  all_goals simp

@[simp] theorem Module.telValue_kept (m : Module) (event i : Nat) :
    (Module.telValue m event i).1.kept = m.kept := by
  unfold Module.telValue
  repeat' (first
    | (simp [apply_ite Module.kept]; done) | split | simp | rw [Module.each_kept] | rw [Module.foldl_kept] | rw [Module.foldlPair_kept] | intro _
    | (rename_i hq; replace hq := congrArg (fun p => (Prod.fst p).kept) hq; simp at hq; simp [apply_ite Module.kept, hq]; done)
    | dsimp only)

@[simp] theorem Module.telemetryRead_kept (m : Module) (src : Loc) (reqId : BitVec 16) :
    (Module.telemetryRead m src reqId).kept = m.kept := by
  unfold Module.telemetryRead
  repeat' (first
    | (simp [apply_ite Module.kept]; done) | split | simp | rw [Module.each_kept] | rw [Module.foldl_kept] | rw [Module.foldlPair_kept] | intro _
    | (rename_i hq; replace hq := congrArg (fun p => (Prod.fst p).kept) hq; simp at hq; simp [apply_ite Module.kept, hq]; done)
    | dsimp only | rw [Module.serve_kept] | rw [Module.flashReq_kept] | rw [Module.smbWrite_kept] | rw [Module.smbRecovery_kept])

@[simp] theorem Module.takeRecords_kept (m : Module) :
    (Module.takeRecords m).1.kept = m.kept := by
  unfold Module.takeRecords; dsimp only; repeat' split
  all_goals simp

@[simp] theorem Module.telemetryTake_kept (m : Module) (src : Loc) (reqId : BitVec 16) :
    (Module.telemetryTake m src reqId).kept = m.kept := by
  unfold Module.telemetryTake
  repeat' (first
    | (simp [apply_ite Module.kept]; done) | split | simp | rw [Module.each_kept] | rw [Module.foldl_kept] | rw [Module.foldlPair_kept] | intro _
    | (rename_i hq; replace hq := congrArg (fun p => (Prod.fst p).kept) hq; simp at hq; simp [apply_ite Module.kept, hq]; done)
    | dsimp only | rw [Module.serve_kept] | rw [Module.flashReq_kept] | rw [Module.smbWrite_kept] | rw [Module.smbRecovery_kept])

@[simp] theorem Module.sendSink_kept (m : Module) (kind first size : Nat) (rs : List Nat) :
    (Module.sendSink m kind first size rs).kept = m.kept := by
  unfold Module.sendSink
  repeat' (first
    | (simp [apply_ite Module.kept]; done) | split | simp | rw [Module.each_kept] | rw [Module.foldl_kept] | rw [Module.foldlPair_kept] | intro _
    | (rename_i hq; replace hq := congrArg (fun p => (Prod.fst p).kept) hq; simp at hq; simp [apply_ite Module.kept, hq]; done)
    | dsimp only)

@[simp] theorem Module.sinkPush_kept (m : Module) :
    (Module.sinkPush m).kept = m.kept := by
  simp [Module.sinkPush, apply_ite Module.kept]

@[simp] theorem Module.overload_kept (m : Module) :
    (Module.overload m).kept = m.kept := by
  simp [Module.overload, apply_ite Module.kept]

@[simp] theorem Module.overloadEnds_kept (m : Module) :
    (Module.overloadEnds m).kept = m.kept := by
  rfl

@[simp] theorem Module.coreFails_kept (m : Module) (c : Nat) :
    (Module.coreFails m c).kept = m.kept := by
  simp [Module.coreFails, apply_ite Module.kept]

@[simp] theorem Module.logPut_kept (m : Module) (e : BitVec 128) :
    (Module.logPut m e).kept = m.kept := by
  unfold Module.logPut; simp

@[simp] theorem Module.logOne_kept (m : Module) (p : PendingIrq) :
    (Module.logOne m p).kept = m.kept := by
  simp [Module.logOne, apply_ite Module.kept]

@[simp] theorem Module.eventLogWrite_kept (m : Module) (line : Nat) :
    (Module.eventLogWrite m line).kept = m.kept := by
  unfold Module.eventLogWrite; dsimp only; repeat' split
  all_goals simp

theorem Module.smbWrite_kept {m : Module} {pec : Pec} {f : Module → Module} (hf : ∀ m, (f m).kept = m.kept) :
    (m.smbWrite pec f).kept = m.kept := by
  unfold Module.smbWrite
  repeat' (first
      | (simp [hf]; done) | split)

@[simp] theorem Module.smbSetAddr_kept (m : Module) (a : Addr) :
    (Module.smbSetAddr m a).kept = m.kept := by
  rfl

@[simp] theorem Module.smbDataOut_kept (m : Module) (w : Word) :
    (Module.smbDataOut m w).kept = m.kept := by
  unfold Module.smbDataOut; simp

@[simp] theorem Module.smbDataIn_kept (m : Module) :
    (Module.smbDataIn m).kept = m.kept := by
  simp [Module.smbDataIn, apply_ite Module.kept]

@[simp] theorem Module.smbStatusIn_kept (m : Module) :
    (Module.smbStatusIn m).kept = m.kept := by
  simp [Module.smbStatusIn, apply_ite Module.kept]

@[simp] theorem Module.smbEventIn_kept (m : Module) :
    (Module.smbEventIn m).kept = m.kept := by
  unfold Module.smbEventIn; dsimp only; repeat' split
  all_goals simp

theorem Module.smbRecovery_kept {m : Module} {f : Module → Module} (hf : ∀ m, (f m).kept = m.kept) :
    (m.smbRecovery f).kept = m.kept := by
  unfold Module.smbRecovery
  repeat' (first
      | (simp [hf]; done) | split)

@[simp] theorem Module.setFlashAddr_kept (m : Module) (a : Nat) :
    (Module.setFlashAddr m a).kept = m.kept := by
  rfl

@[simp] theorem Module.noteTouched_kept (m : Module) (a n : Nat) :
    (Module.noteTouched m a n).kept = m.kept := by
  unfold Module.noteTouched
  repeat' (first
    | (simp [apply_ite Module.kept]; done) | split | simp | rw [Module.each_kept] | rw [Module.foldl_kept] | rw [Module.foldlPair_kept] | intro _
    | (rename_i hq; replace hq := congrArg (fun p => (Prod.fst p).kept) hq; simp at hq; simp [apply_ite Module.kept, hq]; done)
    | dsimp only)

@[simp] theorem Module.flashRead_kept (m : Module) (a : Nat) :
    (Module.flashRead m a).1.kept = m.kept := by
  unfold Module.flashRead; dsimp only; split <;> simp

@[simp] theorem Module.smbFlashIn_kept (m : Module) (n : Nat) :
    (Module.smbFlashIn m n).kept = m.kept := by
  unfold Module.smbFlashIn
  repeat' (first
    | (simp [apply_ite Module.kept]; done) | split | simp | rw [Module.each_kept] | rw [Module.foldl_kept] | rw [Module.foldlPair_kept] | intro _
    | (rename_i hq; replace hq := congrArg (fun p => (Prod.fst p).kept) hq; simp at hq; simp [apply_ite Module.kept, hq]; done)
    | dsimp only | rw [Module.serve_kept] | rw [Module.flashReq_kept] | rw [Module.smbWrite_kept] | rw [Module.smbRecovery_kept])

@[simp] theorem Module.smbAlert_kept (m : Module) :
    (Module.smbAlert m).kept = m.kept := by
  simp [Module.smbAlert, apply_ite Module.kept]

@[simp] theorem Module.jtagDrive_kept (m : Module) :
    (Module.jtagDrive m).kept = m.kept := by
  simp [Module.jtagDrive, apply_ite Module.kept]

@[simp] theorem Module.jtagReset_kept (m : Module) :
    (Module.jtagReset m).kept = m.kept := by
  rfl

@[simp] theorem Module.jtagAccess_kept (m : Module) (addr : Addr) (write : Option Word) :
    (Module.jtagAccess m addr write).kept = m.kept := by
  unfold Module.jtagAccess; dsimp only; repeat' split
  all_goals simp

@[simp] theorem Module.jtagId_kept (m : Module) :
    (Module.jtagId m).kept = m.kept := by
  simp [Module.jtagId, apply_ite Module.kept]

@[simp] theorem Module.startIosc_kept (m : Module) :
    (Module.startIosc m).kept = m.kept := by
  simp [Module.startIosc, apply_ite Module.kept]

@[simp] theorem Module.takeIncarnation_kept (m : Module) :
    (Module.takeIncarnation m).kept = m.kept := by
  unfold Module.takeIncarnation
  repeat' (first
    | (simp [apply_ite Module.kept]; done) | split | simp | rw [Module.each_kept] | rw [Module.foldl_kept] | rw [Module.foldlPair_kept] | intro _
    | (rename_i hq; replace hq := congrArg (fun p => (Prod.fst p).kept) hq; simp at hq; simp [apply_ite Module.kept, hq]; done)
    | dsimp only)

@[simp] theorem Module.countHalf_kept (m : Module) (rsaOk slhOk : Bool) :
    (Module.countHalf m rsaOk slhOk).kept = m.kept := by
  unfold Module.countHalf
  repeat' (first
    | (simp [apply_ite Module.kept]; done) | split | simp | rw [Module.each_kept] | rw [Module.foldl_kept] | rw [Module.foldlPair_kept] | intro _
    | (rename_i hq; replace hq := congrArg (fun p => (Prod.fst p).kept) hq; simp at hq; simp [apply_ite Module.kept, hq]; done)
    | dsimp only)

@[simp] theorem Module.judgeFirmware_kept (m : Module) (c : FirmwareCheck) :
    (Module.judgeFirmware m c).kept = m.kept := by
  simp [Module.judgeFirmware, apply_ite Module.kept]

@[simp] theorem Module.runFirmware_kept (m : Module) (isB : Bool) (svn : BitVec 8) :
    (Module.runFirmware m isB svn).kept = m.kept := by
  rfl

@[simp] theorem Module.hashImage_kept (m : Module) (isB : Bool) : (m.hashImage isB).kept = m.kept := by
  unfold Module.hashImage
  exact Module.kept_sec m _ rfl

@[simp] theorem Module.activate_kept (m : Module) (isB : Bool) (other : Nat) :
    (Module.activate m isB other).kept = m.kept := by
  unfold Module.activate; simp

@[simp] theorem Module.afterFour_kept (m : Module) :
    (Module.afterFour m).kept = m.kept := by
  simp [Module.afterFour]

@[simp] theorem Module.noteMarker_kept (m : Module) :
    (Module.noteMarker m).kept = m.kept := by
  simp [Module.noteMarker, apply_ite Module.kept]

@[simp] theorem Module.chooseImage_kept (m : Module) (a b : CopyCheck) :
    (Module.chooseImage m a b).kept = m.kept := by
  unfold Module.chooseImage
  repeat' (first
    | (simp [apply_ite Module.kept]; done) | split | simp | rw [Module.each_kept] | rw [Module.foldl_kept] | rw [Module.foldlPair_kept] | intro _
    | (rename_i hq; replace hq := congrArg (fun p => (Prod.fst p).kept) hq; simp at hq; simp [apply_ite Module.kept, hq]; done)
    | dsimp only)

@[simp] theorem Module.warmEngines_kept (m : Module) :
    (Module.warmEngines m).kept = m.kept := by
  unfold Module.warmEngines
  repeat' (first
    | (simp [apply_ite Module.kept]; done) | split | simp | rw [Module.each_kept] | rw [Module.foldl_kept] | rw [Module.foldlPair_kept] | intro _
    | (rename_i hq; replace hq := congrArg (fun p => (Prod.fst p).kept) hq; simp at hq; simp [apply_ite Module.kept, hq]; done)
    | dsimp only)

@[simp] theorem Module.trainHbm_kept (m : Module) (failed : List (Nat × Nat)) :
    (Module.trainHbm m failed).kept = m.kept := by
  unfold Module.trainHbm
  repeat' (first
    | (simp [apply_ite Module.kept]; done) | split | simp | rw [Module.each_kept] | rw [Module.foldl_kept] | rw [Module.foldlPair_kept] | intro _
    | (rename_i hq; replace hq := congrArg (fun p => (Prod.fst p).kept) hq; simp at hq; simp [apply_ite Module.kept, hq]; done)
    | dsimp only | rw [Module.serve_kept] | rw [Module.flashReq_kept] | rw [Module.smbWrite_kept] | rw [Module.smbRecovery_kept])

@[simp] theorem Module.judgeBank_kept (m : Module) (e i k : Nat) :
    (Module.judgeBank m e i k).kept = m.kept := by
  unfold Module.judgeBank
  repeat' (first
    | (simp [apply_ite Module.kept]; done) | split | simp | rw [Module.each_kept] | rw [Module.foldl_kept] | rw [Module.foldlPair_kept] | intro _
    | (rename_i hq; replace hq := congrArg (fun p => (Prod.fst p).kept) hq; simp at hq; simp [apply_ite Module.kept, hq]; done)
    | dsimp only)

@[simp] theorem Module.firstLaunch_kept (m : Module) (e i : Nat) :
    (Module.firstLaunch m e i).kept = m.kept := by
  unfold Module.firstLaunch
  repeat' (first
    | (simp [apply_ite Module.kept]; done) | split | simp | rw [Module.each_kept] | rw [Module.foldl_kept] | rw [Module.foldlPair_kept] | intro _
    | (rename_i hq; replace hq := congrArg (fun p => (Prod.fst p).kept) hq; simp at hq; simp [apply_ite Module.kept, hq]; done)
    | dsimp only)

@[simp] theorem Module.lightEngine_kept (m : Module) (e : Nat) :
    (Module.lightEngine m e).kept = m.kept := by
  unfold Module.lightEngine
  repeat' (first
    | (simp [apply_ite Module.kept]; done) | split | simp | rw [Module.each_kept] | rw [Module.foldl_kept] | rw [Module.foldlPair_kept] | intro _
    | (rename_i hq; replace hq := congrArg (fun p => (Prod.fst p).kept) hq; simp at hq; simp [apply_ite Module.kept, hq]; done)
    | dsimp only | rw [Module.serve_kept] | rw [Module.flashReq_kept] | rw [Module.smbWrite_kept] | rw [Module.smbRecovery_kept])

@[simp] theorem Module.startLight_kept (m : Module) (dips : List RingDips) (praRings : List (Nat × Nat)) :
    (Module.startLight m dips praRings).kept = m.kept := by
  unfold Module.startLight
  repeat' (first
    | (simp [apply_ite Module.kept]; done) | split | simp | rw [Module.each_kept] | rw [Module.foldl_kept] | rw [Module.foldlPair_kept] | intro _
    | (rename_i hq; replace hq := congrArg (fun p => (Prod.fst p).kept) hq; simp at hq; simp [apply_ite Module.kept, hq]; done)
    | dsimp only | rw [Module.serve_kept] | rw [Module.flashReq_kept] | rw [Module.smbWrite_kept] | rw [Module.smbRecovery_kept])

@[simp] theorem Module.startLinks_kept (m : Module) :
    (Module.startLinks m).kept = m.kept := by
  simp [Module.startLinks, apply_ite Module.kept]

@[simp] theorem Module.fallBack_kept (m : Module) :
    (Module.fallBack m).kept = m.kept := by
  unfold Module.fallBack; simp

@[simp] theorem Module.endTen_kept (m : Module) :
    (Module.endTen m).kept = m.kept := by
  unfold Module.endTen
  repeat' (first
    | (simp [apply_ite Module.kept]; done) | split | simp | rw [Module.each_kept] | rw [Module.foldl_kept] | rw [Module.foldlPair_kept] | intro _
    | (rename_i hq; replace hq := congrArg (fun p => (Prod.fst p).kept) hq; simp at hq; simp [apply_ite Module.kept, hq]; done)
    | dsimp only)

@[simp] theorem Module.afterTen_kept (m : Module) :
    (Module.afterTen m).kept = m.kept := by
  unfold Module.afterTen
  repeat' (first
    | (simp [apply_ite Module.kept]; done) | split | simp | rw [Module.each_kept] | rw [Module.foldl_kept] | rw [Module.foldlPair_kept] | intro _
    | (rename_i hq; replace hq := congrArg (fun p => (Prod.fst p).kept) hq; simp at hq; simp [apply_ite Module.kept, hq]; done)
    | dsimp only)

@[simp] theorem Module.calDone_kept (m : Module) (a passed : Nat) :
    (Module.calDone m a passed).kept = m.kept := by
  unfold Module.calDone
  repeat' (first
    | (simp [apply_ite Module.kept]; done) | split | simp | rw [Module.each_kept] | rw [Module.foldl_kept] | rw [Module.foldlPair_kept] | intro _
    | (rename_i hq; replace hq := congrArg (fun p => (Prod.fst p).kept) hq; simp at hq; simp [apply_ite Module.kept, hq]; done)
    | dsimp only)

@[simp] theorem Module.imageLoad_kept (m : Module) (a b : LoadCheck) :
    (Module.imageLoad m a b).kept = m.kept := by
  unfold Module.imageLoad
  repeat' (first
    | (simp [apply_ite Module.kept]; done) | split | simp | rw [Module.each_kept] | rw [Module.foldl_kept] | rw [Module.foldlPair_kept] | intro _
    | (rename_i hq; replace hq := congrArg (fun p => (Prod.fst p).kept) hq; simp at hq; simp [apply_ite Module.kept, hq]; done)
    | dsimp only)

@[simp] theorem Module.beginAlignment_kept (m : Module) :
    (Module.beginAlignment m).kept = m.kept := by
  simp [Module.beginAlignment, apply_ite Module.kept]

@[simp] theorem Module.fuseSvn_kept (m : Module) :
    (Module.fuseSvn m).kept = m.kept := by
  rfl

@[simp] theorem Module.beginDuration_kept (m : Module) : m.beginDuration.kept = m.kept := by
  unfold Module.beginDuration
  split
  · split
    · exact Module.kept_sec m _ rfl
    · rfl
  · rfl

@[simp] theorem Module.becomeReady_kept (m : Module) :
    (Module.becomeReady m).kept = m.kept := by
  unfold Module.becomeReady
  repeat' (first
    | (simp [apply_ite Module.kept]; done) | split | simp | rw [Module.each_kept] | rw [Module.foldl_kept] | rw [Module.foldlPair_kept] | intro _
    | (rename_i hq; replace hq := congrArg (fun p => (Prod.fst p).kept) hq; simp at hq; simp [apply_ite Module.kept, hq]; done)
    | dsimp only | rw [Module.serve_kept] | rw [Module.flashReq_kept] | rw [Module.smbWrite_kept] | rw [Module.smbRecovery_kept])

@[simp] theorem Module.abandonSetUp_kept (m : Module) (s : Nat) :
    (Module.abandonSetUp m s).kept = m.kept := by
  unfold Module.abandonSetUp; dsimp only; repeat' split
  all_goals simp

@[simp] theorem Module.holdCircuit_kept (m : Module) (s t : Nat) :
    (Module.holdCircuit m s t).kept = m.kept := by
  unfold Module.holdCircuit
  repeat' (first
    | (simp [apply_ite Module.kept]; done) | split | simp | rw [Module.each_kept] | rw [Module.foldl_kept] | rw [Module.foldlPair_kept] | intro _
    | (rename_i hq; replace hq := congrArg (fun p => (Prod.fst p).kept) hq; simp at hq; simp [apply_ite Module.kept, hq]; done)
    | dsimp only)

@[simp] theorem Module.sectorCircuits_kept (m : Module) (s : Nat) :
    (Module.sectorCircuits m s).kept = m.kept := by
  unfold Module.sectorCircuits
  repeat' (first
    | (simp [apply_ite Module.kept]; done) | split | simp | rw [Module.each_kept] | rw [Module.foldl_kept] | rw [Module.foldlPair_kept] | intro _
    | (rename_i hq; replace hq := congrArg (fun p => (Prod.fst p).kept) hq; simp at hq; simp [apply_ite Module.kept, hq]; done)
    | dsimp only | rw [Module.serve_kept] | rw [Module.flashReq_kept] | rw [Module.smbWrite_kept] | rw [Module.smbRecovery_kept])

@[simp] theorem Module.sectorDark_kept (m : Module) (s : Nat) :
    (Module.sectorDark m s).kept = m.kept := by
  unfold Module.sectorDark
  repeat' (first
    | (simp [apply_ite Module.kept]; done) | split | simp | rw [Module.each_kept] | rw [Module.foldl_kept] | rw [Module.foldlPair_kept] | intro _
    | (rename_i hq; replace hq := congrArg (fun p => (Prod.fst p).kept) hq; simp at hq; simp [apply_ite Module.kept, hq]; done)
    | dsimp only)

@[simp] theorem Module.dropIngress_kept (m : Module) (lport vc : Nat) :
    (Module.dropIngress m lport vc).kept = m.kept := by
  unfold Module.dropIngress
  repeat' (first
    | (simp [apply_ite Module.kept]; done) | split | simp | rw [Module.each_kept] | rw [Module.foldl_kept] | rw [Module.foldlPair_kept] | intro _
    | (rename_i hq; replace hq := congrArg (fun p => (Prod.fst p).kept) hq; simp at hq; simp [apply_ite Module.kept, hq]; done)
    | dsimp only)

@[simp] theorem Module.portDark_kept (m : Module) (lport : Nat) :
    (Module.portDark m lport).kept = m.kept := by
  unfold Module.portDark
  repeat' (first
    | (simp [apply_ite Module.kept]; done) | split | simp | rw [Module.each_kept] | rw [Module.foldl_kept] | rw [Module.foldlPair_kept] | intro _
    | (rename_i hq; replace hq := congrArg (fun p => (Prod.fst p).kept) hq; simp at hq; simp [apply_ite Module.kept, hq]; done)
    | dsimp only | rw [Module.serve_kept] | rw [Module.flashReq_kept] | rw [Module.smbWrite_kept] | rw [Module.smbRecovery_kept])

@[simp] theorem Module.dropCtxs_kept (m : Module) (s : Nat) :
    (Module.dropCtxs m s).kept = m.kept := by
  unfold Module.dropCtxs
  repeat' (first
    | (simp [apply_ite Module.kept]; done) | split | simp | rw [Module.each_kept] | rw [Module.foldl_kept] | rw [Module.foldlPair_kept] | intro _
    | (rename_i hq; replace hq := congrArg (fun p => (Prod.fst p).kept) hq; simp at hq; simp [apply_ite Module.kept, hq]; done)
    | dsimp only | rw [Module.serve_kept] | rw [Module.flashReq_kept] | rw [Module.smbWrite_kept] | rw [Module.smbRecovery_kept])

@[simp] theorem Module.sectorRegs_kept (m : Module) (s : Nat) :
    (Module.sectorRegs m s).kept = m.kept := by
  rfl

@[simp] theorem Module.sectorState_kept (m : Module) (s : Nat) : (m.sectorState s).kept = m.kept := by
  unfold Module.sectorState
  simp only [Module.sramReset_kept, Module.sectorRegs_kept]
  rw [Module.each_kept (fun _ _ => by simp)]
  rfl --

@[simp] theorem Module.loseVerifying_kept (m : Module) :
    (Module.loseVerifying m).kept = m.kept := by
  unfold Module.loseVerifying
  repeat' (first
    | (simp [apply_ite Module.kept]; done) | split | simp | rw [Module.each_kept] | rw [Module.foldl_kept] | rw [Module.foldlPair_kept] | intro _
    | (rename_i hq; replace hq := congrArg (fun p => (Prod.fst p).kept) hq; simp at hq; simp [apply_ite Module.kept, hq]; done)
    | dsimp only)

@[simp] theorem Module.losePatch_kept (m : Module) :
    (Module.losePatch m).kept = m.kept := by
  rfl

@[simp] theorem Module.enterSector_kept (m : Module) (s : Nat) :
    (Module.enterSector m s).kept = m.kept := by
  unfold Module.enterSector
  repeat' (first
    | (simp [apply_ite Module.kept]; done) | split | simp | rw [Module.each_kept] | rw [Module.foldl_kept] | rw [Module.foldlPair_kept] | intro _
    | (rename_i hq; replace hq := congrArg (fun p => (Prod.fst p).kept) hq; simp at hq; simp [apply_ite Module.kept, hq]; done)
    | dsimp only | rw [Module.serve_kept] | rw [Module.flashReq_kept] | rw [Module.smbWrite_kept] | rw [Module.smbRecovery_kept])

@[simp] theorem Module.copyField_kept (m : Module) (s t : Nat) (k : Nat → FKey) :
    (Module.copyField m s t k).kept = m.kept := by
  unfold Module.copyField
  repeat' (first
    | (simp [apply_ite Module.kept]; done) | split | simp | rw [Module.each_kept] | rw [Module.foldl_kept] | rw [Module.foldlPair_kept] | intro _
    | (rename_i hq; replace hq := congrArg (fun p => (Prod.fst p).kept) hq; simp at hq; simp [apply_ite Module.kept, hq]; done)
    | dsimp only)

@[simp] theorem Module.copySector_kept (m : Module) (s : Nat) :
    (Module.copySector m s).kept = m.kept := by
  rfl

@[simp] theorem Module.copyLock_kept (m : Module) (s : Nat) :
    (Module.copyLock m s).kept = m.kept := by
  unfold Module.copyLock
  repeat' (first
    | (simp [apply_ite Module.kept]; done) | split | simp | rw [Module.each_kept] | rw [Module.foldl_kept] | rw [Module.foldlPair_kept] | intro _
    | (rename_i hq; replace hq := congrArg (fun p => (Prod.fst p).kept) hq; simp at hq; simp [apply_ite Module.kept, hq]; done)
    | dsimp only)

@[simp] theorem Module.rejoin_kept (m : Module) (s : Nat) :
    (Module.rejoin m s).kept = m.kept := by
  unfold Module.rejoin
  repeat' (first
    | (simp [apply_ite Module.kept]; done) | split | simp | rw [Module.each_kept] | rw [Module.foldl_kept] | rw [Module.foldlPair_kept] | intro _
    | (rename_i hq; replace hq := congrArg (fun p => (Prod.fst p).kept) hq; simp at hq; simp [apply_ite Module.kept, hq]; done)
    | dsimp only)

@[simp] theorem Module.rejoined_kept (m : Module) :
    (Module.rejoined m).kept = m.kept := by
  unfold Module.rejoined
  repeat' (first
    | (simp [apply_ite Module.kept]; done) | split | simp | rw [Module.each_kept] | rw [Module.foldl_kept] | rw [Module.foldlPair_kept] | intro _
    | (rename_i hq; replace hq := congrArg (fun p => (Prod.fst p).kept) hq; simp at hq; simp [apply_ite Module.kept, hq]; done)
    | dsimp only)

@[simp] theorem Module.reloadFields_kept (m : Module) (s : Nat) :
    (Module.reloadFields m s).kept = m.kept := by
  unfold Module.reloadFields
  repeat' (first
    | (simp [apply_ite Module.kept]; done) | split | simp | rw [Module.each_kept] | rw [Module.foldl_kept] | rw [Module.foldlPair_kept] | intro _
    | (rename_i hq; replace hq := congrArg (fun p => (Prod.fst p).kept) hq; simp at hq; simp [apply_ite Module.kept, hq]; done)
    | dsimp only | rw [Module.serve_kept] | rw [Module.flashReq_kept] | rw [Module.smbWrite_kept] | rw [Module.smbRecovery_kept])

@[simp] theorem Module.recountRows_kept (m : Module) (s : Nat) :
    (Module.recountRows m s).kept = m.kept := by
  rfl

@[simp] theorem Module.sectorHoldExit_kept (m : Module) :
    (Module.sectorHoldExit m).kept = m.kept := by
  simp [Module.sectorHoldExit, apply_ite Module.kept]

@[simp] theorem Module.reloadSector_kept (m : Module) (s : Nat) :
    (Module.reloadSector m s).kept = m.kept := by
  unfold Module.reloadSector
  repeat' (first
    | (simp [apply_ite Module.kept]; done) | split | simp | rw [Module.each_kept] | rw [Module.foldl_kept] | rw [Module.foldlPair_kept] | intro _
    | (rename_i hq; replace hq := congrArg (fun p => (Prod.fst p).kept) hq; simp at hq; simp [apply_ite Module.kept, hq]; done)
    | dsimp only | rw [Module.serve_kept] | rw [Module.flashReq_kept] | rw [Module.smbWrite_kept] | rw [Module.smbRecovery_kept])

@[simp] theorem Module.resetEntry_kept (m : Module) :
    (Module.resetEntry m).kept = m.kept := by
  unfold Module.resetEntry; dsimp only; repeat' split
  all_goals simp

@[simp] theorem Module.periodEdge_kept (m : Module) :
    (Module.periodEdge m).kept = m.kept := by
  unfold Module.periodEdge
  repeat' (first
    | (simp [apply_ite Module.kept]; done) | split | simp | rw [Module.each_kept] | rw [Module.foldl_kept] | rw [Module.foldlPair_kept] | intro _
    | (rename_i hq; replace hq := congrArg (fun p => (Prod.fst p).kept) hq; simp at hq; simp [apply_ite Module.kept, hq]; done)
    | dsimp only | rw [Module.serve_kept] | rw [Module.flashReq_kept] | rw [Module.smbWrite_kept] | rw [Module.smbRecovery_kept])

@[simp] theorem Module.colRow_kept (m : Module) (kind lport : Nat) (f : Frame) (c : Crossing) : (m.colRow kind lport f c).kept = m.kept := by
  unfold Module.colRow
  repeat' (first
    | (simp [apply_ite Module.kept, *]; done) | split | simp [*] | rw [Module.each_kept] | intro _
    | (rename_i hq; replace hq := congrArg (fun p => (Prod.fst p).kept) hq; simp at hq; simp [apply_ite Module.kept, hq, *]; done)
    | (rename_i hq; replace hq := congrArg (fun p => (Taken.mod p).kept) hq; simp at hq; simp [apply_ite Module.kept, hq, *]; done)
    | (rename_i hq _; replace hq := congrArg (fun p => (Taken.mod p).kept) hq; simp at hq; simp [hq]; done)
    | (rename_i hq; replace hq := congrArg (fun p => (Arrival.mod p).kept) hq; simp at hq; simp [apply_ite Module.kept, hq, *]; done)
    | (rename_i hq; replace hq := congrArg (fun p => (Admit.mod p).kept) hq; simp at hq; simp [apply_ite Module.kept, hq, *]; done)
    | dsimp only)

@[simp] theorem Module.sideReady_kept (m : Module) (slot : Nat) (erred : Bool) :
    (Module.sideReady m slot erred).kept = m.kept := by
  unfold Module.sideReady
  repeat' (first
    | (simp [apply_ite Module.kept]; done) | split | simp | rw [Module.each_kept] | rw [Module.foldl_kept] | rw [Module.foldlPair_kept] | intro _
    | (rename_i hq; replace hq := congrArg (fun p => (Prod.fst p).kept) hq; simp at hq; simp [apply_ite Module.kept, hq]; done)
    | dsimp only)

@[simp] theorem Module.rootExpires_kept (m : Module) (slot : Nat) :
    (Module.rootExpires m slot).kept = m.kept := by
  unfold Module.rootExpires
  repeat' (first
    | (simp [apply_ite Module.kept]; done) | split | simp | rw [Module.each_kept] | rw [Module.foldl_kept] | rw [Module.foldlPair_kept] | intro _
    | (rename_i hq; replace hq := congrArg (fun p => (Prod.fst p).kept) hq; simp at hq; simp [apply_ite Module.kept, hq]; done)
    | dsimp only | rw [Module.serve_kept] | rw [Module.flashReq_kept] | rw [Module.smbWrite_kept] | rw [Module.smbRecovery_kept])

@[simp] theorem Module.backstop_kept (m : Module) (slot : Nat) :
    (Module.backstop m slot).kept = m.kept := by
  unfold Module.backstop
  repeat' (first
    | (simp [apply_ite Module.kept]; done) | split | simp | rw [Module.each_kept] | rw [Module.foldl_kept] | rw [Module.foldlPair_kept] | intro _
    | (rename_i hq; replace hq := congrArg (fun p => (Prod.fst p).kept) hq; simp at hq; simp [apply_ite Module.kept, hq]; done)
    | dsimp only | rw [Module.serve_kept] | rw [Module.flashReq_kept] | rw [Module.smbWrite_kept] | rw [Module.smbRecovery_kept])

@[simp] theorem Module.openNext_kept (m : Module) (e : Nat) (erred : Bool) :
    (Module.openNext m e erred).kept = m.kept := by
  unfold Module.openNext
  repeat' (first
    | (simp [apply_ite Module.kept]; done) | split | simp | rw [Module.each_kept] | rw [Module.foldl_kept] | rw [Module.foldlPair_kept] | intro _
    | (rename_i hq; replace hq := congrArg (fun p => (Prod.fst p).kept) hq; simp at hq; simp [apply_ite Module.kept, hq]; done)
    | dsimp only)

@[simp] theorem Module.failsAfter_kept (m : Module) (e : Nat) :
    (Module.failsAfter m e).kept = m.kept := by
  unfold Module.failsAfter
  repeat' (first
    | (simp [apply_ite Module.kept]; done) | split | simp | rw [Module.each_kept] | rw [Module.foldl_kept] | rw [Module.foldlPair_kept] | intro _
    | (rename_i hq; replace hq := congrArg (fun p => (Prod.fst p).kept) hq; simp at hq; simp [apply_ite Module.kept, hq]; done)
    | dsimp only)

@[simp] theorem Module.engineFails_kept (m : Module) (e : Nat) :
    (Module.engineFails m e).kept = m.kept := by
  unfold Module.engineFails
  repeat' (first
    | (simp [apply_ite Module.kept]; done) | split | simp | rw [Module.each_kept] | rw [Module.foldl_kept] | rw [Module.foldlPair_kept] | intro _
    | (rename_i hq; replace hq := congrArg (fun p => (Prod.fst p).kept) hq; simp at hq; simp [apply_ite Module.kept, hq]; done)
    | dsimp only)

@[simp] theorem Module.migrated_kept (m : Module) (slot k : Nat) (erred : Bool) :
    (Module.migrated m slot k erred).kept = m.kept := by
  unfold Module.migrated
  repeat' (first
    | (simp [apply_ite Module.kept]; done) | split | simp | rw [Module.each_kept] | rw [Module.foldl_kept] | rw [Module.foldlPair_kept] | intro _
    | (rename_i hq; replace hq := congrArg (fun p => (Prod.fst p).kept) hq; simp at hq; simp [apply_ite Module.kept, hq]; done)
    | dsimp only)

@[simp] theorem Module.reference_kept (m : Module) (a chan : Nat) (ok : Bool) :
    (Module.reference m a chan ok).kept = m.kept := by
  unfold Module.reference
  repeat' (first
    | (simp [apply_ite Module.kept]; done) | split | simp | rw [Module.each_kept] | rw [Module.foldl_kept] | rw [Module.foldlPair_kept] | intro _
    | (rename_i hq; replace hq := congrArg (fun p => (Prod.fst p).kept) hq; simp at hq; simp [apply_ite Module.kept, hq]; done)
    | dsimp only)

@[simp] theorem Module.chanReturns_kept (m : Module) (a chan : Nat) (ringLost : Bool) :
    (Module.chanReturns m a chan ringLost).kept = m.kept := by
  unfold Module.chanReturns
  repeat' (first
    | (simp [apply_ite Module.kept]; done) | split | simp | rw [Module.each_kept] | rw [Module.foldl_kept] | rw [Module.foldlPair_kept] | intro _
    | (rename_i hq; replace hq := congrArg (fun p => (Prod.fst p).kept) hq; simp at hq; simp [apply_ite Module.kept, hq]; done)
    | dsimp only)

@[simp] theorem Module.beginCalibration_kept (m : Module) (a : Nat) :
    (Module.beginCalibration m a).kept = m.kept := by
  simp [Module.beginCalibration, apply_ite Module.kept]

@[simp] theorem Module.flyRow_kept (m : Module) (c : FlyCmd) :
    (Module.flyRow m c).kept = m.kept := by
  unfold Module.flyRow
  repeat' (first
    | (simp [apply_ite Module.kept]; done) | split | simp | rw [Module.each_kept] | rw [Module.foldl_kept] | rw [Module.foldlPair_kept] | intro _
    | (rename_i hq; replace hq := congrArg (fun p => (Prod.fst p).kept) hq; simp at hq; simp [apply_ite Module.kept, hq]; done)
    | dsimp only)

@[simp] theorem Module.controlRow_kept (m : Module) (lport : Nat) (f : Frame) : (m.controlRow lport f).kept = m.kept := by
  unfold Module.controlRow
  repeat' (first
    | (simp; done) | split | (rename_i hq; exact Module.controlArrive_some hq)) --

/-! ### Operations that change boot flash leave the security state -/

@[simp] theorem Module.flashWrite_kept2 (m : Module) (a : Nat) (bs : List Byte) : (m.flashWrite a bs).kept.2 = m.kept.2 := rfl

@[simp] theorem Module.flashErase_kept2 (m : Module) (a n : Nat) : (m.flashErase a n).kept.2 = m.kept.2 := rfl

@[simp] theorem Module.compactRepairs_kept2 (m : Module) : m.compactRepairs.kept.2 = m.kept.2 := by
  unfold Module.compactRepairs; rfl

@[simp] theorem Module.appendRepair_kept2 (m : Module) (refused : Bool) : (m.appendRepair refused).kept.2 = m.kept.2 := by
  unfold Module.appendRepair
  split
  · rfl
  · dsimp only
    split
    · rw [Module.alert_kept, Module.raise_kept]; rfl
    · split <;> simp

theorem Module.serve_kept2 {m : Module} {src : Loc} {reqId : BitVec 16} {cls : Nat} {want : CtlReq → Bool}
    {allowed : Module → CtlReq → Bool} {f : Module → CtlReq → Module} (hf : ∀ m r, (f m r).kept.2 = m.kept.2) :
    (m.serve src reqId cls want allowed f).kept.2 = m.kept.2 := by
  unfold Module.serve
  split
  · rfl
  · next h =>
    have := Module.takeReq_kept h
    dsimp only at this ⊢
    repeat' split
    all_goals first | rfl | simp [hf, this]

theorem Module.flashReq_kept2 {m : Module} {src : Loc} {reqId : BitVec 16} {op : Nat} {f : Module → CtlReq → Module}
    (hf : ∀ m r, (f m r).kept.2 = m.kept.2) : (m.flashReq src reqId op f).kept.2 = m.kept.2 := by
  unfold Module.flashReq
  split
  · split
    · next h =>
      have := Module.takeReq_kept h
      dsimp only at this ⊢
      split <;> simp [this]
    · rfl
  · exact Module.serve_kept2 hf

theorem Module.kept2_img (m : Module) (u : ImgUnit) : ({ m with img := u } : Module).kept.2 = m.kept.2 := rfl

@[simp] theorem Module.flashEraseReq_kept2 (m : Module) (src : Loc) (reqId : BitVec 16) :
    (m.flashEraseReq src reqId).kept.2 = m.kept.2 := by
  unfold Module.flashEraseReq
  refine Module.flashReq_kept2 (fun m r => ?_)
  rw [Module.answer_kept, Module.kept2_img, Module.flashErase_kept2]

@[simp] theorem Module.flashWriteReq_kept2 (m : Module) (src : Loc) (reqId : BitVec 16) :
    (m.flashWriteReq src reqId).kept.2 = m.kept.2 := by
  unfold Module.flashWriteReq
  refine Module.flashReq_kept2 (fun m r => ?_)
  dsimp only
  split
  · rw [Module.answer_kept]
  · rw [Module.answer_kept, Module.kept2_img, Module.flashWrite_kept2]

theorem Module.smbWrite_kept2 {m : Module} {pec : Pec} {f : Module → Module} (hf : ∀ m, (f m).kept.2 = m.kept.2) :
    (m.smbWrite pec f).kept.2 = m.kept.2 := by
  unfold Module.smbWrite
  repeat' split
  all_goals simp [hf]

theorem Module.smbRecovery_kept2 {m : Module} {f : Module → Module} (hf : ∀ m, (f m).kept.2 = m.kept.2) :
    (m.smbRecovery f).kept.2 = m.kept.2 := by
  unfold Module.smbRecovery
  split <;> simp [hf]

@[simp] theorem Module.smbFlashOut_kept2 (m : Module) (data : List Byte) : (m.smbFlashOut data).kept.2 = m.kept.2 := by
  unfold Module.smbFlashOut
  exact Module.smbRecovery_kept2 (fun m => by
    rw [Module.setFlashAddr_kept, Module.noteTouched_kept, Module.flashWrite_kept2])

@[simp] theorem Module.smbErase_kept2 (m : Module) : m.smbErase.kept.2 = m.kept.2 := by
  unfold Module.smbErase
  exact Module.smbRecovery_kept2 (fun m => by rw [Module.noteTouched_kept, Module.flashErase_kept2])

/-! ### Operations that change the security state leave boot flash -/

theorem Module.kept1_sec (m : Module) (u : SecUnit) : ({ m with sec := u } : Module).kept.1 = m.kept.1 := rfl

@[simp] theorem Module.modState_kept1 (m : Module) (f : SecState → SecState) : (m.modState f).kept.1 = m.kept.1 := rfl

@[simp] theorem Module.setKeys_kept1 (m : Module) (args : List Byte) : (m.setKeys args).kept.1 = m.kept.1 := rfl

@[simp] theorem Module.fenceOn_kept1 (m : Module) (c : QCmd) : (m.fenceOn c).kept.1 = m.kept.1 := by simp [Module.fenceOn]

@[simp] theorem Module.fenceOff_kept1 (m : Module) (c : QCmd) : (m.fenceOff c).kept.1 = m.kept.1 := by
  unfold Module.fenceOff
  dsimp only
  repeat' split
  all_goals simp

@[simp] theorem Module.expelNow_kept1 (m : Module) (c : QCmd) : (m.expelNow c).kept.1 = m.kept.1 := by
  unfold Module.expelNow
  dsimp only
  rw [Module.each_kept (fun _ _ => by simp)]
  split <;> simp

@[simp] theorem Module.grantRehearsal_kept1 (m : Module) (c : QCmd) : (m.grantRehearsal c).kept.1 = m.kept.1 := by
  unfold Module.grantRehearsal
  dsimp only
  split <;> simp

@[simp] theorem Module.revokeRehearsal_kept1 (m : Module) : m.revokeRehearsal.kept.1 = m.kept.1 := by
  simp [Module.revokeRehearsal]

@[simp] theorem Module.rotateKeys_kept1 (m : Module) (c : QCmd) : (m.rotateKeys c).kept.1 = m.kept.1 := by
  simp [Module.rotateKeys]

@[simp] theorem Module.provisionKeys_kept1 (m : Module) (c : QCmd) : (m.provisionKeys c).kept.1 = m.kept.1 := by
  simp [Module.provisionKeys]

@[simp] theorem Module.quorumEffect_kept1 (m : Module) (c : QCmd) : (m.quorumEffect c).kept.1 = m.kept.1 := by
  unfold Module.quorumEffect
  split <;> simp

@[simp] theorem Module.quorumActs_kept1 (m : Module) (n : Nat) : (m.quorumActs n).kept.1 = m.kept.1 := by
  unfold Module.quorumActs
  repeat' split
  all_goals simp

@[simp] theorem Module.pendingEffect_kept1 (m : Module) : m.pendingEffect.kept.1 = m.kept.1 := by
  unfold Module.pendingEffect
  split <;> simp

@[simp] theorem Module.startRehearsal_kept1 (m : Module) : m.startRehearsal.kept.1 = m.kept.1 := by
  unfold Module.startRehearsal
  split <;> simp

@[simp] theorem Module.chooseState_kept1 (m : Module) (a b : PairCheck) : (m.chooseState a b).kept.1 = m.kept.1 := by
  unfold Module.chooseState
  dsimp only
  split <;> simp

@[simp] theorem Module.quorum_kept1 (m : Module) (o : QOrigin) (body : List Byte) (sigs : List (Bool × Bool)) :
    (m.quorum o body sigs).kept.1 = m.kept.1 := by
  unfold Module.quorum
  split
  · rfl
  · next h =>
    have := Module.takeQuorum_kept h
    dsimp only at this ⊢
    repeat' split
    all_goals first
      | (simp [this]; done)
      | rw [Module.judged_kept, Module.kept1_sec, Module.raiseN_kept, this]

@[simp] theorem Module.startAon_kept1 (m : Module) : m.startAon.kept.1 = m.kept.1 := by
  unfold Module.startAon
  split
  · rw [Module.goStep_kept, Module.startRehearsal_kept1]
  · rfl

@[simp] theorem Module.startBootRom_kept1 (m : Module) : m.startBootRom.kept.1 = m.kept.1 := by
  unfold Module.startBootRom
  split
  · rw [Module.goStep_kept, Module.startRehearsal_kept1]
    exact congrArg Prod.fst (Module.takeIncarnation_kept m)
  · rfl

@[simp] theorem Module.signatures_kept1 (m : Module) (fwA fwB : FirmwareCheck) (imgA imgB : CopyCheck) (secA secB : PairCheck) :
    (m.signatures fwA fwB imgA imgB secA secB).kept.1 = m.kept.1 := by
  unfold Module.signatures
  split
  · dsimp only
    split
    · simp
    · rw [Module.chooseImage_kept, Module.chooseState_kept1]; simp
  · rfl

theorem Module.smbReaches_kept {m : Module} {o : QOrigin} {f : Module → Module} {α : Type} (p : List Host.Cell × SecState → α)
    (hf : p (f m).kept = p m.kept) : p (m.smbReaches o f).kept = p m.kept := by
  unfold Module.smbReaches
  split
  · split <;> simp
  · exact hf

end Sys2Proof.Machine
end

