-- ==== Sys2Proof/Laws/Shows.lean ====
section
/-! SUPPORT. What writing a register field and an event leave as they were. -/

namespace Sys2Proof.Machine

theorem Module.RegsKept.refl (m : Module) (ks : List FKey) : m.RegsKept m ks := fun _ _ => rfl
theorem Module.RegsKept.setF {m' m : Module} {ks : List FKey} (h : m'.RegsKept m ks) {k : FKey} (hk : k ∈ ks) (v : Nat) :
    (m'.setF k v).RegsKept m ks := by
  intro x hx
  rw [Module.getF_setF_ne m' v (fun e : k = x => hx (e ▸ hk)), h x hx]
theorem Module.RegsKept.raise {m' m : Module} {ks : List FKey} (h : m'.RegsKept m ks) {e : Ev} {i d : Nat}
    (hk : ∀ k, evtKey e i = some k → k ∈ ks) : (m'.raise e i d).RegsKept m ks := by
  intro x hx
  rw [Module.getF_raise, if_neg (fun e => hx (hk x e)), h x hx]
theorem Module.RegsKept.congr {m'' m' m : Module} {ks : List FKey} (h : m'.RegsKept m ks) (e : m''.regs = m'.regs) :
    m''.RegsKept m ks := fun x hx => (Module.getF_congr x e).trans (h x hx)
theorem Module.OnlyShows.refl (m : Module) : m.OnlyShows m := rfl
theorem Module.OnlyShows.setF {m' m : Module} (h : m'.OnlyShows m) (k : FKey) (v : Nat) : (m'.setF k v).OnlyShows m := by
  unfold Module.OnlyShows at *
  rw [h]; rfl
theorem Module.OnlyShows.raise {m' m : Module} (h : m'.OnlyShows m) (e : Ev) (i d : Nat) : (m'.raise e i d).OnlyShows m := by
  unfold Module.OnlyShows at *
  rw [h]
  simp only [Module.raise, Module.count, Module.show, Module.pend]
  split <;> split <;> split <;> rfl

end Sys2Proof.Machine
end

