-- ==== Sys2Proof/Tests/Slice0.lean ====
section
/-! SUPPORT. Tests: the checks of `Instr.wf` refuse what is ill formed, worked examples of the spec, and for every
statement of Obligations.lean that has hypotheses a witness that meets them, clause by clause. -/

open Sys2Proof Sys2Proof.Machine

namespace Sys2Proof.Tests

set_option Elab.async false

/-! ### Small states -/

/-- A module with some register fields. -/
def sets (m : Module) (l : List (FKey × Nat)) : Module := l.foldl (fun m x => m.setF x.1 x.2) m

/-- The module out of reset, with some register fields. -/
def mod (l : List (FKey × Nat)) : Module :=
  sets { Module.reset with power := { Module.reset.power with inReset := none } } l

def upM (l : List (FKey × Nat)) : Module :=
  mod ([(K.pwrStatus_STEP, 12), (K.pwrStatus_READY, 1), (K.imgStatus_LOADED, 1)] ++ l)

/-- An image that passes every check. -/
def layout0 : QueueLayout :=
  { credits := List.replicate 8 0, oqMin := 0, oqMax := 0, tollWindow := 1, carafeGib := 0, poolGib := 0, carafeBw := 0
    retentionGib := 0, stageGib := 0, deepGib := 0, recipeMib := 0, stagePool := false }

def live0 : LiveSections := ⟨[], none, [], ⟨[], [], [], []⟩, []⟩

def image0 : Image :=
  { graph := [], layout := layout0, recipes := [], praEnable := [], powerCap := 1000, prio := 0, schedule := none
    mgmt := ⟨[], [], []⟩, pulseSync := false, rankRegion := [], live := live0 }

def ident0 : Identity := ⟨1, [], []⟩

def load0 (i : Image) : LoadCheck := ⟨i, ident0⟩

/-- A firmware copy of a key pair of 432 zeros. -/
def pair0 : List Byte := List.replicate 432 0

def fw (ok : Bool) : FirmwareCheck := ⟨pair0, true, true, 255, 1, ok⟩

def copy0 (ok : Bool) : CopyCheck := ⟨ok, ok, some ident0⟩

def yes : PairCheck := ⟨true, true⟩

def no : PairCheck := ⟨false, false⟩

/-- The directory of an image copy of one section, the identity, of no bytes. -/
def dir0 : List Byte :=
  toBytes 2 1 ++ toBytes 2 0 ++ toBytes 4 140 ++ toBytes 4 0 ++ toBytes 4 0 ++ toBytes 48 (sha384 []).toNat

/-- An image copy: its header, its directory, the magic of its signature block. -/
def copyBytes (m : Module) (dir : List Byte) : List Byte :=
  toBytes 4 0x47575348 ++ toBytes 2 (m.getF K.imgId_FORMAT) ++ toBytes 2 (m.getF K.imgId_MEMBER) ++ toBytes 4 7 ++ toBytes 4 140
    ++ [0, 1] ++ toBytes 2 0 ++ toBytes 48 (sha384 dir).toNat ++ toBytes 4 136 ++ dir0 ++ toBytes 4 0x47575347

/-- The module at a step, provisioned, an image in copy A: with `dir` other than `dir0` its directory is damaged. -/
def atStepWith (dir : List Byte) (n : Nat) (l : List (FKey × Nat)) : Module :=
  let m := mod ((K.pwrStatus_STEP, n) :: l)
  { m with
    sec := { m.sec with svn := 0, firmwareKey := sha384 pair0, state := { m.sec.state with provisioned := true } }
    flash := cellsPut [] 0x04000000 (copyBytes m dir) }

def atStep (n : Nat) (l : List (FKey × Nat)) : Module := atStepWith dir0 n l

/-- A ring of wavelength `w` in lock. -/
def lit (w : Nat) : Ring := { Ring.off with locked := true, lambda := w }

/-- The module with a link up on every lane at LPORT 2044. -/
def linked (l : List (FKey × Nat)) : Module :=
  upM ([(K.lnkLinkState_STATE 63 28, 3), (K.lnkLinkState_LANES_UP 63 28, 15)] ++ l)

/-- The module with that link's record. -/
def linkAt (l : List (FKey × Nat)) (x : Link) : Module := (linked l).putLnk 2044 x

def swap0 (p : SwapPhase) : Swap :=
  { old := 3, new := 5, lambda := 3, phase := p, commanded := false, back := false, oldFaded := false }

def flyCmd (op : FlyOp) : FlyCmd :=
  { op := op, origin := .register, tag := 7, slot := 255, inPort := 511, outPort := 503, hold := true }

def keepalive0 (st : BitVec 4) : Keepalive :=
  { state := st, laneMap := 15, lane := 0, loc := 9, port := 0, q := 0, incarnation := 0, cwcount := 0, ack := 0, cvc := 0
    ccum := 0, drainLeft := 0 }

def change0 (add answered retried ours : Bool) : LaneChange :=
  { lane := 3, add := add, effective := 5, tag := 7, answered := answered, retried := retried, ours := ours }

/-- A frame of a type with `n` bytes of payload. -/
def frame0 (t : BitVec 4) (n : Nat) : Frame := ⟨(t.setWidth 192) <<< 184, List.replicate n 0⟩

/-- A link header of LSEQ 0xFFFF and its payload. -/
def lh0 : LinkHeader := ⟨0xFFFF, 0, 0, 24, 0, 0, false⟩

def payloadOf (f : Frame) : List Byte := toBytes 24 f.hdr.toNat ++ f.body

def pl0 : List Byte := payloadOf (frame0 1 0)

/-- A UNICAST frame of the module's location 9 to DST `dst`, SEQ `n`, of the up phase. -/
def uni (dst : BitVec 32) (n : BitVec 24) : Frame :=
  Frame.withH ⟨0, []⟩ { ver := 1, ftype := 1, phase := 0, esc := 0, ord := 0, hops := 9, seq := n, flow := 3, dst := dst
                        src := 8, inter := 0, xlen := 0 }

/-- A SLOT frame of it. -/
def slotF (dst : BitVec 32) : Frame := (uni dst 0).withH { (uni dst 0).h with ftype := 8 }

/-- That frame inside the module, from LPORT 2044. -/
def qf (f : Frame) (d : Dest) : QFrame :=
  { frame := f, rcvd := f, inLport := 2044, linkVc := 4, dest := d, credits := 1, acceptAt := 0, admitAt := 0, bufAddr := 0
    spilled := false, held := false, deep := false, chunks := [], back := false, fullNoted := false, denied := false
    tollHeld := false, backHeld := false, ctxHeld := false, guarded := false }

def chunk0 (closed : Bool) : Chunk :=
  { frames := [qf (uni 7 5) (.out 2044 4)], bytes := 24, cont := false, closed := closed, handBack := false, index := 0 }

def queue0 (fs : List QFrame) (cs : List Chunk) : OutQueue := { OutQueue.empty with sram := fs, carafe := cs }

/-- A context at LPORT 2044. -/
def ctx0 (opening : Bool) (held : List QFrame) : Ctx :=
  { sector := 7, lport := 2044, flow := (8, 7, 3), opening := opening, first := 0xFFFFFF, expect := 0xFFFFFF, window := 64
    timeout := 9, held := held, gone := [], deep := false, ending := false, usedAt := 0 }

/-- A group definition of home sector 7: one local member, one child of two. -/
def gbits (root : Nat) : BitVec 256 :=
  BitVec.ofNat 256 (2 ^ 255 + root * 2 ^ 254 + 7 * 2 ^ 251 + 2036 * 2 ^ 240 + 9 * 2 ^ 220 + 2 ^ 204 + 2 ^ 176 + 2 ^ 166 + 3 * 2 ^ 124
    + 3 * 2 ^ 100)

def ebits : List (BitVec 64) :=
  [BitVec.ofNat 64 (2044 * 2 ^ 52), BitVec.ofNat 64 (2 ^ 63 + 2040 * 2 ^ 52 + 2 ^ 28 + 2 * 2 ^ 4)]

def ents : List MemberEntry := ebits.map MemberEntry.decode

/-- A SUM of FP32 over 65,568 elements: its second segment is one slot of 32. -/
def dbits : BitVec 256 := BitVec.ofNat 256 (65568 * 2 ^ 181 + 5 * 2 ^ 127 + 2 ^ 111 + 9 * 2 ^ 91)

def op0 (root state : Nat) (segs : Tbl Nat Seg) : Op :=
  { defIdx := 5, gdef := GroupDef.decode (gbits root), members := ents, op := 3, desc := Descriptor.decode dbits, descBits := dbits
    fp := 77, state := state, pra := false, acks := [], segs := segs, copied := [], results := [], segDone := 0, side := []
    logged := [], seq := 0 }

def seg0 (window : Option Nat) (added : List (Nat × Nat × Nat)) : Seg :=
  { k := 1, order := 0, engine := some 15, epoch := 1, window := window, moving := false, recomputed := false, got := [], taken := 0, added := added
    subs := [], runs := [], recs := [], rin := 0, corrupt := none, bytes := 0, chunks := [], readLost := false, counted := []
    preRound := false, inOver := false, sideHeld := false, ready := false, sent := false }

/-- A segment that waits for a window with a contribution retained. -/
def segW : Seg := { seg0 none [] with got := [⟨1, 0, false, 0, 0, 0, 32, List.replicate 128 0⟩] }

/-- A collective frame of the operation. -/
def colF (fp : BitVec 64) (phase : BitVec 1) (kind source segment seq elems count : Nat) (data : List Byte) : Frame :=
  Frame.withH ⟨0, toBytes 64 (CollExt.encode { CollExt.plain fp dbits kind with
      source := source, segment := segment, elems := elems, count := count }) ++ data⟩
    { ver := 1, ftype := 3, phase := phase, esc := 0, ord := 0, hops := 9, seq := BitVec.ofNat 24 seq, flow := 3, dst := 9, src := 8
      inter := 0, xlen := 8 }

/-- The module with the group live in its tables, and the operations of its slots. -/
def group (root : Nat) (ops : Tbl Nat Op) : Module :=
  let m := linked [(K.lnkLinkState_STATE 63 24, 3), (K.lnkLinkState_LANES_UP 63 24, 15), (K.lnkLinkState_STATE 63 20, 3),
    (K.lnkLinkState_LANES_UP 63 20, 15), (K.rdeStatus_ROLE 14, 0), (K.rdeStatus_ROLE 15, 0)]
  { m with power := { m.power with levels := [(.engine 15, 1), (.pra 3, 1)] }, hbm := { m.hbm with sizes := [(1, 1)] }, col := { m.col with
      active := ⟨[(5, gbits root)], [(0, ebits.getD 0 0), (1, ebits.getD 1 0)]⟩, live := [5], ops := ops } }

/-- The hypotheses of `RunsFor` but the operation and the entry. -/
def runs (m : Module) (lport : Nat) (f : Frame) (slot : Nat) (op : Op) (e : Option MemberEntry) : Bool :=
  m.col.active.directory (f.h.dst.toNat % 2 ^ 20) == some op.defIdx && m.col.live.contains op.defIdx &&
    m.opSlot op.defIdx f.h.flow.toNat == some slot && m.op slot == some op &&
    (Descriptor.decode f.col.descriptor).jobEpoch == op.gdef.jobEpoch && f.col.fingerprint == op.fp &&
    (match e with
     | none => downward f.col f.h.phase && !op.gdef.root && op.gdef.parent == lport
     | some x => !downward f.col f.h.phase && memberFor op.members lport f.col == some x) &&
    m.fifo lport (vcOf m.profile f.h) == []

/-- An operation of the photonic array 3: a SUM of MXFP8 over one slot of the group. -/
def pdbits : BitVec 256 := BitVec.ofNat 256 (6 * 2 ^ 243 + 6 * 2 ^ 238 + 2 ^ 233 + 65568 * 2 ^ 181 + 5 * 2 ^ 127 + 2 ^ 111 + 9 * 2 ^ 91)

def pop : Op :=
  { op0 0 1 [(1, { seg0 (some 3) [] with got := [⟨1, 0, false, 0, 0, 0, 32, List.replicate 33 0⟩] })] with
    desc := Descriptor.decode pdbits, descBits := pdbits, pra := true }

def praM (l : List (FKey × Nat)) (p : PraArray) : Module :=
  sets { group 0 [(4095, pop)] with pra := [(3, p)] } ((K.fwdCtrl_PROFILE 0, 0) :: l)

def pra0 : PraArray := { PraArray.initial with enabled := true }

def term0 (chan : Nat) (code : Int) : PraTerm :=
  { slot := 4095, seg := 1, fslot := 0, elem := 31, ranks := [0], epoch := 1, block := 0, shadow := true, chan := chan, code := code
    half := -127, scale := 0 }

/-- A CONTROL frame for the module's own location. -/
def ctlF (m : Module) (cls : Nat) (body : List Byte) : Frame :=
  Frame.withH ⟨0, toBytes 32 (CtlHeader.encode { cls := cls, isReply := false, reqId := 7, status := 0, bodyLen := body.length
                                                 chunk := 0, chunksM1 := 0 }) ++ body⟩
    { ver := 1, ftype := 7, phase := 0, esc := 0, ord := 0, hops := 9, seq := 0, flow := 0, dst := m.loc, src := 9, inter := 0
      xlen := 4 }

def req0 (cls : Nat) (body : List Byte) : CtlReq := ⟨9, 7, cls, body, 0, 0, 1⟩

/-- The module with a request of a listed requester, of every permission, in the endpoint. -/
def asks (l : List (FKey × Nat)) (cls : Nat) (body : List Byte) : Module :=
  let m := upM l
  { m with mpc := { m.mpc with requesters := [(0, (9, 0x3F))], queue := [req0 cls body] } }

def queued (m : Module) (cls : Nat) (r : CtlReq) : Bool :=
  m.coreFor (classPriority cls) && m.nextReq (classPriority cls) == some r && r.src == 9 && r.reqId == 7 && r.cls == cls

/-- A quorum body with that many signature blocks, all of key 0. -/
def qbody (dev : BitVec 64) (op sigs ver seq notAfter : Nat) (args : List Byte) : List Byte :=
  toBytes 1 op ++ toBytes 1 sigs ++ toBytes 2 args.length ++ toBytes 4 ver ++ toBytes 8 dev.toNat ++ toBytes 8 seq
    ++ toBytes 8 notAfter ++ args ++ List.replicate (16612 * sigs) 0

/-- A provisioned module of one manager. -/
def secM (f : SecUnit → SecUnit) : Module :=
  let m := upM []
  { m with sec := f { m.sec with state := { m.sec.state with
      provisioned := true, k := 1, managers := [List.replicate 432 0], ver := 3, seq := 5 } } }

/-- The module with a request of a class waiting in its endpoint. -/
def withReq (m : Module) (cls : Nat) (body : List Byte) : Module :=
  { m with mpc := { m.mpc with queue := [req0 cls body] } }

def judged (q : QBody) (sigs : List (Bool × Bool)) : Verdict :=
  verifyEntries 1 1 false ⟨[], 0⟩ ((numbered q.keys).map (fun x => (x.2, sigs.getD x.1 (false, false))))

def accepted (op : Nat) (args : List Byte) : Module := secM (fun u => { u with verified := some ⟨.smbus, op, 6, 1, args⟩ })

def dev : BitVec 64 := Config.deviceId

/-- The module with a rehearsal permission of every kind, a target named. -/
def rehM (t : Nat) (l : List (FKey × Nat)) : Module :=
  let m := upM ([(K.mpcInjArg_TARGET, t)] ++ l)
  { m with sec := { m.sec with rehearsal := some ⟨1, 0xFF, 9, []⟩ } }

def mayInj (m : Module) (kind : Nat) : Bool :=
  !m.isOn K.mpcInjStat_BUSY && m.rehearses kind && !m.targetBusy kind (m.injAt kind)

/-! ### Ill-formed commands -/

/-- The start's search tells of a ring that a port block does not have, or of fewer than four wavelengths. -/
theorem test_startLight_wf :
    (Instr.startLight [⟨0, 164, [none, none, none, none]⟩] []).wf = false ∧ (Instr.startLight [⟨64, 0, [none, none, none, none]⟩] []).wf = false ∧
      (Instr.startLight [⟨0, 0, [none]⟩] []).wf = false ∧ (Instr.startLight [⟨63, 163, [none, none, none, none]⟩] []).wf = true := by
  decide

/-- An image of seven credits, and one that enables a fifth array. -/
theorem test_startImageLoad_wf :
    (Instr.startImageLoad (load0 { image0 with layout := { layout0 with credits := [0] } }) (load0 image0)).wf = false ∧
      (Instr.startImageLoad (load0 image0) (load0 { image0 with praEnable := [4] })).wf = false ∧
      (Instr.startImageLoad (load0 image0) (load0 image0)).wf = true := by
  decide

/-- A patch brings structural sections by the IDs of R418. -/
theorem test_patch_wf :
    (Instr.patch 9 7 true true live0 [11]).wf = false ∧ (Instr.patch 9 7 true true live0 [1, 10]).wf = true := by
  decide

/-- A die has sixteen sensors; TRAIN carries eight credits; one SMBus block at most 32 bytes; a nonce has 32 bytes. -/
theorem test_lengths_wf :
    (Instr.dieTempRead 0 [20]).wf = false ∧ (Instr.trainReceive 0 0 ⟨1, 15, 9, 0, 0, 0, [0]⟩).wf = false ∧
      (Instr.smbFlashDataWrite .good (List.replicate 33 0)).wf = false ∧ (Instr.attest .smbus [0]).wf = false ∧
      (Instr.attestDone [0]).wf = false ∧ (Instr.quorum .smbus [] (List.replicate 32 (true, true))).wf = false := by
  decide

/-- LEN is the frame's length, and an extension lies within its frame. -/
theorem test_frames_wf :
    (Instr.dataFrameReceive 0 { lh0 with len := 25 } 0 pl0).wf = false ∧
      (Instr.dataFrameReceive 0 lh0 0 pl0).wf = true ∧
      (Instr.hostFrameReceive 0 0 (List.replicate 8192 0)).wf = false ∧
      ([fun f => Instr.contributionReceive 0 ⟨f, false, false⟩, .startFrameReceive 0, fun f => .partialReceive 0 ⟨f, false, false⟩,
        .resultReceive 0, .ackReceive 0, .doneReceive 0, .abortRequestReceive 0, .abortReceive 0, .controlFrameArrive 0].map
          (fun c => (c ⟨BitVec.ofNat 192 (255 * 2 ^ 24), List.replicate 8 0⟩).wf)) = List.replicate 9 false := by
  decide +kernel

/-! ### Worked examples of the spec -/

/-- "finding two registers of port 301" (spec/20_register_map.md): where COL_OP_STAT of sector 4 and LNK_LINK20_STATE of port
block 37 stand, the access to no register of PB37's LPE window, and the two to no window. -/
theorem test_port_301_registers :
    target 0x14C00108 = .reg .colOpStat 4 0 ∧ target 0x22508340 = .reg .lnkLinkState 37 20 ∧
      target 0x22507000 = .noRegister .lpe 37 ∧ target 0x22510000 = .noWindow ∧ target 0x18000000 = .noWindow := by
  decide +kernel

/-- "locating port 301" (spec/00_scope.md): port block 37, sector 4, and wavelength λ2 on logical port 301.2 of a port split in
four. -/
theorem test_port_301 :
    blockOf (4 * 301) = 37 ∧ sectorOf (4 * 301) = 4 ∧
      ({ upM [] with link := { (upM []).link with splits := [(301, 4)] } } : Module).lportOfLane 1206 = 4 * 301 + 2 := by
  decide +kernel

/-- "a sprayed frame and a frame going home" (spec/05_forwarding_and_detour.md): of the entries 0, 12 and 300 the key
0x2386_5004 takes index 300, with CSET 7, and the draw 0x9C40_0000 its member 1, on port 449. -/
theorem test_longest_match :
    (({ route := [(0, 0x000000001C000001), (12, 0x200000003C000007), (300, 0x238000005C000007)], set := [], member := [] } :
        RouteTables).lpm 0x23865004).map (fun e => (e.level, e.cset)) = some (2, 7) ∧
      (pick [(⟨0, 4, 4 * 448⟩, true), (⟨0, 4, 4 * 449⟩, true), (⟨0, 2, 4 * 450⟩, true), (⟨0, 2, 4 * 451⟩, true)]
        (0x9C400000 * 2 ^ 32)).map (·.lport) = some (4 * 449) := by
  decide +kernel

/-- The four terms of "two orders, one set of bits" (spec/09_exact_reduction_arithmetic.md). -/
def fourTerms : List Rec :=
  [0x3F800000, 0x4B800000, 0x3F800000, 0xCB800000].map (fun w => Rec.ofVal false 0 (Fmt.decode ⟨8, 23, 24, -126, 127, 127, true, 0⟩ w))

/-- Both orders end at A = 2^150; after rank 1 the first stands at 0x2000_0020_0000 in limb L2. -/
theorem test_two_orders :
    (([0, 1, 2, 3].map (fun i => fourTerms.getD i Rec.zero)).foldl Rec.add Rec.zero).a = BitVec.ofNat 320 (2 ^ 150) ∧
      (([1, 3, 0, 2].map (fun i => fourTerms.getD i Rec.zero)).foldl Rec.add Rec.zero).a = BitVec.ofNat 320 (2 ^ 150) ∧
      (([0, 1].map (fun i => fourTerms.getD i Rec.zero)).foldl Rec.add Rec.zero).a = BitVec.ofNat 320 (0x200000200000 * 2 ^ 128) := by
  decide +kernel

/-- x^10 = x^3 + 1 in the field of the codewords' symbols, and the inverse of a symbol (spec/04_links_and_presence.md). -/
theorem test_field : gfMul 2 0x200 = 9 ∧ gfMul 2 (gfInv 2) = 1 ∧ gfPow 2 1023 = 1 := by
  decide +kernel

/-- What the scrambler sends after state 3, the descrambler in state 3 reads back. -/
theorem test_scrambler : (descramble 3 (scramble 3 0xA5A5 16).2 16).2 = 0xA5A5 := by
  decide +kernel

/-- The opcode table gives no row any bits: no word spells a command, and placing one changes nothing. -/
theorem test_no_words (n w : Nat) : decodeTableWord n w = none ∧ State.reset.withFetchWord n w = State.reset := ⟨rfl, rfl⟩

/-! ### Witnesses of the hypotheses -/

/-- Whatever the right CRC is, another is wrong: the `crc ≠` premises of the links' statements are met by the right one plus 1. -/
theorem wit_WrongCrc (c : BitVec 32) : c + 1 ≠ c := by
  bv_omega

/-- What the check `runs` says. -/
theorem runsFor_of_runs {m : Module} {lport : Nat} {f : Frame} {slot : Nat} {op : Op} {e : Option MemberEntry}
    (h : runs m lport f slot op e = true) : m.RunsFor lport f slot op e := by
  cases e <;> simp_all [runs, Module.RunsFor]

/-- What the check `queued` says. -/
theorem queued_of {m : Module} {cls : Nat} {r : CtlReq} (h : queued m cls r = true) : m.Queued 9 7 cls r := by
  simp_all [queued, Module.Queued, and_assoc]

/-- What the check `mayInj` says. -/
theorem mayInject_of {m : Module} {kind : Nat} (h : mayInj m kind = true) : m.MayInject kind := by
  simp_all [mayInj, Module.MayInject]

/-- A quorum body names the device that it was made for. -/
theorem device_of_qbody (d : BitVec 64) (op sigs ver seq notAfter : Nat) (args : List Byte) :
    (QBody.decode (qbody d op sigs ver seq notAfter args)).device = d := by
  apply BitVec.eq_of_toNat_eq
  simp [QBody.decode, qbody, field, toBytes, ofBytes, List.range_succ]
  omega

/-- Whatever the factory recorded, some average stands between 1 and 2.5 dB below it (where 16 bits reach so far), and some
bias below the greatest. -/
theorem wit_LaserSwapsRun_averages (c : BitVec 16) (b : BitVec 12) (hc : -32668 ≤ c.toInt) (hb : 0 < b.toNat) :
    ∃ (tap : BitVec 16) (bias : BitVec 12), tap.toInt ≤ c.toInt - 100 ∧ c.toInt - 250 < tap.toInt ∧ bias.toNat < b.toNat := by
  refine ⟨BitVec.ofInt 16 (c.toInt - 100), 0, ?_, ?_, by simpa using hb⟩ <;>
    · rw [BitVec.toInt_ofInt, Int.bmod_def]
      have := c.toInt_lt
      omega

theorem wit_StepRunsFrontCommand : (⟨Module.reset, [.ppsOutFall]⟩ : State).pending = .ppsOutFall :: [] := rfl

theorem wit_steps :
    let s : State := ⟨Module.reset, [.ppsOutFall, .powerGood 3 7]⟩
    (QueueOk s ∧ FlashOk s ∧ ∃ t, step s = .next t) ∧
      ∃ t, exec .ppsOutFall s = .next t ∧ touchesFlash .ppsOutFall = false ∧ touchesSecurity .ppsOutFall = false := by
  refine ⟨⟨by unfold QueueOk; decide, by unfold FlashOk; decide, _, rfl⟩, _, rfl, rfl, rfl⟩

theorem wit_ResetValues :
    (∃ d ∈ RegName.fields .clkEvt, d.acc = .w1c) ∧ ∃ d ∈ RegName.fields .lnkLaneFec, d.acc = .rc := by
  decide

def s1 : Module := mod [(K.clkDomStat_SOURCE 4, 0), (K.clkDomStat_RAMP 4, 8)]

theorem wit_IdleTick :
    s1.domSource 4 ≠ 4 ∧ s1.domRamp 4 = 8 := by
  decide +kernel

def s2 : Module := upM []

theorem wit_PairsReadConsistently :
    RegName.hi .fwdTblDataLo = some .fwdTblDataHi ∧ s2.mayAccess .mpc 0 = true ∧
      s2.reach (regAddr .fwdTblDataLo 7 0) = .reg .fwdTblDataLo 7 0 ∧
      Tbl.find s2.captured (.mpc, .fwdTblDataLo, 7, 0) = none ∧
      s2.reach (regAddr .fwdTblDataHi 7 0) = .reg .fwdTblDataHi 7 0 := by
  decide +kernel

theorem wit_IdentityRegistersRead :
    ((upM []).mayAccess .mpc 1 = true ∧ (upM []).reach (regAddr .lpeId 63 0) = .reg .lpeId 63 0) ∧
    ((upM []).mayAccess .smb 1 = true ∧ (upM []).reach (regAddr .flyId 0 0) = .reg .flyId 0 0) := by
  refine ⟨?_, ?_⟩ <;> decide +kernel

def s5 : Module := upM []
def s6 : Module := upM []
def s7 : Module := { upM [] with loHeld := [((.mpc, .fwdTblDataLo, 7, 0), 9)] }
def s8 : Module := upM [(K.fwdCtrl_PROFILE 0, 2), (K.tmSchedStat_LOCKED 0, 1)]

theorem wit_RegisterWritesTakeEffect :
    (s5.mayAccess .mpc 1 = true ∧ s5.reach (regAddr .hbmCtrl 31 0) = .reg .hbmCtrl 31 0 ∧ RegName.acts .hbmCtrl = false ∧
      (RegName.reachesData .hbmCtrl = false ∨ s5.holdsWrites = false)) ∧
    (s6.mayAccess .jtag 1 = false ∧ s6.mayAccess .smb 1 = true ∧ s6.reach (regAddr .timAdjLo 0 0) = .reg .timAdjLo 0 0 ∧
      (RegName.hi .timAdjLo).isSome = true) ∧
    (s7.reach (regAddr .fwdTblDataHi 7 0) = .reg .fwdTblDataHi 7 0 ∧
      Tbl.find s7.loHeld (.mpc, .fwdTblDataLo, 7, 0) = some 9) ∧
    (s8.mayAccess .mpc 1 = true ∧ s8.reach (regAddr .tmQRate 7 0) = .reg .tmQRate 7 0 ∧ RegName.reachesData .tmQRate = true ∧
      s8.reach (regAddr .lpeCtrl 63 0) = .reg .lpeCtrl 63 0 ∧ RegName.reachesData .lpeCtrl = true ∧ s8.holdsWrites = true) ∧
    ((upM []).reach 0xFFFFFFFFFF = .fault .addrFault ∧ Requester.mpc ≠ .smb) := by
  refine ⟨?_, ?_, ?_, ?_, ?_⟩ <;> decide +kernel

def s10 : Module := upM [(K.clkStatus_NMI, 1)]
def s11 : Module := upM []
def s13 : Module := { upM [] with captured := [((.mpc, .timNowHi, 0, 0), 4)] }
def s14 : Module := upM [(K.telSel_INSTANCE, 1)]

theorem wit_RegisterReadsAnswer :
    (s10.mayAccess .mpc 0 = true ∧ s10.reach (regAddr .lnkLaneFec 63 31) = .reg .lnkLaneFec 63 31 ∧
      Tbl.find s10.captured (.mpc, .lnkLaneFec, 63, 31) = none) ∧
    (RegName.hi .timNowLo = some .timNowHi ∧ s11.reach (regAddr .timNowLo 0 0) = .reg .timNowLo 0 0 ∧
      Tbl.find s11.captured (.mpc, .timNowLo, 0, 0) = none) ∧
    ((upM []).reach (regAddr .glbLogData 0 0) = .reg .glbLogData 0 0 ∧
      Tbl.find (upM []).captured (.mpc, .glbLogData, 0, 0) = none) ∧
    (s13.reach (regAddr .timNowHi 0 0) = .reg .timNowHi 0 0 ∧ Tbl.find s13.captured (.mpc, .timNowHi, 0, 0) = some 4) ∧
    (s14.mayAccess .mpc 0 = true ∧ s14.reach (regAddr .telCntLo 0 0) = .reg .telCntLo 0 0 ∧
      Tbl.find s14.captured (.mpc, .telCntLo, 0, 0) = none ∧ s14.liveInstances (s14.getF K.telSel_EVENT / 32) ≤ s14.getF
      K.telSel_INSTANCE) := by
  refine ⟨?_, ?_, ?_, ?_, ?_⟩ <;> decide +kernel

def s15 : Module := upM []|>.raise .clk_XTAL_QUAL 0
def s17 : Module := { upM [] with tel := { Module.reset.tel with samples := [(1, 5)] } }
def s19 : Module := upM [(K.pwrStatus_STALLED, 1), (K.glbAlert_START_STALL, 1)]
def s20 : Module := upM [(K.glbAlert_START_STALL, 1)]

theorem wit_LogsAndAlertsMove :
    (s15.power.inReset = none ∧ 4 ≤ s15.startStep ∧ s15.coreFor 1 = true ∧
      ((s15.log.pend.filter (fun p => s15.mayLog p))[0]?).map (fun p => s15.suppressed p) = some false) ∧
    (((upM []).log.pend.filter (fun p => (upM []).mayLog p))[0]? = none) ∧
    (s17.answers .tel 0 = true ∧ s17.tel.samples = [(1, 5)]) ∧
    ((upM []).answers .tel 0 = true ∧ (upM []).tel.samples = []) ∧
    (s19.answers .glb 0 = true ∧ s19.isOn K.pwrStatus_STALLED = true) ∧
    (s20.answers .glb 0 = true ∧ s20.isOn K.pwrStatus_STALLED = false ∧
      (0xFFFFFFFF : Word).getLsbD K.glbAlert_START_STALL.lo = true) := by
  refine ⟨?_, ?_, ?_, ?_, ?_, ?_⟩ <;> decide +kernel

def s21 : Module := Module.reset
def s23 : Module := upM []

theorem wit_PowerAndResetPinsAct :
    (s21.power.inReset = some .powerOn ∧ s21.power.thermtripN = true) ∧
    (((upM []).power.inReset ≠ some .powerOn ∨ (upM []).power.thermtripN = false)) ∧
    (s23.power.inReset = none ∧ s23.power.request = none ∧ (100 ≤ 100) ∧ (1000 ≤ 1000)) := by
  refine ⟨?_, ?_, ?_⟩ <;> decide +kernel

def s24 : Module := { upM [] with power := { (upM []).power with warnFor := [(7, 9)], faultFor := [(6, 9)] } }
def s25 : Module := upM []
def s26 : Module := upM []

theorem wit_RailsAndDieTemperaturesAct :
    (s24.power.inReset ≠ some .powerOn ∧ (railOutside 7 2900 35 = true ∨ True) ∧ Tbl.get s24.power.faultFor 0 7 ≠ 9 ∧
      Tbl.get s24.power.warnFor 0 7 = 9) ∧
    (s25.power.inReset = none ∧ railRating 7 < (0xFFFF : BitVec 16).toNat ∧ s25.power.holds.contains (.rail 7) = false) ∧
    (s26.power.inReset ≠ some .powerOn ∧ (List.replicate 16 (105 : BitVec 8)) ≠ [] ∧
      ((List.replicate 16 (105 : BitVec 8)).map BitVec.toNat).foldl max 0 = 105 ∧ s26.getF (K.pwrDieTemp_TEMP 3) < 105 ∧
      ((List.replicate 16 (115 : BitVec 8)).map BitVec.toNat).foldl max 0 = 115) := by
  refine ⟨?_, ?_, ?_⟩ <;> decide +kernel

def s27 : Module :=
  upM [(K.clkDomStat_SOURCE 0, 0), (K.clkDomStat_SOURCE 1, 0), (K.fwdCtrl_PROFILE 0, 2), (K.tmSchedStat_STATE 0, 5),
    (K.pwrDieTemp_TEMP 3, 100)]
def s28 : Module :=
  upM [(K.clkDomStat_SOURCE 0, 0), (K.clkDomStat_SOURCE 1, 0), (K.pwrStatus_THROTTLE, 0x7888), (K.pwrDieTemp_TEMP 3,
    100 - 3)]
def s29 : Module := upM [(K.clkDomStat_SOURCE 0, 0), (K.clkDomStat_SOURCE 1, 0), (K.pwrDieTemp_TEMP 3, 100 - 1)]
def s30 : Module := upM [(K.clkDomStat_SOURCE 0, 0), (K.clkDomStat_SOURCE 1, 0)]
def s31 : Module :=
  let m := upM [(K.clkDomStat_SOURCE 0, 0), (K.clkDomStat_SOURCE 1, 0)]
  { m with power := { m.power with levels := [(.engine 16, 1)], steps := [(m.elapsed, 15000)], slewWaits := [(.engine 16, 0)], capWaits := [.engine 16] } }
def s32 : Module :=
  let m := praM [(K.clkDomStat_SOURCE 0, 0), (K.clkDomStat_SOURCE 1, 0)] { pra0 with causes := 8 }
  { m with elapsed := 100000000000, power := { m.power with lastRaise := [(.pra 3, 0)] } }
def s33 : Module :=
  let m := praM [(K.clkDomStat_SOURCE 0, 0), (K.clkDomStat_SOURCE 1, 0)] pra0
  { m with power := { m.power with steps := [(m.elapsed, 15000)] } }

theorem wit_ThrottleAndGovernorStep :
    (s27.coresRun = true ∧ s27.getF K.pwrCtrl_THERM_HOT ≤ s27.dieTemp 3 ∧ 4 < s27.throttle 3 ∧ s27.timetable = true ∧
      s27.lockState = 5) ∧
    (s28.coresRun = true ∧ s28.dieTemp 3 + 3 ≤ s28.getF K.pwrCtrl_THERM_HOT ∧ s28.throttle 3 < 8) ∧
    (s29.coresRun = true ∧ s29.dieTemp 3 < s29.getF K.pwrCtrl_THERM_HOT ∧ s29.getF K.pwrCtrl_THERM_HOT < s29.dieTemp 3 + 3) ∧
    (s30.coresRun = true ∧ s30.fixedLevel (.engine 17) = false ∧ s30.level (.engine 17) < GovUnit.top (.engine 17) ∧
      Tbl.find s30.power.lastRaise (.engine 17) = none ∧ s30.recentSteps true + GovUnit.cost (.engine 17) ≤ 15000 ∧
      s30.behind (.engine 17) = false ∧ (s30.capped (.engine 17) = true → s30.powerEstimate + GovUnit.cost (.engine 17) * 70
      ≤ s30.getF K.pwrCtrl_CAP_W * 10000)) ∧
    (s31.coresRun = true ∧ s31.fixedLevel (.engine 17) = false ∧ s31.level (.engine 17) < GovUnit.top (.engine 17) ∧
      Tbl.find s31.power.lastRaise (.engine 17) = none ∧ 15000 < s31.recentSteps true + GovUnit.cost (.engine 17) ∧
      Tbl.find s31.power.slewWaits (.engine 17) = none ∧ s31.fixedLevel (.engine 16) = false ∧ 0 < s31.level (.engine 16) ∧
      s31.recentSteps false + GovUnit.cost (.engine 16) ≤ 15000) ∧
    (s32.coresRun = true ∧ s32.fixedLevel (.pra 3) = false ∧ s32.level (.pra 3) < GovUnit.top (.pra 3) ∧
      (Tbl.find s32.power.lastRaise (.pra 3)).all (fun t => decide (GovUnit.between (.pra 3) ≤ s32.elapsed - t)) = true ∧
      s32.recentSteps true + GovUnit.cost (.pra 3) ≤ 15000 ∧ s32.behind (.pra 3) = false ∧
      (s32.capped (.pra 3) = true → s32.powerEstimate + GovUnit.cost (.pra 3) * 70 ≤ s32.getF K.pwrCtrl_CAP_W * 10000)) ∧
    (s33.coresRun = true ∧ s33.fixedLevel (.pra 3) = false ∧ s33.level (.pra 3) < GovUnit.top (.pra 3) ∧
      Tbl.find s33.power.lastRaise (.pra 3) = none ∧ 15000 < s33.recentSteps true + GovUnit.cost (.pra 3) ∧
      Tbl.find s33.power.slewWaits (.pra 3) = none) := by
  refine ⟨?_, ?_, ?_, ?_, ?_, ?_, ?_⟩ <;> decide +kernel

def s34 : Module := upM []
def s35 : Module :=
  let m := upM []
  { m with sec := { m.sec with state := { m.sec.state with expelled := true } } }
def s36 : Module :=
  let m := upM []
  { m with power := { m.power with request := some ⟨.warm, 4, true⟩, warmrstN := false } }
def s37 : Module :=
  let m := upM []
  { m with power := { m.power with request := some ⟨.sector 7, 0, false⟩, sectorsDown := [6] } }
def s38 : Module :=
  let m := upM [(K.lnkLinkState_STATE 63 31, 5)]
  { m with link := { m.link with splits := [(511, 4)] }, power := { m.power with request := some ⟨.warm, 4, true⟩ } }

theorem wit_ResetsAreRequestedAndEntered :
    (s34.mayAccess .mpc 1 = true ∧ s34.answers .pwr 0 = true ∧ s34.power.inReset = none ∧ s34.power.request = none ∧
      s34.sec.state.expelled = false ∧ s34.isReady = true ∧ s34.power.sectorsDown = [] ∧ s34.power.nextSectors = []) ∧
    (s35.mayAccess .mpc 1 = true ∧ s35.answers .pwr 0 = true ∧ s35.power.inReset = none ∧ s35.power.request = none ∧
      s35.sec.state.expelled = true) ∧
    (s36.power.request = some ⟨.warm, 4, true⟩ ∧ (∀ l ∈ s36.takenDown .warm, s36.linkState l ≠ 5)) ∧
    (s37.power.request = some ⟨.sector 7, 0, false⟩ ∧ s37.power.sectorsDown.contains 6 = true ∧
      s37.power.sectorsDown.contains 5 = false) ∧
    (s38.power.request = some ⟨.warm, 4, true⟩ ∧ 2047 ∈ s38.takenDown .warm ∧ s38.linkState 2047 = 5) := by
  refine ⟨?_, ?_, ?_, ?_, ?_⟩ <;> decide +kernel

def s39 : Module :=
  let m := atStep 1 []
  { m with sec := { m.sec with state := { m.sec.state with armed := some ⟨0, 255, 9, []⟩ } } }
def s40 : Module := atStep 1 []
def s42 : Module :=
  let m := atStep 3 []
  { m with power := { m.power with inReset := some .cold }, sec := { m.sec with state := { m.sec.state with armed := some ⟨0, 255, 9, []⟩ } } }
def s44 : Module := atStep 7 [(K.fwdCtrl_PROFILE 0, 2)]

theorem wit_StartStepsAdvance :
    (s39.power.holds = [] ∧ s39.atStep 1 = true ∧ s39.sec.state.armed = some ⟨0, 255, 9, []⟩) ∧
    (s40.power.holds = [] ∧ s40.atStep 1 = true ∧ s40.sec.state.armed = none) ∧
    ((atStep 2 []).power.holds = [] ∧ (atStep 2 []).atStep 2 = true) ∧
    (s42.power.holds = [] ∧ s42.startStep = 3 ∧ s42.power.inReset ≠ some .powerOn ∧
      s42.sec.state.armed = some ⟨0, 255, 9, []⟩) ∧
    ((atStep 6 []).atStep 6 = true) ∧
    (s44.atStep 7 = true ∧ s44.timetable = true) ∧
    ((atStep 8 []).atStep 8 = true) ∧
    ((atStep 9 []).atStep 9 = true) := by
  refine ⟨?_, ?_, ?_, ?_, ?_, ?_, ?_, ?_⟩ <;> decide +kernel

def s48 : Module := atStep 4 [(K.clkStatus_XTAL_OK, 1)]
def s50 : Module :=
  let m := atStep 4 []
  { m with sec := { m.sec with state := SecState.factory } }
def s51 : Module :=
  let m := atStep 4 []
  { m with img := { m.img with marker := some ⟨false, 7⟩ } }
def s52 : Module :=
  let m := atStep 4 []
  { m with img := { m.img with marker := some ⟨true, 7⟩ } }

theorem wit_SignaturesChooseCopies :
    ((atStep 4 []).atStep 4 = true ∧ firmwareChoice (atStep 4 []).sec.firmwareKey (atStep 4 []).sec.svn (fw false) (fw false)
      = none) ∧
    (s48.atStep 4 = true ∧ firmwareChoice s48.sec.firmwareKey s48.sec.svn (fw false) (fw true) = some true ∧
      s48.sec.state.counter ≤ s48.sec.state.ver.toNat ∧ s48.sec.state.pendingOp = none ∧ s48.sec.state.provisioned = true ∧
      s48.img.marker = none ∧ s48.copyChoice (copy0 true) (copy0 true) = some false) ∧
    ((atStep 4 []).atStep 4 = true ∧ firmwareChoice (atStep 4 []).sec.firmwareKey (atStep 4 []).sec.svn (fw true) (fw true) =
      some false) ∧
    (s50.atStep 4 = true ∧ firmwareChoice s50.sec.firmwareKey s50.sec.svn (fw true) (fw false) = some false ∧
      s50.sec.state.counter ≤ s50.sec.state.ver.toNat ∧ s50.sec.state.pendingOp = none ∧ s50.sec.state.provisioned = false) ∧
    (s51.atStep 4 = true ∧ firmwareChoice s51.sec.firmwareKey s51.sec.svn (fw true) (fw false) = some false ∧
      s51.sec.state.counter ≤ s51.sec.state.ver.toNat ∧ s51.sec.state.pendingOp = none ∧ s51.sec.state.provisioned = true ∧
      s51.copyChoice (copy0 false) (copy0 false) = none) ∧
    (s52.atStep 4 = true ∧ firmwareChoice s52.sec.firmwareKey s52.sec.svn (fw true) (fw false) = some false ∧
      s52.sec.state.counter ≤ s52.sec.state.ver.toNat ∧ s52.sec.state.pendingOp = none ∧ s52.sec.state.provisioned = true ∧
      s52.copyChoice (copy0 true) (copy0 false) = some false ∧ s52.img.marker.isSome = true) := by
  refine ⟨?_, ?_, ?_, ?_, ?_, ?_⟩ <;> decide +kernel

def s53 : Module := atStep 10 []
def s55 : Module := atStepWith [] 10 [(K.imgStatus_B_VALID, 1)]
def s56 : Module := atStep 10 []

theorem wit_ImageLoads :
    (s53.atStep 10 = true ∧ s53.isOn K.imgStatus_LOADED = false ∧
      s53.loadPlan (load0 image0) (load0 image0) = .load false false (load0 image0) ∧
      image0.sound ident0 (s53.imageHeader false).profile (decide (0 < s53.liveCount .hbm)) = true) ∧
    ((atStepWith [] 10 []).atStep 10 = true ∧ (atStepWith [] 10 []).loadPlan (load0 image0) (load0 image0) = .stall) ∧
    (s55.atStep 10 = true ∧ s55.loadPlan (load0 image0) (load0 image0) = .restart ∧ s55.power.request = none) ∧
    (s56.atStep 10 = true ∧ s56.loadPlan (load0 { image0 with powerCap := 999 }) (load0 image0) = .load false false (load0
      { image0 with powerCap := 999 }) ∧ Image.sound { image0 with powerCap := 999 } ident0 (s56.imageHeader false).profile
      (decide (0 < s56.liveCount .hbm)) = false) := by
  refine ⟨?_, ?_, ?_, ?_⟩ <;> decide +kernel

def s58 : Module :=
  let m := atStep 11 [(K.fwdCtrl_PROFILE 0, 2)]
  { m with power := { m.power with levels := (List.finRange 7).map (fun sec => (.pipe (sec.castLE (by omega)), 8)) ++ [(.pipe 7, 7)] } }
def s59 : Module :=
  let m := atStep 11 [(K.fwdCtrl_PROFILE 0, 2), (K.tmSchedCfg_MASTER 0, 1)]
  { m with power := { m.power with levels := (List.finRange 8).map (fun sec => (.pipe sec, 8)) } }
def s60 : Module :=
  let m := atStep 12 []
  { m with sec := { m.sec with svn := 0, runningSvn := 1 } }

theorem wit_AlignmentAndReady :
    ((atStep 11 []).atStep 11 = true ∧ (atStep 11 []).timetable = false) ∧
    (s58.atStep 11 = true ∧ s58.timetable = true ∧ s58.level (.pipe 7) ≠ 8) ∧
    (s59.atStep 11 = true ∧ s59.timetable = true ∧ (List.finRange 8).all (fun sec => s59.level (.pipe sec) == 8) = true ∧
      s59.lockState ≤ 1) ∧
    (s60.atStep 12 = true ∧ s60.isReady = false) ∧
    ((upM []).isReady = true) := by
  refine ⟨?_, ?_, ?_, ?_, ?_⟩ <;> decide +kernel

def s62 : Module :=
  let m := atStep 5 []
  { m with clock := { m.clock with firstWindow := some 8, goodWindows := 15 } }
def s63 : Module := upM [(K.clkDomStat_SOURCE 3, 0), (K.clkDomStat_RAMP 3, 8), (K.clkDomStat_RAMP 4, 7)]

theorem wit_CrystalAndMonitorsJudgeClocks :
    (s62.clockFailed 6 = false ∧ (s62.isOn K.clkStatus_XTAL_OK = true ∨ 5 ≤ s62.startStep) ∧ s62.atStep 5 = true ∧
      s62.isOn K.clkStatus_XTAL_OK = false ∧ s62.clock.firstWindow = some 8 ∧ 8 ≤ (3 : BitVec 16).toNat + 5 ∧
      (3 : BitVec 16).toNat ≤ 8 + 5 ∧ 15 ≤ s62.clock.goodWindows) ∧
    (s63.atStep 5 = false ∧ 2 ≤ s63.startStep ∧ s63.domSource 3 ≠ 4 ∧ (200 : BitVec 16).toInt.natAbs ≤ 200 ∧
      200 < (-201 : BitVec 16).toInt.natAbs ∧ s63.clockFailed 6 = false ∧ s63.isOn K.clkCtrl_FAIL_ACTION = false ∧
      s63.getF (K.clkDomStat_RAMP 2) = 0 ∧ 8 ≤ s63.getF (K.clkDomStat_RAMP 3) ∧ 0 < s63.getF (K.clkDomStat_RAMP 4) ∧
      s63.getF (K.clkDomStat_RAMP 4) < 8) := by
  refine ⟨?_, ?_⟩ <;> decide +kernel

def s64 : Module :=
  let m := upM [(K.timStatus_SET, 1), (K.timJumpMax_NS, 10)]
  { m with loHeld := [((.mpc, .timSetLo, 0, 0), 5), ((.mpc, .timAdjLo, 0, 0), 10), ((.smb, .timAdjLo, 0, 0), 11)] }
def s65 : Module :=
  let m := upM [(K.timCtrl_SET_SRC, 1)]
  { m with loHeld := [((.mpc, .timSetLo, 0, 0), 5), ((.mpc, .timAdjLo, 0, 0), 10)] }
def s66 : Module :=
  let m := upM [(K.timStatus_SET, 1), (K.timStatus_SLEWING, 1), (K.clkDomStat_SOURCE 4, 0), (K.clkDomStat_RAMP 4, 8)]
  { m with time := { m.time with running := true, slew := -1 } }

theorem wit_TimeStepsAndSlews :
    (s64.mayAccess .mpc 1 = true ∧ s64.answers .tim 0 = true ∧ Tbl.find s64.loHeld (.mpc, .timSetLo, 0, 0) = some 5 ∧
      s64.isOn K.timStatus_SET = true ∧ Tbl.find s64.loHeld (.mpc, .timAdjLo, 0, 0) = some 10 ∧
      ((((0 : Word) ++ (10 : Word)) : BitVec 64).toInt * 2 ^ 32 + s64.time.slew).natAbs ≤ s64.getF K.timJumpMax_NS * 2 ^ 32 ∧
      s64.getF K.timJumpMax_NS * 2 ^ 32 < ((((0 : Word) ++ (11 : Word)) : BitVec 64).toInt * 2 ^ 32 + s64.time.slew).natAbs)
      ∧
    (s65.mayAccess .mpc 1 = true ∧ s65.answers .tim 0 = true ∧ Tbl.find s65.loHeld (.mpc, .timSetLo, 0, 0) = some 5 ∧
      s65.isOn K.timStatus_SET = false) ∧
    (s66.isOn K.timStatus_SLEWING = true ∧ s66.time.stepDue = false ∧ s66.ticks = true ∧ s66.time.islandFrom = none ∧
      0 < s66.tickSlew ∧ s66.time.slew ≠ 0) := by
  refine ⟨?_, ?_, ?_⟩ <;> decide +kernel

def s67 : Module :=
  let m := upM [(K.timStatus_ARMED, 1), (K.timCtrl_PULSE_SRC, 1)]
  { m with time := { m.time with running := true, count := -1, ppsSeen := true } }

theorem wit_PulsesLatchTheCount :
    (s67.isOn K.timCtrl_PULSE_SRC = true ∧ (if true then s67.pulseLost else s67.pulseSoon) = false ∧
      s67.time.running = true ∧ s67.isOn K.timStatus_ARMED = true ∧ s67.time.ppsSeen = true ∧
      s67.isOn K.timStatus_SET = false) ∧
    ((upM []).time.ppsSeen = false) := by
  refine ⟨?_, ?_⟩ <;> decide +kernel

def s69 : Module :=
  let m := upM [(K.lnkLinkState_STATE 63 28, 3), (K.lnkLinkState_LANES_UP 63 28, 15), (K.timSyncStat_TIMEOUT, 1)]
  { m with time := { m.time with running := true } }
def s70 : Module :=
  let m := upM [(K.lnkLinkState_STATE 63 28, 3), (K.lnkLinkState_LANES_UP 63 28, 15), (K.timSyncStat_BUSY, 1)]
  { m with time := { m.time with running := true, sync := some ⟨2044, 0xFFFF, 1⟩ } }
def s71 : Module := upM [(K.fwdCtrl_PROFILE 0, 2), (K.tmSchedStat_STATE 0, 2)]
def s72 : Module := upM [(K.fwdCtrl_PROFILE 0, 2), (K.tmSchedStat_STATE 0, 3)]
def s73 : Module :=
  let m := upM [(K.fwdCtrl_PROFILE 0, 2), (K.tmSchedStat_STATE 0, 4)]
  { m with lock := { m.lock with failures := 1 } }
def s74 : Module :=
  let m := upM [(K.fwdCtrl_PROFILE 0, 2), (K.tmSchedStat_STATE 0, 4)]
  { m with lock := { m.lock with failures := 2 } }
def s75 : Module :=
  let m := upM [(K.fwdCtrl_PROFILE 0, 2), (K.tmSchedStat_STATE 0, 4)]
  { m with lock := { m.lock with verified := true } }
def s76 : Module := upM [(K.fwdCtrl_PROFILE 0, 2), (K.tmSchedStat_STATE 0, 6)]

theorem wit_SyncAndAlignmentRun :
    (s69.answers .tim 0 = true ∧ bitOf (0x800007FF : Word).toNat 31 = true ∧ s69.isOn K.timSyncStat_BUSY = false ∧
      s69.hears 2044 = true) ∧
    (s70.hears 2044 = true ∧ s70.time.sync = some ⟨2044, 0xFFFF, 1⟩) ∧
    (s71.timetable = true ∧ s71.lockState = 2 ∧ s71.lost 0 = false ∧ s71.power.sectorsDown = []) ∧
    (s72.timetable = true ∧ s72.lockState = 3) ∧
    (s73.timetable = true ∧ s73.lockState = 4 ∧ s73.lock.verified = false ∧ s73.lock.failures < 2) ∧
    (s74.timetable = true ∧ s74.lockState = 4 ∧ s74.lock.verified = false ∧ 2 ≤ s74.lock.failures) ∧
    (s75.timetable = true ∧ s75.lockState = 4 ∧ s75.lock.verified = true) ∧
    (s76.timetable = true ∧ (s76.lockState = 5 ∨ s76.lockState = 6) ∧ s76.lock.held = [] ∧ s76.lock.heldSwitch = none ∧
      s76.img.heldPatch = false) := by
  refine ⟨?_, ?_, ?_, ?_, ?_, ?_, ?_, ?_⟩ <;> decide +kernel

def s77 : Module :=
  let m := upM [(K.lpeStatus_STATE 63, 4)]
  { m with lpe := { m.lpe with rings := [((63, 163), lit 3), ((63, 159), lit 3), ((63, 155), { Ring.off with spare := true })] } }
def s78 : Module :=
  let m := upM [(K.lpeStatus_STATE 63, 4)]
  { m with lpe := { m.lpe with rings := [((63, 163), { lit 3 with locked := false, busy := true, relocks := 255 })] } }
def s79 : Module :=
  let m := upM [(K.lpeStatus_STATE 63, 4)]
  { m with lpe := { m.lpe with rings := [((63, 163), { lit 3 with assigned := 9 }), ((63, 162), { lit 3 with locked := false, busy := true, assigned := 9 }), ((63, 161), { Ring.off with spare := true, failed := true }), ((63, 75), { lit 3 with locked := false, busy := true, assigned := 9, lambda := 3 })] } }
def s80 : Module :=
  let m := mod [(K.pwrStatus_STEP, 8)]
  { m with lpe := { m.lpe with rings := [((63, 0), lit 3), ((63, 4), { Ring.off with failed := true }), ((63, 75), lit 3), ((63, 79), { Ring.off with failed := true }), ((63, 159), lit 3)] } }

theorem wit_RingsLoseAndRegainLock :
    ((s77.ring 63 163).locked = true ∧ (s77.ring 63 163).failed = false ∧ (s77.ring 63 159).failed = false ∧
      (s77.ring 63 159).spare = false ∧ s77.bankSpare 63 159 = some 155) ∧
    ((s78.ring 63 163).busy = true ∧ (s78.ring 63 163).failed = false) ∧
    ((s79.ring 63 163).locked = true ∧ (s79.ring 63 163).failed = false ∧ (s79.ring 63 162).busy = true ∧
      (s79.ring 63 162).failed = false ∧ s79.ringRests 63 162 = false ∧ (s79.ring 63 161).locked = false ∧
      (s79.ring 63 161).failed = true ∧ (s79.ring 63 161).spare = true ∧ (s79.ring 63 75).busy = true ∧
      (s79.ring 63 75).failed = false ∧ s79.ringRests 63 75 = true) ∧
    ((s80.ring 63 159).failed = false ∧ (s80.ring 63 159).spare = false ∧ s80.bankSpare 63 159 = none ∧
      s80.bankSpare 63 0 = none ∧ s80.bankSpare 63 75 = none) := by
  refine ⟨?_, ?_, ?_, ?_⟩ <;> decide +kernel

def s81 : Module := upM [(K.lpeStatus_STATE 63, 4)]
def s82 : Module :=
  let m := upM [(K.lpeStatus_STATE 63, 4)]
  { m with lpe := { m.lpe with fadeRun := [((63, 3), 2)] } }
def s83 : Module :=
  let m := upM [(K.lpeStatus_STATE 63, 4)]
  { m with lpe := { m.lpe with waiting := [(63, [3, 1])] }, sec := { m.sec with rehearsal := some ⟨1, 2, 9, []⟩ } }
def s84 : Module := upM [(K.lpeStatus_STATE 63, 4)]
def s85 : Module := upM [(K.lpeStatus_STATE 63, 4)]|>.putSwap 63 (some (swap0 .tuning))
def s86 : Module := upM [(K.lpeStatus_STATE 63, 4)]|>.putSwap 63 (some (swap0 .seeding))
def s87 : Module := upM [(K.lpeStatus_STATE 63, 4)]|>.putSwap 63 (some (swap0 (.combining 63)))
def s88 : Module := upM [(K.lpeStatus_STATE 63, 4)]|>.putSwap 63 (some (swap0 (.combining 64)))
def s89 : Module :=
  let m := upM [(K.lpeStatus_STATE 63, 4)]
  { m with lpe := { m.lpe with fadeRun := [((63, 3), 2)], waiting := [(63, [1])] } }
def s90 : Module :=
  let m := upM [(K.lpeStatus_STATE 63, 4)]
  { m with lpe := { m.lpe with waiting := [(63, [2])] }, sec := { m.sec with rehearsal := some ⟨1, 2, 9, []⟩ } }
def s91 : Module :=
  let m := upM [(K.lpeStatus_STATE 63, 4)]
  { m with sec := { m.sec with rehearsal := some ⟨1, 2, 9, []⟩ } }
def s92 : Module :=
  upM [(K.lpeStatus_STATE 63, 4)]|>.putSwap 63 (some { swap0 (.combining 64) with commanded := true, back := true })
def s93 : Module :=
  upM [(K.lpeStatus_STATE 63, 4)]|>.putSwap 63 (some { swap0 (.combining 64) with commanded := true })

theorem wit_LaserSwapsRun :
    (s81.engineLit 63 = true ∧ s81.drives 63 5 = false) ∧
    (s82.engineLit 63 = true ∧ s82.drives 63 3 = true ∧ Tbl.get s82.lpe.fadeRun 0 (63, 3) = 2 ∧
      s82.isOn (K.lpeCtrl_AUTO_SWAP 63) = true ∧ s82.hasSpare 63 3 = true ∧ s82.swapOf 63 = none ∧
      ((63, 3) : Nat × Nat) ∉ s82.lpe.noSpare ∧ 3 ∉ s82.waitingOf 63) ∧
    (s83.swapOf 63 = none ∧ s83.waitingOf 63 = 3 :: [1] ∧ s83.drives 63 3 = true ∧ s83.isOn (K.lpeCtrl_AUTO_SWAP 63) = true ∧
      s83.hasSpare 63 3 = true ∧ s83.answers .lpe 63 = true ∧ 63 < s83.liveCount .lpe) ∧
    (s84.answers .lpe 63 = true ∧ 63 < s84.liveCount .lpe ∧ s84.holdsWrites = false ∧ s84.driverOf 63 3 = some 3 ∧
      s84.swapOf 63 = none ∧ s84.rehearses 1 = false) ∧
    (s85.swapOf 63 = some (swap0 .tuning) ∧ (swap0 .tuning).phase = .tuning) ∧
    (s86.swapOf 63 = some (swap0 .seeding) ∧ (swap0 .seeding).phase = .seeding) ∧
    (s87.swapOf 63 = some (swap0 (.combining 63)) ∧ (swap0 (.combining 63)).phase = .combining 63 ∧ 63 < 64 ∧
      s87.lambdaBusy 63 3 = false) ∧
    (s88.swapOf 63 = some (swap0 (.combining 64)) ∧ (swap0 (.combining 64)).phase = .combining 64 ∧
      (swap0 (.combining 64)).commanded = false ∧ (swap0 (.combining 64)).old ≠ (swap0 (.combining 64)).new ∧
      (swap0 (.combining 64)).lambda < 4) ∧
    (s89.engineLit 63 = true ∧ s89.drives 63 3 = true ∧ Tbl.get s89.lpe.fadeRun 0 (63, 3) = 2 ∧ s89.swapOf 63 = none ∧
      ((63, 3) : Nat × Nat) ∉ s89.lpe.noSpare ∧ 3 ∉ s89.waitingOf 63 ∧ s89.waitingOf 63 ≠ []) ∧
    (s90.answers .lpe 63 = true ∧ 63 < s90.liveCount .lpe ∧ s90.holdsWrites = false ∧ s90.driverOf 63 3 = some 3 ∧
      s90.swapOf 63 = none ∧ s90.rehearses 1 = true ∧ s90.hasSpare 63 3 = true ∧
      s90.claimed 63 (spareOfLambda (s90.laserLambda 63 3)) = true) ∧
    (s91.answers .lpe 63 = true ∧ 63 < s91.liveCount .lpe ∧ s91.holdsWrites = false ∧ s91.driverOf 63 3 = some 3 ∧
      s91.swapOf 63 = none ∧ s91.rehearses 1 = true ∧ s91.hasSpare 63 3 = true ∧
      s91.claimed 63 (spareOfLambda (s91.laserLambda 63 3)) = false) ∧
    (s92.swapOf 63 = some { swap0 (.combining 64) with commanded := true, back := true }) ∧
    (s93.swapOf 63 = some { swap0 (.combining 64) with commanded := true } ∧ (swap0 (.combining 64)).oldFaded = false ∧
      (swap0 (.combining 64)).back = false) := by
  refine ⟨?_, ?_, ?_, ?_, ?_, ?_, ?_, ?_, ?_, ?_, ?_, ?_, ?_⟩ <;> decide +kernel

def s94 : Module := upM [(K.lpeStatus_STATE 63, 4), (K.lpePortApr_REDUCED 63 7, 1)]
def s95 : Module := upM [(K.lpeStatus_STATE 63, 4)]
def s96 : Module := upM [(K.lpeStatus_STATE 63, 4), (K.lpePortApr_REDUCED 63 7, 0)]
def s97 : Module := upM [(K.lpeStatus_STATE 63, 4), (K.lpePortApr_REDUCED 63 7, 1), (K.lpePortApr_LOS 63 7, 1)]

theorem wit_LightSetsReducedLaunch :
    (s94.engineLit 63 = true ∧ (-1401 : BitVec 16).toInt < -1400 ∧ -1400 ≤ (-1400 : BitVec 16).toInt ∧
      -1100 ≤ (-1100 : BitVec 16).toInt ∧ s94.isOn (K.lpePortApr_REDUCED 63 7) = true) ∧
    ((s95.portLit 63 7 = true ∧ s95.isOn (K.lpePortApr_REDUCED 63 7) = true ∨ s95.isOn (K.lpePortApr_REDUCED 63 7) = false) ∧
      s95.engineLit 62 = false ∧ s95.portLit 62 7 = false ∧ (-1101 : BitVec 16).toInt < -1100 ∧
      -1400 ≤ (-1101 : BitVec 16).toInt) ∧
    (s96.portLit 63 7 = true ∧ s96.isOn (K.lpePortApr_REDUCED 63 7) = false) ∧
    (s97.portLit 63 7 = true ∧ s97.isOn (K.lpePortApr_REDUCED 63 7) = true) := by
  refine ⟨?_, ?_, ?_, ?_⟩ <;> decide +kernel

def s99 : Module :=
  let m := upM []
  { m with fly := { m.fly with queue := List.replicate 64 (flyCmd .query) } }
def s100 : Module :=
  let m := upM [(K.flyCtrl_ENABLE, 1)]
  { m with fly := { m.fly with queue := [flyCmd .setUp] }, lpe := { m.lpe with rings := [((63, ringAt 7 3 0), lit 3), ((62, ringAt 7 2 0), lit 3), ((62, ringAt 7 0 0), lit 3)] } }
def s101 : Module :=
  let m := upM [(K.flySlotCfg_STATE 255, 2), (K.flySlotCfg_IN_PORT 255, 511), (K.flySlotCfg_OUT_PORT 255, 503)]
  { m with fly := { m.fly with queue := [flyCmd .setUp] } }
def s102 : Module :=
  let m := upM [(K.flySlotCfg_STATE 255, 2), (K.flySlotCfg_IN_PORT 255, 511), (K.flySlotCfg_OUT_PORT 255, 503)]
  { m with fly := { m.fly with queue := [flyCmd .tearDown] } }
def s103 : Module :=
  let m := upM [(K.flySlotCfg_STATE 255, 1), (K.flySlotCfg_OUT_PORT 255, 503), (K.lpePortApr_REDUCED 62 7, 0)]
  { m with fly := { m.fly with running := some (flyCmd .setUp) } }
def s104 : Module :=
  let m := upM [(K.flySlotCfg_STATE 255, 5)]
  { m with fly := { m.fly with running := some (flyCmd .tearDown) } }
def s105 : Module := asks [] 7 (toBytes 16 0)
def s106 : Module := asks [] 7 (toBytes 15 0 ++ [1])
def s107 : Module :=
  let m := upM []
  { m with fly := { m.fly with queue := [flyCmd .tearDown] } }
def s108 : Module :=
  let m := upM []
  { m with fly := { m.fly with queue := [flyCmd .query] } }

theorem wit_CircuitsAreCommanded :
    ((upM []).holdsWrites = false ∧ (upM []).fly.queue.length < 64 ∧ (upM []).takeReq 9 7 7 = none) ∧
    (s99.holdsWrites = false ∧ 64 ≤ s99.fly.queue.length) ∧
    (s100.fly.running = none ∧ s100.fly.queue = [flyCmd .setUp] ∧ (flyCmd .setUp).op = .setUp ∧
      s100.setUpStatus (flyCmd .setUp) = 0) ∧
    (s101.fly.running = none ∧ s101.fly.queue = [flyCmd .setUp] ∧ s101.setUpStatus (flyCmd .setUp) ≠ 0) ∧
    (s102.fly.running = none ∧ s102.fly.queue = [flyCmd .tearDown] ∧ s102.names (flyCmd .tearDown) = true) ∧
    (s103.fly.running = some (flyCmd .setUp) ∧ (flyCmd .setUp).op = .setUp ∧ s103.reduced (s103.slotOut 255) = false ∧
      255 ∉ s103.fly.detuned) ∧
    (s104.fly.running = some (flyCmd .tearDown) ∧ (flyCmd .tearDown).op = .tearDown) ∧
    ((s105.takeReq 9 7 7).isSome = true ∧ s105.isOn K.imgStatus_LOADED = true ∧ s105.permits 9 3 = true ∧
      s105.fly.queue.length < 64 ∧ (FlyCmd.decode (.frame 9 7) (ofBytes (toBytes 16 0))).op = .query) ∧
    ((s106.takeReq 9 7 7).isSome = true ∧ s106.isOn K.imgStatus_LOADED = true ∧ s106.permits 9 3 = true ∧
      s106.fly.queue.length < 64 ∧ ((FlyCmd.decode (.frame 9 7) (ofBytes ((toBytes 15 0 ++ [1]) ++ List.replicate 16 0))).op
      ≠ .query ∨ True)) ∧
    (s107.fly.running = none ∧ s107.fly.queue = [flyCmd .tearDown] ∧ s107.names (flyCmd .tearDown) = false) ∧
    (s108.fly.running = none ∧ s108.fly.queue = [flyCmd .query]) := by
  refine ⟨?_, ?_, ?_, ?_, ?_, ?_, ?_, ?_, ?_, ?_, ?_⟩ <;> decide +kernel

def s109 : Module := linked [(K.lnkLaneFec_UNCORR 63 31, 0xFFFF)]
def s110 : Module :=
  let m := linked []
  m.barLane 2047 .circuit

theorem wit_CodewordsAreCounted :
    (2 ≤ s109.linkState (s109.lportOfLane 2047) ∧ s109.linkState (s109.lportOfLane 2047) ≤ 5 ∧
      s109.deaf (s109.lportOfLane 2047) = false ∧ s109.laneTaken 2047 = false ∧ s109.linkState (s109.lportOfLane 0) < 2) ∧
    (s110.laneTaken 2047 = true ∧ 2 ≤ s110.linkState (s110.lportOfLane 2047)) := by
  refine ⟨?_, ?_⟩ <;> decide +kernel

def s111 : Module :=
  linkAt [] { Link.initial with expected := 0xFFFF, asked := some 2, retry := [⟨0, 0, frame0 1 0, true, false⟩] }
def s113 : Module := linkAt [] { Link.initial with expected := 5, asked := some 1 }
def s114 : Module := linkAt [] { Link.initial with reqCount := 2, reqLseq := 7 }|>.setF (K.lnkCtrl_RETRY_LIMIT 63) 3

theorem wit_LinkRetryAndCredits :
    (s111.hears 2044 = true ∧ (0xFFFF : BitVec 16) = (s111.lnk 2044).expected ∧ (s111.lnk 2044).asked = some 2 ∧
      (3 : BitVec 16) ≠ (s111.lnk 2044).reqLseq ∧ 1 < s111.getF (K.lnkCtrl_RETRY_LIMIT (blockOf 2044)) ∧
      s111.linkState 2044 = 3 ∧ (s111.lnk 2044).retry ≠ [] ∧ s111.offer 2044 ≠ 0) ∧
    ((linked []).hears 2044 = true ∧ ((linked []).lnk 2044).asked = none) ∧
    (s113.hears 2044 = true ∧ (s113.lnk 2044).asked.isSome = true ∧ (4 : BitVec 16) ≠ (s113.lnk 2044).expected ∧
      seqLe 4 (s113.lnk 2044).expected = true) ∧
    (s114.hears 2044 = true ∧ (s114.lnk 2044).asked = none ∧ seqLe 1 (s114.lnk 2044).expected = false ∧
      (7 : BitVec 16) = (s114.lnk 2044).reqLseq ∧ s114.getF (K.lnkCtrl_RETRY_LIMIT (blockOf 2044)) ≤ (s114.lnk 2044).reqCount
      + 1 ∧ s114.linkState 2044 = 3 ∧ s114.offer 2044 ≠ 0) := by
  refine ⟨?_, ?_, ?_, ?_⟩ <;> decide +kernel

def s115 : Module := linked [(K.lnkLinkState_LANES_UP 63 28, 8)]
def s116 : Module := linkAt [(K.lnkLinkState_PEER_STATE 63 28, 2)] { Link.initial with outOfSets := false }

theorem wit_KeepalivesTellStates :
    (s115.carries 2044 = true ∧ bitOf (s115.lanesUp 2044) 3 = true ∧ bitOf (s115.lanesUp 2044) 0 = false ∧
      s115.hears 2044 = true ∧ (2 : BitVec 4) = 2 ∧ s115.getF (K.lnkLinkState_PEER_STATE (blockOf 2044) (s115.linkIx 2044)) ≠
      2) ∧
    (s116.hears 2044 = true ∧ (s116.lnk 2044).outOfSets = false ∧ s116.hears 2043 = false) := by
  refine ⟨?_, ?_⟩ <;> decide +kernel

def s117 : Module := linked [(K.lnkLinkState_LANES_UP 63 28, 12)]
def s118 : Module := linkAt [(K.lnkLinkState_LANES_UP 63 28, 7)] { Link.initial with training := [3] }
def s119 : Module :=
  linkAt [(K.lnkLinkState_LANES_UP 63 28, 7)]
    { Link.initial with training := [3], changes := [change0 true true false true] }
def s120 : Module :=
  linkAt [(K.lnkLinkState_LANES_UP 63 28, 7)]
    { Link.initial with training := [3], changes := [change0 true false false true] }
def s121 : Module :=
  linkAt [(K.lnkLinkState_LANES_UP 63 28, 7)]
    { Link.initial with training := [3], changes := [change0 true false true true] }
def s122 : Module := upM []
def s123 : Module :=
  let m := upM [(K.lnkCtrl_SPARE_AUTO 63, 0)]
  { m with link := { m.link with eSpares := [(63, true, 1, 31)] } }
def s124 : Module := linked [(K.lnkLinkState_LANES_UP 63 28, 12)]
def s125 : Module :=
  let m := upM []
  { m with link := { m.link with eSpares := [(63, true, 0, 31), (63, true, 1, 30)] } }

theorem wit_LanesMoveAndAreSpared :
    (s117.hears 2044 = true ∧ lanesIn (s117.lanesUp 2044) (4 : BitVec 4).toNat = [3] ∧
      s117.lanesUp 2044 - ([3].map (2 ^ ·)).sum = 4 ∧ s117.lportOfLane 2047 = 2044 ∧ s117.laneIndex 2047 = 3 ∧
      (s117.linkState 2044 = 3 ∨ s117.linkState 2044 = 5) ∧ bitOf (s117.lanesUp 2044) 3 = true ∧
      s117.mapWithout 2044 3 ≠ 0) ∧
    (s118.hears 2044 = true ∧ lanesIn (15 : BitVec 4).toNat (s118.lanesUp 2044) = [3] ∧ 3 ∈ (s118.lnk 2044).training ∧
      bitOf (s118.offer 2044) 3 = true ∧ s118.lportOfLane 2047 = 2044 ∧ s118.laneIndex 2047 ∈ (s118.lnk 2044).training ∧
      (∀ x ∈ (s118.lnk 2044).changes, x.add = false ∨ x.lane ≠ s118.laneIndex 2047)) ∧
    (s119.hears 2044 = true ∧ (s119.lnk 2044).changes = [change0 true true false true] ∧
      (change0 true true false true).tag = 7 ∧ (change0 true true false true).add = true ∧
      (change0 true true false true).answered = true ∧ s119.carries 2044 = true ∧
      (change0 true true false true).lane ∈ (s119.lnk 2044).training ∧ bitOf (s119.offer 2044) 3 = true ∧
      bitOf (s119.lanesUp 2044) 3 = false) ∧
    ((s120.lnk 2044).changes.find? (fun x => x.add && x.ours && x.tag == 7 && !x.answered) = some (change0 true false false
      true) ∧ s120.isLport 2044 = true ∧ (change0 true false false true).retried = false) ∧
    ((s121.lnk 2044).changes.find? (fun x => x.add && x.ours && x.tag == 7 && !x.answered) = some (change0 true false true
      true) ∧ s121.isLport 2044 = true ∧ (change0 true false true true).retried = true) ∧
    (s122.isOn (K.lnkCtrl_SPARE_AUTO 63) = true ∧ s122.eSpareFor 63 true 0 ≠ some 31 ∧ s122.eSpareFor 63 true 1 ≠ some 31 ∧
      s122.freeESpare 63 true = some 0 ∧ s122.eSpareFor 63 true (33 - 32) = none) ∧
    (s123.isOn (K.lnkCtrl_SPARE_AUTO 63) = false ∧ s123.link.eSpares.find? (fun x => x.1 == 63 && x.2.1 == true && x.2.2.2 ==
      31) = some (63, true, 1, 31)) ∧
    (s124.hears 2044 = true) ∧
    (s125.isOn (K.lnkCtrl_SPARE_AUTO 63) = true ∧ s125.eSpareFor 63 true 0 ≠ some 0 ∧ s125.eSpareFor 63 true 1 ≠ some 0 ∧
      s125.freeESpare 63 true = none) := by
  refine ⟨?_, ?_, ?_, ?_, ?_, ?_, ?_, ?_, ?_⟩ <;> decide +kernel

def s126 : Module :=
  let m := linked [(K.lnkLinkState_STATE 63 28, 2), (K.lnkLinkState_LANES_UP 63 28, 0), (K.lnkLinkState_LANES_OFFERED 63 28,
    12), (K.lnkLinkState_RETRAINS 63 28, 255)]
  { m with power := { m.power with levels := [(.lanes 63, 1)] } }
def s127 : Module := linkAt [(K.lnkLinkState_STATE 63 28, 5)] { Link.initial with draining := true }
def s128 : Module :=
  let m := linkAt [(K.lnkLinkState_STATE 63 28, 5)] { Link.initial with draining := true }
  { m with power := { m.power with request := some ⟨.sector 7, 0, true⟩ } }
def s129 : Module :=
  linkAt [(K.lnkLinkState_STATE 63 28, 5)] { Link.initial with draining := true, drained := true }
def s130 : Module :=
  let m := linked [(K.fwdCtrl_PROFILE 0, 2), (K.lnkLinkState_STATE 63 28, 2), (K.lnkLinkState_LANES_UP 63 28, 0),
    (K.lnkLinkState_LANES_OFFERED 63 28, 12)]
  { m with power := { m.power with levels := [] } }

theorem wit_LinksTrainAndDrain :
    (s126.mayTrain 2044 = true ∧ s126.isLport 2044 = true ∧ blockOf 2044 = 63 ∧ s126.linkIx 2044 = 28 ∧
      (s126.linkState 2044 = 2 ∨ s126.linkState 2044 = 4) ∧ s126.deaf 2044 = false ∧
      ((natsWhere 4 (fun k => bitOf (s126.agreedLanes 2044) k && bitOf (10 : BitVec 4).toNat k)).map (2 ^ ·)).sum = 8) ∧
    (s127.isLport 2044 = true ∧ s127.linkState 2044 = 5 ∧ (s127.lnk 2044).draining = true ∧ (s127.lnk 2044).drained = false ∧
      s127.resetTakes 2044 = false ∧ s127.offer 2044 ≠ 0) ∧
    (s128.isLport 2044 = true ∧ s128.linkState 2044 = 5 ∧ (s128.lnk 2044).draining = true ∧ (s128.lnk 2044).drained = false ∧
      s128.resetTakes 2044 = true) ∧
    (s129.isLport 2044 = true ∧ s129.linkState 2044 = 5 ∧ (s129.lnk 2044).drained = true) ∧
    (s130.isLport 2044 = true ∧ (s130.linkState 2044 = 2 ∨ s130.linkState 2044 = 4) ∧ s130.deaf 2044 = false ∧
      (s130.mayTrain 2044 = false ∨ s130.mayTrain 2044 = true)) := by
  refine ⟨?_, ?_, ?_, ?_, ?_⟩ <;> decide +kernel

def s132 : Module :=
  let m := upM []
  { m with fwd := { m.fwd with copying := true, busy := [(7, 2, .set, 5, 6)] } }
def s133 : Module :=
  let m := upM []
  { m with fwd := { m.fwd with busy := [(7, 2, .set, 4095, 0x100000005)] }, col := { m.col with busy := [(7, 2, true, 262143, 0x10000000000000005)] } }
def s134 : Module :=
  let m := upM []
  { m with fwd := { m.fwd with busy := [(7, 1, .member, 65535, 0)], shadow := m.fwd.shadow.write .member 65535 0x500000006 }, col := { m.col with busy := [(7, 1, false, 65535, 0)], shadow := m.col.shadow.write false 65535 (2 ^ 255) } }
def s136 : Module :=
  let m := upM []
  { m with fwd := { m.fwd with busy := [(7, 2, .route, 8191, -1)] }, col := { m.col with busy := [(7, 2, false, 65535, -1)] } }
def s137 : Module :=
  let m := upM []
  { m with fwd := { m.fwd with busy := [(7, 2, .member, 65535, -1)] } }

theorem wit_TablesAreCommanded :
    ((upM []).answers .fwd 7 = true ∧ 7 < (upM []).liveCount .fwd ∧ (upM []).isOn (K.fwdTblStat_BUSY 7) = false ∧
      (upM []).answers .col 7 = true ∧ 7 < (upM []).liveCount .col ∧ (upM []).isOn (K.colGrpStat_BUSY 7) = false) ∧
    (s132.fwd.copying = true) ∧
    (s133.fwd.copying = false ∧ s133.fwd.busy.find? (fun b => b.1 == 7) = some (7, 2, .set, 4095, 0x100000005) ∧
      s133.col.busy.find? (fun b => b.1 == 7) = some (7, 2, true, 262143, 0x10000000000000005)) ∧
    (s134.fwd.copying = false ∧ s134.fwd.busy.find? (fun b => b.1 == 7) = some (7, 1, .member, 65535, 0) ∧
      s134.col.busy.find? (fun b => b.1 == 7) = some (7, 1, false, 65535, 0)) ∧
    ((upM []).mayAccess .jtag 1 = false ∧ (upM []).answers .fwd 7 = true ∧ 7 < (upM []).liveCount .fwd ∧
      (upM []).isOn (K.fwdTblStat_BUSY 7) = false) ∧
    (s136.fwd.copying = false ∧ s136.fwd.busy.find? (fun b => b.1 == 7) = some (7, 2, .route, 8191, -1) ∧
      s136.col.busy.find? (fun b => b.1 == 7) = some (7, 2, false, 65535, -1)) ∧
    (s137.fwd.busy.find? (fun b => b.1 == 7) = some (7, 2, .member, 65535, -1)) := by
  refine ⟨?_, ?_, ?_, ?_, ?_, ?_, ?_⟩ <;> decide +kernel

def s138 : Module :=
  let m := upM [(K.fwdVer_VERSION 0, 0xFFFF)]
  { m with fwd := { m.fwd with shadow := m.fwd.shadow.write .member 65535 6 } }
def s139 : Module :=
  let m := upM [(K.fwdCtrl_PROFILE 0, 2), (K.tmSchedStat_LOCKED 0, 1)]
  { m with fwd := { m.fwd with copying := true } }

theorem wit_VersionSwitch :
    (s138.mayAccess .mpc 1 = true ∧ s138.answers .fwd 0 = true ∧ 0 < s138.liveCount .fwd ∧ s138.img.patch = none ∧
      s138.holdsWrites = false ∧ s138.fwd.copying = false) ∧
    (s139.mayAccess .mpc 1 = true ∧ s139.answers .fwd 0 = true ∧ 0 < s139.liveCount .fwd ∧ s139.img.patch = none ∧
      s139.holdsWrites = true ∧ s139.fwd.copying = true ∧ s139.fwd.waiting = [] ∧ HeldTable.switch ∉ s139.fwd.waiting) := by
  refine ⟨?_, ?_⟩ <;> decide +kernel

def s140 : Module := linked []|>.putFifo 2044 7 [qf (uni 7 5) (.out 2044 0)]
def s141 : Module :=
  let m := linked []
  { m with power := { m.power with levels := [(.pipe 7, 1)] }, fwd := { m.fwd with active := m.fwd.active.write .route 0 (BitVec.ofNat 64 (2 ^ 28 + 2044 * 2 ^ 12)) } }|>.putFifo 2044 4 [qf (uni 7 5) (.out 2040 4)]|>.putFifo 2044 0 [qf (frame0 7 0) (.out 2040 0)]
def s142 : Module :=
  linkAt [] { Link.initial with held := List.replicate 8 1, nextLseq := 0xFFFF }|>.putQ 2044 4 (queue0 [qf (uni 7 5) (.out
    2044 4)] [])
def s144 : Module :=
  let m := linked []
  { m with power := { m.power with levels := [(.pipe 7, 1)] }, fwd := { m.fwd with active := m.fwd.active.write .route 0 (BitVec.ofNat 64 (2 ^ 28 + 2044 * 2 ^ 12)) } }|>.putFifo 2044 4 [qf (slotF 7) (.out 2040 4)]

theorem wit_HeadsMoveAndFramesLeave :
    (s140.fifo 2044 0 = [] ∧ s140.fifo 2044 7 = [qf (uni 7 5) (.out 2044 0)] ∧ s140.hostKeeps 2044 (uni 7 5) = false ∧
      isGroupType (uni 7 5).h.ftype.toNat = false ∧ s140.standsFor 2044 = true ∧ s140.slotTooLong 2044 0 (uni 7 5) = false ∧
      s140.reseqs (uni 7 5) 2044 = false ∧ s140.tollOk (uni 7 5) 2044 0 = true ∧ s140.place 2044 0 (uni 7 5).len = .sram ∧
      s140.hasTurn 2044 0 (portOf 2044) = true) ∧
    (s141.fifo 2044 4 = [qf (uni 7 5) (.out 2040 4)] ∧ (uni 7 5).h.ftype = 1 ∧ (uni 7 5).h.esc = 0 ∧
      s141.admits (.pipe (Fin.ofNat 8 (originOf 2044))) = true ∧
      ((s141.raise .fwd_ESCAPE (originOf 2044)).lookup (originOf 2044) ((qf (uni 7 5) (.out 2040 4)).asArrived.withH
      { (qf (uni 7 5) (.out 2040 4)).asArrived.h with esc := 1 })).2.isSome = true ∧
      s141.fifo 2044 0 = [qf (frame0 7 0) (.out 2040 0)] ∧ (frame0 7 0).h.ftype ≠ 1 ∧ (frame0 7 0).h.ftype ≠ 8) ∧
    (s142.standsFor 2044 = true ∧ s142.timetable = false ∧ (s142.seekReady 2044).2 = some 4 ∧
      ((s142.seekReady 2044).1.q 2044 4).sram = [qf (uni 7 5) (.out 2044 4)]) ∧
    ((linked []).standsFor 2044 = true ∧ (linked []).timetable = false ∧
      (List.range 7).all (fun v => (linked []).headState 2044 v != .ready) = true) ∧
    (s144.fifo 2044 4 = [qf (slotF 7) (.out 2040 4)] ∧ (slotF 7).h.ftype = 8 ∧ s144.timetable = false ∧ (slotF 7).h.esc = 0 ∧
      s144.admits (.pipe (Fin.ofNat 8 (originOf 2044))) = true ∧
      ((s144.raise .fwd_ESCAPE (originOf 2044)).lookup (originOf 2044) ((qf (slotF 7) (.out 2040 4)).asArrived.withH
      { (qf (slotF 7) (.out 2040 4)).asArrived.h with esc := 1 })).2.isSome = true) := by
  refine ⟨?_, ?_, ?_, ?_, ?_⟩ <;> decide +kernel

def s145 : Module :=
  let m := linked [(K.tmQSel_PORT 7, 63), (K.tmQSel_VC 7, 7)]
  m.putQ 2044 4 (queue0 [] [chunk0 false])|>.putQ 2044 5 (queue0 [] [chunk0 true])
def s146 : Module :=
  let m := linked []
  let m := m.putQ 2044 5 (queue0 [] [chunk0 true])
  { m with buf := { m.buf with budget := [(7, (4096, 0))] } }
def s147 : Module :=
  linked []|>.putQ 2044 5 { OutQueue.empty with shaper := { Shaper.off with rate := 5, wheel := some (0, 0, 0) } }
def s148 : Module := linked [(K.fwdCtrl_PROFILE 0, 2), (K.tmSchedStat_LOCKED 0, 1)]
def s149 : Module :=
  let m := linked []
  let m := m.putQ 2044 5 (queue0 [] [chunk0 true])
  { m with buf := { m.buf with budget := [(7, (4096, 0))] }, hbm := { m.hbm with chunks := [{ no := 0, sector := 7, octet := 15, region := 0, pool := false, use := .carafe 2044 5 }] } }

theorem wit_CarafeWheelAndShapersMove :
    (((s145.q 2044 4).carafe = [] ++ chunk0 false :: [] ∧ (chunk0 false).closed = false ∧
      ∀ x ∈ (s145.q 2044 5).carafe, x.closed = true) ∧ s145.mayReadBack 2044 4 = false ∧
      s145.dueIn 7 (s145.buf.wheel / slotUnits % 4096) = [] ∧ s145.mayAccess .mpc 1 = true ∧ s145.answers .tm 7 = true ∧
      7 < s145.liveCount .tm ∧ s145.tmSel 7 = (2044, 7) ∧ s145.holdsWrites = false ∧ s145.isLport 2044 = true) ∧
    ((s146.q 2044 5).carafe = [chunk0 true] ∧ (chunk0 true).handBack = false ∧ s146.mayReadBack 2044 5 = true ∧
      s146.buf.ctxs = []) ∧
    (s147.dueIn 7 (s147.buf.wheel / slotUnits % 4096) = [(2044, 5)] ∧ (s147.q 2044 5).shaper.wheel = some (0, 0, 0)) ∧
    (s148.mayAccess .mpc 1 = true ∧ s148.answers .tm 7 = true ∧ 7 < s148.liveCount .tm ∧ s148.holdsWrites = true) ∧
    ((s149.q 2044 5).carafe = [chunk0 true] ∧ s149.mayReadBack 2044 5 = true ∧
      (s149.hbmChunk (chunk0 true).index).isSome = true) := by
  refine ⟨?_, ?_, ?_, ?_, ?_⟩ <;> decide +kernel

def s150 : Module :=
  let m := linked []
  { m with buf := { m.buf with ctxs := [ctx0 true [qf (uni 7 5) (.out 2044 5)]] } }
def s151 : Module :=
  let m := linked []
  { m with buf := { m.buf with ctxs := [ctx0 true []] } }
def s152 : Module :=
  let m := linked []
  { m with buf := { m.buf with ctxs := [ctx0 false [qf (uni 7 0xFFFFFF) (.out 2044 5)]] } }
def s153 : Module :=
  let m := linked []
  { m with buf := { m.buf with ctxs := [ctx0 false []] } }
def s154 : Module :=
  let m := linked []
  { m with buf := { m.buf with ctxs := [ctx0 false [qf (uni 7 5) (.out 2044 5)]] } }

theorem wit_ContextsReleaseAndClose :
    (s150.ctx 2044 (8, 7, 3) = some (ctx0 true [qf (uni 7 5) (.out 2044 5)]) ∧
      (ctx0 true [qf (uni 7 5) (.out 2044 5)]).opening = true ∧ (ctx0 true [qf (uni 7 5) (.out 2044 5)]).gone = [] ∧
      (qf (uni 7 5) (.out 2044 5)).onDie = true ∧ s150.standsFor 2044 = true ∧ (s150.q 2044 5).spills = false) ∧
    (s151.ctx 2044 (8, 7, 3) = some (ctx0 true [])) ∧
    (s152.ctx 2044 (8, 7, 3) = some (ctx0 false [qf (uni 7 0xFFFFFF) (.out 2044 5)])) ∧
    (s153.ctx 2044 (8, 7, 3) = some (ctx0 false [])) ∧
    (s154.ctx 2044 (8, 7, 3) = some (ctx0 false [qf (uni 7 5) (.out 2044 5)]) ∧ (qf (uni 7 5) (.out 2044 5)).onDie = true ∧
      s154.standsFor 2044 = true ∧ (s154.q 2044 5).spills = false ∧ errOf [] (5 : BitVec 24) ≠ .double ∧
      (5 : BitVec 24) ≠ (ctx0 false []).expect) := by
  refine ⟨?_, ?_, ?_, ?_, ?_⟩ <;> decide +kernel

def s155 : Module := upM []
def s156 : Module :=
  let m := upM [(K.bufStatus_PLANES_ACTIVE 0, 0x7F), (K.bufStatus_SPARE_PLANE 0, 8)]
  { m with buf := { m.buf with planeTraining := some (7, 8) }, sram := { m.sram with ceRun := [((7, 0x1FFFFFF), 2)], rows := [((6, 511, 2047), { RowState.sound with moving := some 8 })] } }

theorem wit_PlanesAndRowsAreSpared :
    (bitOf s155.planes 7 = true ∧ s155.getF (K.bufStatus_SPARE_PLANE 0) ≤ 8 ∧ s155.buf.planeTraining = none ∧
      Tbl.get s155.sram.ceRun 0 (7, (0x1FFFFFF : BitVec 25).toNat) < 2 ∧ 7 ∉ s155.power.sectorsDown ∧
      (s155.sramRow 7 511 2047).moving = none) ∧
    (s156.buf.planeTraining = some (7, 8) ∧ Tbl.get s156.sram.ceRun 0 (7, (0x1FFFFFF : BitVec 25).toNat) = 2 ∧
      s156.sramRow 7 (sramBank 0x1FFFFFF) (sramRowOf 0x1FFFFFF) = RowState.sound ∧
      s156.rowSpare 7 (sramBank 0x1FFFFFF) (sramRowOf 0x1FFFFFF) = some 7 ∧ (s156.sramRow 6 511 2047).moving = some 8 ∧
      (s156.sramRow 6 511 2047).rehearsed = false) := by
  refine ⟨?_, ?_⟩ <;> decide +kernel

def s157 : Module := group 0 [(4095, op0 0 1 [(1, seg0 (some 3) [])])]
def s158 : Module := group 0 [(4095, op0 0 1 [(1, seg0 (some 3) [])])]

theorem wit_ContributionsAreAdded :
    (runs s157 2044 (colF 77 0 0 0 1 2048 32 0 (List.replicate 128 0)) 4095 (op0 0 1 [(1,
      seg0 (some 3) [])]) (some (ents.getD 0 ⟨false, 0, 0, 0⟩)) ∧ (op0 0 1 [(1, seg0 (some 3) [])]).state ≠ 3 ∧
      (op0 0 1 [(1, seg0 (some 3) [])]).passes = false ∧ (op0 0 1 [(1, seg0 (some 3) [])]).pra = false ∧
      s157.takes (seg0 (some 3) []) = true ∧ (seg0 (some 3) []).sent = false ∧
      (op0 0 1 [(1, seg0 (some 3) [])]).seg 1 = some (seg0 (some 3) []) ∧ (s157.hasHbm 7 = true ∧
      (seg0 (some 3) []).need 128 = 0 ∨ (s157.retain 4095 (op0 0 1 []) (seg0 (some 3) []) 128).2.isSome = true) ∧
      (seg0 (some 3) []).taken ≤ (seg0 (some 3) []).got.length ∧ s157.ranksLost (op0 0 1 []) [] = false ∧
      s157.rankLost (op0 0 1 []) 0 = false ∧ s157.rankLost (op0 0 1 []) 1 = false ∧
      s157.holdsWrite 7 false ((seg0 (some 3) []).need 128) = false ∧ (op0 0 1 []).desc.ordered = false ∧
      (s157.retain 4095 (op0 0 1 []) (seg0 (some 3) []) 128).2.isSome = true ∧ (seg0 (some 3) []).has 0 0 0 = false ∧
      (colF 77 0 0 0 1 2048 32 0 (List.replicate 128 0)).col.kind = 0 ∧ (op0 0 1 []).expects false false = true ∧
      (op0 0 1 []).slotOf 1 2048 false = some (0, 0) ∧ (op0 0 1 []).fits 1 0 (colF 77 0 0 0 1 2048 32 0 (List.replicate 128
      0)).col (colF 77 0 0 0 1 2048 32 0 (List.replicate 128 0)).data = true) ∧
    (runs s158 2040 (colF 77 0 1 1 1 16384 32 0 (List.replicate 320 0)) 4095 (op0 0 1 [(1,
      seg0 (some 3) [])]) (some (ents.getD 1 ⟨false, 0, 0, 0⟩)) ∧ (seg0 (some 3) []).has 1 0 0 = false ∧
      (s158.retain 4095 (op0 0 1 []) (seg0 (some 3) []) 320).2.isSome = true ∧
      s158.holdsWrite 7 false ((seg0 (some 3) []).need 320) = false ∧
      (colF 77 0 1 1 1 16384 32 0 (List.replicate 320 0)).col.kind = 1 ∧ (op0 0 1 []).expects true true = true ∧
      (op0 0 1 []).desc.ordered = false ∧ (op0 0 1 []).slotOf 1 16384 true = some (0, 0) ∧
      (op0 0 1 []).subFits (some (seg0 (some 3) [])) 1 0 (colF 77 0 1 1 1 16384 32 0 (List.replicate 320 0)).col 0 (colF 77 0
      1 1 1 16384 32 0 (List.replicate 320 0)).data = true ∧ subsMeet ((0, 0,
      32) :: (seg0 (some 3) []).run 1 0) = true) := by
  refine ⟨?_, ?_⟩ <;> decide +kernel

def s159 : Module := group 1 []

theorem wit_StartFrameStartsOperation :
    (colF 77 0 0 0 0 0 0 0 []).col.kind ≠ 3 ∧ (colF (fingerprintOf dbits) 0 3 0 0 0 0 0 []).col.kind = 3 ∧
      s159.fifo 2044 (vcOf s159.profile (colF (fingerprintOf dbits) 0 3 0 0 0 0 0 []).h) = [] ∧
      s159.col.active.directory 9 = some 5 ∧ 5 ∈ s159.col.live ∧ s159.opSlot 5 3 = none ∧
      memberFor (s159.col.active.entries (s159.col.active.groupDef 5)) 2044 (colF (fingerprintOf dbits) 0 3 0 0 0 0 0 []).col
      = some (ents.getD 0 ⟨false, 0, 0, 0⟩) ∧ (Descriptor.decode dbits).jobEpoch = (s159.col.active.groupDef 5).jobEpoch ∧
      (s159.opWindow 5).place 3 = .inside ∧ s159.fenced (s159.col.active.groupDef 5) = false ∧
      s159.checkDesc (s159.col.active.groupDef 5) (fingerprintOf dbits) dbits 9 = none ∧ s159.freeSlot = some 0 ∧
      (Descriptor.decode dbits).arith = true ∧ (Descriptor.decode dbits).ordered = false ∧
      (∀ l ∈ (Op.start 5 (s159.col.active.groupDef 5) (s159.col.active.entries (s159.col.active.groupDef 5)) 3 (colF
      (fingerprintOf dbits) 0 3 0 0 0 0 0 []).col).treeLinks, s159.isUp l = true) := by
  decide +kernel

def s160 : Module := group 0 [(4095, op0 0 1 [])]
def s161 : Module := group 1 [(4095, { op0 1 2 [] with acks := [(2040, 2)] })]

theorem wit_OperationFramesEndOperations :
    (runs s160 2036 (colF 77 1 2 0 1 2048 32 0 (List.replicate 128 0)) 4095 (op0 0 1 []) none ∧
      (op0 0 1 []).resultFits 1 0 (colF 77 1 2 0 1 2048 32 0 (List.replicate 128 0)).col (colF 77 1 2 0 1 2048 32 0
      (List.replicate 128 0)).data = true ∧ (colF 77 1 2 0 1 2048 32 0 []).col.kind = 2 ∧ (op0 0 1 []).state ≠ 3 ∧
      (op0 0 1 []).slotOf 1 2048 false = some (0, 0) ∧ ((1, 0) : Nat × Nat) ∉ (op0 0 1 []).results ∧
      runs s160 2044 (colF 77 0 4 0 0 0 0 5 []) 4095 (op0 0 1 []) (some (ents.getD 0 ⟨false, 0, 0, 0⟩)) ∧
      (colF 77 0 4 0 0 0 0 5 []).col.kind = 4 ∧ (op0 0 1 []).state = 1 ∧ Tbl.find (op0 0 1 []).acks 2044 = none ∧
      runs s160 2036 (colF 77 1 5 0 0 0 0 5 []) 4095 (op0 0 1 []) none ∧ (colF 77 1 5 0 0 0 0 5 []).col.kind = 5 ∧
      runs s160 2036 (colF 77 1 6 0 0 0 0 5 []) 4095 (op0 0 1 []) none ∧ (colF 77 1 6 0 0 0 0 5 []).col.kind = 6 ∧
      (colF 77 1 6 0 0 0 0 5 []).h.phase = 1 ∧ runs s160 2044 (colF 77 0 6 0 0 0 0 5 []) 4095 (op0 0 1 []) (some (ents.getD 0
      ⟨false, 0, 0, 0⟩)) ∧ (colF 77 0 6 0 0 0 0 5 []).h.phase = 0 ∧ (op0 0 1 []).gdef.root = false) ∧
    (runs s161 2044 (colF 77 0 4 0 0 0 0 1 []) 4095 { op0 1 2 [] with acks := [(2040, 2)] } (some (ents.getD 0 ⟨false, 0, 0,
      0⟩)) ∧ Tbl.find { op0 1 2 [] with acks := [(2040, 2)] }.acks 2044 = none ∧ (op0 1 2 []).gdef.root = true ∧
      (∀ x ∈ (op0 1 2 []).members, x.lport = 2044 ∨ (Tbl.find [(2040, 2)] x.lport).isSome = true) ∧
      (op0 1 2 []).n ≤ Op.ackSum { op0 1 2 [] with acks := [(2040, 2)] } + 1 ∧
      runs s161 2044 (colF 77 0 6 0 0 0 0 5 []) 4095 { op0 1 2 [] with acks := [(2040, 2)] } (some (ents.getD 0 ⟨false, 0, 0,
      0⟩))) := by
  refine ⟨?_, ?_⟩ <;> decide +kernel

def s162 : Module :=
  group 0 [(4095, op0 0 1 [(1, { seg0 (some 3) [(0, 0, 0), (1, 0, 0)] with subs := [((1, 0), 0)] })])]
def s163 : Module :=
  group 1 [(4095,
    { op0 1 1 [(0, { seg0 none [] with k := 0, sent := true }), (1, { seg0 none [] with sideHeld := true })] with side := [(0, .zero false)] })]
def s164 : Module := group 0 [(4095, op0 0 1 [(1, { seg0 none [] with moving := true })])]
def s165 : Module :=
  group 1 [(4095, op0 1 1 [(1, { seg0 (some 3) [(0, 0, 0), (1, 0, 0)] with subs := [((1, 0), 0)] })])]

theorem wit_SegmentsLeaveTheirEngine :
    ((s162.op 4095).bind (·.seg 1) = some { seg0 (some 3) [(0, 0, 0), (1, 0, 0)] with subs := [((1, 0), 0)] } ∧
      (op0 0 1 []).segDone + 1 ≠ (op0 0 1 []).desc.segments ∧
      ((s162.op 4095).map (fun o => o.segComplete { seg0 (some 3) [(0, 0, 0), (1, 0, 0)] with subs := [((1, 0), 0)] })) =
      some true ∧ ((op0 0 1 []).desc.keepsResidue = true → (seg0 (some 3) []).rin % residueP = (seg0 (some 3) []).residueOut)
      ∧ (op0 0 1 []).gdef.root = false ∧ (seg0 (some 3) []).corrupt = none ∧ (op0 0 1 []).sideOthers = none) ∧
    ((s163.op 4095).bind (·.seg 1) = some { seg0 none [] with sideHeld := true } ∧
      (s163.op 4095).map (fun o => (o.inTurn 1, o.segDone + 1 == o.desc.segments,
      o.segs.any (fun x => x.2.ready))) = some (true, false, false) ∧ (seg0 none []).window = none ∧
      (s163.op 4095).map (fun o => o.sideOthers.isSome) = some true ∧
      (s163.op 4095).bind (fun o => o.segs.find? (fun x => x.2.sideHeld)) = some (1,
      { seg0 none [] with sideHeld := true })) ∧
    ((s164.op 4095).bind (·.seg 1) = some { seg0 none [] with moving := true } ∧ (op0 0 1 []).state = 1 ∧
      (op0 0 1 []).segDone + 1 ≠ (op0 0 1 []).desc.segments ∧ (op0 0 1 []).home ∉ s164.power.sectorsDown ∧
      (seg0 none []).sent = false) ∧
    ((s165.op 4095).bind (·.seg 1) = some { seg0 (some 3) [(0, 0, 0), (1, 0, 0)] with subs := [((1, 0), 0)] } ∧
      (s165.op 4095).map (fun o => (o.segComplete { seg0 (some 3) [(0, 0, 0), (1, 0, 0)] with subs := [((1, 0), 0)] },
      o.inTurn 1, o.holdsSide (s165.opRecipe o) 1, o.gdef.root)) = some (true, false, false, true) ∧
      (op0 1 1 []).segDone + 1 ≠ (op0 1 1 []).desc.segments) := by
  refine ⟨?_, ?_, ?_, ?_⟩ <;> decide +kernel

def s166 : Module := group 1 [(4095, op0 1 1 [])]
def s167 : Module := group 0 [(4095, op0 0 1 [])]
def s168 : Module := group 0 [(4095, op0 0 1 [])]

theorem wit_TimersAndManagerEndOperations :
    (s166.op 4095 = some (op0 1 1 []) ∧ (op0 1 1 []).state ≠ 3 ∧ (op0 1 1 []).gdef.root = true ∧ (op0 1 1 []).home = 7 ∧
      s166.answers .col 7 = true ∧ 7 < s166.liveCount .col ∧ s166.holdsWrites = false ∧ s166.op 4094 = none) ∧
    (s167.op 4095 = some (op0 0 1 []) ∧ (op0 0 1 []).state ≠ 3 ∧ (op0 0 1 []).gdef.root = false) ∧
    (s168.op 4095 = some (op0 0 1 []) ∧ (op0 0 1 []).gdef.root = false ∧ (op0 0 1 []).home = 7 ∧ s168.answers .col 7 = true ∧
      7 < s168.liveCount .col ∧ s168.holdsWrites = false) := by
  refine ⟨?_, ?_, ?_⟩ <;> decide +kernel

def s169 : Module := group 0 [(4095, op0 0 1 [(1, segW)])]
def s170 : Module :=
  group 0 [(0,
    { op0 0 1 [(0, { seg0 (some 0) [] with k := 0 }), (1, { seg0 (some 1) [] with moving := true })] with op := 1 }), (1,
    { op0 0 1 [(0, { seg0 (some 2) [] with k := 0 }), (1, seg0 (some 3) [])] with op := 2 })]
def s171 : Module := group 0 [(4095, op0 0 1 [(1, { segW with moving := true, epoch := 2 })])]
def s172 : Module := group 0 [(4095, op0 0 1 [(1, seg0 none [])])]

theorem wit_EnginesAndWindows :
    (s169.freeWindow 15 = some 0 ∧ earliest ((s169.engineSegs 15).filter s169.wantsWindow) = some (4095, 1, segW) ∧
      s169.op 4095 = some (op0 0 1 [(1, segW)]) ∧ segW.moving = false ∧
      s169.ranksLost (op0 0 1 [(1, segW)]) segW.got = false ∧ s169.getF (K.rdeStatus_ROLE 15) = 0 ∧
      s169.getF (K.rdeStatus_ROLE (spareOf 15)) = 1 ∧ s169.getF (K.rdeStatus_ROLE 17) = 1) ∧
    (s170.freeWindow 15 = none ∧ (s170.op 0).bind (·.seg 1) = some { seg0 (some 1) [] with moving := true }) ∧
    ((s171.op 4095).bind (·.seg 1) = some { segW with moving := true, epoch := 2 } ∧ segW.engine = some 15 ∧
      (15, 6) ∉ segW.counted ∧ s171.rdeAdmits 15 = true ∧ (∃ d ∈ segW.got, d.epoch < 2) ∧
      s171.ranksLost (op0 0 1 []) segW.got = false ∧ (s171.putOp 4095 (op0 0 1 [(1,
      { segW with epoch := 2 })])).earlierWaits 15 (seg0 none []).order = false ∧
      (s171.putOp 4095 (op0 0 1 [(1, { segW with epoch := 2 })])).freeWindow 15 = some 0) ∧
    (s172.freeWindow 15 = some 0 ∧ earliest ((s172.engineSegs 15).filter s172.wantsWindow) = none ∧
      (s172.op 4095).bind (·.seg 1) = some (seg0 none []) ∧ (seg0 none []).moving = false) := by
  refine ⟨?_, ?_, ?_, ?_⟩ <;> decide +kernel

def s173 : Module := praM [(K.praStatus_STATE 3, 2), (K.praChanHi_UP 3, 2 ^ 31), (K.praCarrier_UP 3, 1)] pra0
def s174 : Module :=
  praM [(K.praStatus_STATE 3, 2), (K.praChanHi_UP 3, 2 ^ 31), (K.praCarrier_UP 3,
    1)] { pra0 with inFlight := [term0 63 5, term0 62 5] }
def s175 : Module := praM [(K.praStatus_STATE 3, 2)] { pra0 with compare := [term0 63 5], viols := [0, 0, 0] }
def s176 : Module := praM [(K.praStatus_STATE 3, 2)] { pra0 with compare := [term0 63 4] }

theorem wit_ConversionsAreChecked :
    (s173.op 4095 = some pop ∧ pop.pra = true ∧ praOf pop.home = 3 ∧ pop.state = 1 ∧ s173.praState 3 = 2 ∧
      s173.chanUp 3 63 = true ∧ s173.chanUp 3 0 = false ∧ (pop.seg 1).map (fun s => (s.window.isSome, s.moving,
      s.sent)) = some (true, false, false) ∧ (31 : BitVec 10).toNat < pop.desc.slotElems 1 0 ∧
      (pop.seg 1).map (fun s => s173.freeRanks 3 4095 s 0 31 (s173.groupRanks pop 0)) = some [0] ∧
      s173.admits (.pra 3) = true ∧ s173.badGroup pop (s173.groupRanks pop 0) = false ∧ s173.groupRanks pop 0 = [0] ∧
      (pop.seg 1).map (fun s => (s.delivery 0 0).isSome) = some true ∧ s173.praRuns 3 = true ∧ 0 ∉ (s173.praAt 3).retired ∧
      (s173.praAt 3).compare = []) ∧
    (s174.praRuns 3 = true ∧ s174.chanUp 3 63 = true) ∧
    ((s175.praAt 3).openBlocks = [] ∧ (s175.praAt 3).inFlight = [] ∧ (s175.praAt 3).compare = [term0 63 5] ∧
      s175.op (term0 63 5).slot = some pop ∧ (pop.seg (term0 63 5).seg).isSome = true ∧
      (pop.seg 1).map (fun s => decide (4 * (term0 63 5).lsb < (s175.termError pop s (term0 63 5)).natAbs)) = some true ∧
      3 ≤ ((s175.praAt 3).viols.filter (fun v => decide (s175.elapsed - v ≤ perSec))).length ∧ s175.praState 3 = 2) ∧
    ((s176.praAt 3).openBlocks = [] ∧ (s176.praAt 3).inFlight = [] ∧ (s176.praAt 3).compare = [term0 63 4] ∧
      (pop.seg 1).map (fun s => decide ((s176.termError pop s (term0 63 4)).natAbs ≤ 4 * (term0 63 4).lsb)) = some true) :=
      by
  refine ⟨?_, ?_, ?_, ?_⟩ <;> decide +kernel

def s177 : Module := praM [] pra0
def s178 : Module := praM [(K.praStatus_STATE 3, 1)] pra0
def s179 : Module := praM [(K.praStatus_STATE 3, 4)] pra0
def s180 : Module := praM [(K.praStatus_STATE 3, 5)] { pra0 with causes := 8 }
def s181 : Module := praM [(K.praStatus_STATE 3, 2)] pra0
def s182 : Module := praM [(K.praStatus_STATE 3, 3), (K.praStatus_PAUSE_WHY 3, 8)] { pra0 with causes := 8 }
def s183 : Module := praM [(K.praStatus_STATE 3, 3), (K.praStatus_PAUSE_WHY 3, 9)] { pra0 with causes := 9 }
def s184 : Module := praM [(K.praStatus_STATE 3, 5)] { pra0 with causes := 8, reenable := true }
def s185 : Module :=
  praM [(K.praStatus_STATE 3, 5)] { pra0 with reenable := true, ringless := [63], retired := [63, 0] }

theorem wit_ArraysChangeState :
    (s177.praAllowed 3 = true ∧ s177.praState 3 = 0 ∧ (s177.praAt 3).causes = 0 ∧ s177.admits (.pra 3) = true ∧
      s177.praAllowed 2 = false ∧ s177.praState 3 ≠ 1 ∧ s177.praState 3 ≠ 4 ∧ s177.praState 3 ≠ 5 ∧ s177.praState 3 ≠ 2 ∧
      s177.praState 3 ≠ 3) ∧
    (s178.praState 3 = 1 ∧ bitOf (s178.praAt 3).causes 3 = false ∧ (0x7FFF : BitVec 64).getLsbD 63 = false ∧
      63 ∉ (s178.praAt 3).retired ∧ (0x7FFF : BitVec 64).getLsbD 0 = true ∧ 0 ∉ (s178.praAt 3).retired) ∧
    (s179.answers .pra 3 = true ∧ s179.holdsWrites = false ∧ s179.praAllowed 3 = true ∧ s179.praState 3 = 4 ∧
      (s179.praAt 3).causes = 0 ∧ s179.admits (.pra 3) = true) ∧
    (s180.answers .pra 3 = true ∧ s180.holdsWrites = false ∧ s180.praAllowed 3 = true ∧ s180.praState 3 = 5 ∧
      (s180.praAt 3).causes ≠ 0) ∧
    (s181.praState 3 = 2) ∧
    (s182.praState 3 = 3 ∧ (s182.praAt 3).causes = 2 ^ 3 ∧ (s182.praAt 3).reenable = false) ∧
    (s183.praState 3 = 3 ∧ (s183.praAt 3).causes &&& (0xF - 2 ^ 3) ≠ 0 ∧ s183.praAllowed 3 = true ∧
      (s183.praAt 3).causes ≠ 0) ∧
    (s184.praState 3 = 5 ∧ (s184.praAt 3).causes = 2 ^ 3 ∧ (s184.praAt 3).reenable = true ∧ s184.admits (.pra 3) = true) ∧
    (s185.praAllowed 3 = true ∧ (s185.praAt 3).causes = 0 ∧ s185.admits (.pra 3) = true ∧
      (s185.praAt 3).reenable = true) := by
  refine ⟨?_, ?_, ?_, ?_, ?_, ?_, ?_, ?_, ?_⟩ <;> decide +kernel

def s186 : Module :=
  upM [(K.hbmStatus_STATE 31, 2), (K.hbmStatus_ADMIT 31, 2), (K.hbmStatus_STATE 30, 2), (K.hbmStatus_ADMIT 30, 1),
    (K.hbmTemp_TEMP 30, 95), (K.hbmStatus_STATE 28, 2), (K.hbmStatus_ADMIT 28, 1), (K.hbmTemp_TEMP 28, 94),
    (K.hbmStatus_STATE 29, 0)]

theorem wit_StacksActOnHeat :
    s186.getF (K.hbmCtrl_HOT 30) ≤ s186.tempNow 30 ∧ s186.tempNow 28 < s186.getF (K.hbmCtrl_HOT 28) ∧
      s186.getF (K.hbmStatus_STATE 31) ≠ 0 ∧ s186.stackReady 31 = true ∧ 1 < s186.getF (K.hbmStatus_ADMIT 31) ∧
      s186.getF (K.hbmStatus_ADMIT 31) < 4 ∧ s186.getF (K.hbmCtrl_HOT 31) ≤ (95 : BitVec 8).toNat ∧
      (92 : BitVec 8).toNat + 3 ≤ s186.getF (K.hbmCtrl_HOT 31) ∧ (93 : BitVec 8).toNat < s186.getF (K.hbmCtrl_HOT 31) ∧
      s186.getF (K.hbmCtrl_HOT 31) < (93 : BitVec 8).toNat + 3 ∧ s186.stackReady 30 = true ∧
      s186.getF (K.hbmStatus_ADMIT 30) = 1 ∧ s186.getF (K.hbmStatus_STATE 29) = 0 ∧ s186.stackReady 29 = false := by
  decide +kernel

def s187 : Module :=
  let m := upM [(K.hbmStatus_STATE 31, 2), (K.hbmStatus_STATE 29, 0)]
  { m with hbm := { m.hbm with stack := [(31, { HbmStack.initial with mapped := [(30, true, false)], failing := [(29, false, false)], ce := [(31, 0xFFFF)], scrubLate := true })] } }
def s188 : Module :=
  let m := upM [(K.hbmStatus_STATE 31, 2)]
  { m with hbm := { m.hbm with stack := [(31, { HbmStack.initial with ue := [(31, List.replicate 9 0)] })], chunks := [{ no := 7, sector := 7, octet := octetOf 31 31, region := 1, pool := false, use := .carafe 2044 5 }] } }

theorem wit_ChannelsAreMappedOut :
    (s187.stackReady 31 = true ∧ (s187.stack 31).isOut 31 = false ∧ 2 ≤ s187.getF (K.hbmStatus_STATE 31) ∧
      (s187.stack 31).isOut 30 = true ∧ s187.getF (K.hbmStatus_STATE 29) < 2 ∧
      (s187.stack 31).failing.find? (fun x => x.1 == 29) = some (29, false, false) ∧ (s187.stack 30).failing = []) ∧
    (2 ≤ s188.getF (K.hbmStatus_STATE 31) ∧ (s188.stack 31).isOut 31 = false ∧ s188.softFails 31 31 = true ∧
      s188.softFails 31 30 = false ∧ s188.hbmChunk 7 = some
      { no := 7, sector := 7, octet := octetOf 31 31, region := 1, pool := false, use := .carafe 2044 5 }) := by
  refine ⟨?_, ?_⟩ <;> decide +kernel

def s189 : Module := linked [(K.fwdLoc_LOC 0, 5)]
def s190 : Module :=
  let m := linked [(K.fwdLoc_LOC 0, 5)]
  { m with mpc := { m.mpc with replies := [⟨9, 7, 4, 0, [3]⟩], gather := [⟨8, 7, 4, 1, [], 0⟩, ⟨8, 8, 8, 1, [], 0⟩] } }
def s191 : Module :=
  let m := linked [(K.fwdLoc_LOC 0, 5)]
  { m with mpc := { m.mpc with queue := List.replicate 2048 ⟨8, 8, 5, [], 0, 0, 1⟩ } }
def s192 : Module :=
  let m := linked [(K.fwdLoc_LOC 0, 5)]
  { m with mpc := { m.mpc with queue := [req0 4 [1]] } }
def s193 : Module :=
  let m := linked [(K.fwdLoc_LOC 0, 5)]
  { m with mpc := { m.mpc with queue := List.replicate 2048 ⟨8, 8, 2, [], 0, 0, 1⟩ } }

theorem wit_ControlFramesQueue :
    (s189.hears 2044 = true ∧ (ctlF s189 11 []).h.dst = s189.loc ∧ (ctlF s189 11 []).h.ftype = 7 ∧
      (ctlF s189 11 []).ctl.isReply = false ∧ (ctlF s189 11 []).ctl.cls ≠ 3 ∧ s189.link.hostPorts.contains 2044 = false ∧
      classPriority (ctlF s189 11 []).ctl.cls = 0 ∧ classPriority (ctlF s189 4 [1]).ctl.cls ≠ 0 ∧ s189.mpc.gather = [] ∧
      s189.mpc.replies = [] ∧ s189.underWay 9 7 = false ∧ s189.endpointRoom (classPriority 4) = true ∧
      (ctlF s189 4 [1]).ctl.chunksM1 = 0 ∧ (frame0 7 32).h.dst ≠ s189.loc) ∧
    (((∀ x ∈ s190.mpc.gather, x.src ≠ 9 ∨ x.reqId ≠ 7) ∧ (∀ x ∈ s190.mpc.awaited, isOf 9 7 x = false)) ∧
      s190.mpc.replies.find? (fun x => x.src == 9 && x.reqId == 7) = some ⟨9, 7, 4, 0, [3]⟩ ∧
      s190.mpc.gather.find? (fun x => x.src == 8 && x.reqId == 7) = some ⟨8, 7, 4, 1, [], 0⟩ ∧
      s190.mpc.gather.find? (fun x => x.src == 8 && x.reqId == 8) = some ⟨8, 8, 8, 1, [], 0⟩ ∧
      s190.mpc.gather.find? (fun x => x.src == 8 && x.reqId == 9) = none) ∧
    (s191.mpc.replies = [] ∧ s191.underWay 9 7 = false ∧ s191.endpointRoom (classPriority 5) = false ∧ 3 ≤ classPriority 5) ∧
    (s192.hears 2044 = true ∧ s192.mpc.replies = [] ∧ s192.mpc.gather = [] ∧ (s192.underWay 9 7 = true ∧
      (∀ x ∈ s192.mpc.repeats, isOf 9 7 x = false))) ∧
    (s193.hears 2044 = true ∧ s193.mpc.replies = [] ∧ s193.underWay 9 7 = false ∧ s193.mpc.gather = [] ∧
      classPriority 2 ≠ 0 ∧ classPriority 2 ≤ 2 ∧ s193.endpointRoom (classPriority 2) = false) := by
  refine ⟨?_, ?_, ?_, ?_, ?_⟩ <;> decide +kernel

def s194 : Module := { asks [(K.imgStatus_LOADED, 0)] 1 (toBytes 8 5) with out := [] }
def s195 : Module :=
  let m := asks [] 1 (toBytes 8 5)
  { m with mpc := { m.mpc with requesters := [] } }
def s196 : Module := asks [] 1 (toBytes 8 (2 ^ 64 - 1))
def s197 : Module := asks [] 4 (toBytes 8 (regAddr .hbmCtrl 31 0).toNat)
def s198 : Module :=
  let m := asks [] 4 (toBytes 8 5)
  { m with mpc := { m.mpc with requesters := [(0, (9, 0x3E))] } }
def s199 : Module := asks [] 5 (toBytes 8 (regAddr .hbmCtrl 31 0).toNat ++ toBytes 4 96)
def s200 : Module := asks [] 5 (toBytes 8 (2 ^ 40 - 4) ++ toBytes 4 96)
def s201 : Module := asks [] 6 (toBytes 8 (2 ^ 40) ++ toBytes 8 (16383 * 2 ^ 32) ++ toBytes 32 5)
def s202 : Module :=
  let m := asks [] 6 (toBytes 8 (2 ^ 56 + 2 ^ 40) ++ List.replicate 40 0)
  { m with img := { m.img with patch := some ⟨8, 8, true, live0, [], 0⟩ } }

theorem wit_RequestsAreAnswered :
    (queued s194 1 (req0 1 (toBytes 8 5)) ∧ s194.isOn K.imgStatus_LOADED = false) ∧
    (queued s195 1 (req0 1 (toBytes 8 5)) ∧ s195.isOn K.imgStatus_LOADED = true ∧ s195.permOf 9 = none) ∧
    (queued s196 1 (req0 1 (toBytes 8 (2 ^ 64 - 1))) ∧ s196.isOn K.imgStatus_LOADED = true ∧ (s196.permOf 9).isSome = true) ∧
    (queued s197 4 (req0 4 (toBytes 8 (regAddr .hbmCtrl 31 0).toNat)) ∧ s197.isOn K.imgStatus_LOADED = true ∧
      s197.permits 9 0 = true ∧ field (req0 4 (toBytes 8 (regAddr .hbmCtrl 31 0).toNat)).body 0 1 = 0 ∧
      s197.reach ((req0 4 (toBytes 8 (regAddr .hbmCtrl 31 0).toNat)).addr 0) = .reg .hbmCtrl 31 0 ∧
      Tbl.find s197.captured (.src 9, .hbmCtrl, 31, 0) = none) ∧
    (queued s198 4 (req0 4 (toBytes 8 5)) ∧ s198.isOn K.imgStatus_LOADED = true ∧ s198.permits 9 0 = false) ∧
    (queued s199 5 (req0 5 (toBytes 8 (regAddr .hbmCtrl 31 0).toNat ++ toBytes 4 96)) ∧ s199.isOn K.imgStatus_LOADED = true ∧
      s199.permits 9 1 = true ∧ s199.reach ((req0 5 (toBytes 8 (regAddr .hbmCtrl 31 0).toNat ++ toBytes 4 96)).addr 0) = .reg
      .hbmCtrl 31 0 ∧ field (req0 5 (toBytes 8 (regAddr .hbmCtrl 31 0).toNat ++ toBytes 4 96)).body 0 1 = 0 ∧
      12 ≤ (req0 5 (toBytes 8 (regAddr .hbmCtrl 31 0).toNat ++ toBytes 4 96)).body.length) ∧
    (queued s200 5 (req0 5 (toBytes 8 (2 ^ 40 - 4) ++ toBytes 4 96)) ∧ s200.isOn K.imgStatus_LOADED = true ∧
      s200.permits 9 1 = true ∧ s200.reach ((req0 5 (toBytes 8 (2 ^ 40 - 4) ++ toBytes 4 96)).addr 0) = .fault .addrFault) ∧
    (queued s201 6 (req0 6 (toBytes 8 (2 ^ 40) ++ toBytes 8 (16383 * 2 ^ 32) ++ toBytes 32 5)) ∧
      s201.isOn K.imgStatus_LOADED = true ∧ s201.permits 9 2 = true ∧ s201.fwd.copying = false ∧
      bitOf (field (req0 6 (toBytes 8 (2 ^ 40) ++ toBytes 8 (16383 * 2 ^ 32) ++ toBytes 32 5)).body 0 1) 0 = false ∧
      field (req0 6 (toBytes 8 (2 ^ 40) ++ toBytes 8 (16383 * 2 ^ 32) ++ toBytes 32 5)).body 1 2 = 1 ∧
      field (req0 6 (toBytes 8 (2 ^ 40) ++ toBytes 8 (16383 * 2 ^ 32) ++ toBytes 32 5)).body 8 1 = 0 ∧
      48 ≤ (req0 6 (toBytes 8 (2 ^ 40) ++ toBytes 8 (16383 * 2 ^ 32) ++ toBytes 32 5)).body.length) ∧
    (queued s202 6 (req0 6 (toBytes 8 (2 ^ 56 + 2 ^ 40) ++ List.replicate 40 0)) ∧
      bitOf (field (req0 6 (toBytes 8 (2 ^ 56 + 2 ^ 40) ++ List.replicate 40 0)).body 0 1) 0 = true ∧
      s202.img.patch.isSome = true) ∧
    ((upM []).mpc.queue = []) := by
  refine ⟨?_, ?_, ?_, ?_, ?_, ?_, ?_, ?_, ?_, ?_⟩ <;> decide +kernel

def s204 : Module := asks [(K.imgSeq_SEQ, 5), (K.imgPatchSeq_SEQ, 6)] 8 (toBytes 4 5 ++ toBytes 4 7 ++ [1])
def s205 : Module := asks [(K.imgSeq_SEQ, 5), (K.imgPatchSeq_SEQ, 6)] 8 (toBytes 4 5 ++ toBytes 4 6 ++ [1])
def s206 : Module :=
  let m := upM [(K.imgPatchSeq_SEQ, 0xFFFFFFFF)]
  { m with img := { m.img with patch := some ⟨9, 7, true, live0, [5], 3⟩, identity := some ident0 } }
def s207 : Module :=
  let m := upM [(K.fwdCtrl_PROFILE 0, 2), (K.tmSchedStat_LOCKED 0, 1)]
  { m with img := { m.img with patch := some ⟨9, 7, true, live0, [5], 3⟩ } }
def s208 : Module :=
  let m := asks [] 10 ([0, 1] ++ List.replicate 6 0 ++ toBytes 2 0x462 ++ toBytes 2 2047 ++ toBytes 2 1)
  { m with counters := [((0x462, 2047), 2 ^ 64 - 1)] }
def s209 : Module :=
  let m := asks [] 10 [1, 0]
  { m with tel := { m.tel with samples := List.replicate 251 (4, 5) } }

theorem wit_PatchesAndTelemetry :
    (queued s204 8 (req0 8 (toBytes 4 5 ++ toBytes 4 7 ++ [1])) ∧ s204.isOn K.imgStatus_LOADED = true ∧
      s204.permits 9 4 = true ∧ field (req0 8 (toBytes 4 5 ++ toBytes 4 7 ++ [1])).body 0 4 = s204.getF K.imgSeq_SEQ ∧
      field (req0 8 (toBytes 4 5 ++ toBytes 4 7 ++ [1])).body 4 4 = s204.getF K.imgPatchSeq_SEQ + 1) ∧
    (queued s205 8 (req0 8 (toBytes 4 5 ++ toBytes 4 6 ++ [1])) ∧
      field (req0 8 (toBytes 4 5 ++ toBytes 4 6 ++ [1])).body 4 4 ≠ s205.getF K.imgPatchSeq_SEQ + 1) ∧
    (s206.img.patch = some ⟨9, 7, true, live0, [5], 3⟩ ∧ s206.patchUnsound = false ∧ s206.fwd.copying = false ∧
      s206.img.heldPatch = false ∧ s206.holdsWrites = false) ∧
    (s207.img.patch = some ⟨9, 7, true, live0, [5], 3⟩ ∧ s207.patchUnsound = false ∧ s207.fwd.copying = false ∧
      s207.img.heldPatch = false ∧ s207.holdsWrites = true) ∧
    (queued s208 10 (req0 10 ([0, 1] ++ List.replicate 6 0 ++ toBytes 2 0x462 ++ toBytes 2 2047 ++ toBytes 2 1)) ∧
      s208.isOn K.imgStatus_LOADED = true ∧ s208.permits 9 0 = true ∧ s208.img.patch = none ∧
      2047 < groupInstances (0x462 / 32) ∧ field ([0, 1] ++ List.replicate 6 0 ++ toBytes 2 0x462 ++ toBytes 2 2047 ++
      toBytes 2 1) 8 2 = 0x462 ∧ field ([0, 1] ++ List.replicate 6 0 ++ toBytes 2 0x462 ++ toBytes 2 2047 ++ toBytes 2 1) 10
      2 = 2047 ∧ field ([0, 1] ++ List.replicate 6 0 ++ toBytes 2 0x462 ++ toBytes 2 2047 ++ toBytes 2 1) 12 2 = 1) ∧
    (queued s209 10 (req0 10 [1, 0]) ∧ field (req0 10 [1, 0]).body 0 1 ≠ 0 ∧ s209.tel.samples.head? = some (4, 5)) ∧
    ((upM []).img.patch = none) := by
  refine ⟨?_, ?_, ?_, ?_, ?_, ?_, ?_⟩ <;> decide +kernel

def s211 : Module := { asks [] 9 [1, 0] with flash := [(0x24000000, 5), (0x43FFFFFF, 5), (0x44000000, 5)] }
def s212 : Module :=
  let m := asks [] 9 ([0, 1, 0, 0] ++ toBytes 4 (2 ^ 25 - 2) ++ [7, 8])
  { m with img := { m.img with written := [(0, 2 ^ 25 - 2)] } }
def s213 : Module := asks [] 9 ([0, 1, 0, 0] ++ toBytes 4 0 ++ [7, 8])
def s214 : Module :=
  let m := asks [(K.imgStatus_ACTIVE, 1)] 9 [1, 2]
  { m with flash := cellsPut [] 0x04000000 (copyBytes m dir0) }

theorem wit_FlashRequestsActOnFlash :
    (Memory.wf s211.flash = true ∧ queued s211 9 (req0 9 [1, 0]) ∧ s211.fallingBack = false ∧
      s211.isOn K.imgStatus_LOADED = true ∧ s211.permits 9 5 = true ∧
      (0x24000000 : Nat) = copyBase (req0 9 [1, 0]).region (s211.inactiveB (req0 9 [1, 0]).region) ∧
      (req0 9 [1, 0]).flashOp = 0) ∧
    (Memory.wf s212.flash = true ∧ queued s212 9 (req0 9 ([0, 1, 0, 0] ++ toBytes 4 (2 ^ 25 - 2) ++ [7, 8])) ∧
      (req0 9 ([0, 1, 0, 0] ++ toBytes 4 (2 ^ 25 - 2) ++ [7, 8])).flashOp = 1 ∧
      (req0 9 ([0, 1, 0, 0] ++ toBytes 4 (2 ^ 25 - 2) ++ [7, 8])).region = 0 ∧
      Tbl.find s212.img.written 0 = some (field (req0 9 ([0, 1, 0, 0] ++ toBytes 4 (2 ^ 25 - 2) ++ [7, 8])).body 4 4) ∧
      field (req0 9 ([0, 1, 0, 0] ++ toBytes 4 (2 ^ 25 - 2) ++ [7, 8])).body 4 4 + 2 ≤ copySize 0) ∧
    (queued s213 9 (req0 9 ([0, 1, 0, 0] ++ toBytes 4 0 ++ [7, 8])) ∧ Tbl.find s213.img.written 0 ≠ some 0) ∧
    (Memory.wf s214.flash = true ∧ queued s214 9 (req0 9 [1, 2]) ∧ (req0 9 [1, 2]).flashOp = 2 ∧ (req0 9 [1, 2]).region = 1 ∧
      s214.copyVerifies 1 true true false = true ∧ s214.copyVerifies 1 true false true = false) := by
  refine ⟨?_, ?_, ?_, ?_⟩ <;> decide +kernel

def s215 : Module :=
  let m := atStep 5 [(K.pwrStatus_STALLED, 1)]
  { m with mpc := { m.mpc with smbFlash := 0x44FFFFE0 }, flash := [(0x44FFFFFF, 5)] }
def s216 : Module :=
  let m := upM []
  { m with mpc := { m.mpc with repairWait := [(5, 1000000000)], repairUsed := repairSlots - 1 } }
def s217 : Module :=
  let m := upM []
  { m with mpc := { m.mpc with repairWait := [(5, 1000000000)], repairUsed := repairSlots } }

theorem wit_RecoveryAndRecordsReachFlash :
    (Memory.wf s215.flash = true ∧ s215.smbAnswers = true ∧ s215.pecOk .good = true ∧ s215.isOn K.pwrStatus_STALLED = true ∧
      (s215.startStep = 4 ∨ s215.startStep = 5) ∧ 0x44FFFFE0 + 32 ≤ 0x45000000 ∧ s215.mpc.repairWait = []) ∧
    (s216.mpc.repairWait = (5, 1000000000) :: [] ∧ s216.mpc.repairUsed < repairSlots) ∧
    (s217.mpc.repairWait = (5, 1000000000) :: [] ∧ repairSlots ≤ s217.mpc.repairUsed) := by
  refine ⟨?_, ?_, ?_⟩ <;> decide +kernel

def s218 : Module :=
  let m := linked [(K.lnkLinkPeera_LOC 63 28, 9), (K.fwdLoc_LOC 0, 5)]
  { m with mpc := { m.mpc with group := [m.loc], hostWait := [(2044, 0, frame0 7 32)], hostTokens := 1 } }
def s219 : Module :=
  let m := asks [] 5 []
  { m with mpc := { m.mpc with hostTokens := 0, core0 := 3, coreMoving := some 3, spareOut := true } }
def s221 : Module :=
  let m := upM [(K.telSink_LOC, 9)]
  { m with tel := { m.tel with samples := List.replicate 251 (4, 5) } }
def s222 : Module := upM [(K.mpcStatus_CORES_UP, 0xE)]
def s223 : Module := linked [(K.fwdLoc_LOC 0, 5)]

theorem wit_BridgeSinkAndCores :
    (s218.hears 2044 = true ∧ ctlF s218 4 [] = payloadFrame (payloadOf (ctlF s218 4 [])) ∧ (ctlF s218 4 []).h.ftype = 7 ∧
      (ctlF s218 4 []).h.src = s218.peerLoc 2044 ∧ (ctlF s218 4 []).h.dst ∈ s218.mpc.group ∧ (frame0 1 0).h.ftype ≠ 7 ∧
      s218.mpc.hostWait.find? (fun y => y.1 == 2044) = some (2044, 0, frame0 7 32) ∧ 0 < s218.hostTokens) ∧
    (s219.hostTokens = 0 ∧ s219.queued 3 ≠ 0 ∧ s219.isOn K.mpcStatus_OVERLOAD = false ∧ s219.mpc.coreMoving = some 3) ∧
    ((upM []).queued 3 = 0 ∧ (upM []).getF K.telSink_LOC = 0 ∧ (upM []).mpc.coreMoving = none ∧ (upM []).spareReady = true ∧
      bitOf ((upM []).getF K.mpcStatus_CORES_UP) 3 = true) ∧
    (s221.getF K.telSink_LOC ≠ 0 ∧ s221.coreFor 5 = true ∧ s221.nextReq 5 = none ∧ s221.tel.samples.head? = some (4, 5)) ∧
    ((bitOf (s222.getF K.mpcStatus_CORES_UP) 0 = false ∧ ((0 : Fin 5) ≠ 4 ∨ s222.mpc.spareOut = true))) ∧
    (s223.hears 2044 = true ∧ (payloadFrame []).h.ftype ≠ 7) := by
  refine ⟨?_, ?_, ?_, ?_, ?_, ?_⟩ <;> decide +kernel

def s224 : Module :=
  let m := upM [(K.glbAlert_ASSERTED, 1)]
  { m with mpc := { m.mpc with smbAddr := regAddr .hbmCtrl 31 0 }, log := { m.log with entries := [(0xFFFFFFFF, 5)], smbSeq := 0xFFFFFFFF }, sec := { m.sec with debug := true } }
def s225 : Module :=
  let m := upM []
  { m with mpc := { m.mpc with smbAddr := 0xFFFFFFFFFC, smbFault := true }, power := { m.power with holds := [.jtag, .thermtrip 3] } }
def s226 : Module := mod [(K.pwrStatus_STEP, 1)]
def s227 : Module :=
  let m := upM []
  { m with power := { m.power with inReset := some .core } }

theorem wit_SmbusAndJtagAct :
    (s224.smbAnswers = true ∧ s224.pecOk .absent = true ∧ s224.pecOk .bad = false ∧
      s224.reach s224.mpc.smbAddr = .reg .hbmCtrl 31 0 ∧ Tbl.find s224.captured (.smb, .hbmCtrl, 31, 0) = none ∧
      s224.log.entries.find? (fun x => x.1 == s224.log.smbSeq) = some (0xFFFFFFFF, 5) ∧
      s224.isOn K.glbAlert_ASSERTED = true ∧ s224.tapAnswers = true ∧ s224.power.inReset = none ∧ s224.sec.debug = true ∧
      s224.reach (regAddr .hbmCtrl 31 0) = .reg .hbmCtrl 31 0 ∧ Tbl.find s224.captured (.jtag, .hbmCtrl, 31, 0) = none) ∧
    (s225.smbAnswers = true ∧ s225.reach s225.mpc.smbAddr = .fault .addrFault ∧ s225.isOn K.glbAlert_ASSERTED = false ∧
      s225.sec.debug = false) ∧
    (s226.smbAnswers = false) ∧
    (s227.tapAnswers = true ∧ s227.power.inReset = some .core) := by
  refine ⟨?_, ?_, ?_, ?_⟩ <;> decide +kernel

def s228 : Module := secM (fun u => { u with verified := some ⟨.smbus, 1, 6, 1, []⟩ })
def s229 : Module := secM id
def s230 : Module := secM id
def s231 : Module := { secM id with time := { (secM id).time with count := 10 } }|>.setF K.timStatus_SET 1

theorem wit_QuorumCommandsAreJudged :
    ((QBody.decode (qbody 0 1 0 3 6 0 [])).opcode ≠ 0 ∧ s228.sec.verified.isSome = true) ∧
    (s229.sec.verified = none ∧ (QBody.decode (qbody dev 1 0 3 6 0 [7])).wellFormed = false ∧
      (QBody.decode (qbody dev 1 0 3 6 0 [])).wellFormed = true ∧
      (QBody.decode (qbody dev 1 0 3 5 0 [])).seq ≤ s229.sec.state.seq ∧
      s229.sec.state.seq < (QBody.decode (qbody dev 1 0 3 6 9 [])).seq ∧
      (QBody.decode (qbody dev 1 0 3 6 9 [])).notAfter ≠ 0 ∧ s229.isOn K.timStatus_SET = false ∧
      (QBody.decode (qbody dev 1 0 4 6 0 [])).notAfter = 0 ∧ (QBody.decode (qbody dev 1 0 4 6 0 [])).ver ≠ s229.sec.state.ver
      ∧ (QBody.decode (qbody dev 1 0 3 6 0 [])).ver = s229.sec.state.ver ∧
      (judged (QBody.decode (qbody dev 1 0 3 6 0 [])) []).passed.length < s229.sec.state.k) ∧
    ((QBody.decode (qbody dev 1 1 3 6 0 [])).wellFormed = true ∧
      (QBody.decode (qbody dev 1 1 3 6 0 [])).ver = s230.sec.state.ver ∧
      s230.sec.state.k ≤ (judged (QBody.decode (qbody dev 1 1 3 6 0 [])) [(true, true)]).passed.length ∧
      s230.permitted (QBody.decode (qbody dev 1 1 3 6 0 [])) = true ∧
      s230.permitted (QBody.decode (qbody dev 4 1 3 6 0 ([1, 255, 0, 9] ++ List.replicate 10 0))) = false ∧
      (QBody.decode (qbody dev 4 1 3 6 0 ([1, 255, 0, 9] ++ List.replicate 10 0))).wellFormed = true) ∧
    (s231.sec.verified = none ∧ s231.isOn K.timStatus_SET = true ∧
      (QBody.decode (qbody dev 1 0 3 6 9 [])).notAfter < s231.timeNow ∧
      s231.timeNow ≤ (QBody.decode (qbody dev 1 0 4 6 (2 ^ 64 - 1) [])).notAfter) := by
  refine ⟨?_, ?_, ?_, ?_⟩ <;> decide +kernel

def s233 : Module :=
  let m := accepted 2 []
  { m with sec := { m.sec with rehearsal := some ⟨2, 1, 9, []⟩ } }
def s235 : Module := accepted 4 ([0, 255, 0, 9] ++ List.replicate 10 0)
def s236 : Module := accepted 4 ([1, 255, 14, 16] ++ List.replicate 10 0)
def s238 : Module := accepted 6 ([2, 2, 0] ++ List.replicate 864 7)
def s240 : Module :=
  let m := upM []
  { m with sec := { m.sec with verified := some ⟨.smbus, 8, 6, 1, [2, 2, 0] ++ List.replicate 864 7⟩ } }

theorem wit_AcceptedCommandsTakeEffect :
    ((accepted 1 []).sec.verified = some ⟨.smbus, 1, 6, 1, []⟩) ∧
    (s233.sec.verified = some ⟨.smbus, 2, 6, 1, []⟩ ∧ s233.sec.rehearsal = some ⟨2, 1, 9, []⟩) ∧
    ((accepted 3 []).sec.verified = some ⟨.smbus, 3, 6, 1, []⟩) ∧
    (s235.sec.verified = some ⟨.smbus, 4, 6, 1, ([0, 255, 0, 9] ++ List.replicate 10 0)⟩ ∧
      (Rehearsal.decode ([0, 255, 0, 9] ++ List.replicate 10 0)).window = 0) ∧
    (s236.sec.verified = some ⟨.smbus, 4, 6, 1, ([1, 255, 14, 16] ++ List.replicate 10 0)⟩ ∧
      (Rehearsal.decode ([1, 255, 14, 16] ++ List.replicate 10 0)).window ≠ 0) ∧
    ((accepted 5 []).sec.verified = some ⟨.smbus, 5, 6, 1, []⟩) ∧
    (s238.sec.verified = some ⟨.smbus, 6, 6, 1, [2, 2, 0] ++ List.replicate 864 7⟩) ∧
    ((accepted 7 []).sec.verified = some ⟨.smbus, 7, 6, 1, []⟩) ∧
    (s240.sec.verified = some ⟨.smbus, 8, 6, 1, [2, 2, 0] ++ List.replicate 864 7⟩) ∧
    ((secM id).sec.verified = none) := by
  refine ⟨?_, ?_, ?_, ?_, ?_, ?_, ?_, ?_, ?_, ?_⟩ <;> decide +kernel

def s242 : Module := secM (fun u => { u with rehearsal := some ⟨1, 1, 9, []⟩, rehearsalEnd := 9 })
def s243 : Module := secM (fun u => { u with attesting := some (.smbus, [5]) })

theorem wit_ReportsAreSigned :
    ((List.replicate 32 (0 : Byte)).length = 32 ∧ s242.sec.attesting = none ∧ s242.sec.rehearsalEnd ≠ 0 ∧
      s242.sec.rehearsal.isSome = true) ∧
    (s243.sec.attesting = some (.smbus, [5]) ∧ s243.sec.rehearsalEnd = 0) := by
  refine ⟨?_, ?_⟩ <;> decide +kernel

def s244 : Module := upM [(K.mpcInjStat_BUSY, 1)]
def s246 : Module :=
  let m := upM []
  { m with sec := { m.sec with rehearsal := some ⟨1, 0x7F, 9, []⟩ } }
def s247 : Module :=
  let m := rehM (31 * 32 + 31) [(K.hbmStatus_STATE 31, 2)]
  { m with hbm := { m.hbm with stack := [(31, { HbmStack.initial with mapped := [(31, true, false)] })] } }
def s248 : Module := rehM 2047 [(K.lnkLinkState_STATE 63 28, 3), (K.lnkLinkState_LANES_UP 63 28, 15)]
def s249 : Module :=
  let m := rehM (63 * 256 + 163) [(K.lpeStatus_STATE 63, 4)]
  { m with lpe := { m.lpe with rings := [((63, 163), lit 3)] } }
def s250 : Module := rehM (256 + 31) [(K.rdeStatus_ROLE 17, 0)]
def s251 : Module := rehM (31 * 32 + 31) [(K.hbmStatus_STATE 31, 2)]
def s252 : Module := rehM (2 ^ 23 - 1) []
def s253 : Module := rehM 3 [(K.clkDomStat_SOURCE 3, 0)]
def s254 : Module :=
  let m := upM [(K.mpcInjStat_BUSY, 1)]
  { m with mpc := { m.mpc with injection := some ⟨7, 5, 1⟩ } }
def s255 : Module :=
  let m := upM [(K.mpcInjStat_BUSY, 1)]
  { m with mpc := { m.mpc with injection := some ⟨3, 5, 1⟩ } }

theorem wit_InjectionsAreRefusedOrStrike :
    (s244.isOn K.mpcInjStat_BUSY = true ∧ s244.mpc.injection = none) ∧
    ((upM []).isOn K.mpcInjStat_BUSY = false ∧ (upM []).sec.rehearsal = none) ∧
    (s246.isOn K.mpcInjStat_BUSY = false ∧ s246.sec.rehearsal.isSome = true ∧ s246.rehearses 7 = false) ∧
    (s247.isOn K.mpcInjStat_BUSY = false ∧ s247.rehearses 4 = true ∧ s247.targetBusy 4 (s247.injAt 4) = true) ∧
    (mayInj s248 0 ∧ s248.injAt 0 = 2044 ∧ s248.linkState 2044 = 3 ∧ mayInj s248 7) ∧
    (mayInj s249 1 ∧ s249.injAt 1 = 63 * 256 + 3 ∧ s249.driverOf (bitsOf (63 * 256 + 3) 13 8) ((63 * 256 + 3) % 4) = some 3 ∧
      s249.hasSpare 63 3 = true ∧ mayInj s249 2 ∧ s249.injAt 2 = 63 * 256 + 163 ∧
      (s249.ring (bitsOf (63 * 256 + 163) 13 8) ((63 * 256 + 163) % 256)).locked = true) ∧
    (mayInj s250 3 ∧ s250.injAt 3 = 256 + 17) ∧
    (mayInj s251 4 ∧ s251.injAt 4 = 31 * 32 + 31 ∧ (s251.stack 31).isOut 31 = false) ∧
    (mayInj s252 5 ∧ s252.injAt 5 = 2 ^ 23 - 1 ∧ (s252.sramRow 7 511 2047).retired = false ∧
      (s252.sramRow 7 511 2047).moving = none ∧ (s252.sramRow (bitsOf (2 ^ 23 - 1) 22 20) (bitsOf (2 ^ 23 - 1) 19 11) (bitsOf
      (2 ^ 23 - 1) 10 0)).remaps < 2 ∧ s252.rowSpare (bitsOf (2 ^ 23 - 1) 22 20) (bitsOf (2 ^ 23 - 1) 19 11) (bitsOf (2 ^ 23
      - 1) 10 0) = some 7) ∧
    (mayInj s253 6 ∧ s253.injAt 6 % 8 = 3 ∧ s253.clockFailed 6 = false ∧ s253.domSource 3 ≠ 4 ∧
      s253.isOn K.clkCtrl_FAIL_ACTION = false) ∧
    (s254.mpc.injection = some ⟨7, 5, 1⟩) ∧
    (s255.mpc.injection = some ⟨3, 5, 1⟩) := by
  refine ⟨?_, ?_, ?_, ?_, ?_, ?_, ?_, ?_, ?_, ?_, ?_, ?_⟩ <;> decide +kernel

end Sys2Proof.Tests
end

/-! SUPPORT. Register accesses and the state after reset: what one access of a requester does to the module, field by
field (spec/00_scope.md R14 to R20), and the statements of that family settled. -/

namespace Sys2Proof.Machine

/-! ### Commands -/

/-- Every command but the two that load an image or a patch moves the module and leaves the queue. -/
theorem exec_moves {c : Instr} (s : State) (hload : ∀ a b, c ≠ .startImageLoad a b) (hpatch : c ≠ .patchApply) :
    ∃ m' : Module, exec c s = .next { s with mod := m' } := by
  cases c
  case startImageLoad a b => exact absurd rfl (hload a b)
  case patchApply => exact absurd rfl hpatch
  all_goals exact ⟨_, rfl⟩

theorem exec_startImageLoad (a b : LoadCheck) (s : State) :
    exec (.startImageLoad a b) s =
      if s.mod.loadsUnsound a b then .fault .undefinedImage else s.run (fun m => m.imageLoad a b) := rfl

theorem exec_patchApply (s : State) :
    exec .patchApply s = if s.mod.patchUnsound then .fault .undefinedImage else s.run (fun m => m.patchApply) := rfl

theorem exec_registerWrite (req : Requester) (addr : Addr) (data : Word) (s : State) :
    exec (.registerWrite req addr data) s = .next { s with mod := s.mod.accessWrite req addr data } := rfl

theorem exec_hiRegisterWrite (req : Requester) (addr : Addr) (data : Word) (s : State) :
    exec (.hiRegisterWrite req addr data) s = .next { s with mod := s.mod.accessWrite req addr data } := rfl

theorem exec_loRegisterRead (req : Requester) (addr : Addr) (s : State) :
    exec (.loRegisterRead req addr) s = .next { s with mod := s.mod.accessRead req addr } := rfl

theorem exec_rcRegisterRead (req : Requester) (addr : Addr) (s : State) :
    exec (.rcRegisterRead req addr) s = .next { s with mod := s.mod.accessRead req addr } := rfl

theorem exec_logDataCapture (req : Requester) (s : State) :
    exec (.logDataCapture req) s = .next { s with mod := s.mod.accessRead req (regAddr .glbLogData 0 0) } := rfl

/-! ### Sparse tables -/

theorem Tbl.find_del_self {κ α : Type} [DecidableEq κ] (t : Tbl κ α) (k : κ) : Tbl.find (Tbl.del t k) k = none := by
  induction t with
  | nil => rfl
  | cons x r ih =>
    by_cases h : x.1 = k
    · simpa [Tbl.del, h] using ih
    · simpa [Tbl.del, Tbl.find, h] using ih

/-! ### Updates over a list -/

section
variable {α β : Type} {m : Module} {l : List α} {f : Module → α → Module}

/-- What no update of a list changes stands at its end. -/
theorem Module.each_keeps (p : Module → β) (h : ∀ m, ∀ x ∈ l, p (f m x) = p m) : p (m.each l f) = p m := by
  unfold Module.each
  induction l generalizing m with
  | nil => rfl
  | cons a t ih =>
    rw [List.foldl_cons, ih (fun m x hx => h m x (List.mem_cons_of_mem a hx)), h m a List.mem_cons_self]

/-- What one update of a list alone changes has changed once at its end. -/
theorem Module.each_once (p : Module → β) (g : β → β) {x : α} (hl : l.Nodup) (hx : x ∈ l)
    (own : ∀ m, p (f m x) = g (p m)) (others : ∀ m, ∀ y ∈ l, y ≠ x → p (f m y) = p m) : p (m.each l f) = g (p m) := by
  induction l generalizing m with
  | nil => cases hx
  | cons a t ih =>
    obtain ⟨hat, ht⟩ := List.nodup_cons.1 hl
    have rest (m : Module) : ∀ y ∈ t, y ≠ x → p (f m y) = p m := fun y hy => others m y (List.mem_cons_of_mem a hy)
    by_cases hax : a = x
    · subst hax
      exact (Module.each_keeps p fun m y hy => rest m y hy fun e => hat (e ▸ hy)).trans (own m)
    · have hxt : x ∈ t := (List.mem_cons.1 hx).resolve_left (Ne.symm hax)
      exact (ih ht hxt rest).trans (congrArg g (others m a List.mem_cons_self hax))

theorem Module.RegsKept.each {ks : List FKey} (h : ∀ m, ∀ x ∈ l, (f m x).RegsKept m ks) : (m.each l f).RegsKept m ks :=
  fun k hk => Module.each_keeps (fun m => m.getF k) fun m x hx => h m x hx k hk

end

/-! ### Modules that differ in their register fields alone -/

/-- Outside its register fields, a module is as another. -/
def Module.OnlyRegs (m' m : Module) : Prop := m' = { m with regs := m'.regs }

theorem Module.OnlyRegs.refl (m : Module) : m.OnlyRegs m := rfl

theorem Module.OnlyRegs.trans {m₂ m₁ m : Module} (h₂ : m₂.OnlyRegs m₁) (h₁ : m₁.OnlyRegs m) : m₂.OnlyRegs m := by
  unfold Module.OnlyRegs at *
  rw [h₂, h₁]

theorem Module.OnlyRegs.setF {m' m : Module} (h : m'.OnlyRegs m) (k : FKey) (v : Nat) : (m'.setF k v).OnlyRegs m :=
  Module.OnlyRegs.trans (m₁ := m') rfl h

theorem Module.OnlyRegs.out {m' m : Module} (h : m'.OnlyRegs m) : m'.out = m.out := by rw [h]

theorem Module.OnlyRegs.counters {m' m : Module} (h : m'.OnlyRegs m) : m'.counters = m.counters := by rw [h]

theorem Module.OnlyRegs.each {α : Type} {m : Module} {l : List α} {f : Module → α → Module}
    (h : ∀ m x, (f m x).OnlyRegs m) : (m.each l f).OnlyRegs m := by
  unfold Module.each
  induction l generalizing m with
  | nil => exact .refl m
  | cons a t ih => exact ih.trans (h m a)

/-! ### Modules that differ in their captures alone -/

@[simp] theorem Module.capture_captured (m : Module) (req : Requester) (r : RegName) (i j v : Nat) :
    (m.capture req r i j v).captured = Tbl.put m.captured (req, r, i, j) v := rfl
@[simp] theorem Module.capture_counters (m : Module) (req : Requester) (r : RegName) (i j v : Nat) :
    (m.capture req r i j v).counters = m.counters := rfl

/-- Outside its captures, a module is as another. -/
def Module.OnlyCaptures (m' m : Module) : Prop := m' = { m with captured := m'.captured }

theorem Module.OnlyCaptures.refl (m : Module) : m.OnlyCaptures m := rfl

theorem Module.OnlyCaptures.out {m' m : Module} (h : m'.OnlyCaptures m) : m'.out = m.out := by rw [h]

theorem Module.OnlyCaptures.getF {m' m : Module} (h : m'.OnlyCaptures m) (k : FKey) : m'.getF k = m.getF k :=
  Module.getF_congr k (by rw [h])

theorem Module.OnlyCaptures.capture (m : Module) (req : Requester) (r : RegName) (i j v : Nat) :
    (m.capture req r i j v).OnlyCaptures m := rfl

/-- A module that has answered a read differs in its registers, its captures and what it has sent. -/
theorem Module.emit_of_read {m₂ m₁ m : Module} (h₂ : m₂.OnlyCaptures m₁) (h₁ : m₁.OnlyRegs m) (x : Emission) :
    m₂.emit x = { m with regs := (m₂.emit x).regs, captured := (m₂.emit x).captured, out := (m₂.emit x).out } := by
  unfold Module.OnlyCaptures Module.OnlyRegs at *
  rw [h₂, h₁]
  rfl

/-! ### The fields of a register -/

/-- No two fields of a register start at one bit. -/
theorem RegName.fields_lo_nodup (r : RegName) : (r.fields.map FieldDef.lo).Nodup := by cases r <;> decide

/-- A field is found by its lowest bit. -/
theorem RegName.find_lo (r : RegName) : ∀ d ∈ r.fields, r.fields.find? (fun e => e.lo == d.lo) = some d := by
  cases r <;> decide

/-- The legal values of a field fit it. -/
theorem RegName.legal_fits (r : RegName) : ∀ d ∈ r.fields, d.least ≤ d.most ∧ d.most < 2 ^ (d.hi + 1 - d.lo) := by
  cases r <;> decide

theorem RegName.fields_nodup (r : RegName) : r.fields.Nodup :=
  List.Pairwise.of_map FieldDef.lo (fun _ _ hne e => hne (congrArg FieldDef.lo e)) r.fields_lo_nodup

theorem RegName.eq_of_lo_eq {r : RegName} {d e : FieldDef} (hd : d ∈ r.fields) (he : e ∈ r.fields) (h : d.lo = e.lo) :
    d = e := Option.some.inj ((r.find_lo d hd).symm.trans (h ▸ r.find_lo e he))

theorem RegName.mem_keys {r : RegName} {d : FieldDef} (hd : d ∈ r.fields) (i j : Nat) :
    (⟨r, i, j, d.lo⟩ : FKey) ∈ r.keys i j := List.mem_map_of_mem hd

theorem FKey.width_of_mem {r : RegName} {d : FieldDef} (hd : d ∈ r.fields) (i j : Nat) :
    FKey.width ⟨r, i, j, d.lo⟩ = d.hi + 1 - d.lo := by
  simp only [FKey.width, FKey.row, r.find_lo d hd]

/-- A clamped value fits its field, so it is stored uncut. -/
theorem FieldDef.legal_mod_width {r : RegName} {d : FieldDef} (hd : d ∈ r.fields) (i j v : Nat) :
    d.legal v % 2 ^ FKey.width ⟨r, i, j, d.lo⟩ = clampTo d.least d.most v := by
  obtain ⟨hle, hlt⟩ := r.legal_fits d hd
  rw [FKey.width_of_mem hd]
  apply Nat.mod_eq_of_lt
  unfold FieldDef.legal clampTo
  split
  · omega
  · split <;> omega

/-! ### Events -/

theorem Ev.width_bit (e : Ev) : ∀ r, e.reg = some r → FKey.width ⟨r, 0, 0, e.bit⟩ = 1 := by cases e <;> decide

theorem evtKey_width {e : Ev} {i : Nat} {k : FKey} (h : evtKey e i = some k) : k.width = 1 := by
  unfold evtKey at h
  split at h
  · cases h
    exact FKey.width_of_mem (r := .colEvt) (d := fd 0 0 .w1c) (by decide) i 0
  · obtain ⟨r, hr, rfl⟩ := Option.map_eq_some_iff.1 h
    simpa only [FKey.width, FKey.row] using e.width_bit r hr

theorem evtKey_inst {e : Ev} {i : Nat} {k : FKey} (h : evtKey e i = some k) : k.i = i := by
  unfold evtKey at h
  split at h
  · exact congrArg FKey.i (Option.some.inj h).symm
  · obtain ⟨r, -, rfl⟩ := Option.map_eq_some_iff.1 h
    rfl

/-- The field of an event's own bit is 1 once it has happened. -/
theorem Module.getF_raise_self {e : Ev} {i : Nat} {k : FKey} (h : evtKey e i = some k) (m : Module) (d : Nat) :
    (m.raise e i d).getF k = 1 :=
  calc (m.raise e i d).getF k = 1 % 2 ^ k.width := (m.getF_raise e i d k).trans (if_pos h)
    _ = 1 % 2 ^ 1 := congrArg (fun n => 1 % 2 ^ n) (evtKey_width h)

/-- An event whose counter advances happens when it is raised. -/
theorem Module.happened_raise {m : Module} {e : Ev} {i : Nat} (hc : m.countsNow e.num i = true) (d : Nat) :
    (m.raise e i d).Happened m e i :=
  ⟨by rw [Module.counter_raise, if_pos ⟨rfl, hc⟩], fun _ h => Module.getF_raise_self h m d⟩

theorem Module.Happened.of_counters {m' m₁ m : Module} {e : Ev} {i : Nat} (h : m'.Happened m₁ e i)
    (hc : m₁.counters = m.counters) : m'.Happened m e i :=
  ⟨h.1.trans (by simp only [Module.counter, hc]), h.2⟩

theorem Module.Happened.emit {m' m : Module} {e : Ev} {i : Nat} (h : m'.Happened m e i) (x : Emission) :
    (m'.emit x).Happened m e i := ⟨h.1, h.2⟩

/-- An event of no sector is counted whatever is in reset (R471). -/
theorem Module.countsNow_of_group {num : Nat} (h : num / 32 < 0x10 ∨ 0x15 < num / 32) (m : Module) (i : Nat) :
    m.countsNow num i = true := by
  simp only [Module.countsNow, Bool.not_eq_true', Bool.and_eq_false_iff, decide_eq_false_iff_not]
  omega

/-- An event of the schedule under sector lock shows in every sector (R371). -/
theorem Module.raiseLocked_of_locked {m : Module} (h : m.locked = true) (e : Ev) (i : Nat) :
    m.raiseLocked e i = m.each m.sectors (fun m t => m.raise e t) := if_pos h

theorem Module.getF_each_raise {e : Ev} {l : List Nat} (hl : l.Nodup) {i : Nat} (hi : i ∈ l) {k : FKey}
    (hk : evtKey e i = some k) (m : Module) : (m.each l fun m t => m.raise e t).getF k = 1 := by
  refine Module.each_once (fun m => m.getF k) (fun _ => 1) hl hi (fun m => Module.getF_raise_self hk m 0) fun m t _ hne => ?_
  have hother : evtKey e t ≠ some k := fun h => hne ((evtKey_inst h).symm.trans (evtKey_inst hk))
  exact (m.getF_raise e t 0 k).trans (if_neg hother)

theorem Module.each_raise_regsKept (m : Module) (e : Ev) (l : List Nat) :
    (m.each l fun m t => m.raise e t).RegsKept m (l.filterMap (evtKey e)) :=
  .each fun m t ht => (Module.RegsKept.refl m _).raise fun _ hk => List.mem_filterMap.2 ⟨t, ht, hk⟩

/-! ### Writes of fields -/

theorem Module.writeField_onlyRegs (m : Module) (k : FKey) (d : FieldDef) (w : Nat) : (m.writeField k d w).OnlyRegs m := by
  unfold Module.writeField
  dsimp only
  split
  · exact (Module.OnlyRegs.refl m).setF ..
  · split
    · exact (Module.OnlyRegs.refl m).setF ..
    · exact .refl m
  · exact .refl m

theorem Module.getF_writeField_ne (m : Module) {k k' : FKey} (d : FieldDef) (w : Nat) (h : k ≠ k') :
    (m.writeField k d w).getF k' = m.getF k' := by
  unfold Module.writeField
  dsimp only
  split
  · exact m.getF_setF_ne _ h
  · split
    · exact m.getF_setF_ne _ h
    · rfl
  · rfl

theorem Module.getF_writeField_self (m : Module) {r : RegName} {d : FieldDef} (hd : d ∈ r.fields) (i j w : Nat) :
    (m.writeField ⟨r, i, j, d.lo⟩ d w).getF ⟨r, i, j, d.lo⟩ = d.written (m.getF ⟨r, i, j, d.lo⟩) (bitsOf w d.hi d.lo) := by
  cases hacc : d.acc with
  | rw => simp only [Module.writeField, FieldDef.written, hacc, Module.getF_setF_self, FieldDef.legal_mod_width hd]
  | w1c =>
    simp only [Module.writeField, FieldDef.written, hacc]
    split
    · rw [Module.getF_setF_self, Nat.zero_mod]
    · rfl
  | ro => simp only [Module.writeField, FieldDef.written, hacc]
  | wo => simp only [Module.writeField, FieldDef.written, hacc]
  | rc => simp only [Module.writeField, FieldDef.written, hacc]

theorem Module.writeFields_onlyRegs (m : Module) (r : RegName) (i j w : Nat) : (m.writeFields r i j w).OnlyRegs m :=
  .each fun m d => m.writeField_onlyRegs _ d w

theorem Module.writeFields_regsKept (m : Module) (r : RegName) (i j w : Nat) :
    (m.writeFields r i j w).RegsKept m (r.keys i j) :=
  .each fun m d hd _ hk => m.getF_writeField_ne d w fun e => hk (e ▸ RegName.mem_keys hd i j)

theorem Module.getF_writeFields (m : Module) {r : RegName} {d : FieldDef} (hd : d ∈ r.fields) (i j w : Nat) :
    (m.writeFields r i j w).getF ⟨r, i, j, d.lo⟩ = d.written (m.getF ⟨r, i, j, d.lo⟩) (bitsOf w d.hi d.lo) :=
  Module.each_once (fun m => m.getF ⟨r, i, j, d.lo⟩) (fun v => d.written v (bitsOf w d.hi d.lo)) r.fields_nodup hd
    (fun m => m.getF_writeField_self hd i j w)
    (fun m _ he hne => m.getF_writeField_ne _ w fun h => hne (RegName.eq_of_lo_eq he hd (congrArg FKey.lo h)))

/-- A register written in several places of its block holds in each what a write there alone would give it. -/
theorem Module.getF_each_writeFields (m : Module) {r : RegName} {d : FieldDef} (hd : d ∈ r.fields) {l : List Nat}
    {place : Nat → Nat} (hinj : Function.Injective place) (hl : l.Nodup) {n : Nat} (hn : n ∈ l) (j w : Nat) :
    (m.each l fun m n => m.writeFields r (place n) j w).getF ⟨r, place n, j, d.lo⟩ =
      d.written (m.getF ⟨r, place n, j, d.lo⟩) (bitsOf w d.hi d.lo) := by
  refine Module.each_once (fun m => m.getF ⟨r, place n, j, d.lo⟩) (fun v => d.written v (bitsOf w d.hi d.lo)) hl hn
    (fun m => m.getF_writeFields hd (place n) j w) fun m n' _ hne => m.writeFields_regsKept r (place n') j w _ ?_
  intro hmem
  obtain ⟨e, -, he⟩ := List.mem_map.1 hmem
  exact hne (hinj (congrArg FKey.i he))

/-! ### A requester's write -/

section
variable {m : Module} {req : Requester} {addr : Addr} {r : RegName} {i j : Nat}

/-- A write of a register that sector lock does not hold is made now. -/
theorem Module.accessWrite_now (hmay : m.mayAccess req 1 = true) (hr : m.reach addr = .reg r i j)
    (hnow : r.reachesData = false ∨ m.holdsWrites = false) (w : Word) :
    m.accessWrite req addr w = m.writeReg req r i j w (m.tmSel i) := by
  have hheld : (r.reachesData && m.holdsWrites) = false := Bool.and_eq_false_iff.2 hnow
  simp [Module.accessWrite, hmay, Module.write, hr, hheld, Module.smbFaults]

/-- A write waits for the next period edge. -/
def Module.holdWrite (m : Module) (h : HeldWrite) : Module := { m with lock := { m.lock with held := m.lock.held ++ [h] } }

/-- A write that sector lock holds waits, and WRITE_HELD shows in every sector (R360, R371). -/
theorem Module.accessWrite_held (hmay : m.mayAccess req 1 = true) (hr : m.reach addr = .reg r i j)
    (hdata : r.reachesData = true) (hholds : m.holdsWrites = true) (w : Word) :
    m.accessWrite req addr w =
      (m.holdWrite ⟨req, addr, w, m.tmSel i⟩).each m.sectors fun m t => m.raise .sched_WRITE_HELD t := by
  have hlocked : (m.holdWrite ⟨req, addr, w, m.tmSel i⟩).locked = true := hholds
  simp only [Module.accessWrite, hmay, Module.write, hr, hdata, hholds, Module.smbFaults, Bool.and_self, if_true, ite_self]
  exact Module.raiseLocked_of_locked hlocked ..

theorem Module.accessWrite_fault {a : AccessResult} (hmay : m.mayAccess req 1 = true) (hr : m.reach addr = .fault a)
    (hsmb : req ≠ .smb) (w : Word) : m.accessWrite req addr w = m := by
  simp [Module.accessWrite, hmay, Module.write, hr, hsmb]

theorem Module.writeData_of_not_acts (h : r.acts = false) (w : Nat) (queue : Nat × Nat) :
    m.writeData req r i j w queue = m.writeFields r i j w := by
  unfold Module.writeData
  split
  case h_14 => rfl
  all_goals exact absurd h (by decide)

theorem Module.writeMgmt_of_not_acts (h : r.acts = false) (w : Nat) : m.writeMgmt r i j w = m.writeFields r i j w := by
  unfold Module.writeMgmt
  split
  case h_15 => rfl
  all_goals exact absurd h (by decide)

/-- A write of a register that starts nothing writes its fields. -/
theorem Module.writeReg_of_not_acts (h : r.acts = false) (w : Word) (queue : Nat × Nat) :
    m.writeReg req r i j w queue = m.writeFields r i j w.toNat := by
  have hpair := h
  simp only [RegName.acts, Bool.or_eq_false_iff] at hpair
  obtain ⟨⟨hhi, hlo⟩, -⟩ := hpair
  simp only [Module.writeReg, hhi, hlo, Module.writeData_of_not_acts h, Module.writeMgmt_of_not_acts h, ite_self,
    Bool.false_eq_true, if_false]

theorem Module.writeReg_lo (h : r.hi.isSome = true) (w : Word) (queue : Nat × Nat) :
    m.writeReg req r i j w queue = m.holdLo req r i j w := if_pos h

theorem Module.writeReg_fwdTblDataHi (w : Word) (queue : Nat × Nat) :
    m.writeReg req .fwdTblDataHi i j w queue =
      (m.setF (K.fwdTblDataLo_DATA i) (m.lowHalf req .fwdTblDataLo i j (m.getF (K.fwdTblDataLo_DATA i)))).setF
        (K.fwdTblDataHi_DATA i) w.toNat := rfl

theorem Module.writeReg_fwdTblDataHi_onlyRegs (w : Word) (queue : Nat × Nat) :
    (m.writeReg req .fwdTblDataHi i j w queue).OnlyRegs m := by
  rw [Module.writeReg_fwdTblDataHi]
  exact ((Module.OnlyRegs.refl m).setF ..).setF ..

theorem Module.writeReg_fwdTblDataHi_regsKept (w : Word) (queue : Nat × Nat) :
    (m.writeReg req .fwdTblDataHi i j w queue).RegsKept m [K.fwdTblDataLo_DATA i, K.fwdTblDataHi_DATA i] := by
  rw [Module.writeReg_fwdTblDataHi]
  exact ((Module.RegsKept.refl m _).setF (by simp) _).setF (by simp) _

theorem FKey.width_fwdTblDataLo (i : Nat) : FKey.width (K.fwdTblDataLo_DATA i) = 32 :=
  FKey.width_of_mem (d := fd 31 0 .rw) (by decide) i 0

theorem FKey.width_fwdTblDataHi (i : Nat) : FKey.width (K.fwdTblDataHi_DATA i) = 32 :=
  FKey.width_of_mem (d := fd 31 0 .rw) (by decide) i 0

theorem Module.getF_writeReg_fwdTblDataHi (w : Word) (queue : Nat × Nat) :
    (m.writeReg req .fwdTblDataHi i j w queue).getF (K.fwdTblDataHi_DATA i) = w.toNat := by
  rw [Module.writeReg_fwdTblDataHi, Module.getF_setF_self, FKey.width_fwdTblDataHi, Nat.mod_eq_of_lt w.isLt]

/-- The write of the _HI half stores the lower half that the requester's pair takes (R17). -/
theorem Module.getF_writeReg_fwdTblDataHi_lo (w : Word) (queue : Nat × Nat) :
    (m.writeReg req .fwdTblDataHi i j w queue).getF (K.fwdTblDataLo_DATA i) =
      m.lowHalf req .fwdTblDataLo i j (m.getF (K.fwdTblDataLo_DATA i)) % 2 ^ 32 := by
  rw [Module.writeReg_fwdTblDataHi, Module.getF_setF_ne _ _ (by simp), Module.getF_setF_self, FKey.width_fwdTblDataLo]

theorem Module.getF_writeReg_fwdTblDataHi_held {lo : Word}
    (h : Tbl.find m.loHeld (req, .fwdTblDataLo, i, j) = some lo) (w : Word) (queue : Nat × Nat) :
    (m.writeReg req .fwdTblDataHi i j w queue).getF (K.fwdTblDataLo_DATA i) = lo.toNat := by
  rw [Module.getF_writeReg_fwdTblDataHi_lo, Module.lowHalf, h, Nat.mod_eq_of_lt lo.isLt]

theorem Module.getF_writeReg_fwdTblDataHi_inForce (h : Tbl.find m.loHeld (req, .fwdTblDataLo, i, j) = none) (w : Word)
    (queue : Nat × Nat) :
    (m.writeReg req .fwdTblDataHi i j w queue).getF (K.fwdTblDataLo_DATA i) = m.getF (K.fwdTblDataLo_DATA i) % 2 ^ 32 := by
  rw [Module.getF_writeReg_fwdTblDataHi_lo, Module.lowHalf, h]

theorem Module.writeReg_tmSchedEvt (w : Word) (queue : Nat × Nat) :
    m.writeReg req .tmSchedEvt i j w queue =
      m.each (if m.locked then m.sectors else [i]) (fun m t => m.writeFields .tmSchedEvt t j w.toNat) := rfl

theorem Module.writeReg_hbmRgnSel (w : Word) (queue : Nat × Nat) :
    m.writeReg req .hbmRgnSel i j w queue =
      m.each (List.range 4) (fun m n => m.writeFields .hbmRgnSel (4 * (i / 4) + n) j w.toNat) := rfl

/-- No _LO register reaches the data plane. -/
theorem RegName.reachesData_lo (h : r.hi.isSome = true) : r.reachesData = false := by
  unfold RegName.reachesData
  split
  case h_18 => rfl
  all_goals exact absurd h (by decide)

end

/-! ### Reads -/

theorem Module.clearRc_onlyRegs (m : Module) (r : RegName) (i j : Nat) : (m.clearRc r i j).OnlyRegs m :=
  .each fun m _ => (Module.OnlyRegs.refl m).setF ..

theorem Module.clearRc_regsKept (m : Module) (r : RegName) (i j : Nat) : (m.clearRc r i j).RegsKept m (r.keys i j) :=
  .each fun m _ hd => (Module.RegsKept.refl m _).setF (RegName.mem_keys (List.mem_filter.1 hd).1 i j) _

/-- Every RC and every W1C field resets to 0 (R14). -/
theorem fieldReset_of_clearable {r : RegName} {d : FieldDef} (hd : d ∈ r.fields) (hacc : d.acc = .w1c ∨ d.acc = .rc)
    (i j : Nat) : fieldReset ⟨r, i, j, d.lo⟩ = 0 := by
  have hall : (r.fields.filter fun d => d.acc = .w1c ∨ d.acc = .rc).all (fun d => fieldReset ⟨r, i, j, d.lo⟩ == 0) = true := by
    cases r <;> rfl
  exact beq_iff_eq.1 (List.all_eq_true.1 hall d (List.mem_filter.2 ⟨hd, decide_eq_true hacc⟩))

theorem Module.getF_clearRc (m : Module) {r : RegName} {d : FieldDef} (hd : d ∈ r.fields) (i j : Nat) :
    (m.clearRc r i j).getF ⟨r, i, j, d.lo⟩ =
      if d.acc = .rc then fieldReset ⟨r, i, j, d.lo⟩ else m.getF ⟨r, i, j, d.lo⟩ := by
  have hother (e : FieldDef) (he : e ∈ r.fields) (hne : e ≠ d) :
      (⟨r, i, j, e.lo⟩ : FKey) ≠ ⟨r, i, j, d.lo⟩ := fun h => hne (RegName.eq_of_lo_eq he hd (congrArg FKey.lo h))
  split
  case isTrue hrc =>
    refine Module.each_once (fun m => m.getF ⟨r, i, j, d.lo⟩) (fun _ => fieldReset ⟨r, i, j, d.lo⟩)
      (r.fields_nodup.filter _) (List.mem_filter.2 ⟨hd, decide_eq_true hrc⟩) (fun m => ?_)
      fun m e he hne => m.getF_setF_ne _ (hother e (List.mem_filter.1 he).1 hne)
    rw [Module.getF_setF_self, fieldReset_of_clearable hd (.inr hrc), Nat.zero_mod]
  case isFalse hrc =>
    refine Module.each_keeps (fun m => m.getF ⟨r, i, j, d.lo⟩) fun m e he => m.getF_setF_ne _ ?_
    obtain ⟨he, herc⟩ := List.mem_filter.1 he
    exact hother e he fun hed => hrc (hed ▸ of_decide_eq_true herc)

section
variable {m : Module} {req : Requester} {addr : Addr} {r : RegName} {i j : Nat}

/-- Is the register the counter of something that the member lacks (R475)? -/
def Module.AbsentCounter (m : Module) (r : RegName) : Prop :=
  r = .telCntLo ∧ m.liveInstances (m.getF K.telSel_EVENT / 32) ≤ m.getF K.telSel_INSTANCE

/-- A read of a _LO register captures the upper half (R18). -/
theorem Module.readTakes_lo {h : RegName} (hh : r.hi = some h) (hlive : ¬ m.AbsentCounter r) :
    m.readTakes req r i j = (m.clearRc r i j).capture req h i j (m.regWord h i j) := by
  unfold Module.readTakes
  simp only [hh]
  exact if_neg hlive

theorem Module.readTakes_absent {h : RegName} (hh : r.hi = some h) (habs : m.AbsentCounter r) :
    m.readTakes req r i j =
      ((m.clearRc r i j).capture req h i j (m.regWord h i j)).raise .tel_ABSENT_INSTANCE 0 := by
  unfold Module.readTakes
  simp only [hh]
  exact if_pos habs

/-- A read of the first word of a log entry captures the others (R528). -/
theorem Module.readTakes_logData :
    m.readTakes req .glbLogData i 0 =
      (m.clearRc .glbLogData i 0).each [1, 2, 3] fun m' n => m'.capture req .glbLogData 0 n (m.regWord .glbLogData 0 n) := by
  unfold Module.readTakes
  simp only [RegName.hi]

/-- A read of any other register that is no _LO register takes its RC fields with it, and no more (R14). -/
theorem Module.readTakes_alone (hhi : r.hi = none) (hlog : ¬ (r = .glbLogData ∧ j = 0)) :
    m.readTakes req r i j = m.clearRc r i j := by
  unfold Module.readTakes
  simp only [hhi]
  split
  · exact absurd ⟨rfl, rfl⟩ hlog
  · rfl

/-- But for a counter that the member lacks, a read clears RC fields and captures, and does no more. -/
theorem Module.readTakes_onlyCaptures (hlive : ¬ m.AbsentCounter r) :
    (m.readTakes req r i j).OnlyCaptures (m.clearRc r i j) := by
  cases hhi : r.hi with
  | some h =>
    rw [Module.readTakes_lo hhi hlive]
    exact .capture ..
  | none =>
    by_cases hlog : r = .glbLogData ∧ j = 0
    · obtain ⟨rfl, rfl⟩ := hlog
      rw [Module.readTakes_logData]
      generalize m.clearRc .glbLogData i 0 = m'
      rfl
    · rw [Module.readTakes_alone hhi hlog]
      exact .refl _

theorem Module.readTakes_out : (m.readTakes req r i j).out = m.out := by
  have hclear : (m.clearRc r i j).out = m.out := (m.clearRc_onlyRegs r i j).out
  by_cases habs : m.AbsentCounter r
  · have hr := habs.1
    subst hr
    rw [Module.readTakes_absent rfl habs, Module.raise_out]
    exact hclear
  · exact (Module.readTakes_onlyCaptures habs).out.trans hclear

/-- A read of a _LO register leaves the upper half captured, whatever it counts. -/
theorem Module.readTakes_captured_hi {h : RegName} (hh : r.hi = some h) :
    Tbl.find (m.readTakes req r i j).captured (req, h, i, j) = some (m.regWord h i j) := by
  by_cases habs : m.AbsentCounter r
  · rw [Module.readTakes_absent hh habs, Module.raise_captured, Module.capture_captured, Tbl.find_put_self]
  · rw [Module.readTakes_lo hh habs, Module.capture_captured, Tbl.find_put_self]

/-- A read of a counter that the member lacks is counted (R475). -/
theorem Module.readTakes_happened {h : RegName} (hh : r.hi = some h) (habs : m.AbsentCounter r) :
    (m.readTakes req r i j).Happened m .tel_ABSENT_INSTANCE 0 := by
  rw [Module.readTakes_absent hh habs]
  refine (Module.happened_raise (Module.countsNow_of_group (by decide) ..) 0).of_counters ?_
  rw [Module.capture_counters, (m.clearRc_onlyRegs r i j).counters]

theorem Module.readTakes_captured_logData {n : Nat} (hn : n ∈ [1, 2, 3]) :
    Tbl.find (m.readTakes req .glbLogData i 0).captured (req, .glbLogData, 0, n) = some (m.regWord .glbLogData 0 n) := by
  rw [Module.readTakes_logData]
  exact Module.each_once (fun m' => Tbl.find m'.captured (req, .glbLogData, 0, n))
    (fun _ => some (m.regWord .glbLogData 0 n)) (by decide) hn (fun m' => Tbl.find_put_self ..)
    fun m' n' _ hne => Tbl.find_put_ne _ _ (by simpa using hne)

/-! ### A requester's read -/

/-- A read of what was not captured answers what the register shows (R14). -/
theorem Module.accessRead_fresh (hmay : m.mayAccess req 0 = true) (hr : m.reach addr = .reg r i j)
    (hcap : Tbl.find m.captured (req, r, i, j) = none) :
    m.accessRead req addr =
      (m.readTakes req r i j).emit (.readReply req addr (BitVec.ofNat 32 (m.regWord r i j))) := by
  simp [Module.accessRead, hmay, Module.read, hr, Module.readReg, hcap, Module.smbFaults]

/-- A read of what was captured answers that, and takes the capture with it (R18). -/
theorem Module.accessRead_captured (hmay : m.mayAccess req 0 = true) (hr : m.reach addr = .reg r i j) {v : Nat}
    (hcap : Tbl.find m.captured (req, r, i, j) = some v) :
    m.accessRead req addr =
      ({ m with captured := Tbl.del m.captured (req, r, i, j) } : Module).emit (.readReply req addr (BitVec.ofNat 32 v)) := by
  simp [Module.accessRead, hmay, Module.read, hr, Module.readReg, hcap, Module.smbFaults]

theorem Module.accessRead_fresh_out (hmay : m.mayAccess req 0 = true) (hr : m.reach addr = .reg r i j)
    (hcap : Tbl.find m.captured (req, r, i, j) = none) :
    (m.accessRead req addr).out = m.out ++ [.readReply req addr (BitVec.ofNat 32 (m.regWord r i j))] := by
  rw [Module.accessRead_fresh hmay hr hcap, Module.emit_out, Module.readTakes_out]

end

/-! ### The statements -/

/-- Settles O3: every other command's meaning is a move of the module, and the two loaders fault on their check alone. -/
theorem onlyUndefinedImagesStop : Obligations.OnlyUndefinedImagesStop := by
  intro c s
  refine ⟨fun hload hpatch => ?_, ?_, ?_⟩
  · by_cases hp : c = .patchApply
    · subst hp
      rw [exec_patchApply, hpatch rfl]
      exact ⟨_, rfl⟩
    · by_cases hl : ∃ a b, c = .startImageLoad a b
      · obtain ⟨a, b, rfl⟩ := hl
        rw [exec_startImageLoad, hload a b rfl]
        exact ⟨_, rfl⟩
      · exact exec_moves s (fun a b h => hl ⟨a, b, h⟩) hp
  · rintro a b rfl hbad
    rw [exec_startImageLoad, if_pos hbad]
  · rintro rfl hbad
    rw [exec_patchApply, if_pos hbad]

/-- Settles O8: the _LO read leaves the upper half captured, and the _HI read answers the capture. -/
theorem pairsReadConsistently : Obligations.PairsReadConsistently := by
  intro req lo hi r h i j s hpair hmay hreach hcap
  refine ⟨_, exec_loRegisterRead .., Module.accessRead_fresh_out hmay hreach hcap, fun t hsame hmay' hreach' => ?_⟩
  have hheld : Tbl.find t.mod.captured (req, h, i, j) = some (s.mod.regWord h i j) := by
    rw [hsame, Module.accessRead_fresh hmay hreach hcap]
    exact Module.readTakes_captured_hi hpair
  refine ⟨_, exec_loRegisterRead .., exec_rcRegisterRead .., ?_, ?_⟩
  · rw [Module.accessRead_captured hmay' hreach' hheld, Module.emit_out]
  · rw [Module.accessRead_captured hmay' hreach' hheld]
    exact Tbl.find_del_self ..

/-- Settles O10, clause by clause from what a write of the register does. -/
theorem registerWritesTakeEffect : Obligations.RegisterWritesTakeEffect := by
  intro req addr data r i j s hmay
  refine ⟨fun hreach => ⟨?_, ?_, ?_, ?_, ?_, ?_⟩, ?_⟩
  · intro hplain hnow
    refine ⟨_, exec_registerWrite .., ?_⟩
    rw [Module.accessWrite_now hmay hreach hnow, Module.writeReg_of_not_acts hplain]
    exact ⟨Module.writeFields_onlyRegs .., Module.writeFields_regsKept _ _ _ _ _, fun d hd => Module.getF_writeFields _ hd ..⟩
  · intro hlo
    refine ⟨_, exec_registerWrite .., ?_⟩
    rw [Module.accessWrite_now hmay hreach (.inl (RegName.reachesData_lo hlo)), Module.writeReg_lo hlo]
    exact ⟨rfl, Tbl.find_put_self .., fun k hk => Tbl.find_put_ne _ _ hk.symm⟩
  · rintro rfl
    refine ⟨_, exec_hiRegisterWrite .., ?_⟩
    rw [Module.accessWrite_now hmay hreach (.inl rfl)]
    exact ⟨Module.writeReg_fwdTblDataHi_onlyRegs .., Module.writeReg_fwdTblDataHi_regsKept _ _,
      Module.getF_writeReg_fwdTblDataHi .., fun w hw => Module.getF_writeReg_fwdTblDataHi_held hw ..,
      fun hnone => Module.getF_writeReg_fwdTblDataHi_inForce hnone ..⟩
  · intro hdata hholds
    refine ⟨_, exec_registerWrite .., ?_⟩
    rw [Module.accessWrite_held hmay hreach hdata hholds]
    exact ⟨Module.each_keeps (fun m => m.lock.held) fun m t _ => congrArg LockUnit.held (Module.raise_lock ..),
      fun sec hsec k hk => Module.getF_each_raise List.nodup_range hsec hk _, Module.each_raise_regsKept _ _ _⟩
  · rintro rfl
    refine ⟨_, exec_registerWrite .., ?_⟩
    rw [Module.accessWrite_now hmay hreach (.inl rfl), Module.writeReg_hbmRgnSel]
    exact ⟨Module.OnlyRegs.each fun m n => m.writeFields_onlyRegs .., fun n hn d hd =>
      Module.getF_each_writeFields _ hd (fun a b h => by simpa using h) List.nodup_range (List.mem_range.2 hn) ..⟩
  · rintro rfl
    refine ⟨_, exec_registerWrite .., ?_⟩
    rw [Module.accessWrite_now hmay hreach (.inl rfl), Module.writeReg_tmSchedEvt]
    refine ⟨Module.OnlyRegs.each fun m t => m.writeFields_onlyRegs .., fun sec hsec d hd =>
      Module.getF_each_writeFields _ hd Function.injective_id ?_ hsec ..⟩
    split
    · exact List.nodup_range
    · exact List.pairwise_singleton _ i
  · intro a hreach hsmb
    rw [exec_registerWrite, Module.accessWrite_fault hmay hreach hsmb]

/-- Settles O11: a fresh read answers, clears and captures; a captured value is given once. -/
theorem registerReadsAnswer : Obligations.RegisterReadsAnswer := by
  intro req addr r i j s hmay hreach
  refine ⟨fun hcap => ⟨?_, ?_, ?_, ?_⟩, ?_⟩
  · intro hlive
    have hpresent : ¬ s.mod.AbsentCounter r := fun ⟨hr, habs⟩ => Nat.not_le_of_lt (hlive hr) habs
    refine ⟨_, exec_rcRegisterRead .., ?_⟩
    rw [Module.accessRead_fresh hmay hreach hcap]
    refine ⟨Module.emit_of_read (Module.readTakes_onlyCaptures hpresent) (Module.clearRc_onlyRegs ..) _,
      congrArg (· ++ _) Module.readTakes_out, fun k hk => ?_, fun d hd => ?_⟩
    · rw [Module.getF_emit, (Module.readTakes_onlyCaptures hpresent).getF, Module.clearRc_regsKept _ _ _ _ k hk]
    · rw [Module.getF_emit, (Module.readTakes_onlyCaptures hpresent).getF, Module.getF_clearRc _ hd]
  · intro hr habs
    subst hr
    refine ⟨_, exec_rcRegisterRead .., Module.accessRead_fresh_out hmay hreach hcap, ?_⟩
    rw [Module.accessRead_fresh hmay hreach hcap]
    exact (Module.readTakes_happened rfl ⟨rfl, habs⟩).emit _
  · intro h hpair
    refine ⟨_, exec_loRegisterRead .., Module.accessRead_fresh_out hmay hreach hcap, ?_⟩
    rw [Module.accessRead_fresh hmay hreach hcap]
    exact Module.readTakes_captured_hi hpair
  · rintro rfl rfl rfl
    refine ⟨_, exec_logDataCapture .., Module.accessRead_fresh_out hmay hreach hcap, fun n hn => ?_⟩
    rw [Module.accessRead_fresh hmay hreach hcap]
    exact Module.readTakes_captured_logData hn
  · intro v hcap
    refine ⟨_, exec_rcRegisterRead .., ?_⟩
    rw [Module.accessRead_captured hmay hreach hcap]
    exact ⟨rfl, rfl, Tbl.find_del_self ..⟩

/-- Settles O5: after reset nothing is listed, so a field holds its table's reset value. -/
theorem resetValues : Obligations.ResetValues := by
  refine ⟨rfl, rfl, rfl, rfl, fun _ _ => rfl, fun r i j d hd hacc => ?_, fun i => ⟨rfl, rfl, rfl, rfl, rfl⟩⟩
  exact fieldReset_of_clearable hd hacc i j

end Sys2Proof.Machine

/-! SUPPORT. The route and group tables: what a table command, its end and a version switch do to them, and what sending a
reply leaves as it was (spec/01_module_architecture.md R27; spec/05_forwarding_and_detour.md R149, R169;
spec/08_collective_operations.md R247), and the statements of that family settled. -/

namespace Sys2Proof.Machine

/-! ### Commands -/

theorem exec_fwdTblReadActive (sec : Fin 8) (table : FwdTable) (index : BitVec 16) (s : State) :
    exec (.fwdTblReadActive sec table index) s =
      .next { s with mod := s.mod.accessWrite .mpc (regAddr .fwdTblCmd sec.val 0) (fwdTblWord 0 table index.toNat) } := rfl

theorem exec_fwdTblReadShadow (sec : Fin 8) (table : FwdTable) (index : BitVec 16) (s : State) :
    exec (.fwdTblReadShadow sec table index) s =
      .next { s with mod := s.mod.accessWrite .mpc (regAddr .fwdTblCmd sec.val 0) (fwdTblWord 1 table index.toNat) } := rfl

theorem exec_fwdTblWriteShadow (req : Requester) (sec : Fin 8) (entry : TableEntry) (s : State) :
    exec (.fwdTblWriteShadow req sec entry) s =
      .next { s with
        mod := s.mod.accessWrite req (regAddr .fwdTblCmd sec.val 0) (fwdTblWord 2 entry.table entry.index.toNat) } := rfl

theorem exec_fwdTblDone (sec : Fin 8) (s : State) :
    exec (.fwdTblDone sec) s = .next { s with mod := s.mod.fwdDone sec.val } := rfl

theorem exec_colGrpReadActive (sec : Fin 8) (member : Bool) (index : BitVec 18) (s : State) :
    exec (.colGrpReadActive sec member index) s =
      .next { s with mod := s.mod.accessWrite .mpc (regAddr .colGrpCmd sec.val 0) (colGrpWord 0 member index.toNat) } := rfl

theorem exec_colGrpReadShadow (sec : Fin 8) (member : Bool) (index : BitVec 18) (s : State) :
    exec (.colGrpReadShadow sec member index) s =
      .next { s with mod := s.mod.accessWrite .mpc (regAddr .colGrpCmd sec.val 0) (colGrpWord 1 member index.toNat) } := rfl

theorem exec_colGrpWriteShadow (sec : Fin 8) (member : Bool) (index : BitVec 18) (s : State) :
    exec (.colGrpWriteShadow sec member index) s =
      .next { s with mod := s.mod.accessWrite .mpc (regAddr .colGrpCmd sec.val 0) (colGrpWord 2 member index.toNat) } := rfl

theorem exec_colGrpDone (sec : Fin 8) (s : State) :
    exec (.colGrpDone sec) s = .next { s with mod := s.mod.grpDone sec.val } := rfl

theorem exec_fwdVerSwitch (req : Requester) (s : State) :
    exec (.fwdVerSwitch req) s =
      .next { s with mod := s.mod.accessWrite req (regAddr .fwdVer 0 0) (cmdWord (2 ^ 31)) } := rfl

theorem exec_shadowCopyDone (s : State) : exec .shadowCopyDone s = .next { s with mod := s.mod.copyDone } := rfl

/-! ### Writes of command registers -/

theorem target_fwdTblCmd (sec : Fin 8) : target (regAddr .fwdTblCmd sec.val 0).toNat = .reg .fwdTblCmd sec.val 0 := by
  revert sec
  decide

theorem target_colGrpCmd (sec : Fin 8) : target (regAddr .colGrpCmd sec.val 0).toNat = .reg .colGrpCmd sec.val 0 := by
  revert sec
  decide

theorem target_fwdVer : target (regAddr .fwdVer 0 0).toNat = .reg .fwdVer 0 0 := by decide

/-- An address of a register of a block that the member has and that answers reaches it. -/
theorem Module.reach_of_target {m : Module} {addr : Addr} {r : RegName} {i j : Nat} (ht : target addr.toNat = .reg r i j)
    (hans : m.answers r.blk i = true) (hlive : i < m.liveCount r.blk) : m.reach addr = .reg r i j := by
  simp only [Module.reach, ht, hans, if_neg (Nat.not_le_of_lt hlive), if_true]

theorem Module.accessWrite_denied {m : Module} {req : Requester} (h : m.mayAccess req 1 = false) (addr : Addr) (w : Word) :
    m.accessWrite req addr w = m := by
  simp [Module.accessWrite, h]

section
variable {m : Module} {req : Requester} {i j : Nat}

theorem Module.writeReg_fwdTblCmd (w : Word) (queue : Nat × Nat) :
    m.writeReg req .fwdTblCmd i j w queue =
      if bitOf w.toNat 31 then
        m.fwdGo req i (min 2 (bitsOf w.toNat 30 29)) (fwdTableOf (bitsOf w.toNat 28 27)) (bitsOf w.toNat 15 0)
      else m := rfl

theorem Module.writeReg_colGrpCmd (w : Word) (queue : Nat × Nat) :
    m.writeReg req .colGrpCmd i j w queue =
      if bitOf w.toNat 31 then
        m.grpGo i (min 2 (bitsOf w.toNat 30 29)) (bitOf w.toNat 28) (bitsOf w.toNat 17 0)
      else m := rfl

theorem Module.writeReg_fwdVer (w : Word) (queue : Nat × Nat) :
    m.writeReg req .fwdVer i j w queue = m.writeFwdVer w.toNat := rfl

end

/-- The number of a table in FWD_TBL_CMD. -/
def FwdTable.code : FwdTable → Nat
  | .route => 0
  | .set => 1
  | .member => 2

theorem FwdTable.code_le (t : FwdTable) : t.code ≤ 2 := by cases t <;> decide

theorem fwdTableOf_code (t : FwdTable) : fwdTableOf t.code = t := by cases t <;> rfl

theorem fwdTblWord_toNat {op : Nat} (hop : op ≤ 2) (t : FwdTable) {index : Nat} (hi : index < 2 ^ 16) :
    (fwdTblWord op t index).toNat = 2 ^ 31 + op * 2 ^ 29 + t.code * 2 ^ 27 + index := by
  have hcode := t.code_le
  have hword : fwdTblWord op t index = cmdWord (2 ^ 31 + op * 2 ^ 29 + t.code * 2 ^ 27 + index) := by cases t <;> rfl
  rw [hword, cmdWord, BitVec.toNat_ofNat, Nat.mod_eq_of_lt (by omega)]

theorem colGrpWord_toNat {op : Nat} (hop : op ≤ 2) (member : Bool) {index : Nat} (hi : index < 2 ^ 18) :
    (colGrpWord op member index).toNat = 2 ^ 31 + op * 2 ^ 29 + flag member * 2 ^ 28 + index := by
  have hflag : flag member ≤ 1 := by cases member <;> decide
  rw [colGrpWord, cmdWord, BitVec.toNat_ofNat, Nat.mod_eq_of_lt (by omega)]

/-- The word of a route table command starts what it names. -/
theorem Module.writeReg_fwdTblWord (m : Module) (req : Requester) (sec : Nat) {op : Nat} (hop : op ≤ 2) (t : FwdTable)
    {index : Nat} (hi : index < 2 ^ 16) (queue : Nat × Nat) :
    m.writeReg req .fwdTblCmd sec 0 (fwdTblWord op t index) queue = m.fwdGo req sec op t index := by
  have hcode := t.code_le
  have hgo : bitOf (fwdTblWord op t index).toNat 31 = true := by
    rw [fwdTblWord_toNat hop t hi]
    exact beq_iff_eq.2 (by omega)
  have hop' : bitsOf (fwdTblWord op t index).toNat 30 29 = op := by
    rw [fwdTblWord_toNat hop t hi]
    unfold bitsOf
    omega
  have ht : bitsOf (fwdTblWord op t index).toNat 28 27 = t.code := by
    rw [fwdTblWord_toNat hop t hi]
    unfold bitsOf
    omega
  have hindex : bitsOf (fwdTblWord op t index).toNat 15 0 = index := by
    rw [fwdTblWord_toNat hop t hi]
    unfold bitsOf
    omega
  rw [Module.writeReg_fwdTblCmd, if_pos hgo, hop', ht, hindex, Nat.min_eq_right hop, fwdTableOf_code]

/-- The word of a group table command starts what it names. -/
theorem Module.writeReg_colGrpWord (m : Module) (req : Requester) (sec : Nat) {op : Nat} (hop : op ≤ 2) (member : Bool)
    {index : Nat} (hi : index < 2 ^ 18) (queue : Nat × Nat) :
    m.writeReg req .colGrpCmd sec 0 (colGrpWord op member index) queue = m.grpGo sec op member index := by
  have hflag : flag member ≤ 1 := by cases member <;> decide
  have hgo : bitOf (colGrpWord op member index).toNat 31 = true := by
    rw [colGrpWord_toNat hop member hi]
    exact beq_iff_eq.2 (by omega)
  have hop' : bitsOf (colGrpWord op member index).toNat 30 29 = op := by
    rw [colGrpWord_toNat hop member hi]
    unfold bitsOf
    omega
  have hmember : bitOf (colGrpWord op member index).toNat 28 = member := by
    rw [colGrpWord_toNat hop member hi]
    have hbit : (2 ^ 31 + op * 2 ^ 29 + flag member * 2 ^ 28 + index) / 2 ^ 28 % 2 = flag member := by omega
    rw [bitOf, hbit]
    cases member <;> rfl
  have hindex : bitsOf (colGrpWord op member index).toNat 17 0 = index := by
    rw [colGrpWord_toNat hop member hi]
    unfold bitsOf
    omega
  rw [Module.writeReg_colGrpCmd, if_pos hgo, hop', hmember, hindex, Nat.min_eq_right hop]

section
variable {m : Module} {req : Requester} {sec : Fin 8} {op : Nat}

/-- A table command that reaches its sector starts there. -/
theorem Module.accessWrite_fwdTblWord (hmay : m.mayAccess req 1 = true) (hans : m.answers .fwd sec.val = true)
    (hlive : sec.val < m.liveCount .fwd) (hop : op ≤ 2) (t : FwdTable) (index : BitVec 16) :
    m.accessWrite req (regAddr .fwdTblCmd sec.val 0) (fwdTblWord op t index.toNat) =
      m.fwdGo req sec.val op t index.toNat := by
  rw [Module.accessWrite_now hmay (Module.reach_of_target (target_fwdTblCmd sec) hans hlive) (.inl rfl),
    Module.writeReg_fwdTblWord m req sec.val hop t index.isLt]

theorem Module.accessWrite_colGrpWord (hans : m.answers .col sec.val = true) (hlive : sec.val < m.liveCount .col)
    (hop : op ≤ 2) (member : Bool) (index : BitVec 18) :
    m.accessWrite .mpc (regAddr .colGrpCmd sec.val 0) (colGrpWord op member index.toNat) =
      m.grpGo sec.val op member index.toNat := by
  rw [Module.accessWrite_now rfl (Module.reach_of_target (target_colGrpCmd sec) hans hlive) (.inl rfl),
    Module.writeReg_colGrpWord m .mpc sec.val hop member index.isLt]

end

/-- A switch that its requester may ask for, while no patch applies, is asked for at once. -/
theorem Module.accessWrite_fwdVer {m : Module} {req : Requester} (hmay : m.mayAccess req 1 = true)
    (hans : m.answers .fwd 0 = true) (hlive : 0 < m.liveCount .fwd) (hpatch : m.img.patch = none) :
    m.accessWrite req (regAddr .fwdVer 0 0) (cmdWord (2 ^ 31)) = m.askSwitch := by
  have hgo : bitOf (cmdWord (2 ^ 31)).toNat 31 = true := by decide
  rw [Module.accessWrite_now hmay (Module.reach_of_target target_fwdVer hans hlive) (.inl rfl), Module.writeReg_fwdVer,
    Module.writeFwdVer, hgo, hpatch]
  rfl

/-! ### One field in every sector -/

theorem Module.OnlyRegs.fwd {m' m : Module} (h : m'.OnlyRegs m) : m'.fwd = m.fwd := by rw [h]

theorem Module.OnlyRegs.col {m' m : Module} (h : m'.OnlyRegs m) : m'.col = m.col := by rw [h]

theorem Module.setAll_onlyRegs (m : Module) (n : Nat) (k : Nat → FKey) (v : Nat) : (m.setAll n k v).OnlyRegs m :=
  .each fun m _ => (Module.OnlyRegs.refl m).setF ..

theorem Module.getF_setAll (m : Module) {n : Nat} {k : Nat → FKey} (hk : Function.Injective k) {i : Nat} (hi : i < n)
    (v : Nat) : (m.setAll n k v).getF (k i) = v % 2 ^ (k i).width :=
  Module.each_once (fun m => m.getF (k i)) (fun _ => v % 2 ^ (k i).width) List.nodup_range (List.mem_range.2 hi)
    (fun m => m.getF_setF_self _ _) fun m _ _ hne => m.getF_setF_ne _ fun h => hne (hk h)

theorem Module.getF_setAll_ne (m : Module) {n : Nat} {k : Nat → FKey} {k' : FKey} (h : ∀ i, k i ≠ k') (v : Nat) :
    (m.setAll n k v).getF k' = m.getF k' :=
  Module.each_keeps (fun m => m.getF k') fun m i _ => m.getF_setF_ne _ (h i)

theorem FKey.width_fwdVer_VERSION (i : Nat) : FKey.width (K.fwdVer_VERSION i) = 16 :=
  FKey.width_of_mem (d := fd 15 0 .ro) (by decide) i 0

theorem FKey.width_fwdVer_SHADOW_DIRTY (i : Nat) : FKey.width (K.fwdVer_SHADOW_DIRTY i) = 1 :=
  FKey.width_of_mem (d := fd 16 16 .ro) (by decide) i 0

theorem FKey.width_fwdTblStat_BUSY (i : Nat) : FKey.width (K.fwdTblStat_BUSY i) = 1 :=
  FKey.width_of_mem (d := fd 0 0 .ro) (by decide) i 0

theorem FKey.width_colGrpStat_BUSY (i : Nat) : FKey.width (K.colGrpStat_BUSY i) = 1 :=
  FKey.width_of_mem (d := fd 0 0 .ro) (by decide) i 0

theorem FKey.width_colGrpData (i j : Nat) : FKey.width (K.colGrpData_DATA i j) = 32 :=
  FKey.width_of_mem (d := fd 31 0 .rw) (by decide) i j

theorem Module.dirty_onlyRegs (m : Module) : m.dirty.OnlyRegs m := m.setAll_onlyRegs ..

theorem Module.getF_dirty (m : Module) {t : Nat} (ht : t < 8) : m.dirty.getF (K.fwdVer_SHADOW_DIRTY t) = 1 := by
  rw [Module.dirty, m.getF_setAll (fun a b h => by simpa using h) ht,
    FKey.width_fwdVer_SHADOW_DIRTY, Nat.one_mod_eq_one.2 (by decide)]

/-- The mark of a written shadow is in FWD_VER, and in no other register. -/
theorem Module.getF_dirty_ne (m : Module) {k : FKey} (h : k.reg ≠ .fwdVer) : m.dirty.getF k = m.getF k :=
  m.getF_setAll_ne (fun _ e => h (congrArg FKey.reg e).symm) 1

/-! ### Route table commands (R169) -/

/-- The data of a route table command: a set entry occupies DATA_LO only, as its requester has written it. -/
def Module.fwdTblData (m : Module) (req : Requester) (s : Nat) (t : FwdTable) : BitVec 64 :=
  BitVec.ofNat 64 (if t = .set then m.lowHalf req .fwdTblDataLo s 0 (m.getF (K.fwdTblDataLo_DATA s))
    else m.getF (K.fwdTblDataHi_DATA s) * 2 ^ 32 + m.getF (K.fwdTblDataLo_DATA s))

/-- A table command in a sector where none runs waits with its data, and BUSY shows it. -/
theorem Module.fwdGo_idle {m : Module} {s : Nat} (h : m.isOn (K.fwdTblStat_BUSY s) = false) (req : Requester) (op : Nat)
    (t : FwdTable) (i : Nat) :
    m.fwdGo req s op t i =
      ({ m with fwd := { m.fwd with
        busy := m.fwd.busy ++ [(s, op, t, fwdIndex t i, m.fwdTblData req s t)] } } : Module).setF (K.fwdTblStat_BUSY s) 1 := by
  unfold Module.fwdGo
  rw [h]
  cases t <;> rfl

/-- The same, as its status and the queue of commands show it. -/
theorem Module.fwdGo_waits {m : Module} {s : Nat} (h : m.isOn (K.fwdTblStat_BUSY s) = false) (req : Requester) (op : Nat)
    (t : FwdTable) (i : Nat) :
    (m.fwdGo req s op t i).fwd.busy = m.fwd.busy ++ [(s, op, t, fwdIndex t i, m.fwdTblData req s t)] ∧
      (m.fwdGo req s op t i).getF (K.fwdTblStat_BUSY s) = 1 ∧
      (m.fwdGo req s op t i).RegsKept m [K.fwdTblStat_BUSY s] := by
  rw [Module.fwdGo_idle h]
  refine ⟨rfl, ?_, fun k hk => ?_⟩
  · rw [Module.getF_setF_self, FKey.width_fwdTblStat_BUSY, Nat.one_mod_eq_one.2 (by decide)]
  · rw [Module.getF_setF_ne _ _ (fun e => hk (by simp [e]))]
    rfl

theorem RouteTables.entry_write (t : RouteTables) (k : FwdTable) (i : Nat) (v : BitVec 64) :
    (t.write k i v).entry k i =
      match k with
      | .route => (RouteEntry.decode v).encode
      | .set => (setEntry (v.setWidth 32)).setWidth 64
      | .member => (Member.decode v).encode := by
  cases k <;> simp [RouteTables.write, RouteTables.entry]

theorem Module.writeRoute_now {m : Module} (h : m.fwd.copying = false) (t : FwdTable) (i : Nat) (v : BitVec 64) :
    m.writeRoute t i v =
      ({ m with fwd := { m.fwd with shadow := m.fwd.shadow.write t i v } } : Module).dirty := by
  unfold Module.writeRoute
  rw [h]
  rfl

theorem Module.writeRoute_fwd {m : Module} (h : m.fwd.copying = false) (t : FwdTable) (i : Nat) (v : BitVec 64) :
    (m.writeRoute t i v).fwd = { m.fwd with shadow := m.fwd.shadow.write t i v } := by
  rw [Module.writeRoute_now h, (Module.dirty_onlyRegs _).fwd]

/-- A sector's route table command is no longer one that runs. -/
def Module.fwdIdle (m : Module) (s : Nat) : Module :=
  ({ m with fwd := { m.fwd with busy := m.fwd.busy.filter (fun b => b.1 ≠ s) } } : Module).setF (K.fwdTblStat_BUSY s) 0

theorem Module.getF_fwdIdle_BUSY (m : Module) (s : Nat) : (m.fwdIdle s).getF (K.fwdTblStat_BUSY s) = 0 := by
  rw [Module.fwdIdle, Module.getF_setF_self, Nat.zero_mod]

/-- A sector's data registers with an entry in them. -/
def Module.showEntry (m : Module) (s v : Nat) : Module :=
  (m.setF (K.fwdTblDataLo_DATA s) (v % 2 ^ 32)).setF (K.fwdTblDataHi_DATA s) (v / 2 ^ 32)

theorem Module.showEntry_data (m : Module) (s : Nat) (v : BitVec 64) :
    (m.showEntry s v.toNat).getF (K.fwdTblDataHi_DATA s) * 2 ^ 32 + (m.showEntry s v.toNat).getF (K.fwdTblDataLo_DATA s) =
      v.toNat := by
  have hlt := v.isLt
  rw [Module.showEntry, Module.getF_setF_self, Module.getF_setF_ne _ _ (by simp), Module.getF_setF_self,
    FKey.width_fwdTblDataHi, FKey.width_fwdTblDataLo]
  omega

theorem Module.getF_showEntry_ne (m : Module) {k : FKey} (s v : Nat) (hlo : k.reg ≠ .fwdTblDataLo)
    (hhi : k.reg ≠ .fwdTblDataHi) : (m.showEntry s v).getF k = m.getF k := by
  rw [Module.showEntry, Module.getF_setF_ne _ _ (fun e => hhi (congrArg FKey.reg e).symm),
    Module.getF_setF_ne _ _ (fun e => hlo (congrArg FKey.reg e).symm)]

section
variable {m : Module} {s op i : Nat} {t : FwdTable} {data : BitVec 64}

theorem Module.fwdDone_copying (h : m.fwd.copying = true) : m.fwdDone s = m := if_pos h

/-- The end of a command that runs writes the shadow, or reads an entry of the version that it names (R169). -/
theorem Module.fwdDone_of_busy (h : m.fwd.copying = false)
    (hb : m.fwd.busy.find? (fun b => b.1 == s) = some (s, op, t, i, data)) :
    m.fwdDone s =
      if 2 ≤ op then (m.fwdIdle s).writeRoute t i data
      else (m.fwdIdle s).showEntry s ((if op = 0 then m.fwd.active else m.fwd.shadow).entry t i).toNat := by
  unfold Module.fwdDone
  rw [h, hb]
  rfl

/-- A write that ends stands in the shadow, marks it, and leaves the active table. -/
theorem Module.fwdDone_write (h : m.fwd.copying = false)
    (hb : m.fwd.busy.find? (fun b => b.1 == s) = some (s, op, t, i, data)) (hop : 2 ≤ op) :
    (m.fwdDone s).fwd.active = m.fwd.active ∧ (m.fwdDone s).fwd.shadow = m.fwd.shadow.write t i data ∧
      (m.fwdDone s).getF (K.fwdTblStat_BUSY s) = 0 ∧ ∀ n, n < 8 → (m.fwdDone s).getF (K.fwdVer_SHADOW_DIRTY n) = 1 := by
  have hidle : (m.fwdIdle s).fwd.copying = false := h
  rw [Module.fwdDone_of_busy h hb, if_pos hop, Module.writeRoute_fwd hidle, Module.writeRoute_now hidle]
  refine ⟨rfl, rfl, ?_, fun n hn => Module.getF_dirty _ hn⟩
  rw [Module.getF_dirty_ne _ (by decide : RegName.fwdTblStat ≠ .fwdVer)]
  exact m.getF_fwdIdle_BUSY s

/-- A read that ends stands in the data registers, and leaves both versions. -/
theorem Module.fwdDone_read (h : m.fwd.copying = false)
    (hb : m.fwd.busy.find? (fun b => b.1 == s) = some (s, op, t, i, data)) (hop : op < 2) :
    (m.fwdDone s).fwd.active = m.fwd.active ∧ (m.fwdDone s).fwd.shadow = m.fwd.shadow ∧
      (m.fwdDone s).getF (K.fwdTblStat_BUSY s) = 0 ∧
      (m.fwdDone s).getF (K.fwdTblDataHi_DATA s) * 2 ^ 32 + (m.fwdDone s).getF (K.fwdTblDataLo_DATA s) =
        ((if op = 0 then m.fwd.active else m.fwd.shadow).entry t i).toNat := by
  rw [Module.fwdDone_of_busy h hb, if_neg (Nat.not_le_of_lt hop)]
  refine ⟨rfl, rfl, ?_, Module.showEntry_data ..⟩
  rw [Module.getF_showEntry_ne _ _ _ (by decide : RegName.fwdTblStat ≠ .fwdTblDataLo)
    (by decide : RegName.fwdTblStat ≠ .fwdTblDataHi)]
  exact m.getF_fwdIdle_BUSY s

end

/-! ### Packed fields -/

theorem packBits_append_singleton (fs : List (Nat × Nat)) (f : Nat × Nat) :
    packBits (fs ++ [f]) = packBits fs * 2 ^ f.1 + f.2 % 2 ^ f.1 := by
  simp [packBits, List.foldl_append]

/-- The fields that follow are divided away. -/
theorem packBits_append_div (fs gs : List (Nat × Nat)) :
    packBits (fs ++ gs) / 2 ^ (gs.map Prod.fst).sum = packBits fs := by
  induction gs generalizing fs with
  | nil => rw [List.append_nil, List.map_nil, List.sum_nil, Nat.pow_zero, Nat.div_one]
  | cons g gs ih =>
    rw [List.append_cons, List.map_cons, List.sum_cons, Nat.add_comm, Nat.pow_add, ← Nat.div_div_eq_div_mul, ih,
      packBits_append_singleton, Nat.mul_comm, Nat.mul_add_div (Nat.two_pow_pos _),
      Nat.div_eq_of_lt (Nat.mod_lt _ (Nat.two_pow_pos _)), Nat.add_zero]

/-- A packed field is read back from where it was put. -/
theorem bitsOf_packBits {l fs gs : List (Nat × Nat)} {hi lo v : Nat} (hl : l = fs ++ (hi + 1 - lo, v) :: gs)
    (hlo : (gs.map Prod.fst).sum = lo) (hv : v < 2 ^ (hi + 1 - lo)) : bitsOf (packBits l) hi lo = v := by
  rw [hl, List.append_cons, bitsOf, ← hlo, packBits_append_div, packBits_append_singleton, hlo, Nat.mul_comm, Nat.mul_add_mod,
    Nat.mod_mod, Nat.mod_eq_of_lt hv]

theorem bitsOf_lt (n hi lo : Nat) : bitsOf n hi lo < 2 ^ (hi + 1 - lo) := Nat.mod_lt _ (Nat.two_pow_pos _)

/-- A bit of a field is a bit of the number. -/
theorem bitOf_bitsOf (n : Nat) {hi lo b : Nat} (hb : lo + b ≤ hi) : bitOf (bitsOf n hi lo) b = bitOf n (lo + b) := by
  have hwidth : hi + 1 - lo = b + (hi + 1 - lo - b) := by omega
  have hpos : 2 ∣ 2 ^ (hi + 1 - lo - b) := show 2 ^ 1 ∣ 2 ^ (hi + 1 - lo - b) from Nat.pow_dvd_pow 2 (by omega)
  rw [bitOf, bitsOf, hwidth, Nat.pow_add 2 b, Nat.mod_mul_right_div_self, Nat.mod_mod_of_dvd _ hpos, Nat.div_div_eq_div_mul,
    ← Nat.pow_add, bitOf]

theorem packBits_lt (fs : List (Nat × Nat)) : packBits fs < 2 ^ (fs.map Prod.fst).sum := by
  have h := packBits_append_div [] fs
  exact (Nat.div_eq_zero_iff_lt (Nat.two_pow_pos _)).1 h

/-! ### Group entries (R213, R214) -/

/-- The fields of a group definition, clamped. -/
def groupFields (n : Nat) : List (Nat × Nat) :=
  [(68, bitsOf n 255 188), (12, min 2048 (bitsOf n 187 176)), (10, min 512 (bitsOf n 175 166)), (18, bitsOf n 165 148),
    (24, if bitOf n 255 then max 1 (bitsOf n 147 124) else bitsOf n 147 124), (24, bitsOf n 123 100), (36, 0),
    (64, bitsOf n 63 0)]

theorem legalGroup_definition (w : BitVec 256) : legalGroup false w = BitVec.ofNat 256 (packBits (groupFields w.toNat)) := rfl

theorem legalGroup_member (w : BitVec 256) : legalGroup true w = BitVec.ofNat 256 (w.toNat % 2 ^ 64 / 16 * 16) := rfl

/-- Raising a total to 1, where an entry is in use, raises it once. -/
theorem atLeastOne_idem (used : Bool) (n : Nat) :
    (if used then max 1 (if used then max 1 n else n) else if used then max 1 n else n) = if used then max 1 n else n := by
  cases used with
  | false => rfl
  | true => exact Nat.max_eq_right (Nat.le_max_left ..)

/-- What is clamped already is not clamped again. -/
theorem groupFields_packBits (n : Nat) : groupFields (packBits (groupFields n)) = groupFields n := by
  have hfits : (if bitOf n 255 then max 1 (bitsOf n 147 124) else bitsOf n 147 124) < 2 ^ 24 := by
    have hlt := bitsOf_lt n 147 124
    split <;> omega
  have hhead : bitsOf (packBits (groupFields n)) 255 188 = bitsOf n 255 188 :=
    bitsOf_packBits (fs := []) rfl rfl (bitsOf_lt ..)
  have hnLocal : bitsOf (packBits (groupFields n)) 187 176 = min 2048 (bitsOf n 187 176) :=
    bitsOf_packBits (fs := (groupFields n).take 1) rfl rfl (Nat.lt_of_le_of_lt (Nat.min_le_right ..) (bitsOf_lt ..))
  have hnChild : bitsOf (packBits (groupFields n)) 175 166 = min 512 (bitsOf n 175 166) :=
    bitsOf_packBits (fs := (groupFields n).take 2) rfl rfl (Nat.lt_of_le_of_lt (Nat.min_le_right ..) (bitsOf_lt ..))
  have hbase : bitsOf (packBits (groupFields n)) 165 148 = bitsOf n 165 148 :=
    bitsOf_packBits (fs := (groupFields n).take 3) rfl rfl (bitsOf_lt ..)
  have htotal : bitsOf (packBits (groupFields n)) 147 124 =
      if bitOf n 255 then max 1 (bitsOf n 147 124) else bitsOf n 147 124 :=
    bitsOf_packBits (fs := (groupFields n).take 4) rfl rfl hfits
  have hbelow : bitsOf (packBits (groupFields n)) 123 100 = bitsOf n 123 100 :=
    bitsOf_packBits (fs := (groupFields n).take 5) rfl rfl (bitsOf_lt ..)
  have hseed : bitsOf (packBits (groupFields n)) 63 0 = bitsOf n 63 0 :=
    bitsOf_packBits (fs := (groupFields n).take 7) rfl rfl (bitsOf_lt ..)
  have hvalid : bitOf (packBits (groupFields n)) 255 = bitOf n 255 := by
    rw [← bitOf_bitsOf (hi := 255) (lo := 188) (b := 67) _ (by decide), hhead, bitOf_bitsOf _ (by decide)]
  conv => lhs; rw [groupFields]
  rw [hhead, hnLocal, hnChild, hbase, htotal, hbelow, hseed, hvalid, Nat.min_eq_right (Nat.min_le_left ..),
    Nat.min_eq_right (Nat.min_le_left ..), atLeastOne_idem, groupFields]

theorem packBits_groupFields_lt (n : Nat) : packBits (groupFields n) < 2 ^ 256 := packBits_lt (groupFields n)

/-- An entry that is legal stays as it is. -/
theorem legalGroup_legalGroup (member : Bool) (w : BitVec 256) :
    legalGroup member (legalGroup member w) = legalGroup member w := by
  cases member with
  | false =>
    rw [legalGroup_definition, legalGroup_definition, BitVec.toNat_ofNat, Nat.mod_eq_of_lt (packBits_groupFields_lt _),
      groupFields_packBits]
  | true =>
    rw [legalGroup_member, legalGroup_member, BitVec.toNat_ofNat]
    congr 1
    omega

/-- A member entry has 64 bits. -/
theorem legalGroup_member_setWidth (w : BitVec 256) :
    ((legalGroup true w).setWidth 64).setWidth 256 = legalGroup true w := by
  apply BitVec.eq_of_toNat_eq
  rw [legalGroup_member, BitVec.toNat_setWidth, BitVec.toNat_setWidth, BitVec.toNat_ofNat]
  omega

/-- An entry that is written reads as it was clamped. -/
theorem GroupTables.entry_write (t : GroupTables) (member : Bool) (i : Nat) (v : BitVec 256) :
    (t.write member i (legalGroup member v)).entry member i = legalGroup member v := by
  cases member with
  | false => simp [GroupTables.write, GroupTables.entry, legalGroup_legalGroup]
  | true => simp [GroupTables.write, GroupTables.entry, legalGroup_legalGroup, legalGroup_member_setWidth]

/-! ### Group table commands (R247) -/

/-- A table command in a sector where none runs waits with its data, and BUSY shows it. -/
theorem Module.grpGo_idle {m : Module} {s : Nat} (h : m.isOn (K.colGrpStat_BUSY s) = false) (op : Nat) (member : Bool)
    (i : Nat) :
    m.grpGo s op member i =
      ({ m with col := { m.col with
        busy := m.col.busy ++ [(s, op, member, grpIndex member i, m.grpData s)] } } : Module).setF (K.colGrpStat_BUSY s) 1 := by
  unfold Module.grpGo
  rw [h]
  rfl

/-- The same, as its status and the queue of commands show it. -/
theorem Module.grpGo_waits {m : Module} {s : Nat} (h : m.isOn (K.colGrpStat_BUSY s) = false) (op : Nat) (member : Bool)
    (i : Nat) :
    (m.grpGo s op member i).col.busy = m.col.busy ++ [(s, op, member, grpIndex member i, m.grpData s)] ∧
      (m.grpGo s op member i).getF (K.colGrpStat_BUSY s) = 1 ∧
      (m.grpGo s op member i).RegsKept m [K.colGrpStat_BUSY s] := by
  rw [Module.grpGo_idle h]
  refine ⟨rfl, ?_, fun k hk => ?_⟩
  · rw [Module.getF_setF_self, FKey.width_colGrpStat_BUSY, Nat.one_mod_eq_one.2 (by decide)]
  · rw [Module.getF_setF_ne _ _ (fun e => hk (by simp [e]))]
    rfl

/-- The definitions of the shadow that a switch takes out of standby, once an entry is written (R463). -/
def Module.writtenWith (m : Module) (member : Bool) (i : Nat) : List Nat :=
  if member || m.col.written.contains i then m.col.written else m.col.written ++ [i]

theorem Module.mem_writtenWith (m : Module) (i : Nat) : i ∈ m.writtenWith false i := by
  unfold Module.writtenWith
  split
  · next h => simpa using h
  · simp

theorem Module.writeGroup_now {m : Module} (h : m.fwd.copying = false) (member : Bool) (i : Nat) (v : BitVec 256) :
    m.writeGroup member i v =
      ({ m with col := { m.col with
        shadow := m.col.shadow.write member i (legalGroup member v), written := m.writtenWith member i } } : Module).dirty := by
  unfold Module.writeGroup
  rw [h]
  rfl

/-- A sector's group table command is no longer one that runs. -/
def Module.grpIdle (m : Module) (s : Nat) : Module :=
  ({ m with col := { m.col with busy := m.col.busy.filter (fun b => b.1 ≠ s) } } : Module).setF (K.colGrpStat_BUSY s) 0

theorem Module.getF_grpIdle_BUSY (m : Module) (s : Nat) : (m.grpIdle s).getF (K.colGrpStat_BUSY s) = 0 := by
  rw [Module.grpIdle, Module.getF_setF_self, Nat.zero_mod]

/-- A sector's data registers with a group entry in them. -/
def Module.showGroup (m : Module) (s v : Nat) : Module :=
  m.each (List.range 8) (fun m j => m.setF (K.colGrpData_DATA s j) (v / 2 ^ (32 * j)))

theorem Module.showGroup_onlyRegs (m : Module) (s v : Nat) : (m.showGroup s v).OnlyRegs m :=
  .each fun m _ => (Module.OnlyRegs.refl m).setF ..

theorem Module.getF_showGroup (m : Module) (s v : Nat) {j : Nat} (hj : j < 8) :
    (m.showGroup s v).getF (K.colGrpData_DATA s j) = v / 2 ^ (32 * j) % 2 ^ 32 :=
  Module.each_once (fun m => m.getF (K.colGrpData_DATA s j)) (fun _ => v / 2 ^ (32 * j) % 2 ^ 32) List.nodup_range
    (List.mem_range.2 hj) (fun m => by rw [Module.getF_setF_self, FKey.width_colGrpData])
    fun m n _ hne => m.getF_setF_ne _ (by simpa using hne)

theorem Module.getF_showGroup_ne (m : Module) (s v : Nat) {k : FKey} (h : k.reg ≠ .colGrpData) :
    (m.showGroup s v).getF k = m.getF k :=
  Module.each_keeps (fun m => m.getF k) fun m _ _ => m.getF_setF_ne _ fun e => h (congrArg FKey.reg e).symm

/-- A number is the sum of its 32-bit words. -/
theorem foldl_words {v n : Nat} {word : Nat → Nat} (hword : ∀ j, j < n → word j = v / 2 ^ (32 * j) % 2 ^ 32) :
    (List.range n).foldl (fun acc j => acc + word j * 2 ^ (32 * j)) 0 = v % 2 ^ (32 * n) := by
  induction n with
  | zero => rw [List.range_zero, List.foldl_nil, Nat.mul_zero, Nat.pow_zero, Nat.mod_one]
  | succ n ih =>
    rw [List.range_succ, List.foldl_append, ih fun j hj => hword j (Nat.lt_succ_of_lt hj), List.foldl_cons, List.foldl_nil,
      hword n (Nat.lt_succ_self n), Nat.mul_succ, Nat.pow_add, Nat.mod_mul, Nat.mul_comm (2 ^ (32 * n))]

theorem Module.grpData_showGroup (m : Module) (s : Nat) (v : BitVec 256) : (m.showGroup s v.toNat).grpData s = v := by
  rw [Module.grpData, foldl_words fun j hj => m.getF_showGroup s v.toNat hj, Nat.mod_eq_of_lt v.isLt, BitVec.ofNat_toNat,
    BitVec.setWidth_eq]

section
variable {m : Module} {s op i : Nat} {member : Bool} {data : BitVec 256}

/-- The end of a command that runs writes the shadow, or reads an entry of the version that it names (R247). -/
theorem Module.grpDone_of_busy (h : m.fwd.copying = false)
    (hb : m.col.busy.find? (fun b => b.1 == s) = some (s, op, member, i, data)) :
    m.grpDone s =
      if 2 ≤ op then (m.grpIdle s).writeGroup member i data
      else (m.grpIdle s).showGroup s ((if op = 0 then m.col.active else m.col.shadow).entry member i).toNat := by
  unfold Module.grpDone
  rw [h, hb]
  rfl

/-- A write that ends stands in the shadow with its values clamped, and leaves the active table. -/
theorem Module.grpDone_write (h : m.fwd.copying = false)
    (hb : m.col.busy.find? (fun b => b.1 == s) = some (s, op, member, i, data)) (hop : 2 ≤ op) :
    (m.grpDone s).col.active = m.col.active ∧
      (m.grpDone s).col.shadow = m.col.shadow.write member i (legalGroup member data) ∧
      (m.grpDone s).col.written = m.writtenWith member i ∧ (m.grpDone s).getF (K.colGrpStat_BUSY s) = 0 := by
  have hidle : (m.grpIdle s).fwd.copying = false := h
  rw [Module.grpDone_of_busy h hb, if_pos hop, Module.writeGroup_now hidle, (Module.dirty_onlyRegs _).col]
  refine ⟨rfl, rfl, rfl, ?_⟩
  rw [Module.getF_dirty_ne _ (by decide : RegName.colGrpStat ≠ .fwdVer)]
  exact m.getF_grpIdle_BUSY s

/-- A read that ends stands in the data registers, and leaves both versions. -/
theorem Module.grpDone_read (h : m.fwd.copying = false)
    (hb : m.col.busy.find? (fun b => b.1 == s) = some (s, op, member, i, data)) (hop : op < 2) :
    (m.grpDone s).col.active = m.col.active ∧ (m.grpDone s).col.shadow = m.col.shadow ∧
      (m.grpDone s).getF (K.colGrpStat_BUSY s) = 0 ∧
      (m.grpDone s).grpData s = (if op = 0 then m.col.active else m.col.shadow).entry member i := by
  rw [Module.grpDone_of_busy h hb, if_neg (Nat.not_le_of_lt hop), (Module.showGroup_onlyRegs ..).col]
  refine ⟨rfl, rfl, ?_, Module.grpData_showGroup ..⟩
  rw [Module.getF_showGroup_ne _ _ _ (by decide : RegName.colGrpStat ≠ .colGrpData)]
  exact m.getF_grpIdle_BUSY s

end

/-! ### What sending a frame leaves as it was -/

/-- What a frame of the module's own can change on its way out: registers, counters, the log, the buffers, HBM, the
endpoint, what has been sent, and the open values drawn. -/
def Module.OnlySends (m' m : Module) : Prop :=
  m' = { m with regs := m'.regs, counters := m'.counters, log := m'.log, buf := m'.buf, hbm := m'.hbm, mpc := m'.mpc
                out := m'.out, fresh := m'.fresh }

theorem Module.OnlySends.refl (m : Module) : m.OnlySends m := rfl

theorem Module.OnlySends.trans {m₂ m₁ m : Module} (h₂ : m₂.OnlySends m₁) (h₁ : m₁.OnlySends m) : m₂.OnlySends m := by
  unfold Module.OnlySends at *
  rw [h₂, h₁]

theorem Module.OnlySends.fwd {m' m : Module} (h : m'.OnlySends m) : m'.fwd = m.fwd := by rw [h]

theorem Module.OnlySends.of_onlyShows {m' m : Module} (h : m'.OnlyShows m) : m'.OnlySends m := by
  unfold Module.OnlyShows Module.OnlySends at *
  rw [h]

theorem Module.OnlySends.each {α : Type} {m : Module} {l : List α} {f : Module → α → Module}
    (h : ∀ m x, (f m x).OnlySends m) : (m.each l f).OnlySends m := by
  unfold Module.each
  induction l generalizing m with
  | nil => exact .refl m
  | cons a t ih => exact ih.trans (h m a)

theorem Module.raise_onlySends (m : Module) (e : Ev) (i d : Nat) : (m.raise e i d).OnlySends m :=
  .of_onlyShows ((Module.OnlyShows.refl m).raise e i d)

theorem Module.OnlySends.raise {m' m : Module} (h : m'.OnlySends m) (e : Ev) (i d : Nat) : (m'.raise e i d).OnlySends m :=
  (m'.raise_onlySends e i d).trans h

theorem Module.OnlySends.ite {c : Prop} [Decidable c] {m₁ m₂ m : Module} (h₁ : m₁.OnlySends m) (h₂ : m₂.OnlySends m) :
    (if c then m₁ else m₂).OnlySends m := by
  split
  · exact h₁
  · exact h₂

theorem Module.count_onlySends (m : Module) (num i n : Nat) : (m.count num i n).OnlySends m := by
  unfold Module.count
  exact .ite rfl (.refl m)

/-! #### Queues, and the Carafe behind them (R176 to R178) -/

theorem Module.putQ_onlySends (m : Module) (lport vc : Nat) (q : OutQueue) : (m.putQ lport vc q).OnlySends m := rfl

theorem Module.putFifo_onlySends (m : Module) (lport vc : Nat) (fs : List QFrame) : (m.putFifo lport vc fs).OnlySends m := rfl

theorem Module.refillQ_onlySends (m : Module) (lport vc : Nat) : (m.refillQ lport vc).OnlySends m := by
  unfold Module.refillQ
  exact .ite ((m.putQ_onlySends ..).raise ..) (m.putQ_onlySends ..)

theorem Module.activateQ_onlySends (m : Module) (lport vc : Nat) : (m.activateQ lport vc).OnlySends m :=
  (Module.refillQ_onlySends ..).trans (m.putQ_onlySends ..)

theorem Module.emptiedQ_onlySends (m : Module) (lport vc : Nat) : (m.emptiedQ lport vc).OnlySends m := by
  unfold Module.emptiedQ
  exact .ite ((m.putQ_onlySends ..).raise ..) (m.putQ_onlySends ..)

theorem Module.settleQ_onlySends (m : Module) (lport vc : Nat) (before : OutQueue) :
    (m.settleQ lport vc before).OnlySends m := by
  unfold Module.settleQ
  exact .ite (.ite (.refl m) (m.emptiedQ_onlySends ..))
    (.ite (m.activateQ_onlySends ..) (.ite (m.refillQ_onlySends ..) (.refl m)))

theorem Module.newChunk_onlySends (m : Module) (s r : Nat) (pool : Bool) (avoid : Option Nat) (use : ChunkUse) :
    (m.newChunk s r pool avoid use).OnlySends m := by
  unfold Module.newChunk
  split <;> rfl

theorem Module.noteSpill_onlySends (m : Module) (lport vc : Nat) : (m.noteSpill lport vc).OnlySends m := by
  unfold Module.noteSpill
  exact .ite (.refl m) ((m.putQ_onlySends ..).raise ..)

theorem Module.noteFull_onlySends (m : Module) (p : Nat) : (m.noteFull p).OnlySends m := by
  unfold Module.noteFull
  exact .ite ((Module.raise_onlySends ..).trans rfl) (.ite (.refl m) rfl)

theorem Module.takeCarafe_onlySends (m : Module) (lport vc : Nat) (use : ChunkUse) :
    (m.takeCarafe lport vc use).OnlySends m :=
  (Module.noteFull_onlySends ..).trans <| (Module.noteSpill_onlySends ..).trans <|
    Module.OnlySends.trans (m₁ := m.newChunk ..) rfl (m.newChunk_onlySends ..)

theorem Module.openChunk_onlySends (m : Module) (lport vc : Nat) (cont : Bool) : (m.openChunk lport vc cont).OnlySends m :=
  (Module.takeCarafe_onlySends ..).trans (m.putQ_onlySends ..)

theorem Module.writeCarafe_onlySends (m : Module) (lport vc : Nat) (f : QFrame) (rest fuel : Nat) :
    (m.writeCarafe lport vc f rest fuel).OnlySends m := by
  induction fuel generalizing m rest with
  | zero => exact .refl m
  | succ fuel ih =>
    unfold Module.writeCarafe
    dsimp only
    split
    · exact .ite ((ih ..).trans (m.openChunk_onlySends ..))
        (.ite (m.putQ_onlySends ..) ((ih ..).trans (m.putQ_onlySends ..)))
    · exact (ih ..).trans (m.openChunk_onlySends ..)

theorem Module.enqueue_onlySends (m : Module) (lport vc : Nat) (f : QFrame) (carafe : Bool) :
    (m.enqueue lport vc f carafe).OnlySends m := by
  unfold Module.enqueue
  exact (Module.settleQ_onlySends ..).trans (.ite (m.writeCarafe_onlySends ..) (m.putQ_onlySends ..))

theorem Module.conflictOnce_onlySends (m : Module) (resource : Nat) (runtime : Bool) :
    (m.conflictOnce resource runtime).OnlySends m := by
  unfold Module.conflictOnce
  exact .ite (.refl m) ((Module.raise_onlySends ..).trans rfl)

theorem Module.contestPool_onlySends (m : Module) (s : Nat) : (m.contestPool s).OnlySends m := by
  have hconflict := m.conflictOnce_onlySends 1 true
  unfold Module.contestPool
  exact .ite (.ite (Module.OnlySends.trans rfl hconflict) (Module.OnlySends.trans rfl hconflict)) (.refl m)

theorem Module.contested_onlySends (m : Module) (lport vc len : Nat) : (m.contested lport vc len).OnlySends m := by
  unfold Module.contested Module.wantPool
  exact .ite (.refl m) (.ite (m.contestPool_onlySends ..) (.refl m))

theorem Module.noteNoRoom_onlySends (m : Module) (p n : Nat) (f : QFrame) : (m.noteNoRoom p n f).1.OnlySends m := by
  have hfull : (if f.fullNoted then m else m.regionFull (p / 64)).OnlySends m := .ite (.refl m) (m.raise_onlySends ..)
  unfold Module.noteNoRoom
  dsimp only
  split
  · exact .refl m
  · exact .ite (hfull.raise ..) hfull

/-! #### A frame's way to its queue (R176) -/

theorem Module.tollIn_onlySends (m : Module) (f : QFrame) : (m.tollIn f).OnlySends m := by
  unfold Module.tollIn
  split
  · split <;> rfl
  · rfl

theorem Module.crossXbar_onlySends (m : Module) (f : QFrame) (lport : Nat) : (m.crossXbar f lport).OnlySends m :=
  (Module.count_onlySends ..).trans (Module.OnlySends.trans rfl (m.count_onlySends ..))

theorem Module.tryAdmit_onlySends (m : Module) (lport vc : Nat) (f : QFrame) :
    (m.tryAdmit lport vc f).mod.OnlySends m := by
  have hin (m' : Module) (f' : QFrame) (carafe : Bool) :
      (((m'.drawn.crossXbar f' lport).tollIn f').enqueue lport vc f' carafe).OnlySends m' :=
    (Module.enqueue_onlySends ..).trans <| (Module.tollIn_onlySends ..).trans (m'.drawn.crossXbar_onlySends ..)
  have hcontested := m.contested_onlySends lport vc f.frame.len
  unfold Module.tryAdmit
  dsimp only
  split
  · exact (hin ..).trans hcontested
  · exact (hin ..).trans hcontested
  · split
    · exact hcontested
    · exact (Module.noteNoRoom_onlySends ..).trans hcontested

theorem Module.drainOwn_onlySends (m : Module) (lport vc fuel : Nat) : (m.drainOwn lport vc fuel).OnlySends m := by
  induction fuel generalizing m with
  | zero => exact .refl m
  | succ fuel ih =>
    unfold Module.drainOwn
    split
    · exact .refl m
    · next f rest _ =>
      have hadmit := m.tryAdmit_onlySends lport vc f
      split
      · next m' htaken =>
        rw [htaken] at hadmit
        exact (ih _).trans ((Module.putFifo_onlySends ..).trans hadmit)
      · next m' f' hrefused =>
        rw [hrefused] at hadmit
        exact (Module.putFifo_onlySends ..).trans hadmit

theorem Module.originate_onlySends (m : Module) (sector lport vc : Nat) (formed f : Frame) :
    (m.originate sector lport vc formed f).OnlySends m := by
  unfold Module.originate
  exact .ite (m.raise_onlySends ..)
    (.ite (m.raise_onlySends ..) ((Module.drainOwn_onlySends ..).trans (m.putFifo_onlySends ..)))

theorem Module.lookup_onlySends (m : Module) (sector : Nat) (f : Frame) : (m.lookup sector f).1.OnlySends m := by
  have hmeets : (if m.meetsUp f then m.raise .fwd_DOWN_UP_FAULT sector else m).OnlySends m :=
    .ite (m.raise_onlySends ..) (.refl m)
  unfold Module.lookup
  dsimp only
  split
  · exact hmeets.raise ..
  · exact .ite (hmeets.raise ..) hmeets

/-! #### Replies (R407) -/

theorem Module.sendControl_onlySends (m : Module) (dst : Loc) (h : CtlHeader) (body : List Byte) :
    (m.sendControl dst h body).OnlySends m := by
  unfold Module.sendControl
  dsimp only
  split
  · next hlook => exact (Module.originate_onlySends ..).trans ((hlook ▸ Module.lookup_onlySends ..).trans rfl)
  · next hlook => exact (hlook ▸ Module.lookup_onlySends ..).trans rfl

theorem Module.sendReply_onlySends (m : Module) (r : Reply) : (m.sendReply r).OnlySends m := by
  unfold Module.sendReply
  exact (Module.OnlySends.each fun m x => m.sendControl_onlySends ..).trans rfl

theorem Module.awaitChunks_onlySends (m : Module) (src : Loc) (reqId : BitVec 16) (chunks : List Nat) :
    (m.awaitChunks src reqId chunks).OnlySends m := rfl

theorem Module.answer_onlySends (m : Module) (src : Loc) (reqId : BitVec 16) (cls status : Nat) (body : List Byte) :
    (m.answer src reqId cls status body).OnlySends m := by
  unfold Module.answer
  exact (Module.OnlySends.each fun m _ => (Module.sendReply_onlySends ..).trans (m.raise_onlySends ..)).trans <|
    (Module.sendReply_onlySends ..).trans <| (Module.awaitChunks_onlySends ..).trans rfl

/-! ### The version switch and the copy that follows it (R27, R149) -/

theorem Module.lead_congr {m' m : Module} (hpower : m'.power = m.power) (hlock : m'.lock = m.lock) : m'.lead = m.lead := by
  rw [Module.lead, Module.lead, hpower, hlock]

theorem Module.OnlyRegs.lead {m' m : Module} (h : m'.OnlyRegs m) : m'.lead = m.lead :=
  Module.lead_congr (by rw [h]) (by rw [h])

/-- The shadow tables stand as the active ones, and the copy runs (R27). -/
def Module.swapTables (m : Module) : Module :=
  { m with
    fwd := { m.fwd with active := m.fwd.shadow, copying := true }
    col := { m.col with
      active := m.col.shadow, live := m.col.live ++ m.col.written.filter (fun i => !m.col.live.contains i), written := []
      windows := m.col.windows.filter (fun w => !(newEpochs m.col.active m.col.shadow).contains w.1) } }

/-- FWD_SEED holds a seed in every sector. -/
def Module.storeSeed (m : Module) (v : BitVec 64) : Module :=
  (m.setAll 8 K.fwdSeedLo_SEED (v.toNat % 2 ^ 32)).setAll 8 K.fwdSeedHi_SEED (v.toNat / 2 ^ 32)

/-- No patched seed waits. -/
def Module.dropSeed (m : Module) : Module := { m with fwd := { m.fwd with nextSeed := none } }

theorem Module.getF_dropSeed (m : Module) (k : FKey) : m.dropSeed.getF k = m.getF k := rfl

theorem Module.dropSeed_col (m : Module) : m.dropSeed.col = m.col := rfl

theorem Module.dropSeed_lead (m : Module) : m.dropSeed.lead = m.lead := rfl

/-- A patched seed is in force (R168). -/
def Module.takeSeed (m : Module) : Module :=
  match m.fwd.nextSeed with
  | some v => (m.storeSeed v).dropSeed
  | none => m

/-- FWD_VER shows the next version, its shadow as no write has found it. -/
def Module.nextVersion (m : Module) : Module :=
  (m.setAll 8 K.fwdVer_SHADOW_DIRTY 0).setAll 8 K.fwdVer_VERSION (m.getF (K.fwdVer_VERSION m.lead) + 1)

theorem Module.switchTables_eq (m : Module) :
    m.switchTables =
      m.swapTables.takeSeed.nextVersion.each m.swapTables.takeSeed.nextVersion.sectors
        (fun m s => m.raise .fwd_VERSION_SWITCH s) := rfl

theorem Module.storeSeed_onlyRegs (m : Module) (v : BitVec 64) : (m.storeSeed v).OnlyRegs m :=
  (Module.setAll_onlyRegs ..).trans (m.setAll_onlyRegs ..)

theorem Module.getF_storeSeed_VERSION (m : Module) (v : BitVec 64) (s : Nat) :
    (m.storeSeed v).getF (K.fwdVer_VERSION s) = m.getF (K.fwdVer_VERSION s) := by
  rw [Module.storeSeed, Module.getF_setAll_ne _ (by simp), Module.getF_setAll_ne _ (by simp)]

theorem Module.takeSeed_fwd (m : Module) : m.takeSeed.fwd = { m.fwd with nextSeed := none } := by
  unfold Module.takeSeed
  split
  · next v _ => rw [Module.dropSeed, (m.storeSeed_onlyRegs v).fwd]
  · next h => rw [← h]

theorem Module.takeSeed_col (m : Module) : m.takeSeed.col = m.col := by
  unfold Module.takeSeed
  split
  · next v _ => rw [Module.dropSeed_col, (m.storeSeed_onlyRegs v).col]
  · rfl

theorem Module.takeSeed_lead (m : Module) : m.takeSeed.lead = m.lead := by
  unfold Module.takeSeed
  split
  · next v _ => rw [Module.dropSeed_lead, (m.storeSeed_onlyRegs v).lead]
  · rfl

theorem Module.getF_takeSeed_VERSION (m : Module) (s : Nat) :
    m.takeSeed.getF (K.fwdVer_VERSION s) = m.getF (K.fwdVer_VERSION s) := by
  unfold Module.takeSeed
  split
  · next v _ => rw [Module.getF_dropSeed, m.getF_storeSeed_VERSION v s]
  · rfl

theorem Module.nextVersion_onlyRegs (m : Module) : m.nextVersion.OnlyRegs m :=
  (Module.setAll_onlyRegs ..).trans (m.setAll_onlyRegs ..)

theorem Module.getF_nextVersion_VERSION (m : Module) {s : Nat} (hs : s < 8) :
    m.nextVersion.getF (K.fwdVer_VERSION s) = (m.getF (K.fwdVer_VERSION m.lead) + 1) % 2 ^ 16 := by
  rw [Module.nextVersion, Module.getF_setAll _ (fun a b h => by simpa using h) hs, FKey.width_fwdVer_VERSION]

theorem Module.getF_nextVersion_SHADOW_DIRTY (m : Module) {s : Nat} (hs : s < 8) :
    m.nextVersion.getF (K.fwdVer_SHADOW_DIRTY s) = 0 := by
  rw [Module.nextVersion, Module.getF_setAll_ne _ (by simp), Module.getF_setAll _ (fun a b h => by simpa using h) hs,
    Nat.zero_mod]

/-- The event of a switch is in FWD_EVT, and changes no other register. -/
theorem Module.getF_each_raise_switch (m : Module) (l : List Nat) {k : FKey} (h : k.reg ≠ .fwdEvt) :
    (m.each l fun m s => m.raise .fwd_VERSION_SWITCH s).getF k = m.getF k := by
  refine m.each_raise_regsKept .fwd_VERSION_SWITCH l k fun hk => ?_
  obtain ⟨i, -, hi⟩ := List.mem_filterMap.1 hk
  exact h (congrArg FKey.reg (Option.some.inj hi).symm)

/-- A switch makes the shadow the active version and starts the copy. -/
theorem Module.switchTables_fwd (m : Module) :
    m.switchTables.fwd = { m.fwd with active := m.fwd.shadow, copying := true, nextSeed := none } := by
  rw [Module.switchTables_eq, Module.each_keeps (fun m => m.fwd) (by simp), (Module.nextVersion_onlyRegs _).fwd,
    Module.takeSeed_fwd]
  rfl

theorem Module.switchTables_col_active (m : Module) : m.switchTables.col.active = m.col.shadow := by
  rw [Module.switchTables_eq, Module.each_keeps (fun m => m.col) (by simp), (Module.nextVersion_onlyRegs _).col,
    Module.takeSeed_col]
  rfl

/-- The version goes up in every sector from what the leading one shows. -/
theorem Module.getF_switchTables_VERSION (m : Module) {s : Nat} (hs : s < 8) :
    m.switchTables.getF (K.fwdVer_VERSION s) = (m.getF (K.fwdVer_VERSION m.lead) + 1) % 2 ^ 16 := by
  rw [Module.switchTables_eq, Module.getF_each_raise_switch _ _ (by decide : RegName.fwdVer ≠ .fwdEvt),
    Module.getF_nextVersion_VERSION _ hs, Module.takeSeed_lead, Module.getF_takeSeed_VERSION]
  rfl

theorem Module.getF_switchTables_SHADOW_DIRTY (m : Module) {s : Nat} (hs : s < 8) :
    m.switchTables.getF (K.fwdVer_SHADOW_DIRTY s) = 0 := by
  rw [Module.switchTables_eq, Module.getF_each_raise_switch _ _ (by decide : RegName.fwdVer ≠ .fwdEvt),
    Module.getF_nextVersion_SHADOW_DIRTY _ hs]

section
variable {m : Module}

theorem Module.askSwitch_now (hfree : m.holdsWrites = false) (hcopied : m.fwd.copying = false) :
    m.askSwitch = m.switchTables := by
  rw [Module.askSwitch, hfree, Module.switchNow, hcopied]
  rfl

theorem Module.askSwitch_copying (hfree : m.holdsWrites = false) (hcopying : m.fwd.copying = true) :
    m.askSwitch = { m with fwd := { m.fwd with waiting := m.fwd.waiting ++ [.switch] } } := by
  rw [Module.askSwitch, hfree, Module.switchNow, hcopying]
  rfl

/-- A switch waits for the next period edge. -/
def Module.holdSwitch (m : Module) : Module :=
  { m with lock := { m.lock with heldSwitch := some (m.getF (K.fwdVer_VERSION m.lead)) } }

theorem Module.askSwitch_held (hholds : m.holdsWrites = true) :
    m.askSwitch = m.holdSwitch.each m.holdSwitch.sectors fun m s => m.raise .sched_WRITE_HELD s := by
  rw [Module.askSwitch, hholds]
  rfl

theorem Module.writeGroup_fwd (h : m.fwd.copying = false) (member : Bool) (i : Nat) (v : BitVec 256) :
    (m.writeGroup member i v).fwd = m.fwd := by
  rw [Module.writeGroup_now h, (Module.dirty_onlyRegs _).fwd]

/-- Of the route tables, what has waited changes the shadow alone, where no switch is among it. -/
theorem Module.applyWaiting_fwd (hcopied : m.fwd.copying = false) {l : List HeldTable} (hl : HeldTable.switch ∉ l) :
    (m.applyWaiting l).fwd = { m.fwd with shadow := (m.applyWaiting l).fwd.shadow } := by
  induction l generalizing m with
  | nil => rfl
  | cons x rest ih =>
    have hrest : HeldTable.switch ∉ rest := fun h => hl (List.mem_cons_of_mem x h)
    cases x with
    | route t i v =>
      have hw := Module.writeRoute_fwd hcopied t i v
      exact (ih (by rw [hw]; exact hcopied) hrest).trans (by rw [hw]; rfl)
    | group member i v =>
      have hw := Module.writeGroup_fwd hcopied member i v
      exact (ih (by rw [hw]; exact hcopied) hrest).trans (by rw [hw]; rfl)
    | reply src reqId =>
      have hw := (m.answer_onlySends src reqId 6 0 []).fwd
      exact (ih (by rw [hw]; exact hcopied) hrest).trans (by rw [hw]; rfl)
    | switch => exact absurd List.mem_cons_self hl

theorem Module.copyDone_copying (h : m.fwd.copying = true) :
    m.copyDone = ({ m with fwd := { m.fwd with copying := false, waiting := [] } } : Module).applyWaiting m.fwd.waiting :=
  if_pos h

theorem Module.copyDone_idle (h : m.fwd.copying = false) : m.copyDone = m := by
  rw [Module.copyDone, h]
  rfl

/-- The copy that is done lets the shadow be written again, and leaves the active table. -/
theorem Module.copyDone_fwd (h : m.fwd.copying = true) (hno : HeldTable.switch ∉ m.fwd.waiting) :
    m.copyDone.fwd = { m.fwd with copying := false, waiting := [], shadow := m.copyDone.fwd.shadow } := by
  rw [Module.copyDone_copying h]
  exact Module.applyWaiting_fwd rfl hno

/-- A switch that waits first is made when the copy is done, and the rest waits for its own copy. -/
theorem Module.copyDone_switch (h : m.fwd.copying = true) {rest : List HeldTable} (hw : m.fwd.waiting = .switch :: rest) :
    m.copyDone.fwd = { m.fwd with active := m.fwd.shadow, waiting := rest, nextSeed := none } ∧
      m.copyDone.col.active = m.col.shadow := by
  rw [Module.copyDone_copying h, hw, Module.applyWaiting]
  dsimp only
  rw [Module.switchTables_fwd, Module.switchTables_col_active, h]
  exact ⟨rfl, rfl⟩

end

/-! ### The statements -/

/-- Settles O34, command by command: what starts waits, and what ends reads an entry or writes the shadow. -/
theorem tablesAreCommanded : Obligations.TablesAreCommanded := by
  refine ⟨fun req sec table index i op data s => ⟨fun hans hlive hidle => ⟨?_, ?_, ?_, ?_⟩, ?_, ?_⟩,
    fun sec member index i op data s => ⟨fun hans hlive hidle => ⟨?_, ?_, ?_⟩, ?_⟩⟩
  · refine ⟨_, s.mod.fwdTblData .mpc sec.val table, exec_fwdTblReadActive .., ?_⟩
    rw [Module.accessWrite_fwdTblWord rfl hans hlive (by decide)]
    exact Module.fwdGo_waits hidle ..
  · refine ⟨_, s.mod.fwdTblData .mpc sec.val table, exec_fwdTblReadShadow .., ?_⟩
    rw [Module.accessWrite_fwdTblWord rfl hans hlive (by decide)]
    exact Module.fwdGo_waits hidle ..
  · intro hmay
    refine ⟨_, exec_fwdTblWriteShadow .., ?_⟩
    rw [Module.accessWrite_fwdTblWord hmay hans hlive (by decide)]
    exact Module.fwdGo_waits hidle ..
  · intro hdenied
    rw [exec_fwdTblWriteShadow, Module.accessWrite_denied hdenied]
  · intro hcopying
    rw [exec_fwdTblDone, Module.fwdDone_copying hcopying]
  · refine fun hcopied hb => ⟨fun hop => ⟨_, exec_fwdTblDone .., ?_⟩, fun hop => ⟨_, exec_fwdTblDone .., ?_⟩⟩
    · obtain ⟨hactive, hshadow, hbusy, hdirty⟩ := Module.fwdDone_write hcopied hb hop
      exact ⟨hactive, (congrArg (RouteTables.entry · table i) hshadow).trans (RouteTables.entry_write ..), hbusy, hdirty⟩
    · exact Module.fwdDone_read hcopied hb hop
  · refine ⟨_, exec_colGrpReadActive .., ?_⟩
    rw [Module.accessWrite_colGrpWord hans hlive (by decide)]
    exact Module.grpGo_waits hidle ..
  · refine ⟨_, exec_colGrpReadShadow .., ?_⟩
    rw [Module.accessWrite_colGrpWord hans hlive (by decide)]
    exact Module.grpGo_waits hidle ..
  · refine ⟨_, exec_colGrpWriteShadow .., ?_⟩
    rw [Module.accessWrite_colGrpWord hans hlive (by decide)]
    exact Module.grpGo_waits hidle ..
  · refine fun hcopied hb => ⟨fun hop => ⟨_, exec_colGrpDone .., ?_⟩, fun hop => ⟨_, exec_colGrpDone .., ?_⟩⟩
    · obtain ⟨hactive, hshadow, hwritten, hbusy⟩ := Module.grpDone_write hcopied hb hop
      refine ⟨hactive, (congrArg (GroupTables.entry · member i) hshadow).trans (GroupTables.entry_write ..), ?_, hbusy⟩
      rintro rfl
      exact hwritten ▸ Module.mem_writtenWith ..
    · exact Module.grpDone_read hcopied hb hop

/-- Settles O35, by what a switch does at once, while a copy runs, under sector lock, and at the end of a copy. -/
theorem versionSwitch : Obligations.VersionSwitch := by
  intro req s
  refine ⟨fun hmay hans hlive hpatch => ?_, fun hcopying hno => ?_, fun rest hcopying hw => ?_, fun hcopied => ?_⟩
  · rw [exec_fwdVerSwitch, Module.accessWrite_fwdVer hmay hans hlive hpatch]
    refine ⟨fun hfree hcopied => ⟨_, rfl, ?_⟩, fun hfree hcopying => ?_, fun hholds => ⟨_, rfl, ?_⟩⟩
    · rw [Module.askSwitch_now hfree hcopied, Module.switchTables_fwd, Module.switchTables_col_active]
      exact ⟨rfl, rfl, rfl, rfl, fun sec hsec =>
        ⟨Module.getF_switchTables_VERSION _ hsec, Module.getF_switchTables_SHADOW_DIRTY _ hsec⟩⟩
    · rw [Module.askSwitch_copying hfree hcopying]
    · rw [Module.askSwitch_held hholds, Module.each_keeps (fun m => m.fwd) (by simp),
        Module.each_keeps (fun m => m.lock) (by simp)]
      exact ⟨rfl, rfl⟩
  · refine ⟨_, exec_shadowCopyDone s, ?_⟩
    have hfwd := Module.copyDone_fwd hcopying hno
    refine ⟨by rw [hfwd], by rw [hfwd], by rw [hfwd], fun hnone => ?_⟩
    rw [Module.copyDone_copying hcopying, hnone]
    rfl
  · refine ⟨_, exec_shadowCopyDone s, ?_⟩
    obtain ⟨hfwd, hcol⟩ := Module.copyDone_switch hcopying hw
    rw [hfwd]
    exact ⟨hcopying, rfl, rfl, hcol⟩
  · rw [exec_shadowCopyDone, Module.copyDone_idle hcopied]

end Sys2Proof.Machine

/-! SUPPORT. The lightpath engines: what lanes, frames, circuits and arrays that come and go leave still, what rings and
lasers do (spec/02_lightpath_engines.md R42 to R79), and the statements of that family settled. -/

namespace Sys2Proof.Machine

/-! ### Read-only registers -/

/-- A write of a read-only field does nothing (R14). -/
theorem Module.writeField_readOnly {d : FieldDef} (h : d.acc = .ro) (m : Module) (k : FKey) (w : Nat) :
    m.writeField k d w = m := by
  simp only [Module.writeField, h]

/-- A write of a register of read-only fields does nothing (R14). -/
theorem Module.writeFields_readOnly {r : RegName} (h : ∀ d ∈ r.fields, d.acc = .ro) (m : Module) (i j w : Nat) :
    m.writeFields r i j w = m := by
  unfold Module.writeFields
  exact Module.each_keeps (fun m => m) fun m d hd => m.writeField_readOnly (h d hd) ..

/-- A requester's write of a register that starts nothing, does not reach the data plane and has read-only fields alone. -/
theorem exec_registerWrite_readOnly {req : Requester} {addr : Addr} {r : RegName} {i j : Nat} {s : State}
    (hmay : s.mod.mayAccess req 1 = true) (hreach : s.mod.reach addr = .reg r i j) (hacts : r.acts = false)
    (hdata : r.reachesData = false) (hro : ∀ d ∈ r.fields, d.acc = .ro) (w : Word) :
    exec (.registerWrite req addr w) s = .next s := by
  rw [exec_registerWrite, Module.accessWrite_now hmay hreach (.inl hdata), Module.writeReg_of_not_acts hacts,
    Module.writeFields_readOnly hro]

/-- Settles O9: the words at reset are read off their tables, and no field of either register can be written. -/
theorem identityRegistersRead : Obligations.IdentityRegistersRead := by
  refine ⟨rfl, rfl, by decide, by decide, fun req addr data b s hmay hreach => ?_⟩
  obtain hlpe | hfly := hreach
  · exact exec_registerWrite_readOnly hmay hlpe rfl rfl (by decide) data
  · exact exec_registerWrite_readOnly hmay hfly rfl rfl (by decide) data

/-! ### A field wider than its register -/

/-- Engine 0 in lock, and in the one-bit field REDUCED of its port 0 the number 2. No command brings this state about, for
`setF` cuts what it writes; the statement of O27 speaks of every state. -/
def overwideReduced : State :=
  { State.reset with mod := { Module.reset with regs := [(K.lpeStatus_STATE 0, 3), (K.lpePortApr_REDUCED 0 0, 2)] } }

theorem exec_aprExit (pb : Fin 64) (port : Fin 8) (rx tx : BitVec 16) (s : State) :
    exec (.aprExit pb port rx tx) s = .next { s with mod := s.mod.aprExit pb.val port.val rx tx } := rfl

/-- A port at full launch that only measures leaves REDUCED alone, whatever the field holds. -/
theorem overwideReduced_kept : (overwideReduced.mod.aprExit 0 0 0 0).getF (K.lpePortApr_REDUCED 0 0) = 2 := by decide

/-- Refutes O27: where REDUCED holds neither 0 nor 1 the port is not at reduced launch (`isOn` is false), and an APR_EXIT
leaves the field, so it does not read 0. -/
theorem not_lightSetsReducedLaunch : ¬ Obligations.LightSetsReducedLaunch := by
  intro h
  obtain ⟨-, -, -, -, -, hfull, -⟩ := h 0 0 0 0 overwideReduced
  obtain ⟨m', hm', -, hreduced, -⟩ := hfull (by decide) (by decide) (by decide)
  rw [exec_aprExit] at hm'
  cases hm'
  exact absurd (overwideReduced_kept.symm.trans hreduced) (by decide)

end Sys2Proof.Machine

/-! SUPPORT. What lanes, frames, circuits and arrays that come and go leave still: no such operation, however deep, touches the
engines' rings and lasers, the clocks, the time base, power or security. -/

namespace Sys2Proof.Machine

/-! ### Traffic -/

/-- The registers that traffic can write: those of every block but the clocks, the time base, power, security, the module's
own and the lightpath engines, and of those the powers that ports show (R78). -/
def RegName.traffic (r : RegName) : Bool :=
  match r.blk with
  | .clk | .tim | .pwr | .sec | .glb => false
  | .lpe => decide (r = .lpePortPwr)
  | _ => true

/-- The event numbers that traffic can count: those of every group but the ones of the same blocks (R472). -/
def trafficNum (n : Nat) : Bool := decide (4 ≤ n / 32) && decide (n / 32 ≠ 8)

/-- A module differs from another in what traffic moves, at most: the rest of its state, the other registers and the other
counters are the same. -/
structure Module.MovesTraffic (m' m : Module) : Prop where
  rest : m' = { m with
    regs := m'.regs, counters := m'.counters, log := m'.log, link := m'.link, buf := m'.buf, col := m'.col, rde := m'.rde
    pra := m'.pra, hbm := m'.hbm, mpc := m'.mpc, out := m'.out, fresh := m'.fresh }
  field : ∀ k : FKey, k.reg.traffic = false → m'.getF k = m.getF k
  counter : ∀ num i, trafficNum num = false → m'.counter num i = m.counter num i

/-- An event that traffic can count shows in a register that traffic can write. -/
theorem Ev.reg_traffic (e : Ev) : trafficNum e.num = true → e.reg.all RegName.traffic = true := by cases e <;> decide

theorem evtKey_traffic {e : Ev} (h : trafficNum e.num = true) {i : Nat} {k : FKey} (hk : evtKey e i = some k) :
    k.reg.traffic = true := by
  unfold evtKey at hk
  split at hk
  · cases hk
    rfl
  · obtain ⟨r, hr, rfl⟩ := Option.map_eq_some_iff.1 hk
    have hreg := e.reg_traffic h
    rw [hr] at hreg
    exact hreg

namespace Module.MovesTraffic

theorem refl (m : Module) : m.MovesTraffic m := ⟨rfl, fun _ _ => rfl, fun _ _ _ => rfl⟩

theorem trans {m₂ m₁ m : Module} (h₂ : m₂.MovesTraffic m₁) (h₁ : m₁.MovesTraffic m) : m₂.MovesTraffic m where
  rest := by rw [h₂.rest, h₁.rest]
  field k hk := (h₂.field k hk).trans (h₁.field k hk)
  counter num i hn := (h₂.counter num i hn).trans (h₁.counter num i hn)

variable {m' m : Module} (h : m'.MovesTraffic m)
include h

/-! ### Updates of the state -/

theorem update (log : LogUnit) (link : LinkUnit) (buf : BufUnit) (col : ColUnit) (rde : RdeUnit) (pra : Tbl Nat PraArray)
    (hbm : HbmUnit) (mpc : MpcUnit) (out : List Emission) (fresh : Nat) :
    ({ m' with log := log, link := link, buf := buf, col := col, rde := rde, pra := pra, hbm := hbm, mpc := mpc
               out := out, fresh := fresh } : Module).MovesTraffic m :=
  trans ⟨rfl, fun _ _ => rfl, fun _ _ _ => rfl⟩ h

theorem setF {k : FKey} (hk : k.reg.traffic = true) (v : Nat) : (m'.setF k v).MovesTraffic m := by
  refine trans ⟨rfl, fun k' hk' => m'.getF_setF_ne v fun e => ?_, fun _ _ _ => rfl⟩ h
  rw [e, hk'] at hk
  cases hk

theorem setB {k : FKey} (hk : k.reg.traffic = true) (b : Bool) : (m'.setB k b).MovesTraffic m := h.setF hk _

theorem addSat {k : FKey} (hk : k.reg.traffic = true) (n most : Nat) : (m'.addSat k n most).MovesTraffic m := h.setF hk _

theorem setBit {k : FKey} (hk : k.reg.traffic = true) (b : Nat) (v : Bool) : (m'.setBit k b v).MovesTraffic m := h.setF hk _

theorem ite {c : Prop} [Decidable c] {m₂ : Module} (h₂ : m₂.MovesTraffic m) : (if c then m' else m₂).MovesTraffic m := by
  split
  · exact h
  · exact h₂

theorem count {num : Nat} (hn : trafficNum num = true) (i n : Nat) : (m'.count num i n).MovesTraffic m := by
  refine trans ⟨?_, fun k _ => m'.getF_count num i n k, fun num' i' hn' => ?_⟩ h
  · unfold Module.count
    split <;> rfl
  · rw [Module.counter_count, if_neg]
    rintro ⟨heq, -⟩
    rw [(Prod.mk.inj heq).1, hn'] at hn
    cases hn

theorem raise {e : Ev} (he : trafficNum e.num = true) (i : Nat) (d : Nat := 0) : (m'.raise e i d).MovesTraffic m := by
  have hshow : ((m'.count e.num i 1).show e i).MovesTraffic m := by
    unfold Module.show
    split
    · next k hk => exact (h.count he i 1).setF (evtKey_traffic he hk) 1
    · exact h.count he i 1
  unfold Module.raise Module.pend
  exact (hshow.update ..).ite hshow

theorem each_mem {α : Type} {f : Module → α → Module} {l : List α}
    (hf : ∀ {m'}, m'.MovesTraffic m → ∀ x ∈ l, (f m' x).MovesTraffic m) : (m'.each l f).MovesTraffic m :=
  List.foldlRecOn (motive := fun m' => m'.MovesTraffic m) l f h fun _ h x hx => hf h x hx

theorem each {α : Type} {f : Module → α → Module} (hf : ∀ {m'}, m'.MovesTraffic m → ∀ x, (f m' x).MovesTraffic m)
    (l : List α) : (m'.each l f).MovesTraffic m := h.each_mem fun h x _ => hf h x

/-- Nor does the other half of a pair that a list is folded into matter. -/
theorem foldl_fst {α β : Type} {f : Module × β → α → Module × β}
    (hf : ∀ st a, st.1.MovesTraffic m → (f st a).1.MovesTraffic m) (l : List α) (b : β) :
    (l.foldl f (m', b)).1.MovesTraffic m :=
  List.foldlRecOn (motive := fun st => st.1.MovesTraffic m) l f h fun st hst a _ => hf st a hst

theorem drawn : m'.drawn.MovesTraffic m := h.update ..

theorem emit (x : Emission) : (m'.emit x).MovesTraffic m := h.update ..

theorem record (kind location data : Nat) : (m'.record kind location data).MovesTraffic m := h.update ..

/-! ### Queues, packet SRAM and the Carafe -/

theorem putQ (lport vc : Nat) (q : OutQueue) : (m'.putQ lport vc q).MovesTraffic m := h.update ..

theorem putFifo (lport vc : Nat) (fs : List QFrame) : (m'.putFifo lport vc fs).MovesTraffic m := h.update ..

theorem freeChunks (nos : List Nat) : (m'.freeChunks nos).MovesTraffic m := h.update ..

theorem emptiedQ (lport vc : Nat) : (m'.emptiedQ lport vc).MovesTraffic m := by
  have hq := h.putQ lport vc
  unfold Module.emptiedQ
  exact ((hq _).raise rfl _).ite (hq _)

theorem raiseLnk {e : Ev} (he : trafficNum e.num = true) (lport : Nat) (d : Nat := 0) :
    (m'.raiseLnk e lport d).MovesTraffic m := h.raise he _ d

theorem linkDiscard (lport : Nat) : (m'.linkDiscard lport).MovesTraffic m := h.raise rfl ..

theorem tollOut (f : QFrame) : (m'.tollOut f).MovesTraffic m := by
  unfold Module.tollOut
  split
  · split
    · exact h.update ..
    · exact h
  · exact h

theorem tollIn (f : QFrame) : (m'.tollIn f).MovesTraffic m := by
  unfold Module.tollIn
  split
  · split
    · exact h.update ..
    · exact h
  · exact h

theorem refillQ (lport vc : Nat) : (m'.refillQ lport vc).MovesTraffic m := by
  have hq := h.putQ lport vc
  unfold Module.refillQ
  exact ((hq _).raise rfl _).ite (hq _)

theorem activateQ (lport vc : Nat) : (m'.activateQ lport vc).MovesTraffic m := (h.putQ ..).refillQ ..

theorem settleQ (lport vc : Nat) (before : OutQueue) : (m'.settleQ lport vc before).MovesTraffic m := by
  unfold Module.settleQ
  exact (h.ite (h.emptiedQ ..)).ite ((h.activateQ ..).ite ((h.refillQ ..).ite h))

theorem newChunk (s r : Nat) (pool : Bool) (avoid : Option Nat) (use : ChunkUse) :
    (m'.newChunk s r pool avoid use).MovesTraffic m := by
  unfold Module.newChunk
  split
  · exact h.update ..
  · exact h.update ..

theorem noteFull (p : Nat) : (m'.noteFull p).MovesTraffic m := by
  unfold Module.noteFull
  exact ((h.update ..).raise rfl _).ite (h.ite (h.update ..))

theorem noteSpill (lport vc : Nat) : (m'.noteSpill lport vc).MovesTraffic m := by
  unfold Module.noteSpill
  exact h.ite ((h.putQ ..).raise rfl _)

theorem spend (s : Nat) : (m'.spend s).MovesTraffic m := h.update ..

theorem openChunk (lport vc : Nat) (cont : Bool) : (m'.openChunk lport vc cont).MovesTraffic m :=
  ((((h.putQ ..).newChunk ..).spend _).noteSpill ..).noteFull _

theorem writeCarafe (lport vc : Nat) (f : QFrame) (rest fuel : Nat) : (m'.writeCarafe lport vc f rest fuel).MovesTraffic m := by
  induction fuel generalizing m' rest with
  | zero => exact h
  | succ fuel ih =>
    unfold Module.writeCarafe
    dsimp only
    split
    · exact (ih (h.openChunk ..) _).ite ((h.putQ ..).ite (ih (h.putQ ..) _))
    · exact ih (h.openChunk ..) _

theorem enqueue (lport vc : Nat) (f : QFrame) (carafe : Bool) : (m'.enqueue lport vc f carafe).MovesTraffic m := by
  unfold Module.enqueue
  exact ((h.writeCarafe ..).ite (h.putQ ..)).settleQ ..

/-! ### A frame's way to its queue (R176) -/

theorem crossXbar (f : QFrame) (lport : Nat) : (m'.crossXbar f lport).MovesTraffic m := by
  unfold Module.crossXbar
  refine (h.count ?_ ..).drawn.count rfl ..
  split <;> rfl

theorem conflict (resource : Nat) (runtime : Bool) : (m'.conflict resource runtime).MovesTraffic m :=
  (((((h.setF rfl _).setB rfl _).setF rfl _).setBit rfl ..).addSat rfl ..).raise rfl _

theorem contested (lport vc len : Nat) : (m'.contested lport vc len).MovesTraffic m := by
  have hconflict : (m'.conflictOnce 1 true).MovesTraffic m := h.ite (h.conflict ..)
  unfold Module.contested Module.wantPool Module.contestPool
  exact h.ite ((((hconflict.update ..).ite (hconflict.setF rfl _)).ite h).ite h)

theorem noteNoRoom (p n : Nat) (f : QFrame) : (m'.noteNoRoom p n f).1.MovesTraffic m := by
  have hfull : (if f.fullNoted then m' else m'.regionFull (p / 64)).MovesTraffic m := h.ite (h.raise rfl _)
  unfold Module.noteNoRoom
  dsimp only
  split
  · exact h
  · exact (hfull.raise rfl _).ite hfull

theorem tryAdmit (lport vc : Nat) (f : QFrame) : (m'.tryAdmit lport vc f).mod.MovesTraffic m := by
  have hcontested := h.contested lport vc f.frame.len
  unfold Module.tryAdmit
  dsimp only
  split
  · exact ((hcontested.drawn.crossXbar ..).tollIn _).enqueue ..
  · exact ((hcontested.drawn.crossXbar ..).tollIn _).enqueue ..
  · split
    · exact hcontested
    · exact hcontested.noteNoRoom ..

theorem drainOwn (lport vc fuel : Nat) : (m'.drainOwn lport vc fuel).MovesTraffic m := by
  induction fuel generalizing m' with
  | zero => exact h
  | succ fuel ih =>
    unfold Module.drainOwn
    split
    · exact h
    · next f rest _ =>
      have hadmit := h.tryAdmit lport vc f
      split
      · next htaken =>
        rw [htaken] at hadmit
        exact ih (hadmit.putFifo ..)
      · next hrefused =>
        rw [hrefused] at hadmit
        exact hadmit.putFifo ..

theorem originate (sector lport vc : Nat) (formed f : Frame) : (m'.originate sector lport vc formed f).MovesTraffic m := by
  unfold Module.originate
  exact (h.raise rfl _).ite ((h.raiseLnk rfl _).ite ((h.putFifo ..).drainOwn ..))

/-! ### Looking a frame up again (R163) -/

omit h in
/-- What the pipeline discards it counts as an event of its own (R153). -/
theorem route_discards {m : Module} {sector : Nat} {f : Frame} {e : Ev} (hd : m.route sector f = .discard e) :
    trafficNum e.num = true := by
  have hescape {h : Header} {r : RouteEntry} {escaped : Bool} (hd : m.viaEscape f h r escaped = .discard e) :
      trafficNum e.num = true := by
    unfold Module.viaEscape at hd
    dsimp only at hd
    split at hd
    · cases hd
    · cases hd
      rfl
  unfold Module.route at hd
  extract_lets _ header key at hd
  split at hd
  · cases hd
    rfl
  · split at hd
    · exact hescape hd
    · split at hd
      · exact hescape hd
      · cases hd

theorem lookup (sector : Nat) (f : Frame) : (m'.lookup sector f).1.MovesTraffic m := by
  have hmeets : (if m'.meetsUp f then m'.raise .fwd_DOWN_UP_FAULT sector else m').MovesTraffic m := (h.raise rfl _).ite h
  unfold Module.lookup
  dsimp only
  split
  · next hd => exact hmeets.raise (route_discards hd) _
  · exact (hmeets.raise rfl _).ite hmeets

theorem relook (f : QFrame) : (m'.relook f).1.MovesTraffic m := by
  have hagain : (m'.raise .fwd_REQUEUE (originOf f.inLport)).MovesTraffic m := h.raise rfl _
  have hlookup := hagain.lookup (originOf f.inLport) f.asArrived
  unfold Module.relook
  dsimp only
  split
  · exact hagain
  · split
    · next heq =>
      rw [heq] at hlookup
      exact hlookup
    · next heq =>
      rw [heq] at hlookup
      exact hlookup

theorem waitAgain (fs : List QFrame) : (m'.waitAgain fs).MovesTraffic m := h.each (fun h _ => h.putFifo ..) fs

theorem clearOwn (lport vc : Nat) : (m'.clearOwn lport vc).MovesTraffic m := by
  unfold Module.clearOwn
  refine h.ite ((h.putFifo ..).each (fun h f => ?_) _)
  have hrelook := h.relook f
  split
  · next heq =>
    rw [heq] at hrelook
    exact hrelook
  · next heq =>
    rw [heq] at hrelook
    exact hrelook.waitAgain _

theorem handBack (fs : List QFrame) : (m'.handBack fs).MovesTraffic m := by
  unfold Module.handBack
  refine waitAgain (foldl_fst h ?_ fs []) _
  exact fun st f hst => (hst.tollOut f).relook f

theorem clearQueue (lport vc : Nat) : (m'.clearQueue lport vc).MovesTraffic m := by
  unfold Module.clearQueue
  exact h.ite ((((h.putQ ..).emptiedQ ..).putQ ..).handBack _)

/-! ### Operations end (R232 to R238) -/

theorem putOp (slot : Nat) (op : Op) : (m'.putOp slot op).MovesTraffic m := h.update ..

theorem putPra (a : Nat) (p : PraArray) : (m'.putPra a p).MovesTraffic m := h.update ..

theorem dropSegs (slot : Nat) : (m'.dropSegs slot).MovesTraffic m := by
  unfold Module.dropSegs
  split
  · exact h
  · next op _ =>
    have hfreed := h.each (fun h x => h.freeChunks x.2.chunks) op.segs
    exact ((hfreed.putPra ..).ite hfreed).putOp ..

theorem retireNum (defIdx jobEpoch num : Nat) : (m'.retireNum defIdx jobEpoch num).MovesTraffic m := by
  unfold Module.retireNum
  exact (h.update ..).ite h

theorem retireOp (slot : Nat) (done : Bool) : (m'.retireOp slot done).MovesTraffic m := by
  unfold Module.retireOp
  split
  · exact h
  · refine raise (retireNum (update (h.dropSegs slot) ..) ..) ?_ _
    split <;> rfl

theorem abortDown (slot code count rankX : Nat) : (m'.abortDown slot code count rankX).MovesTraffic m := by
  unfold Module.abortDown
  split
  · exact h
  · exact (h.each (fun h e => h.originate ..) _).retireOp ..

theorem countCode (code home : Nat) : (m'.countCode code home).MovesTraffic m := by
  have hcode : ∀ e, codeEvent code = some e → trafficNum e.num = true := by
    intro e he
    unfold codeEvent at he
    split at he <;> cases he <;> rfl
  unfold Module.countCode
  split
  · next he => exact h.raise (hcode _ he) _
  · exact h

theorem cutOp (slot code : Nat) : (m'.cutOp slot code).MovesTraffic m := by
  unfold Module.cutOp
  split
  · exact h
  · exact (h.countCode ..).abortDown ..

theorem sentSeq (slot n : Nat) : (m'.sentSeq slot n).MovesTraffic m := by
  unfold Module.sentSeq
  split
  · exact h
  · exact h.putOp ..

theorem askAbort (slot code count rankX : Nat) : (m'.askAbort slot code count rankX).MovesTraffic m := by
  unfold Module.askAbort
  split
  · exact h
  · exact (h.sentSeq ..).originate ..

theorem requestAbort (slot code count rankX : Nat) : (m'.requestAbort slot code count rankX).MovesTraffic m := by
  have hdropped := h.dropSegs slot
  unfold Module.requestAbort
  dsimp only
  split
  · exact hdropped
  · exact (hdropped.putOp ..).askAbort ..

theorem failOp (slot code : Nat) (count : Option Nat) : (m'.failOp slot code count).MovesTraffic m := by
  unfold Module.failOp
  split
  · exact h
  · have hcounted := h.countCode code
    exact h.ite (((hcounted _).abortDown ..).ite ((hcounted _).requestAbort ..))

theorem breakOp (slot lport : Nat) : (m'.breakOp slot lport).MovesTraffic m := by
  unfold Module.breakOp
  split
  · exact h
  · exact (h.cutOp ..).ite (h.failOp ..)

theorem breakTrees (lport : Nat) : (m'.breakTrees lport).MovesTraffic m := h.each (fun h _ => h.breakOp ..) _

theorem breakFrames (lport : Nat) (fs : List QFrame) : (m'.breakFrames lport fs).MovesTraffic m :=
  h.each (fun h _ => h.breakOp ..) _

/-! ### A link loses its frames (R116, R127, R128, R163) -/

theorem loseBound (lport vc : Nat) : (m'.loseBound lport vc).MovesTraffic m := by
  unfold Module.loseBound
  refine h.ite (each (putFifo (each (ite ((h.putQ ..).emptiedQ ..) (h.putQ ..)) (fun h f => ?_) _) ..) (fun h _ => ?_) _)
  · exact (h.tollOut f).linkDiscard lport
  · exact h.linkDiscard lport

theorem loseGroups (lport : Nat) (resumes : Bool) : (m'.loseGroups lport resumes).MovesTraffic m := by
  have hbound := h.each (fun h vc => h.loseBound lport vc) (List.range 8)
  unfold Module.loseGroups
  exact (hbound.breakFrames ..).ite (hbound.breakTrees _)

theorem loseHostFrames (lport : Nat) : (m'.loseHostFrames lport).MovesTraffic m :=
  (h.update ..).each (fun h _ => h.linkDiscard lport) _

theorem modLnk (lport : Nat) (f : Link → Link) : (m'.modLnk lport f).MovesTraffic m := h.update ..

theorem slots (lport cls : Nat) (hcls : cls < 32) (sub : Option Nat) (hsub : ∀ b ∈ sub, b < 32) (n : Nat) :
    (m'.slots lport cls sub n).MovesTraffic m := by
  have hnum {c : Nat} (hc : c < 32) : trafficNum (0x440 + c) = true := by
    simp only [trafficNum, Bool.and_eq_true, decide_eq_true_eq]
    omega
  unfold Module.slots
  dsimp only
  split
  · next b => exact (h.count (hnum hcls) ..).count (hnum (hsub b rfl)) ..
  · exact h.count (hnum hcls) ..

theorem discardRetry (lport : Nat) : (m'.discardRetry lport).MovesTraffic m := by
  refine (h.modLnk ..).each (fun h e => ?_) _
  have hlost := h.ite (c := e.lost) (h.linkDiscard lport)
  exact (hlost.slots _ _ (by decide) _ (by simp) _).ite hlost

theorem discardHeld (lport : Nat) : (m'.discardHeld lport).MovesTraffic m := by
  refine discardRetry (each (each h (fun h vc => ?_) _) (fun h c => ?_) _) lport
  · have hfreed (q : OutQueue) (cs : List Chunk) :=
      (h.putQ lport vc q).each (fun h c => (h.freeChunks [c.index]).noteFull (portOf lport)) cs
    refine each (putFifo (each (ite (hfreed ..) ((hfreed ..).emptiedQ ..)) (fun h f => ?_) _) ..) (fun h _ => ?_) _
    · exact (h.tollOut f).linkDiscard lport
    · exact h.linkDiscard lport
  · refine each (h.update ..) (fun h f => ?_) _
    have hunheld : (Module.unhold _ f lport).MovesTraffic m := h.ite ((h.freeChunks _).noteFull _)
    exact (hunheld.tollOut f).linkDiscard lport

/-! ### A link leaves service and trains (R119 to R130) -/

theorem setLinkState (lport st : Nat) : (m'.setLinkState lport st).MovesTraffic m := h.setF rfl _

theorem setLanes (lport map : Nat) : (m'.setLanes lport map).MovesTraffic m := h.setF rfl _

theorem leaveUp (lport st : Nat) (resumes : Bool) : (m'.leaveUp lport st resumes).MovesTraffic m := by
  have hleft := ((h.setLinkState lport st).setLanes lport 0).modLnk lport
  unfold Module.leaveUp
  refine ite (each (((hleft _).loseHostFrames _).loseGroups ..) (fun h vc => ?_) _) ?_
  · exact (h.clearQueue ..).clearOwn ..
  · exact ((hleft _).loseGroups ..).ite (((((hleft _).loseHostFrames _).discardHeld _).breakTrees _).ite (hleft _))

theorem overhead (lport n : Nat) : (m'.overhead lport n).MovesTraffic m := by
  have hdebt := h.modLnk lport
  unfold Module.overhead
  exact (((hdebt _).slots _ _ (by decide) _ (by simp) _).ite (hdebt _)).ite h

theorem sendSet (lport : Nat) (os : OrderedSet) : (m'.sendSet lport os).MovesTraffic m :=
  overhead (update (h.emit _) ..) ..

theorem setOffered (lport map : Nat) : (m'.setOffered lport map).MovesTraffic m := h.setF rfl _

theorem sendTrain (lport phase map : Nat) : (m'.sendTrain lport phase map).MovesTraffic m := h.sendSet ..

theorem startTraining (lport st : Nat) : (m'.startTraining lport st).MovesTraffic m := by
  have hoffered := (h.setOffered lport (m'.offer lport)).modLnk lport
  unfold Module.startTraining
  exact ((hoffered _).leaveUp ..).ite ((((hoffered _).setLinkState ..).emit _).sendTrain ..)

theorem countRetrain (lport : Nat) : (m'.countRetrain lport).MovesTraffic m := by
  unfold Module.countRetrain
  exact (h.raiseLnk rfl _).addSat rfl ..

theorem goRetrain (lport : Nat) (resumes : Bool) : (m'.goRetrain lport resumes).MovesTraffic m := by
  unfold Module.goRetrain
  exact (((h.leaveUp ..).countRetrain _).startTraining ..).ite ((h.leaveUp ..).ite h)

theorem lossOfLink (lport : Nat) : (m'.lossOfLink lport).MovesTraffic m := by
  unfold Module.lossOfLink Module.raiseLink
  exact (h.raise rfl _ _).goRetrain ..

theorem trainLane (lane : Nat) : (m'.trainLane lane).MovesTraffic m := by
  unfold Module.trainLane
  exact h.ite ((h.startTraining ..).ite (((h.modLnk ..).emit _).ite h))

theorem announce (lport lane : Nat) (add retried : Bool) : (m'.announce lport lane add retried).MovesTraffic m := by
  unfold Module.announce
  exact (h.drawn.sendSet ..).modLnk ..

theorem removeLane (lane : Nat) : (m'.removeLane lane).MovesTraffic m := by
  have hchanged := h.modLnk (m'.lportOfLane lane)
  have hremoved : (m'.raiseLnk .lnk_LANE_REMOVED (m'.lportOfLane lane)).MovesTraffic m := h.raiseLnk rfl _
  unfold Module.removeLane
  exact (((hchanged _).leaveUp ..).ite (hchanged _)).ite
    ((hremoved.leaveUp ..).ite ((hremoved.setLanes ..).announce ..))

theorem loseLane (lane : Nat) : (m'.loseLane lane).MovesTraffic m := by
  unfold Module.loseLane
  exact ((h.lossOfLink _).ite ((h.removeLane _).trainLane _)).ite h

theorem barLane (lane : Nat) (why : LaneBar) : (m'.barLane lane why).MovesTraffic m := (h.update ..).removeLane lane

/-! ### Circuits (R78, R97) -/

theorem retotal (port : Nat) : (m'.retotal port).MovesTraffic m := by
  unfold Module.retotal
  exact (h.drawn.setF rfl _).ite (h.drawn.setF rfl _)

theorem setSlot (s st : Nat) : (m'.setSlot s st).MovesTraffic m := (h.setF rfl _).setB rfl _

theorem interrupt (s : Nat) : (m'.interrupt s).MovesTraffic m := by
  unfold Module.interrupt
  exact (((h.setSlot ..).raise rfl _).retotal _).ite h

theorem restore (s : Nat) : (m'.restore s).MovesTraffic m := by
  unfold Module.restore
  exact ((h.setSlot ..).retotal _).ite h

/-! ### The photonic arrays (R313, R318, R319, R323) -/

theorem modPra (a : Nat) (f : PraArray → PraArray) : (m'.modPra a f).MovesTraffic m := h.putPra ..

theorem settlePause (a : Nat) : (m'.settlePause a).MovesTraffic m := by
  unfold Module.settlePause
  exact (((h.setF rfl _).setF rfl _).raise rfl _).ite (((h.setF rfl _).setF rfl _).ite h)

theorem pausePra (a why : Nat) : (m'.pausePra a why).MovesTraffic m := (h.modPra ..).settlePause _

theorem calibrate (a : Nat) : (m'.calibrate a).MovesTraffic m := by
  unfold Module.calibrate
  refine setF (modPra (each_mem h (fun h k hk => h.setF ?_ 0)) ..) rfl 1
  exact List.all_eq_true.1 (show List.all _ (fun k : FKey => k.reg.traffic) = true from rfl) k hk

theorem resumePra (a why : Nat) : (m'.resumePra a why).MovesTraffic m := by
  have hsettled := (h.modPra a fun p => { p with causes := p.causes &&& (0xF - 2 ^ why) }).settlePause a
  exact (hsettled.calibrate a).ite hsettled

/-! ### Segments move (R240, R268, R455) -/

theorem countSeg (sg : Seg) (bits : List Nat) : (m'.countSeg sg bits).MovesTraffic m := by
  refine h.each (fun h b => h.raise ?_ _) _
  unfold segEvent
  split <;> rfl

theorem noteFailure (e : Nat) (op : Op) (diff : Nat) (counts first : Bool) :
    (m'.noteFailure e op diff counts first).MovesTraffic m := by
  unfold Module.noteFailure
  exact ((h.update ..).raise rfl _ _).ite (h.update ..)

theorem toSpare (slot k e : Nat) : (m'.toSpare slot k e).MovesTraffic m := by
  unfold Module.toSpare
  split
  · exact h
  · split
    · exact h
    · exact (h.putOp ..).ite h

theorem takeInjection (op : Op) (e : Nat) : (m'.takeInjection op e).1.MovesTraffic m := by
  unfold Module.takeInjection
  dsimp only
  split
  · exact ((update (h.update ..) ..).setF rfl _).ite (h.update ..)
  · exact h

theorem moveSeg (slot k : Nat) (without : Option Nat) : (m'.moveSeg slot k without).MovesTraffic m := by
  have hmoved (home : Nat) : (m'.raise .col_MIGRATE home).MovesTraffic m := h.raise rfl _
  unfold Module.moveSeg
  split
  · exact h
  · split
    · exact h
    · split
      · exact h.failOp ..
      · exact ((hmoved _).failOp ..).ite ((takeInjection (((hmoved _).putPra ..).ite (hmoved _)) ..).putOp ..)

theorem moveAll (e : Nat) : (m'.moveAll e).MovesTraffic m := h.each (fun h _ => h.moveSeg ..) _

theorem engineOut (e role : Nat) (keep : Bool) : (m'.engineOut e role keep).MovesTraffic m := by
  have hout := (h.setF (k := K.rdeStatus_ROLE e) rfl role).setF (k := K.rdeStatus_SERVES e) rfl 0xF
  unfold Module.engineOut
  refine ite (record (moveAll ?_ e) ..) (moveAll ?_ e) <;> exact (((hout.setF rfl _).setF rfl _).setF rfl _).ite hout

theorem quarantine (e : Nat) (real : Bool) : (m'.quarantine e real).MovesTraffic m := (h.update ..).engineOut ..

theorem residueFail (slot k diff : Nat) : (m'.residueFail slot k diff).MovesTraffic m := by
  unfold Module.residueFail
  split
  · exact h
  · split
    · exact h
    · next op _ _ sg _ =>
      have hnoted := (h.noteFailure (sg.engine.getD 0) op diff (sg.corrupt.getD true)
        (!sg.counted.contains (sg.engine.getD 0, 3))).raise (e := .col_RESIDUE_RECOMPUTE) rfl op.home
      have hagain (c : Prop) [Decidable c] (op' : Op) := (hnoted.failOp slot 4 none).ite (c := c) (hnoted.putOp slot op')
      exact (((hagain ..).quarantine ..).toSpare ..).ite ((hagain ..).ite ((hagain ..).moveSeg ..))

theorem engineTakes (slot : Nat) (op : Op) (sg : Seg) (erred : Bool) : (m'.engineTakes slot op sg erred).MovesTraffic m := by
  have hcounted := (h.countSeg (m'.catchUp slot op sg) ((m'.catchUp slot op sg).met ++ sg.again)).putOp slot
  unfold Module.engineTakes
  exact (h.putOp ..).ite (((hcounted _).failOp ..).ite (((hcounted _).residueFail ..).ite (hcounted _)))

theorem regroup (a : Nat) : (m'.regroup a).MovesTraffic m := by
  refine h.each (fun h x => ?_) _
  split
  · exact h
  · split
    · exact h
    · exact h.engineTakes ..

theorem loseCarrier (a c : Nat) : (m'.loseCarrier a c).MovesTraffic m := by
  unfold Module.loseCarrier
  exact (((h.setBit rfl ..).raise rfl _).regroup a).ite h

end Module.MovesTraffic

end Sys2Proof.Machine

/-! SUPPORT. Rings: what a ring is after each operation on the engines, how rings go out, come back and are spared
(spec/02_lightpath_engines.md R51 to R53), and the statement about them settled. -/

namespace Sys2Proof.Machine

/-! ### Commands -/

theorem exec_mislock (pb : Fin 64) (ring : Fin 164) (s : State) :
    exec (.mislock pb ring) s = .next { s with mod := s.mod.mislockRing pb.val ring.val } := rfl

theorem exec_relock (pb : Fin 64) (ring : Fin 164) (s : State) :
    exec (.relock pb ring) s = .next { s with mod := s.mod.relockRing pb.val ring.val } := rfl

theorem exec_ringSpared (pb : Fin 64) (ring : Fin 164) (s : State) :
    exec (.ringSpared pb ring) s = .next { s with mod := s.mod.spareRing pb.val ring.val } := rfl

theorem exec_ringSpareLock (pb : Fin 64) (ring : Fin 164) (s : State) :
    exec (.ringSpareLock pb ring) s = .next { s with mod := s.mod.spareLocks pb.val ring.val } := rfl

/-! ### Bits of a field -/

theorem bitOf_eq_testBit (n b : Nat) : bitOf n b = n.testBit b := by
  rw [Nat.testBit_eq_decide_div_mod_eq]
  rfl

/-- A bit that is set in a field of its width reads 1, whatever the field held. -/
theorem Module.bitOf_setBit (m : Module) {k : FKey} {b : Nat} (hb : b < k.width) :
    bitOf ((m.setBit k b true).getF k) b = true := by
  have hclear : (if bitOf (m.getF k) b then m.getF k - 2 ^ b else m.getF k).testBit b = false := by
    simp only [bitOf_eq_testBit]
    split
    · next hset =>
      obtain ⟨low, hlow⟩ := Nat.exists_eq_add_of_le (Nat.ge_two_pow_of_testBit hset)
      rw [hlow, Nat.testBit_two_pow_add_eq] at hset
      rw [hlow, Nat.add_sub_cancel_left]
      simpa using hset
    · next hset => simpa using hset
  simp only [Module.setBit, Module.getF_setF_self, bitOf_eq_testBit, Nat.testBit_mod_two_pow, if_true] at hclear ⊢
  rw [Nat.add_comm, Nat.testBit_two_pow_add_eq, hclear, decide_eq_true hb]
  rfl

/-! ### Events of the engines -/

/-- The events of the lightpath engines show in LPE_EVT. -/
theorem evtKey_lpe {ev : Ev} (hev : ev.reg = some .lpeEvt) (i : Nat) : evtKey ev i = some ⟨.lpeEvt, i, 0, ev.bit⟩ := by
  unfold evtKey
  split
  · cases hev
  · rw [hev]
    rfl

/-- An event of the engines leaves every register but LPE_EVT. -/
theorem Module.getF_raise_lpe {ev : Ev} (hev : ev.reg = some .lpeEvt) {k : FKey} (hk : k.reg ≠ .lpeEvt) (m : Module)
    (i d : Nat) : (m.raise ev i d).getF k = m.getF k := by
  rw [Module.getF_raise, evtKey_lpe hev, if_neg]
  intro h
  cases h
  exact hk rfl

section
variable {m₂ m₁ m : Module} {ev : Ev} {i : Nat} (h : m₁.Happened m ev i)
include h

theorem Module.Happened.congr (hregs : m₂.regs = m₁.regs) (hcounters : m₂.counters = m₁.counters) :
    m₂.Happened m ev i := by
  refine ⟨?_, fun k hk => (Module.getF_congr k hregs).trans (h.2 k hk)⟩
  rw [← h.1]
  simp only [Module.counter, hcounters]

theorem Module.Happened.modRing (e r : Nat) (f : Ring → Ring) : (m₁.modRing e r f).Happened m ev i := h.congr rfl rfl

/-- What has happened has happened once, whatever traffic moves after it. -/
theorem Module.Happened.traffic (hev : ev.reg = some .lpeEvt) (hnum : trafficNum ev.num = false)
    (ht : m₂.MovesTraffic m₁) : m₂.Happened m ev i := by
  refine ⟨(ht.counter _ i hnum).trans h.1, fun k hk => (ht.field k ?_).trans (h.2 k hk)⟩
  rw [evtKey_lpe hev] at hk
  cases hk
  rfl

theorem Module.Happened.setF (hev : ev.reg = some .lpeEvt) {k : FKey} (hk : k.reg ≠ .lpeEvt) (v : Nat) :
    (m₁.setF k v).Happened m ev i := by
  refine ⟨h.1, fun k' hk' => (m₁.getF_setF_ne v ?_).trans (h.2 k' hk')⟩
  rw [evtKey_lpe hev] at hk'
  cases hk'
  rintro rfl
  exact hk rfl

/-- Another event leaves what has happened. -/
theorem Module.Happened.raise {ev' : Ev} (hne : ev'.num ≠ ev.num) (i' d : Nat) : (m₁.raise ev' i' d).Happened m ev i := by
  refine ⟨?_, fun k hk => ?_⟩
  · rw [Module.counter_raise, if_neg (fun hc => hne (Prod.mk.inj hc.1).1)]
    exact h.1
  · by_cases hk' : evtKey ev' i' = some k
    · exact Module.getF_raise_self hk' ..
    · rw [Module.getF_raise, if_neg hk']
      exact h.2 k hk

end

/-- An event of the engines is counted whatever sector is in reset (R471). -/
theorem Module.happened_raise_lpe {m : Module} {ev : Ev} (hnum : ev.num / 32 = 8) (i d : Nat) :
    (m.raise ev i d).Happened m ev i :=
  Module.happened_raise (Module.countsNow_of_group (.inl (by omega)) ..) d

/-! ### A ring now -/

theorem Module.searched_congr {m' m : Module} (h : m'.lpe.dips = m.lpe.dips) (e r : Nat) : m'.searched e r = m.searched e r := by
  have hdip : m'.dip = m.dip := by
    funext e r w
    unfold Module.dip
    rw [h]
  have hfailed : m'.searchFailed = m.searchFailed := by
    funext e r
    unfold Module.searchFailed
    rw [hdip]
  have hserves : m'.serves = m.serves := by
    funext e i k s j
    unfold Module.serves
    rw [hdip, hfailed]
  unfold Module.searched Module.bankShift Module.covered Module.worst
  rw [hdip, hfailed, hserves]

/-- A ring is as its entry says, else as the search left it: no more of the module tells. -/
theorem Module.ring_congr {m' m : Module} {e r : Nat}
    (hentry : Tbl.find m'.lpe.rings (e, r) = Tbl.find m.lpe.rings (e, r)) (hdips : m'.lpe.dips = m.lpe.dips)
    (hstate : m'.getF (K.lpeStatus_STATE e) = m.getF (K.lpeStatus_STATE e))
    (hstep : m'.getF K.pwrStatus_STEP = m.getF K.pwrStatus_STEP) : m'.ring e r = m.ring e r := by
  unfold Module.ring Module.hasSearched Module.engineState Module.startStep
  rw [hentry, hstate, hstep, Module.searched_congr hdips]

theorem Module.MovesTraffic.lpe {m' m : Module} (h : m'.MovesTraffic m) : m'.lpe = m.lpe := by rw [h.rest]

/-- Traffic moves no ring. -/
theorem Module.MovesTraffic.ring {m' m : Module} (h : m'.MovesTraffic m) (e r : Nat) : m'.ring e r = m.ring e r :=
  Module.ring_congr (by rw [h.lpe]) (by rw [h.lpe]) (h.field _ rfl) (h.field _ rfl)

theorem Module.ring_raise_lpe {ev : Ev} (hev : ev.reg = some .lpeEvt) (m : Module) (i d e r : Nat) :
    (m.raise ev i d).ring e r = m.ring e r :=
  Module.ring_congr (by rw [Module.raise_lpe]) (by rw [Module.raise_lpe]) (m.getF_raise_lpe hev (by simp) i d)
    (m.getF_raise_lpe hev (by simp) i d)

theorem Module.ring_modRing_self (m : Module) (e r : Nat) (f : Ring → Ring) : (m.modRing e r f).ring e r = f (m.ring e r) := by
  have hentry : Tbl.find (m.modRing e r f).lpe.rings (e, r) = some (f (m.ring e r)) := Tbl.find_put_self ..
  rw [Module.ring, hentry]

theorem Module.ring_modRing_ne (m : Module) {e r r' : Nat} (h : r ≠ r') (f : Ring → Ring) :
    (m.modRing e r f).ring e r' = m.ring e r' :=
  Module.ring_congr (Tbl.find_put_ne _ _ fun he => h (Prod.mk.inj he).2) rfl rfl rfl

/-! ### What a ring serves goes and comes (R52) -/

theorem Module.ringOut_traffic (m : Module) (e r : Nat) : (m.ringOut e r).MovesTraffic m := by
  have hm := Module.MovesTraffic.refl m
  have hlost (w : Nat) := hm.each (fun h i => h.loseLane (laneOf (8 * e + i) w)) (List.range 8)
  unfold Module.ringOut
  dsimp only
  split
  · split
    · next w _ => exact ((hlost w).pausePra ..).ite (hlost w)
    · exact hm
  · exact (hm.loseLane _).ite (hm.each (fun h s => h.interrupt s) _)

theorem Module.MovesTraffic.supplyBack {m' m : Module} (h : m'.MovesTraffic m) (e : Nat) :
    (m'.supplyBack e).MovesTraffic m := h.ite (h.resumePra ..)

theorem Module.ringBack_traffic (m : Module) (e r : Nat) : (m.ringBack e r).MovesTraffic m := by
  have hm := Module.MovesTraffic.refl m
  unfold Module.ringBack
  dsimp only
  split
  · split
    · next w _ => exact (hm.each (fun h i => h.trainLane (laneOf (8 * e + i) w)) _).supplyBack e
    · exact hm
  · exact (hm.trainLane _).ite (hm.each (fun h s => h.restore s) _)

/-! ### Mis-lock and re-lock (R51, R52) -/

section
variable {m : Module} {e r : Nat}

theorem Module.mislockRing_none (h : (m.ring e r).locked = false ∨ (m.ring e r).failed = true) : m.mislockRing e r = m :=
  if_pos h

theorem Module.mislockRing_locked (hl : (m.ring e r).locked = true) (hf : (m.ring e r).failed = false) :
    m.mislockRing e r = ((m.raise .lpe_MISLOCK e r).modRing e r fun x =>
      { x with locked := false, busy := true, heater := x.assigned }).ringOut e r :=
  if_neg (by simp [hl, hf])

theorem Module.ring_mislockRing (hl : (m.ring e r).locked = true) (hf : (m.ring e r).failed = false) :
    (m.mislockRing e r).ring e r =
      { m.ring e r with locked := false, busy := true, heater := (m.ring e r).assigned } := by
  rw [Module.mislockRing_locked hl hf, (Module.ringOut_traffic ..).ring, Module.ring_modRing_self, Module.ring_raise_lpe rfl]

theorem Module.happened_mislockRing (hl : (m.ring e r).locked = true) (hf : (m.ring e r).failed = false) :
    (m.mislockRing e r).Happened m .lpe_MISLOCK e := by
  have hraised : (m.raise .lpe_MISLOCK e r).Happened m .lpe_MISLOCK e := Module.happened_raise_lpe rfl ..
  rw [Module.mislockRing_locked hl hf]
  exact (hraised.modRing ..).traffic rfl rfl (Module.ringOut_traffic ..)

/-- A ring that acquires is in lock at its assigned code, or rests at an open one. -/
theorem Module.ring_acquire (m : Module) (e r relocks : Nat) :
    (m.acquire e r relocks).ring e r = { m.ring e r with
      locked := !m.ringRests e r, busy := false, relocks := relocks
      heater := if m.ringRests e r then m.openWord.setWidth 16 else (m.ring e r).assigned } := by
  have hdrawn : m.drawn.ring e r = m.ring e r := (Module.MovesTraffic.refl m).drawn.ring e r
  unfold Module.acquire
  rw [(Module.ringBack_traffic ..).ring, Module.ring_modRing_self, hdrawn]

theorem Module.relockRing_none (h : (m.ring e r).busy = false ∨ (m.ring e r).failed = true) : m.relockRing e r = m :=
  if_pos h

theorem Module.spareLocks_none (h : (m.ring e r).busy = false ∨ (m.ring e r).failed = true) : m.spareLocks e r = m :=
  if_pos h

theorem Module.relockRing_busy (hb : (m.ring e r).busy = true) (hf : (m.ring e r).failed = false) :
    m.relockRing e r = m.acquire e r (min 255 ((m.ring e r).relocks + 1)) := if_neg (by simp [hb, hf])

theorem Module.spareLocks_busy (hb : (m.ring e r).busy = true) (hf : (m.ring e r).failed = false) :
    m.spareLocks e r = m.acquire e r (m.ring e r).relocks := if_neg (by simp [hb, hf])

/-! ### Sparing (R53) -/

/-- The module once a ring has been given up: what it served is out, and it has failed for good. -/
def Module.giveUp (m : Module) (e r : Nat) : Module :=
  (if (m.ring e r).locked then m.ringOut e r else m).modRing e r fun x =>
    { x with failed := true, locked := false, busy := false, held := false }

theorem Module.giveUp_ring_self (m : Module) (e r : Nat) : ((m.giveUp e r).ring e r).failed = true := by
  rw [Module.giveUp, Module.ring_modRing_self]

theorem Module.giveUp_ring_ne (m : Module) {e r q : Nat} (h : r ≠ q) : (m.giveUp e r).ring e q = m.ring e q := by
  have hout : (if (m.ring e r).locked then m.ringOut e r else m).MovesTraffic m := (m.ringOut_traffic e r).ite (.refl m)
  rw [Module.giveUp, Module.ring_modRing_ne _ h, hout.ring]

theorem Module.bankSpare_isSpare {q : Nat} (h : m.bankSpare e r = some q) : (m.ring e q).spare = true := by
  unfold Module.bankSpare at h
  split at h
  · cases h
  · have hq := List.find?_some h
    simp only [Bool.and_eq_true] at hq
    exact hq.1

/-- A ring that is no spare finds the same spare once it has been given up. -/
theorem Module.bankSpare_giveUp (hs : (m.ring e r).spare = false) : (m.giveUp e r).bankSpare e r = m.bankSpare e r := by
  have hsame (q : Nat) : (((m.giveUp e r).ring e q).spare && !((m.giveUp e r).ring e q).failed) =
      ((m.ring e q).spare && !(m.ring e q).failed) := by
    by_cases hq : r = q
    · subst hq
      rw [Module.giveUp_ring_self, hs]
      simp
    · rw [Module.giveUp_ring_ne m hq]
  simp only [Module.bankSpare, hsame]

theorem Module.spareRing_none (h : (m.ring e r).failed = true ∨ (m.ring e r).spare = true) : m.spareRing e r = m := by
  unfold Module.spareRing
  simp only [Bool.or_eq_true, h, if_true]

variable (hf : (m.ring e r).failed = false) (hs : (m.ring e r).spare = false)
include hf hs

theorem Module.spareRing_spared {q : Nat} (hq : m.bankSpare e r = some q) :
    m.spareRing e r = (((m.giveUp e r).modRing e q fun y =>
      { y with spare := false, busy := true, lambda := (m.ring e r).lambda, held := (m.ring e r).held
               assigned := BitVec.ofNat 16 (((m.giveUp e r).dip e q (m.ring e r).lambda).getD 0) }).raise
        .lpe_RING_SPARED e r).record 0x03 (e * 256 + r) q := by
  rw [← Module.bankSpare_giveUp hs] at hq
  unfold Module.spareRing
  simp only [hf, hs, Bool.or_self, Bool.false_eq_true, if_false]
  split
  · next q' hq' =>
    obtain rfl : q' = q := Option.some.inj (hq'.symm.trans hq)
    rfl
  · next hq' => exact nomatch hq'.symm.trans hq

theorem Module.spareRing_lost (hq : m.bankSpare e r = none) :
    m.spareRing e r =
      if 160 ≤ r then ((m.giveUp e r).record 0x04 (e * 256 + r) 0xFFFF).loseFeed e r
      else ((m.giveUp e r).record 0x04 (e * 256 + r) 0xFFFF).losePortLambda e r (m.ring e r).lambda := by
  rw [← Module.bankSpare_giveUp hs] at hq
  unfold Module.spareRing
  simp only [hf, hs, Bool.or_self, Bool.false_eq_true, if_false]
  split
  · next hq' => exact nomatch hq'.symm.trans hq
  · rfl

/-- The spare takes the wavelength of the ring given up. -/
theorem Module.ring_spareRing_spare {q : Nat} (hq : m.bankSpare e r = some q) :
    (m.spareRing e r).ring e q = { m.ring e q with
      spare := false, busy := true, lambda := (m.ring e r).lambda, held := (m.ring e r).held
      assigned := BitVec.ofNat 16 (((m.giveUp e r).dip e q (m.ring e r).lambda).getD 0) } := by
  have hne : r ≠ q := by
    rintro rfl
    exact Bool.false_ne_true (hs.symm.trans (Module.bankSpare_isSpare hq))
  rw [Module.spareRing_spared hf hs hq, ((Module.MovesTraffic.refl _).record ..).ring, Module.ring_raise_lpe rfl,
    Module.ring_modRing_self, Module.giveUp_ring_ne m hne]

theorem Module.ring_spareRing_failed {q : Nat} (hq : m.bankSpare e r = some q) :
    ((m.spareRing e r).ring e r).failed = true := by
  have hne : q ≠ r := by
    rintro rfl
    exact Bool.false_ne_true (hs.symm.trans (Module.bankSpare_isSpare hq))
  rw [Module.spareRing_spared hf hs hq, ((Module.MovesTraffic.refl _).record ..).ring, Module.ring_raise_lpe rfl,
    Module.ring_modRing_ne _ hne, Module.giveUp_ring_self]

theorem Module.repairWait_spareRing {q : Nat} (hq : m.bankSpare e r = some q) (he : e < 2 ^ 16) (hr : r < 256)
    (hq16 : q < 2 ^ 16) :
    (m.spareRing e r).mpc.repairWait.getLast?.map Prod.fst =
      some (BitVec.ofNat 64 (3 * 2 ^ 40 + (e * 256 + r) * 2 ^ 16 + q)) := by
  rw [Module.spareRing_spared hf hs hq]
  simp only [Module.record, List.getLast?_concat, Option.map_some]
  rw [Nat.mod_eq_of_lt (show e * 256 + r < 2 ^ 24 by omega), Nat.mod_eq_of_lt hq16]

end

theorem FKey.width_lpeStatus_PORT_RING_LOSS (e : Nat) : FKey.width (K.lpeStatus_PORT_RING_LOSS e) = 8 :=
  FKey.width_of_mem (d := fd 27 20 .ro) (by decide) e 0

section
variable {m : Module} {e r : Nat} (hr : r < 160)
include hr

theorem Module.losePortLambda_eq (w : Nat) : m.losePortLambda e r w =
    (m.setBit (K.lpeStatus_PORT_RING_LOSS e) (ringPort r) true).barLane (laneOf (8 * e + ringPort r) w) .wavelength :=
  if_pos hr

/-- The port shows that it lost a wavelength (R48). -/
theorem Module.losePortLambda_shows (w : Nat) :
    bitOf ((m.losePortLambda e r w).getF (K.lpeStatus_PORT_RING_LOSS e)) (ringPort r) = true := by
  rw [Module.losePortLambda_eq hr, ((Module.MovesTraffic.refl _).barLane ..).field _ rfl]
  refine m.bitOf_setBit ?_
  rw [FKey.width_lpeStatus_PORT_RING_LOSS, ringPort]
  omega

theorem Module.ring_losePortLambda (w r' : Nat) : (m.losePortLambda e r w).ring e r' = m.ring e r' := by
  rw [Module.losePortLambda_eq hr, ((Module.MovesTraffic.refl _).barLane ..).ring]
  exact Module.ring_congr rfl rfl (m.getF_setF_ne _ (by simp)) (m.getF_setF_ne _ (by simp))

end

theorem Module.bankSpare_lt {m : Module} {e r q : Nat} (h : m.bankSpare e r = some q) : q < 160 := by
  unfold Module.bankSpare at h
  split at h
  · cases h
  · next hr =>
    obtain ⟨j, hj, rfl⟩ := List.mem_map.1 (List.mem_of_find?_eq_some h)
    rw [List.mem_range] at hj
    unfold ringAt ringPort ringBank
    omega

/-- Settles O25, command by command: what rings serve is traffic, which moves no ring. -/
theorem ringsLoseAndRegainLock : Obligations.RingsLoseAndRegainLock := by
  intro pb ring s
  refine ⟨fun hl hf => ?_, fun h => ?_, fun hb hf => ?_, fun h => ?_, fun q hf hs hq => ?_, fun hf hs hq hr => ?_,
    fun h => ?_, fun hb hf => ?_⟩
  · exact ⟨_, exec_mislock .., Module.happened_mislockRing hl hf, Module.ring_mislockRing hl hf⟩
  · rw [exec_mislock, Module.mislockRing_none h]
  · refine ⟨_, exec_relock .., ?_⟩
    rw [Module.relockRing_busy hb hf, Module.ring_acquire]
    exact ⟨rfl, rfl, fun hrests => by rw [hrests]; rfl, rfl⟩
  · rw [exec_relock, exec_ringSpareLock, Module.relockRing_none h, Module.spareLocks_none h]
    exact ⟨rfl, rfl⟩
  · refine ⟨_, exec_ringSpared .., Module.ring_spareRing_failed hf hs hq, ?_⟩
    have hlt := Module.bankSpare_lt hq
    rw [Module.ring_spareRing_spare hf hs hq]
    exact ⟨rfl, rfl, rfl, Module.repairWait_spareRing hf hs hq (by omega) (by omega) (by omega)⟩
  · refine ⟨_, exec_ringSpared .., ?_⟩
    rw [Module.spareRing_lost hf hs hq, if_neg (Nat.not_le_of_lt hr)]
    refine ⟨?_, Module.losePortLambda_shows hr _⟩
    rw [Module.ring_losePortLambda hr, ((Module.MovesTraffic.refl _).record ..).ring, Module.giveUp_ring_self]
  · rw [exec_ringSpared, Module.spareRing_none h]
  · refine ⟨_, exec_ringSpareLock .., ?_⟩
    rw [Module.spareLocks_busy hb hf, Module.ring_acquire]
    exact ⟨rfl, rfl, fun hrests => by rw [hrests]; rfl⟩

end Sys2Proof.Machine

/-! SUPPORT. Lasers and their swaps: what each step of a swap leaves, the laser average that raises FADE
(spec/02_lightpath_engines.md R55 to R60, R76), and the statement about them settled. -/

namespace Sys2Proof.Machine

/-! ### Commands -/

theorem exec_laserAverage (pb : Fin 64) (n : Fin 6) (tap : BitVec 16) (bias : BitVec 12) (s : State) :
    exec (.laserAverage pb n tap bias) s =
      .next { s with mod := if s.mod.engineLit pb.val then s.mod.laserAverage pb.val n.val tap bias else s.mod } := rfl

theorem exec_swapStart (pb : Fin 64) (s : State) :
    exec (.swapStart pb) s = .next { s with mod := s.mod.nextSwap pb.val } := rfl

theorem exec_swapTuneDone (pb : Fin 64) (s : State) :
    exec (.swapTuneDone pb) s = .next { s with mod := s.mod.swapTuned pb.val } := rfl

theorem exec_spareTuneTimeout (pb : Fin 64) (s : State) :
    exec (.spareTuneTimeout pb) s = .next { s with mod := s.mod.tuneTimeout pb.val } := rfl

theorem exec_injectionLock (pb : Fin 64) (s : State) :
    exec (.injectionLock pb) s = .next { s with mod := s.mod.swapLocked pb.val } := rfl

theorem exec_injectionLockTimeout (pb : Fin 64) (s : State) :
    exec (.injectionLockTimeout pb) s = .next { s with mod := s.mod.lockTimeout pb.val } := rfl

theorem exec_combinerStep (pb : Fin 64) (s : State) :
    exec (.combinerStep pb) s = .next { s with mod := s.mod.combine1 pb.val } := rfl

theorem exec_swapDone (pb : Fin 64) (s : State) :
    exec (.swapDone pb) s = .next { s with mod := s.mod.swapEnds pb.val } := rfl

theorem exec_lpeSwapCmd (pb : Fin 64) (lambda : Fin 4) (s : State) :
    exec (.lpeSwapCmd pb lambda) s =
      .next { s with mod := s.mod.accessWrite .mpc (regAddr .lpeSwapCmd pb.val 0) (cmdWord (2 ^ 31 + lambda.val)) } := rfl

/-! ### Widths of the engines' fields -/

theorem FKey.width_lpeLsrStat_ROLE (e n : Nat) : FKey.width (K.lpeLsrStat_ROLE e n) = 3 :=
  FKey.width_of_mem (d := fd 2 0 .ro) (by decide) e n

theorem FKey.width_lpeLsrStat_LAMBDA (e n : Nat) : FKey.width (K.lpeLsrStat_LAMBDA e n) = 2 :=
  FKey.width_of_mem (d := fd 5 4 .ro) (by decide) e n

theorem FKey.width_lpeLsrStat_FADE_MET (e n : Nat) : FKey.width (K.lpeLsrStat_FADE_MET e n) = 1 :=
  FKey.width_of_mem (d := fd 8 8 .ro) (by decide) e n

theorem FKey.width_lpeLsrPwr_TAP (e n : Nat) : FKey.width (K.lpeLsrPwr_TAP e n) = 16 :=
  FKey.width_of_mem (d := fd 15 0 .ro) (by decide) e n

/-! ### Swaps and the lasers that wait -/

section
variable (m : Module) (e : Nat)

@[simp] theorem Module.swapOf_putSwap (w : Option Swap) : (m.putSwap e w).swapOf e = w := Tbl.get_put_self ..

@[simp] theorem Module.waitingOf_putSwap (w : Option Swap) : (m.putSwap e w).waitingOf e = m.waitingOf e := rfl

@[simp] theorem Module.waitingOf_setWaiting (l : List Nat) : (m.setWaiting e l).waitingOf e = l := Tbl.get_put_self ..

theorem Module.swapOf_congr {m' m : Module} (h : m'.lpe.swaps = m.lpe.swaps) (e : Nat) : m'.swapOf e = m.swapOf e := by
  unfold Module.swapOf
  rw [h]

theorem Module.waitingOf_congr {m' m : Module} (h : m'.lpe.waiting = m.lpe.waiting) (e : Nat) :
    m'.waitingOf e = m.waitingOf e := by
  unfold Module.waitingOf
  rw [h]

theorem Module.getF_putSwap_ne (w : Option Swap) {k : FKey} (hk : k.reg ≠ .lpeStatus) :
    (m.putSwap e w).getF k = m.getF k :=
  Module.getF_setF_ne _ _ fun h => hk (congrArg FKey.reg h).symm

theorem Module.role_putSwap (w : Option Swap) (n : Nat) : (m.putSwap e w).role e n = m.role e n :=
  m.getF_putSwap_ne e w (by simp)

theorem Module.role_setRole_self (n : Nat) {v : Nat} (hv : v < 2 ^ 3) : (m.setRole e n v).role e n = v := by
  unfold Module.role Module.setRole
  rw [Module.getF_setF_self, FKey.width_lpeLsrStat_ROLE, Nat.mod_eq_of_lt hv]

theorem Module.role_setRole_ne {n n' : Nat} (h : n ≠ n') (v : Nat) : (m.setRole e n v).role e n' = m.role e n' :=
  m.getF_setF_ne _ (by simp [h])

theorem Module.hasSpare_congr {m' m : Module} {e n : Nat}
    (hfields : ∀ k, k.reg = .lpeLsrStat → k.lo ≤ 4 → m'.getF k = m.getF k) (hring : ∀ r, m'.ring e r = m.ring e r) :
    m'.hasSpare e n = m.hasSpare e n := by
  unfold Module.hasSpare Module.role Module.laserLambda
  simp only [hring]
  rw [hfields _ rfl (by simp), hfields _ rfl (by simp)]

end

/-! ### A laser goes dark; a wavelength is lost (R56, R60) -/

theorem Module.getF_laserDark_ne (m : Module) (e n : Nat) {k : FKey} (hpwr : k.reg ≠ .lpeLsrPwr)
    (hbias : k.reg ≠ .lpeLsrBias) : (m.laserDark e n).getF k = m.getF k := by
  unfold Module.laserDark
  rw [Module.getF_setF_ne _ _ fun h => hbias (congrArg FKey.reg h).symm,
    Module.getF_setF_ne _ _ fun h => hpwr (congrArg FKey.reg h).symm, Module.getF_drawn]

theorem Module.getF_laserDark_BIAS (m : Module) (e n : Nat) : (m.laserDark e n).getF (K.lpeLsrBias_BIAS e n) = 0 := by
  rw [Module.laserDark, Module.getF_setF_self, Nat.zero_mod]

theorem Module.role_laserDark (m : Module) (e n n' : Nat) : (m.laserDark e n).role e n' = m.role e n' :=
  m.getF_laserDark_ne e n (by simp) (by simp)

/-- A wavelength's removal marks it lost, where it was not, and the rest is traffic. -/
theorem Module.removeLambda_traffic (m : Module) (e w : Nat) :
    (m.removeLambda e w).MovesTraffic m ∨
      (m.removeLambda e w).MovesTraffic (m.setBit (K.lpeStatus_LAMBDA_LOST e) w true) := by
  unfold Module.removeLambda
  split
  · exact .inl (.refl m)
  · have hbarred := ((Module.MovesTraffic.refl (m.setBit (K.lpeStatus_LAMBDA_LOST e) w true)).each
      (fun h i => h.barLane (laneOf (8 * e + i) w) .wavelength) (List.range 8)).record 0x02 (e * 256 + w) 0xFFFF
    exact .inr ((hbarred.loseCarrier ..).ite hbarred)

theorem Module.removeLambda_lpe (m : Module) (e w : Nat) : (m.removeLambda e w).lpe = m.lpe := by
  obtain h | h := m.removeLambda_traffic e w
  · exact h.lpe
  · exact h.lpe

theorem Module.getF_removeLambda_ne (m : Module) (e w : Nat) {k : FKey} (hk : k.reg.traffic = false)
    (hstatus : k.reg ≠ .lpeStatus) : (m.removeLambda e w).getF k = m.getF k := by
  obtain h | h := m.removeLambda_traffic e w
  · exact h.field k hk
  · exact (h.field k hk).trans (m.getF_setF_ne _ fun heq => hstatus (congrArg FKey.reg heq).symm)

theorem Module.Happened.removeLambda {m₁ m : Module} {ev : Ev} {i : Nat} (h : m₁.Happened m ev i)
    (hev : ev.reg = some .lpeEvt) (hnum : trafficNum ev.num = false) (e w : Nat) :
    (m₁.removeLambda e w).Happened m ev i := by
  obtain ht | ht := m₁.removeLambda_traffic e w
  · exact h.traffic hev hnum ht
  · exact (h.setF hev (by simp) _).traffic hev hnum ht

/-- NO_SPARE, and the laser marked as one that no spare replaces. -/
def Module.markNoSpare (m : Module) (e n : Nat) : Module :=
  let m := m.raise .lpe_NO_SPARE e n
  { m with lpe := { m.lpe with noSpare := m.lpe.noSpare ++ [(e, n)] } }

theorem Module.markNoSpare_lpe (m : Module) (e n : Nat) :
    (m.markNoSpare e n).lpe = { m.lpe with noSpare := m.lpe.noSpare ++ [(e, n)] } := by
  simp only [Module.markNoSpare, Module.raise_lpe]

theorem Module.withoutSpare_eq (m : Module) (e n : Nat) :
    m.withoutSpare e n =
      if !(m.markNoSpare e n).isOn (K.lpeCtrl_DEGRADE_AT e) || (m.markNoSpare e n).isOn (K.lpeLsrStat_EOL_MET e n) then
        (m.markNoSpare e n).removeLambda e ((m.markNoSpare e n).laserLambda e n)
      else m.markNoSpare e n := rfl

theorem Module.withoutSpare_swapOf (m : Module) (e n : Nat) : (m.withoutSpare e n).swapOf e = m.swapOf e := by
  have hmark : (m.markNoSpare e n).lpe.swaps = m.lpe.swaps := by rw [Module.markNoSpare_lpe]
  rw [Module.withoutSpare_eq]
  split
  · exact Module.swapOf_congr (by rw [Module.removeLambda_lpe, hmark]) e
  · exact Module.swapOf_congr hmark e

theorem Module.getF_withoutSpare_ne (m : Module) (e n : Nat) {k : FKey} (hk : k.reg.traffic = false)
    (hevt : k.reg ≠ .lpeEvt) (hstatus : k.reg ≠ .lpeStatus) : (m.withoutSpare e n).getF k = m.getF k := by
  have hmark : (m.markNoSpare e n).getF k = m.getF k := m.getF_raise_lpe rfl hevt e n
  rw [Module.withoutSpare_eq]
  split
  · rw [Module.getF_removeLambda_ne _ _ _ hk hstatus, hmark]
  · exact hmark

theorem Module.Happened.withoutSpare {m₁ m : Module} {ev : Ev} {i : Nat} (h : m₁.Happened m ev i)
    (hev : ev.reg = some .lpeEvt) (hnum : trafficNum ev.num = false) (hne : Ev.lpe_NO_SPARE.num ≠ ev.num) (e n : Nat) :
    (m₁.withoutSpare e n).Happened m ev i := by
  have hmark : (m₁.markNoSpare e n).Happened m ev i := (h.raise hne e n).congr rfl rfl
  rw [Module.withoutSpare_eq]
  split
  · exact hmark.removeLambda hev hnum ..
  · exact hmark

/-! ### FADE (R55, R58, R60) -/

section
variable {m : Module} {e : Nat}

/-- The swap of a laser to the spare of its wavelength, as it begins. -/
def Module.newSwap (m : Module) (e n : Nat) (commanded : Bool) : Swap :=
  { old := n, new := spareOfLambda (m.laserLambda e n), lambda := m.laserLambda e n, phase := .tuning, commanded := commanded
    back := false, oldFaded := false }

theorem Module.beginSwap_eq (m : Module) (e n : Nat) (commanded : Bool) :
    m.beginSwap e n commanded = m.putSwap e (some (m.newSwap e n commanded)) := rfl

/-- With no swap under way, a fade waits behind those that wait, begins a swap, or finds no spare. -/
theorem Module.fade_eq (h : m.swapOf e = none) (n : Nat) :
    m.fade e n =
      if m.waitingOf e ≠ [] then (m.raise .lpe_FADE e n).setWaiting e (m.waitingOf e ++ [n])
      else if m.isOn (K.lpeCtrl_AUTO_SWAP e) = true ∧ m.hasSpare e n = true then
        (m.raise .lpe_FADE e n).putSwap e (some (m.newSwap e n false))
      else (m.raise .lpe_FADE e n).withoutSpare e n := by
  have hswap : (m.raise .lpe_FADE e n).swapOf e = none :=
    (Module.swapOf_congr (by rw [Module.raise_lpe]) e).trans h
  have hwaiting : (m.raise .lpe_FADE e n).waitingOf e = m.waitingOf e := Module.waitingOf_congr (by rw [Module.raise_lpe]) e
  have hauto : (m.raise .lpe_FADE e n).isOn (K.lpeCtrl_AUTO_SWAP e) = m.isOn (K.lpeCtrl_AUTO_SWAP e) := by
    unfold Module.isOn
    rw [m.getF_raise_lpe rfl (by simp)]
  have hspare : (m.raise .lpe_FADE e n).hasSpare e n = m.hasSpare e n :=
    Module.hasSpare_congr (fun k hk _ => m.getF_raise_lpe rfl (by simp [hk]) e n) fun r => Module.ring_raise_lpe rfl ..
  have hnew : (m.raise .lpe_FADE e n).newSwap e n false = m.newSwap e n false := by
    unfold Module.newSwap Module.laserLambda
    rw [m.getF_raise_lpe rfl (by simp)]
  unfold Module.fade
  simp only [hswap, hwaiting, hauto, hspare, Module.beginSwap_eq, hnew, Bool.not_eq_true', List.isEmpty_eq_false_iff,
    Bool.and_eq_true]

variable (hnone : m.swapOf e = none) (n : Nat)
include hnone

theorem Module.happened_fade : (m.fade e n).Happened m .lpe_FADE e := by
  have hraised : (m.raise .lpe_FADE e n).Happened m .lpe_FADE e := Module.happened_raise_lpe rfl ..
  rw [Module.fade_eq hnone]
  split
  · exact hraised.congr rfl rfl
  · split
    · exact (hraised.congr rfl rfl).setF rfl (by simp) _
    · exact hraised.withoutSpare rfl rfl (by decide) ..

theorem Module.getF_fade_ne {k : FKey} (hk : k.reg.traffic = false) (hevt : k.reg ≠ .lpeEvt) (hstatus : k.reg ≠ .lpeStatus) :
    (m.fade e n).getF k = m.getF k := by
  have hraised : (m.raise .lpe_FADE e n).getF k = m.getF k := m.getF_raise_lpe rfl hevt e n
  rw [Module.fade_eq hnone]
  split
  · exact hraised
  · split
    · rw [Module.getF_putSwap_ne _ _ _ hstatus, hraised]
    · rw [Module.getF_withoutSpare_ne _ _ _ hk hevt hstatus, hraised]

theorem Module.waitingOf_fade (hw : m.waitingOf e ≠ []) : (m.fade e n).waitingOf e = m.waitingOf e ++ [n] := by
  rw [Module.fade_eq hnone, if_pos hw, Module.waitingOf_setWaiting]

theorem Module.swapOf_fade (hw : m.waitingOf e = []) (hauto : m.isOn (K.lpeCtrl_AUTO_SWAP e) = true)
    (hspare : m.hasSpare e n = true) : (m.fade e n).swapOf e = some (m.newSwap e n false) := by
  rw [Module.fade_eq hnone, if_neg (not_not_intro hw), if_pos ⟨hauto, hspare⟩, Module.swapOf_putSwap]

end

/-! ### One average of a laser (R55) -/

/-- The average shows. -/
def Module.showAverage (m : Module) (e n : Nat) (tap : BitVec 16) (bias : BitVec 12) : Module :=
  (m.setF (K.lpeLsrPwr_TAP e n) tap.toNat).setF (K.lpeLsrBias_BIAS e n) bias.toNat

theorem Module.showAverage_eq (m : Module) (e n : Nat) (tap : BitVec 16) (bias : BitVec 12) :
    (m.setF (K.lpeLsrPwr_TAP e n) tap.toNat).setF (K.lpeLsrBias_BIAS e n) bias.toNat = m.showAverage e n tap bias := rfl

theorem Module.getF_showAverage_ne (m : Module) (e n : Nat) (tap : BitVec 16) (bias : BitVec 12) {k : FKey}
    (hpwr : k.reg ≠ .lpeLsrPwr) (hbias : k.reg ≠ .lpeLsrBias) : (m.showAverage e n tap bias).getF k = m.getF k := by
  unfold Module.showAverage
  rw [Module.getF_setF_ne _ _ fun h => hbias (congrArg FKey.reg h).symm,
    Module.getF_setF_ne _ _ fun h => hpwr (congrArg FKey.reg h).symm]

theorem Module.drives_showAverage (m : Module) (e n : Nat) (tap : BitVec 16) (bias : BitVec 12) :
    (m.showAverage e n tap bias).drives e n = m.drives e n := by
  unfold Module.drives Module.role
  rw [m.getF_showAverage_ne e n tap bias (by simp) (by simp)]

/-- A laser that drives no wavelength is not judged. -/
theorem Module.laserAverage_undriven {m : Module} {e n : Nat} (h : m.drives e n = false) (tap : BitVec 16) (bias : BitVec 12) :
    m.laserAverage e n tap bias = m.showAverage e n tap bias :=
  if_pos (by rw [← Module.showAverage, Module.drives_showAverage, h]; rfl)

/-- The module once a third fading average in a row has been taken, its laser not at its end of life. -/
def Module.thirdFading (m : Module) (e n : Nat) (tap : BitVec 16) (bias : BitVec 12) : Module :=
  let m := m.showAverage e n tap bias
  (({ m with lpe := { m.lpe with fadeRun := Tbl.put m.lpe.fadeRun (e, n) 3 } }).setB (K.lpeLsrStat_FADE_MET e n) true).setB
    (K.lpeLsrStat_EOL_MET e n) false

theorem Module.laserAverage_fades {m : Module} {e n : Nat} {tap : BitVec 16} {bias : BitVec 12} (hdrives : m.drives e n = true)
    (hrun : Tbl.get m.lpe.fadeRun 0 (e, n) = 2)
    (hfades : tap.toInt ≤ (Config.laserCommissioned e n (m.laserLambda e n)).toInt - 100)
    (hlives : (Config.laserCommissioned e n (m.laserLambda e n)).toInt - 250 < tap.toInt)
    (hbias : bias.toNat < (Config.laserMaxBias e n).toNat) (hspare : (e, n) ∉ m.lpe.noSpare) (hwaits : n ∉ m.waitingOf e) :
    m.laserAverage e n tap bias = (m.thirdFading e n tap bias).fade e n := by
  have hlambda : (m.showAverage e n tap bias).laserLambda e n = m.laserLambda e n :=
    m.getF_showAverage_ne e n tap bias (by simp) (by simp)
  have hrun' : Tbl.get (m.showAverage e n tap bias).lpe.fadeRun 0 (e, n) = 2 := hrun
  have hspare' : (m.thirdFading e n tap bias).lpe.noSpare.contains (e, n) = false :=
    Bool.eq_false_iff.2 fun h => hspare (List.contains_iff_mem.1 h)
  have hwaits' : ((m.thirdFading e n tap bias).waitingOf e).contains n = false :=
    Bool.eq_false_iff.2 fun h => hwaits (List.contains_iff_mem.1 h)
  have hfading : (decide (tap.toInt ≤ (Config.laserCommissioned e n (m.laserLambda e n)).toInt - 100) ||
      decide (9 * (Config.laserMaxBias e n).toNat ≤ 10 * bias.toNat)) = true := by simp [hfades]
  have heol : (decide (tap.toInt ≤ (Config.laserCommissioned e n (m.laserLambda e n)).toInt - 250) ||
      decide ((Config.laserMaxBias e n).toNat ≤ bias.toNat)) = false := by
    simp only [Bool.or_eq_false_iff, decide_eq_false_iff_not]
    omega
  unfold Module.laserAverage
  simp only [Module.showAverage_eq, Module.drives_showAverage, hdrives, hlambda, hfading, heol, hrun', Bool.not_true,
    Bool.false_and, Bool.false_eq_true, if_true, if_false]
  exact if_pos ⟨trivial, hspare', hwaits'⟩

section
variable {m : Module} {e n : Nat} {tap : BitVec 16} {bias : BitVec 12}

theorem Module.getF_thirdFading_ne {k : FKey} (hstat : k.reg ≠ .lpeLsrStat ∨ k.lo ≤ 4) (hpwr : k.reg ≠ .lpeLsrPwr)
    (hbias : k.reg ≠ .lpeLsrBias) : (m.thirdFading e n tap bias).getF k = m.getF k := by
  have hflag (lo : Nat) (hlo : 4 < lo) : (⟨.lpeLsrStat, e, n, lo⟩ : FKey) ≠ k := by
    rintro rfl
    simp only [ne_eq, not_true_eq_false, false_or] at hstat
    omega
  unfold Module.thirdFading Module.setB
  rw [Module.getF_setF_ne _ _ (hflag 9 (by decide)), Module.getF_setF_ne _ _ (hflag 8 (by decide))]
  exact m.getF_showAverage_ne e n tap bias hpwr hbias

theorem Module.getF_thirdFading_FADE_MET : (m.thirdFading e n tap bias).getF (K.lpeLsrStat_FADE_MET e n) = 1 := by
  unfold Module.thirdFading Module.setB
  rw [Module.getF_setF_ne _ _ (by simp), Module.getF_setF_self, FKey.width_lpeLsrStat_FADE_MET]
  rfl

theorem Module.getF_thirdFading_TAP : (m.thirdFading e n tap bias).getF (K.lpeLsrPwr_TAP e n) = tap.toNat := by
  have hshown : (m.showAverage e n tap bias).getF (K.lpeLsrPwr_TAP e n) = tap.toNat := by
    unfold Module.showAverage
    rw [Module.getF_setF_ne _ _ (by simp), Module.getF_setF_self, FKey.width_lpeLsrPwr_TAP, Nat.mod_eq_of_lt tap.isLt]
  unfold Module.thirdFading Module.setB
  rw [Module.getF_setF_ne _ _ (by simp), Module.getF_setF_ne _ _ (by simp)]
  exact hshown

theorem Module.swapOf_thirdFading (e' : Nat) : (m.thirdFading e n tap bias).swapOf e' = m.swapOf e' := rfl

theorem Module.isOn_thirdFading_AUTO_SWAP :
    (m.thirdFading e n tap bias).isOn (K.lpeCtrl_AUTO_SWAP e) = m.isOn (K.lpeCtrl_AUTO_SWAP e) := by
  unfold Module.isOn
  rw [Module.getF_thirdFading_ne (.inl (by simp)) (by simp) (by simp)]

theorem Module.hasSpare_thirdFading (n' : Nat) : (m.thirdFading e n tap bias).hasSpare e n' = m.hasSpare e n' :=
  Module.hasSpare_congr
    (fun k hk hlo => Module.getF_thirdFading_ne (.inr hlo) (by simp [hk]) (by simp [hk]))
    fun r => Module.ring_congr rfl rfl (Module.getF_thirdFading_ne (.inl (by simp)) (by simp) (by simp))
      (Module.getF_thirdFading_ne (.inl (by simp)) (by simp) (by simp))

theorem Module.newSwap_thirdFading (n' : Nat) (commanded : Bool) :
    (m.thirdFading e n tap bias).newSwap e n' commanded = m.newSwap e n' commanded := by
  unfold Module.newSwap Module.laserLambda
  rw [Module.getF_thirdFading_ne (.inr (Nat.le_refl 4)) (by simp) (by simp)]

end

/-! ### The next swap starts (R58) -/

section
variable {m : Module} {e : Nat}

theorem Module.hasSpare_setWaiting (l : List Nat) (n : Nat) : (m.setWaiting e l).hasSpare e n = m.hasSpare e n :=
  Module.hasSpare_congr (fun _ _ _ => rfl) fun _ => Module.ring_congr rfl rfl rfl rfl

theorem Module.nextSwap_begins {n : Nat} {rest : List Nat} (hnone : m.swapOf e = none) (hwaits : m.waitingOf e = n :: rest)
    (hdrives : m.drives e n = true) (hauto : m.isOn (K.lpeCtrl_AUTO_SWAP e) = true) (hspare : m.hasSpare e n = true) :
    m.nextSwap e = (m.setWaiting e rest).putSwap e (some (m.newSwap e n false)) := by
  have hdrives' : (m.setWaiting e rest).drives e n = true := hdrives
  have hauto' : (m.setWaiting e rest).isOn (K.lpeCtrl_AUTO_SWAP e) = true := hauto
  unfold Module.nextSwap
  simp only [hnone, hwaits, hdrives', hauto', Module.hasSpare_setWaiting, hspare, Bool.not_true, Bool.false_eq_true,
    Bool.and_self, if_true, if_false]
  rfl

/-! ### A swap's steps (R56, R59) -/

variable {w : Swap} (hw : m.swapOf e = some w)
include hw

theorem Module.swapTuned_eq (hp : w.phase = .tuning) :
    m.swapTuned e = m.putSwap e (some { w with phase := .seeding }) := by
  unfold Module.swapTuned
  simp only [hw, hp, if_true]

theorem Module.tuneTimeout_eq (hp : w.phase = .tuning) : m.tuneTimeout e = m.spareFailed e w := by
  unfold Module.tuneTimeout
  simp only [hw, hp, if_true]

theorem Module.lockTimeout_eq (hp : w.phase = .seeding) : m.lockTimeout e = m.spareFailed e w := by
  unfold Module.lockTimeout
  simp only [hw, hp, if_true]

theorem Module.swapOf_swapLocked (hp : w.phase = .seeding) :
    (m.swapLocked e).swapOf e = some { w with phase := .combining 0 } := by
  have hpaused := ((Module.MovesTraffic.refl (m.putSwap e (some { w with phase := .combining 0 }))).pausePra (arrayOf e) 0).ite
    (c := supplies e = true) (.refl _)
  unfold Module.swapLocked
  simp only [hw, hp, if_true]
  rw [Module.swapOf_congr (congrArg LpeUnit.swaps hpaused.lpe), Module.swapOf_putSwap]

theorem Module.combine1_step {k : Nat} (hp : w.phase = .combining k) (hk : k < 64) (hbusy : m.lambdaBusy e w.lambda = false) :
    m.combine1 e = (m.putSwap e (some { w with phase := .combining (k + 1) })).restCombiner e w.lambda := by
  unfold Module.combine1
  simp only [hw, hp, hk, hbusy, decide_true, Bool.not_false, Bool.and_self, if_true]

end

/-! ### The laser that was to take over has failed (R59) -/

/-- The module once that laser is dark and marked failed, before what its failure costs. -/
def Module.spareMarked (m : Module) (e : Nat) (w : Swap) : Module :=
  let m := ((m.putSwap e none).setRole e w.new 4).laserDark e w.new
  (if 4 ≤ w.new then m.setBit (K.lpeStatus_SPARE_FAIL e) (w.new - 4) true else m).raise .lpe_SPARE_FAIL e w.new

theorem Module.spareFailed_eq (m : Module) (e : Nat) (w : Swap) :
    m.spareFailed e w =
      if !w.commanded || w.oldFaded then (m.spareMarked e w).withoutSpare e w.old else m.spareMarked e w := rfl

theorem Module.swapOf_spareFailed (m : Module) (e : Nat) (w : Swap) : (m.spareFailed e w).swapOf e = none := by
  have hlpe : (m.spareMarked e w).lpe = (m.putSwap e none).lpe := by
    unfold Module.spareMarked
    rw [Module.raise_lpe]
    split <;> rfl
  have hmarked : (m.spareMarked e w).swapOf e = none :=
    (Module.swapOf_congr (by rw [hlpe]) e).trans (m.swapOf_putSwap e none)
  rw [Module.spareFailed_eq]
  split
  · rw [Module.withoutSpare_swapOf, hmarked]
  · exact hmarked

theorem Module.role_spareFailed (m : Module) (e : Nat) (w : Swap) : (m.spareFailed e w).role e w.new = 4 := by
  have hdark : (((m.putSwap e none).setRole e w.new 4).laserDark e w.new).role e w.new = 4 := by
    rw [Module.role_laserDark, Module.role_setRole_self _ _ _ (by decide)]
  have hmarked : (m.spareMarked e w).role e w.new = 4 := by
    unfold Module.spareMarked Module.role
    rw [Module.getF_raise_lpe rfl (by simp)]
    split
    · exact (Module.getF_setF_ne _ _ (by simp)).trans hdark
    · exact hdark
  rw [Module.spareFailed_eq]
  split
  · exact (Module.getF_withoutSpare_ne _ _ _ rfl (by simp) (by simp)).trans hmarked
  · exact hmarked

/-! ### A swap ends (R56, R76) -/

section
variable (m : Module) (e : Nat)

theorem Module.role_setLambda (n lambda n' : Nat) : (m.setLambda e n lambda).role e n' = m.role e n' :=
  (Module.getF_setF_ne _ _ (by simp)).trans (m.getF_setF_ne _ (by simp))

theorem Module.laserLambda_setLambda_self (n : Nat) {lambda : Nat} (h : lambda < 2 ^ 2) :
    (m.setLambda e n lambda).laserLambda e n = lambda := by
  unfold Module.setLambda Module.laserLambda
  rw [Module.getF_setF_ne _ _ (by simp), Module.getF_setF_self, FKey.width_lpeLsrStat_LAMBDA, Nat.mod_eq_of_lt h]

theorem Module.getF_restCombiner (w : Nat) (k : FKey) : (m.restCombiner e w).getF k = m.getF k := rfl

theorem Module.role_toReserve (n lambda n' : Nat) : (m.toReserve e n lambda).role e n' = (m.setRole e n 1).role e n' := by
  unfold Module.toReserve Module.role
  rw [Module.getF_restCombiner, Module.getF_laserDark_ne _ _ _ (by simp) (by simp)]
  exact (Module.getF_setF_ne _ _ (by simp)).trans (Module.role_setLambda ..)

/-- What a laser that takes a wavelength over leaves, before its combiner ring locks. -/
theorem Module.takeLambda_eq (new lambda : Nat) :
    m.takeLambda e new lambda =
      if 4 ≤ new then
        (((m.setRole e new (if new < 4 then 0 else 2)).setLambda e new lambda).setBit (K.lpeStatus_SPARE_USE e) (new - 4)
          true).lockCombiner e lambda
      else (m.setRole e new (if new < 4 then 0 else 2)).setLambda e new lambda := rfl

theorem Module.getF_takeLambda_of_ne_status (new lambda : Nat) {k : FKey} (hk : k.reg ≠ .lpeStatus) :
    (m.takeLambda e new lambda).getF k =
      ((m.setRole e new (if new < 4 then 0 else 2)).setLambda e new lambda).getF k := by
  rw [Module.takeLambda_eq]
  split
  · exact Module.getF_setF_ne _ _ fun h => hk (congrArg FKey.reg h).symm
  · rfl

theorem Module.counters_takeLambda (new lambda : Nat) : (m.takeLambda e new lambda).counters = m.counters := by
  rw [Module.takeLambda_eq]
  split <;> rfl

/-- The new laser drives the wavelength, and SWAP_DONE tells of it. -/
def Module.handOver (w : Swap) : Module := (m.takeLambda e w.new w.lambda).raise .lpe_SWAP_DONE e

theorem Module.happened_handOver (w : Swap) : (m.handOver e w).Happened m .lpe_SWAP_DONE e :=
  (Module.happened_raise_lpe rfl e 0).of_counters (m.counters_takeLambda e w.new w.lambda)

theorem Module.role_handOver (w : Swap) : (m.handOver e w).role e w.new = if w.new < 4 then 0 else 2 := by
  unfold Module.role Module.handOver
  rw [Module.getF_raise_lpe rfl (by simp), Module.getF_takeLambda_of_ne_status _ _ _ _ (by simp)]
  refine (Module.role_setLambda ..).trans (Module.role_setRole_self _ _ _ ?_)
  split <;> decide

theorem Module.laserLambda_handOver (w : Swap) (h : w.lambda < 2 ^ 2) : (m.handOver e w).laserLambda e w.new = w.lambda := by
  unfold Module.laserLambda Module.handOver
  rw [Module.getF_raise_lpe rfl (by simp), Module.getF_takeLambda_of_ne_status _ _ _ _ (by simp)]
  exact Module.laserLambda_setLambda_self _ _ _ h

end

section
variable {m₁ m : Module} {ev : Ev} {i : Nat} (h : m₁.Happened m ev i) (hev : ev.reg = some .lpeEvt)
include h hev

theorem Module.Happened.laserDark (e n : Nat) : (m₁.laserDark e n).Happened m ev i :=
  ((h.congr (m₂ := m₁.drawn) rfl rfl).setF hev (by simp) _).setF hev (by simp) _

theorem Module.Happened.setRole (e n v : Nat) : (m₁.setRole e n v).Happened m ev i := h.setF hev (by simp) _

theorem Module.Happened.putSwap (e : Nat) (w : Option Swap) : (m₁.putSwap e w).Happened m ev i :=
  Module.Happened.setF (h.congr rfl rfl) hev (by simp) _

theorem Module.Happened.toReserve (e n lambda : Nat) : (m₁.toReserve e n lambda).Happened m ev i := by
  have hlambda : ((m₁.setRole e n 1).setLambda e n 0).Happened m ev i :=
    ((h.setRole hev e n 1).setF hev (by simp) _).setF hev (by simp) _
  have hdark : ((((m₁.setRole e n 1).setLambda e n 0).setBit (K.lpeStatus_SPARE_USE e) (n - 4) false).laserDark e n).Happened
      m ev i := Module.Happened.laserDark (hlambda.setF hev (by simp) _) hev e n
  exact hdark.congr rfl rfl

end

section
variable {m : Module} {e : Nat} {w : Swap} (hw : m.swapOf e = some w) (hp : w.phase = .combining 64)
include hw hp

/-- A swap's end: a commanded one has come back, or goes back while its laser is sound; else the old laser is retired. -/
theorem Module.swapEnds_eq :
    m.swapEnds e =
      if w.commanded && w.back then ((m.handOver e w).toReserve e w.old w.lambda).putSwap e none
      else if w.commanded && !w.oldFaded then
        (((m.handOver e w).setRole e w.old 1).laserDark e w.old).putSwap e
          (some { w with old := w.new, new := w.old, phase := .tuning, back := true })
      else
        ((((m.handOver e w).setRole e w.old 3).laserDark e w.old).record 0x01 (e * 256 + w.lambda) w.new).putSwap e none := by
  unfold Module.swapEnds
  simp only [hw, hp, ne_eq, not_true_eq_false, if_false]
  rfl

theorem Module.happened_swapEnds : (m.swapEnds e).Happened m .lpe_SWAP_DONE e := by
  have hdone := m.happened_handOver e w
  have hdark (v : Nat) := (hdone.setRole rfl e w.old v).laserDark rfl e w.old
  rw [Module.swapEnds_eq hw hp]
  split
  · exact (hdone.toReserve rfl ..).putSwap rfl ..
  · split
    · exact (hdark 1).putSwap rfl ..
    · exact Module.Happened.putSwap ((hdark 3).congr rfl rfl) rfl ..

/-- The old laser is dark and retired, and the new one drives its wavelength. -/
theorem Module.swapEnds_retires (hc : w.commanded = false) (hne : w.old ≠ w.new) (hl : w.lambda < 4) :
    (m.swapEnds e).swapOf e = none ∧ (m.swapEnds e).role e w.old = 3 ∧
      (m.swapEnds e).role e w.new = (if w.new < 4 then 0 else 2) ∧ (m.swapEnds e).getF (K.lpeLsrBias_BIAS e w.old) = 0 ∧
      (m.swapEnds e).laserLambda e w.new = w.lambda := by
  have hdark : (((m.handOver e w).setRole e w.old 3).laserDark e w.old).role e w.old = 3 :=
    (Module.role_laserDark ..).trans (Module.role_setRole_self _ _ _ (by decide))
  have hdrives : (((m.handOver e w).setRole e w.old 3).laserDark e w.old).role e w.new = (if w.new < 4 then 0 else 2) :=
    (Module.role_laserDark ..).trans ((Module.role_setRole_ne _ _ hne _).trans (m.role_handOver e w))
  have hlambda : (((m.handOver e w).setRole e w.old 3).laserDark e w.old).laserLambda e w.new = w.lambda := by
    refine (Module.getF_laserDark_ne _ _ _ (by simp) (by simp)).trans ?_
    exact (Module.getF_setF_ne _ _ (by simp)).trans (m.laserLambda_handOver e w hl)
  rw [Module.swapEnds_eq hw hp, hc]
  refine ⟨Module.swapOf_putSwap .., ?_, ?_, ?_, ?_⟩
  · exact (Module.role_putSwap ..).trans hdark
  · exact (Module.role_putSwap ..).trans hdrives
  · exact (Module.getF_putSwap_ne _ _ _ (by simp)).trans (Module.getF_laserDark_BIAS ..)
  · exact (Module.getF_putSwap_ne _ _ _ (by simp)).trans hlambda

/-- A commanded swap has come back: the spare is in reserve, and the laser swapped out drives its wavelength again. -/
theorem Module.swapEnds_returns (hc : w.commanded = true) (hb : w.back = true) (hne : w.old ≠ w.new) :
    (m.swapEnds e).swapOf e = none ∧ (m.swapEnds e).role e w.old = 1 ∧
      (m.swapEnds e).role e w.new = (if w.new < 4 then 0 else 2) := by
  rw [Module.swapEnds_eq hw hp, hc, hb]
  refine ⟨Module.swapOf_putSwap .., ?_, ?_⟩
  · exact (Module.role_putSwap ..).trans ((Module.role_toReserve ..).trans (Module.role_setRole_self _ _ _ (by decide)))
  · refine (Module.role_putSwap ..).trans ((Module.role_toReserve ..).trans ?_)
    exact (Module.role_setRole_ne _ _ hne _).trans (m.role_handOver e w)

/-- A commanded swap whose laser is sound goes back. -/
theorem Module.swapOf_swapEnds_goesBack (hc : w.commanded = true) (hb : w.back = false) (hf : w.oldFaded = false) :
    (m.swapEnds e).swapOf e = some { w with old := w.new, new := w.old, phase := .tuning, back := true } := by
  rw [Module.swapEnds_eq hw hp, hc, hb, hf]
  exact Module.swapOf_putSwap ..

end

/-! ### LPE_SWAP_CMD (R76) -/

theorem target_lpeSwapCmd (pb : Fin 64) : target (regAddr .lpeSwapCmd pb.val 0).toNat = .reg .lpeSwapCmd pb.val 0 := by
  revert pb
  decide

theorem Module.writeReg_lpeSwapCmd (m : Module) (req : Requester) (e j : Nat) (w : Word) (queue : Nat × Nat) :
    m.writeReg req .lpeSwapCmd e j w queue = if bitOf w.toNat 31 then m.swapCommand e (bitsOf w.toNat 1 0) else m := rfl

section
variable {m : Module} {e lambda n : Nat}

/-- A swap that its engine can take up is asked for at once. -/
theorem Module.accessWrite_lpeSwapCmd {pb : Fin 64} {lambda : Fin 4} (hans : m.answers .lpe pb.val = true)
    (hlive : pb.val < m.liveCount .lpe) (hfree : m.holdsWrites = false) :
    m.accessWrite .mpc (regAddr .lpeSwapCmd pb.val 0) (cmdWord (2 ^ 31 + lambda.val)) = m.swapCommand pb.val lambda.val := by
  have hgo : bitOf (cmdWord (2 ^ 31 + lambda.val)).toNat 31 = true := by
    revert lambda
    decide
  have hlambda : bitsOf (cmdWord (2 ^ 31 + lambda.val)).toNat 1 0 = lambda.val := by
    revert lambda
    decide
  rw [Module.accessWrite_now rfl (Module.reach_of_target (target_lpeSwapCmd pb) hans hlive) (.inr hfree),
    Module.writeReg_lpeSwapCmd, if_pos hgo, hlambda]

variable (hdriver : m.driverOf e lambda = some n) (hnone : m.swapOf e = none)
include hdriver hnone

theorem Module.swapCommand_begins (hallowed : m.rehearses 1 = true) (hspare : m.hasSpare e n = true)
    (hfree : m.claimed e (spareOfLambda (m.laserLambda e n)) = false) :
    m.swapCommand e lambda = m.putSwap e (some (m.newSwap e n true)) := by
  unfold Module.swapCommand
  simp only [hdriver, hnone, hallowed, hspare, hfree, Bool.not_false, Bool.and_self, if_true]
  rfl

theorem Module.swapCommand_refused (h : m.rehearses 1 = false ∨ m.hasSpare e n = false ∨
    m.claimed e (spareOfLambda (m.laserLambda e n)) = true) :
    m.swapCommand e lambda = m.raise .lpe_SWAP_REFUSED e := by
  have hno : (m.rehearses 1 && m.hasSpare e n && !m.claimed e (spareOfLambda (m.laserLambda e n))) = false := by
    obtain h | h | h := h <;> simp [h]
  unfold Module.swapCommand
  simp only [hdriver, hnone, hno, Bool.false_eq_true, if_false]

end

/-- Settles O26, command by command: the fade by what `thirdFading` leaves to `fade`, the rest phase by phase. -/
theorem laserSwapsRun : Obligations.LaserSwapsRun := by
  refine ⟨fun pb n tap bias s hlit => ⟨fun hidle => ?_, fun hdrives hrun hfades hlives hbias hnone hspare hwaits => ?_⟩,
    fun pb lambda w s => ⟨fun n rest hnone hwaits hdrives hauto hspare => ?_, fun hw hp => ⟨?_, ?_⟩, fun hw hp => ⟨?_, ?_⟩,
      fun k hw hp hk hbusy => ?_, fun hw hp hc hne hl => ?_, fun hw hp hc hne hl => ?_,
      fun n hans hlive hfree hdriver hnone => ⟨fun hallowed hspare hclaim => ?_, fun hrefused => ?_⟩⟩⟩
  · rw [exec_laserAverage, if_pos hlit, Module.laserAverage_undriven hidle, Module.showAverage]
  · refine ⟨_, exec_laserAverage .., ?_⟩
    rw [if_pos hlit, Module.laserAverage_fades hdrives hrun hfades hlives hbias hspare hwaits]
    have hnone' : (s.mod.thirdFading pb.val n.val tap bias).swapOf pb.val = none :=
      (Module.swapOf_thirdFading _).trans hnone
    refine ⟨fun hw hauto hreserve => ?_, fun hw => Module.waitingOf_fade hnone' _ hw, ?_, ?_, ?_⟩
    · rw [Module.swapOf_fade hnone' _ hw (Module.isOn_thirdFading_AUTO_SWAP.trans hauto)
        ((Module.hasSpare_thirdFading _).trans hreserve), Module.newSwap_thirdFading]
      rfl
    · rw [Module.getF_fade_ne hnone' _ rfl (by simp) (by simp), Module.getF_thirdFading_FADE_MET]
    · rw [Module.getF_fade_ne hnone' _ rfl (by simp) (by simp), Module.getF_thirdFading_TAP]
    · exact (Module.happened_fade hnone' _).of_counters rfl
  · refine ⟨_, exec_swapStart .., ?_⟩
    rw [Module.nextSwap_begins hnone hwaits hdrives hauto hspare]
    exact ⟨(Module.waitingOf_putSwap ..).trans (Module.waitingOf_setWaiting ..), Module.swapOf_putSwap ..⟩
  · rw [exec_swapTuneDone, Module.swapTuned_eq hw hp]
  · refine ⟨_, exec_spareTuneTimeout .., ?_⟩
    rw [Module.tuneTimeout_eq hw hp]
    exact ⟨Module.swapOf_spareFailed .., Module.role_spareFailed ..⟩
  · exact ⟨_, exec_injectionLock .., Module.swapOf_swapLocked hw hp⟩
  · refine ⟨_, exec_injectionLockTimeout .., ?_⟩
    rw [Module.lockTimeout_eq hw hp]
    exact ⟨Module.swapOf_spareFailed .., Module.role_spareFailed ..⟩
  · rw [exec_combinerStep, Module.combine1_step hw hp hk hbusy]
  · obtain ⟨hover, hold, hnew, hbias, hlambda⟩ := Module.swapEnds_retires hw hp hc hne hl
    exact ⟨_, exec_swapDone .., hover, hold, hnew, hbias, hlambda, Module.happened_swapEnds hw hp⟩
  · exact ⟨_, exec_swapDone .., Module.happened_swapEnds hw hp, fun hb => Module.swapEnds_returns hw hp hc hb hne,
      fun hb hf => Module.swapOf_swapEnds_goesBack hw hp hc hb hf⟩
  · refine ⟨_, exec_lpeSwapCmd .., ?_⟩
    rw [Module.accessWrite_lpeSwapCmd hans hlive hfree, Module.swapCommand_begins hdriver hnone hallowed hspare hclaim]
    exact Module.swapOf_putSwap ..
  · rw [exec_lpeSwapCmd, Module.accessWrite_lpeSwapCmd hans hlive hfree, Module.swapCommand_refused hdriver hnone hrefused]

end Sys2Proof.Machine

/-! SUPPORT. Codewords on a lane: the descrambler undoes the scrambler, what a codeword leaves as the FEC judges it
(spec/03_flyover_circuits.md R90, spec/04_links_and_presence.md R107, R109), and the statement about them settled. -/

namespace Sys2Proof.Machine

/-! ### The scrambler (R107) -/

theorem flag_le_one (b : Bool) : flag b ≤ 1 := by cases b <;> decide

theorem flag_bitOf (n b : Nat) : flag (bitOf n b) = n / 2 ^ b % 2 := by
  unfold flag bitOf
  obtain h | h := Nat.mod_two_eq_zero_or_one (n / 2 ^ b) <;> rw [h] <;> rfl

/-- A bit set above `n` lower ones reads as it was set. -/
theorem bitOf_flag_mul_add (b : Bool) {x n : Nat} (hx : x < 2 ^ n) : bitOf (flag b * 2 ^ n + x) n = b := by
  rw [bitOf, Nat.add_comm, Nat.add_mul_div_right _ _ (Nat.two_pow_pos n), Nat.div_eq_of_lt hx, Nat.zero_add]
  cases b <;> rfl

theorem bitOf_congr {x y n : Nat} (h : x % 2 ^ (n + 1) = y % 2 ^ (n + 1)) : bitOf x n = bitOf y n := by
  have hbit := congrArg (Nat.testBit · n) h
  simpa [bitOf_eq_testBit, Nat.testBit_mod_two_pow] using hbit

theorem scramble_lt (state bits n : Nat) : (scramble state bits n).2 < 2 ^ n := by
  induction n generalizing state with
  | zero => exact Nat.one_pos
  | succ n ih =>
    have hbit := Nat.mul_le_mul_right (2 ^ n) (flag_le_one (bitOf bits n != (bitOf state 38 != bitOf state 57)))
    have hrest := ih ((state * 2 + flag (bitOf bits n != (bitOf state 38 != bitOf state 57))) % 2 ^ 58)
    rw [Nat.pow_succ]
    simp only [scramble]
    omega

/-- The descrambler reads as many bits as it is given to read. -/
theorem descramble_congr {x y n : Nat} (h : x % 2 ^ n = y % 2 ^ n) (state : Nat) :
    descramble state x n = descramble state y n := by
  induction n generalizing state with
  | zero => rfl
  | succ n ih =>
    have hrest : x % 2 ^ n = y % 2 ^ n := by
      rw [← Nat.mod_mod_of_dvd x (Nat.pow_dvd_pow 2 n.le_succ), h, Nat.mod_mod_of_dvd y (Nat.pow_dvd_pow 2 n.le_succ)]
    simp only [descramble, bitOf_congr h, ih hrest]

/-- The descrambler sees the bits sent, so its state goes the scrambler's way, and each bit comes back. -/
theorem descramble_scramble (state bits n : Nat) :
    (descramble state (scramble state bits n).2 n).2 = bits % 2 ^ n := by
  induction n generalizing state with
  | zero => exact (Nat.mod_one bits).symm
  | succ n ih =>
    have hlow (b : Bool) (x : Nat) : (flag b * 2 ^ n + x) % 2 ^ n = x % 2 ^ n := Nat.mul_add_mod' ..
    have hback (b x : Bool) : ((b != x) != x) = b := by rw [Bool.bne_assoc, bne_self_eq_false, Bool.bne_false]
    simp only [scramble, descramble]
    rw [bitOf_flag_mul_add _ (scramble_lt ..), hback, descramble_congr (hlow ..), ih, flag_bitOf, Nat.mod_pow_succ,
      Nat.mul_comm, Nat.add_comm]

/-! ### Codewords (R109) -/

theorem exec_codewordReceive (lane : Fin 2048) (w : BitVec 5440) (s : State) :
    exec (.codewordReceive lane w) s = .next { s with mod := s.mod.codeword lane.val w } := rfl

theorem FKey.width_lnkLaneFec_CORR (i j : Nat) : FKey.width (K.lnkLaneFec_CORR i j) = 16 :=
  FKey.width_of_mem (d := fd 31 16 .rc) (by decide) i j

theorem FKey.width_lnkLaneFec_UNCORR (i j : Nat) : FKey.width (K.lnkLaneFec_UNCORR i j) = 16 :=
  FKey.width_of_mem (d := fd 15 0 .rc) (by decide) i j


/-- A count of the group of lanes advances whatever is in reset (R471). -/
theorem Module.count_of_group {num : Nat} (h : num / 32 = 0x23) (m : Module) (i n : Nat) :
    m.count num i n = { m with counters := Tbl.put m.counters (num, i) ((m.counter num i + n) % 2 ^ 64) } :=
  if_pos (Module.countsNow_of_group (.inr (by omega)) m i)

/-- A codeword has come on a lane: it is counted, and the lane's receiver goes on behind it. -/
def Module.heardCodeword (m : Module) (lane : Nat) (w : BitVec 5440) : Module :=
  (m.count 0x462 lane 1).putRx lane ((m.rxLane lane).take w)

/-- A codeword of a kind is counted on top, in the kind's counter and in the lane's register. -/
def Module.countFec (m : Module) (num lane : Nat) (k : FKey) : Module := (m.count num lane 1).addSat k 1 0xFFFF

/-- The blocks of a link are lost with a codeword. -/
def Module.losesBlock (m : Module) (lport : Nat) : Module := m.modLnk lport fun l => { l with lostBlock := true }

section
variable {m : Module} {lane : Nat} {w : BitVec 5440}

theorem Module.codeword_ignored (h : m.linkState (m.lportOfLane lane) < 2 ∨ 5 < m.linkState (m.lportOfLane lane) ∨
    m.deaf (m.lportOfLane lane) = true ∨ m.laneTaken lane = true) : m.codeword lane w = m := by
  unfold Module.codeword
  exact if_pos h

theorem Module.heardCodeword_eq : m.heardCodeword lane w =
    { m with counters := Tbl.put m.counters (0x462, lane) ((m.counter 0x462 lane + 1) % 2 ^ 64)
             link := { m.link with rx := Tbl.put m.link.rx lane ((m.rxLane lane).take w) } } := by
  rw [Module.heardCodeword, Module.count_of_group rfl]
  rfl

theorem Module.countFec_eq {num : Nat} (h : num / 32 = 0x23) (k : FKey) : m.countFec num lane k =
    { m with counters := Tbl.put m.counters (num, lane) ((m.counter num lane + 1) % 2 ^ 64)
             regs := Tbl.put m.regs k (min 0xFFFF (m.getF k + 1) % 2 ^ k.width) } := by
  rw [Module.countFec, Module.count_of_group h]
  rfl

section
variable (hlow : 2 ≤ m.linkState (m.lportOfLane lane)) (hhigh : m.linkState (m.lportOfLane lane) ≤ 5)
  (hdeaf : m.deaf (m.lportOfLane lane) = false) (htaken : m.laneTaken lane = false)
include hlow hhigh hdeaf htaken

theorem Module.not_ignored : ¬ (m.linkState (m.lportOfLane lane) < 2 ∨ 5 < m.linkState (m.lportOfLane lane) ∨
    m.deaf (m.lportOfLane lane) = true ∨ m.laneTaken lane = true) := by
  simp only [Nat.not_lt_of_le hlow, Nat.not_lt_of_le hhigh, hdeaf, htaken, Bool.false_eq_true, or_self, not_false_eq_true]

theorem Module.codeword_clean (hj : judgeCodeword ((m.rxLane lane).aligned w) = .clean) :
    m.codeword lane w = m.heardCodeword lane w := by
  unfold Module.codeword
  simp only [Module.not_ignored hlow hhigh hdeaf htaken, hj, if_false]
  rfl

theorem Module.codeword_corrected (hj : judgeCodeword ((m.rxLane lane).aligned w) = .corrected) :
    m.codeword lane w = (m.heardCodeword lane w).countFec 0x460 lane (K.lnkLaneFec_CORR (lane / 32) (lane % 32)) := by
  unfold Module.codeword
  simp only [Module.not_ignored hlow hhigh hdeaf htaken, hj, if_false]
  rfl

theorem Module.codeword_uncorrectable (hj : judgeCodeword ((m.rxLane lane).aligned w) = .uncorrectable) :
    m.codeword lane w =
      ((m.heardCodeword lane w).countFec 0x461 lane (K.lnkLaneFec_UNCORR (lane / 32) (lane % 32))).losesBlock
        (m.lportOfLane lane) := by
  unfold Module.codeword
  simp only [Module.not_ignored hlow hhigh hdeaf htaken, hj, if_false]
  rfl

end

end

theorem Module.counter_countFec {num : Nat} (hnum : num / 32 = 0x23) (m : Module) (lane : Nat) (k : FKey) (num' : Nat) :
    (m.countFec num lane k).counter num' lane =
      if num = num' then (m.counter num lane + 1) % 2 ^ 64 else m.counter num' lane := by
  have hnow : m.countsNow num lane = true := Module.countsNow_of_group (.inr (by omega)) ..
  simp only [Module.countFec, Module.addSat, Module.counter_setF, Module.counter_count, hnow, Prod.mk.injEq, and_true]

theorem Module.getF_countFec_self (m : Module) (num lane : Nat) {k : FKey} (hk : k.width = 16) :
    (m.countFec num lane k).getF k = min 0xFFFF (m.getF k + 1) := by
  rw [Module.countFec, Module.addSat, Module.getF_setF_self, Module.getF_count, hk]
  omega

theorem Module.RegsKept.countFec {m' m : Module} {ks : List FKey} (h : m'.RegsKept m ks) (num lane : Nat) {k : FKey}
    (hk : k ∈ ks) : (m'.countFec num lane k).RegsKept m ks := (h.congr (by simp)).setF hk _

theorem Module.heardCodeword_regsKept (m : Module) (lane : Nat) (w : BitVec 5440) (ks : List FKey) :
    (m.heardCodeword lane w).RegsKept m ks :=
  (Module.RegsKept.refl m ks).congr (by rw [Module.heardCodeword_eq])

theorem Module.counter_heardCodeword (m : Module) (lane : Nat) (w : BitVec 5440) (num : Nat) :
    (m.heardCodeword lane w).counter num lane =
      if 0x462 = num then (m.counter 0x462 lane + 1) % 2 ^ 64 else m.counter num lane := by
  rw [Module.heardCodeword_eq]
  simp only [Module.counter, Tbl.get_put, Prod.mk.injEq, and_true]

theorem Module.getF_heardCodeword (m : Module) (lane : Nat) (w : BitVec 5440) (k : FKey) :
    (m.heardCodeword lane w).getF k = m.getF k := Module.heardCodeword_regsKept m lane w [] k (by simp)

theorem Module.rxLane_heardCodeword (m : Module) (lane : Nat) (w : BitVec 5440) :
    (m.heardCodeword lane w).rxLane lane = (m.rxLane lane).take w := by
  rw [Module.heardCodeword_eq]
  exact Tbl.get_put_self ..

theorem Module.countFec_link {num : Nat} (hnum : num / 32 = 0x23) (m : Module) (lane : Nat) (k : FKey) :
    (m.countFec num lane k).link = m.link := by rw [Module.countFec_eq hnum]

theorem Module.rxLane_congr {m' m : Module} (h : m'.link = m.link) (lane : Nat) : m'.rxLane lane = m.rxLane lane := by
  rw [Module.rxLane, h, Module.rxLane]

section
variable (m : Module) (lport : Nat)

theorem Module.counter_losesBlock (num i : Nat) : (m.losesBlock lport).counter num i = m.counter num i := rfl

theorem Module.getF_losesBlock (k : FKey) : (m.losesBlock lport).getF k = m.getF k := rfl

theorem Module.rxLane_losesBlock (lane : Nat) : (m.losesBlock lport).rxLane lane = m.rxLane lane := rfl

theorem Module.lostBlock_losesBlock : ((m.losesBlock lport).lnk lport).lostBlock = true := by
  simp only [Module.losesBlock, Module.modLnk, Module.putLnk, Module.lnk, Tbl.get_put_self]

end

/-- Settles O29: a codeword is heard, and counted by what the FEC makes of it. -/
theorem codewordsAreCounted : Obligations.CodewordsAreCounted := by
  refine ⟨fun lane w s => ⟨fun hlow hhigh hdeaf htaken => ⟨_, exec_codewordReceive .., ?_⟩, fun h => ?_⟩,
    descramble_scramble⟩
  · cases hj : judgeCodeword ((s.mod.rxLane lane.val).aligned w) with
    | clean =>
      rw [Module.codeword_clean hlow hhigh hdeaf htaken hj]
      refine ⟨?_, nofun, nofun, s.mod.heardCodeword_regsKept lane.val w _, ?_, s.mod.rxLane_heardCodeword lane.val w,
        fun _ => ?_⟩
      · rw [Module.counter_heardCodeword, if_pos rfl]
      · rw [Module.heardCodeword_eq]
      · rw [Module.heardCodeword_eq]
    | corrected =>
      rw [Module.codeword_corrected hlow hhigh hdeaf htaken hj]
      refine ⟨?_, fun _ => ⟨?_, ?_⟩, nofun, ?_, ?_, ?_, fun _ => ?_⟩
      · rw [Module.counter_countFec rfl, if_neg (by decide), Module.counter_heardCodeword, if_pos rfl]
      · rw [Module.counter_countFec rfl, if_pos rfl, Module.counter_heardCodeword, if_neg (by decide)]
      · rw [Module.getF_countFec_self _ _ _ (FKey.width_lnkLaneFec_CORR ..), Module.getF_heardCodeword]
      · exact (s.mod.heardCodeword_regsKept lane.val w _).countFec 0x460 lane.val (by simp)
      · rw [Module.countFec_eq rfl, Module.heardCodeword_eq]
      · rw [Module.rxLane_congr (Module.countFec_link rfl ..), Module.rxLane_heardCodeword]
      · rw [Module.countFec_link rfl, Module.heardCodeword_eq]
    | uncorrectable =>
      rw [Module.codeword_uncorrectable hlow hhigh hdeaf htaken hj]
      refine ⟨?_, nofun, fun _ => ⟨?_, ?_, ?_⟩, ?_, ?_, ?_, fun hne => absurd rfl hne⟩
      · rw [Module.counter_losesBlock, Module.counter_countFec rfl, if_neg (by decide), Module.counter_heardCodeword,
          if_pos rfl]
      · rw [Module.counter_losesBlock, Module.counter_countFec rfl, if_pos rfl, Module.counter_heardCodeword,
          if_neg (by decide)]
      · exact Module.lostBlock_losesBlock ..
      · rw [Module.getF_losesBlock, Module.getF_countFec_self _ _ _ (FKey.width_lnkLaneFec_UNCORR ..),
          Module.getF_heardCodeword]
      · exact ((s.mod.heardCodeword_regsKept lane.val w _).countFec 0x461 lane.val (by simp)).congr rfl
      · rw [Module.countFec_eq rfl, Module.heardCodeword_eq]
        rfl
      · rw [Module.rxLane_losesBlock, Module.rxLane_congr (Module.countFec_link rfl ..), Module.rxLane_heardCodeword]
  · rw [exec_codewordReceive, Module.codeword_ignored h]

end Sys2Proof.Machine

/-! SUPPORT. What the moves of frames and links leave still: a property of the module that no single update of theirs ends
stands through each of their operations, however deep, so that the registers and the events of the circuits stand, and what
has been sent. `Module.MovesTraffic` says less of these: it lets circuits be interrupted. -/

namespace Sys2Proof.Machine

/-! ### What no frame and no link changes -/

/-- The registers that frames and links can write: those that traffic can, but the engines' and the circuits', which an
interrupted circuit changes. -/
def RegName.wired (r : RegName) : Bool := r.traffic && decide (r.blk ≠ .lpe) && decide (r.blk ≠ .fly)

/-- The event numbers that frames and links can count: those that traffic can, but the circuits' (R472). -/
def wiredNum (n : Nat) : Bool := trafficNum n && decide (n / 32 ≠ 10)

/-- An event that frames and links can count shows in a register that they can write. -/
theorem Ev.reg_wired (e : Ev) : wiredNum e.num = true → e.reg.all RegName.wired = true := by cases e <;> decide

theorem evtKey_wired {e : Ev} (h : wiredNum e.num = true) {i : Nat} {k : FKey} (hk : evtKey e i = some k) :
    k.reg.wired = true := by
  unfold evtKey at hk
  split at hk
  · cases hk
    rfl
  · obtain ⟨r, hr, rfl⟩ := Option.map_eq_some_iff.1 hk
    have hreg := e.reg_wired h
    rw [hr] at hreg
    exact hreg

/-- No update of which the moves of frames and links are made ends a property of the module. -/
structure WireKeeps (P : Module → Prop) : Prop where
  update : ∀ m log link buf col rde pra hbm mpc fresh, P m →
    P { m with log := log, link := link, buf := buf, col := col, rde := rde, pra := pra, hbm := hbm, mpc := mpc
               fresh := fresh }
  setF : ∀ m k v, k.reg.wired = true → P m → P (m.setF k v)
  count : ∀ m num i n, wiredNum num = true → P m → P (m.count num i n)
  emit : ∀ m x, P m → P (m.emit x)

/-- A register field that frames and links cannot write keeps its value. -/
theorem WireKeeps.field {k : FKey} (hk : k.reg.wired = false) (v : Nat) : WireKeeps fun m => m.getF k = v where
  update _ _ _ _ _ _ _ _ _ _ h := h
  setF m k' w hk' h := (m.getF_setF_ne w (by rintro rfl; exact Bool.false_ne_true (hk.symm.trans hk'))).trans h
  count m num i n _ h := (m.getF_count num i n k).trans h
  emit _ _ h := h

/-- A counter that frames and links cannot advance keeps its count. -/
theorem WireKeeps.counter {num : Nat} (hn : wiredNum num = false) (i v : Nat) : WireKeeps fun m => m.counter num i = v where
  update _ _ _ _ _ _ _ _ _ _ h := h
  setF _ _ _ _ h := h
  count m num' i' n hn' h := by
    rw [Module.counter_count, if_neg]
    · exact h
    · rintro ⟨heq, -⟩
      rw [(Prod.mk.inj heq).1, hn] at hn'
      cases hn'
  emit _ _ h := h

/-- What has been sent stays sent. -/
theorem WireKeeps.sent (x : Emission) : WireKeeps fun m => x ∈ m.out where
  update _ _ _ _ _ _ _ _ _ _ h := h
  setF _ _ _ _ h := h
  count m num i n _ h := by rwa [Module.count_out]
  emit _ _ h := List.mem_append_left _ h

/-- A property holds of a module, and no move of frames and links ends it. -/
structure Module.Stands (m : Module) (P : Module → Prop) : Prop where
  keeps : WireKeeps P
  holds : P m

namespace Module.Stands

variable {m' : Module} {P : Module → Prop} (h : m'.Stands P)
include h

/-! ### Updates of the state -/

theorem update (log : LogUnit) (link : LinkUnit) (buf : BufUnit) (col : ColUnit) (rde : RdeUnit) (pra : Tbl Nat PraArray)
    (hbm : HbmUnit) (mpc : MpcUnit) (fresh : Nat) :
    ({ m' with log := log, link := link, buf := buf, col := col, rde := rde, pra := pra, hbm := hbm, mpc := mpc
               fresh := fresh } : Module).Stands P := ⟨h.keeps, h.keeps.update _ _ _ _ _ _ _ _ _ _ h.holds⟩

theorem setF {k : FKey} (hk : k.reg.wired = true) (v : Nat) : (m'.setF k v).Stands P :=
  ⟨h.keeps, h.keeps.setF _ _ _ hk h.holds⟩

theorem count {num : Nat} (hn : wiredNum num = true) (i n : Nat) : (m'.count num i n).Stands P :=
  ⟨h.keeps, h.keeps.count _ _ _ _ hn h.holds⟩

theorem emit (x : Emission) : (m'.emit x).Stands P := ⟨h.keeps, h.keeps.emit _ _ h.holds⟩

theorem setB {k : FKey} (hk : k.reg.wired = true) (b : Bool) : (m'.setB k b).Stands P := h.setF hk _

theorem addSat {k : FKey} (hk : k.reg.wired = true) (n most : Nat) : (m'.addSat k n most).Stands P := h.setF hk _

theorem setBit {k : FKey} (hk : k.reg.wired = true) (b : Nat) (v : Bool) : (m'.setBit k b v).Stands P := h.setF hk _

theorem drawn : m'.drawn.Stands P := h.update ..

theorem ite {c : Prop} [Decidable c] {m₂ : Module} (h₂ : m₂.Stands P) : (if c then m' else m₂).Stands P := by
  split
  · exact h
  · exact h₂

theorem raise {e : Ev} (he : wiredNum e.num = true) (i : Nat) (d : Nat := 0) : (m'.raise e i d).Stands P := by
  have hshow : ((m'.count e.num i 1).show e i).Stands P := by
    unfold Module.show
    split
    · next k hk => exact (h.count he i 1).setF (evtKey_wired he hk) 1
    · exact h.count he i 1
  unfold Module.raise Module.pend
  exact (hshow.update ..).ite hshow

theorem each {α : Type} {f : Module → α → Module} (hf : ∀ {m'}, m'.Stands P → ∀ x, (f m' x).Stands P) (l : List α) :
    (m'.each l f).Stands P := List.foldlRecOn (motive := fun m' => m'.Stands P) l f h fun _ h x _ => hf h x

/-- A list folded into a pair: the other half does not matter. -/
theorem foldl_fst {α β : Type} {f : Module × β → α → Module × β}
    (hf : ∀ st a, st.1.Stands P → (f st a).1.Stands P) (l : List α) (b : β) :
    (l.foldl f (m', b)).1.Stands P :=
  List.foldlRecOn (motive := fun st => st.1.Stands P) l f h fun st hst a _ => hf st a hst

/-! ### Queues, packet SRAM and the Carafe -/

theorem putQ (lport vc : Nat) (q : OutQueue) : (m'.putQ lport vc q).Stands P := h.update ..

theorem putFifo (lport vc : Nat) (fs : List QFrame) : (m'.putFifo lport vc fs).Stands P := h.update ..

theorem freeChunks (nos : List Nat) : (m'.freeChunks nos).Stands P := h.update ..

theorem emptiedQ (lport vc : Nat) : (m'.emptiedQ lport vc).Stands P := by
  have hq := h.putQ lport vc
  unfold Module.emptiedQ
  exact ((hq _).raise rfl _).ite (hq _)

theorem raiseLnk {e : Ev} (he : wiredNum e.num = true) (lport : Nat) (d : Nat := 0) :
    (m'.raiseLnk e lport d).Stands P := h.raise he _ d

theorem linkDiscard (lport : Nat) : (m'.linkDiscard lport).Stands P := h.raise rfl ..

theorem tollOut (f : QFrame) : (m'.tollOut f).Stands P := by
  unfold Module.tollOut
  split
  · split
    · exact h.update ..
    · exact h
  · exact h

theorem tollIn (f : QFrame) : (m'.tollIn f).Stands P := by
  unfold Module.tollIn
  split
  · split
    · exact h.update ..
    · exact h
  · exact h

theorem refillQ (lport vc : Nat) : (m'.refillQ lport vc).Stands P := by
  have hq := h.putQ lport vc
  unfold Module.refillQ
  exact ((hq _).raise rfl _).ite (hq _)

theorem activateQ (lport vc : Nat) : (m'.activateQ lport vc).Stands P := (h.putQ ..).refillQ ..

theorem settleQ (lport vc : Nat) (before : OutQueue) : (m'.settleQ lport vc before).Stands P := by
  unfold Module.settleQ
  exact (h.ite (h.emptiedQ ..)).ite ((h.activateQ ..).ite ((h.refillQ ..).ite h))

theorem newChunk (s r : Nat) (pool : Bool) (avoid : Option Nat) (use : ChunkUse) :
    (m'.newChunk s r pool avoid use).Stands P := by
  unfold Module.newChunk
  split
  · exact h.update ..
  · exact h.update ..

theorem noteFull (p : Nat) : (m'.noteFull p).Stands P := by
  unfold Module.noteFull
  exact ((h.update ..).raise rfl _).ite (h.ite (h.update ..))

theorem noteSpill (lport vc : Nat) : (m'.noteSpill lport vc).Stands P := by
  unfold Module.noteSpill
  exact h.ite ((h.putQ ..).raise rfl _)

theorem spend (s : Nat) : (m'.spend s).Stands P := h.update ..

theorem openChunk (lport vc : Nat) (cont : Bool) : (m'.openChunk lport vc cont).Stands P :=
  ((((h.putQ ..).newChunk ..).spend _).noteSpill ..).noteFull _

theorem writeCarafe (lport vc : Nat) (f : QFrame) (rest fuel : Nat) : (m'.writeCarafe lport vc f rest fuel).Stands P := by
  induction fuel generalizing m' rest with
  | zero => exact h
  | succ fuel ih =>
    unfold Module.writeCarafe
    dsimp only
    split
    · exact (ih (h.openChunk ..) _).ite ((h.putQ ..).ite (ih (h.putQ ..) _))
    · exact ih (h.openChunk ..) _

theorem enqueue (lport vc : Nat) (f : QFrame) (carafe : Bool) : (m'.enqueue lport vc f carafe).Stands P := by
  unfold Module.enqueue
  exact ((h.writeCarafe ..).ite (h.putQ ..)).settleQ ..

/-! ### A frame's way to its queue (R176) -/

theorem crossXbar (f : QFrame) (lport : Nat) : (m'.crossXbar f lport).Stands P := by
  unfold Module.crossXbar
  refine (h.count ?_ ..).drawn.count rfl ..
  split <;> rfl

theorem conflict (resource : Nat) (runtime : Bool) : (m'.conflict resource runtime).Stands P :=
  (((((h.setF rfl _).setB rfl _).setF rfl _).setBit rfl ..).addSat rfl ..).raise rfl _

theorem contested (lport vc len : Nat) : (m'.contested lport vc len).Stands P := by
  have hconflict : (m'.conflictOnce 1 true).Stands P := h.ite (h.conflict ..)
  unfold Module.contested Module.wantPool Module.contestPool
  exact h.ite ((((hconflict.update ..).ite (hconflict.setF rfl _)).ite h).ite h)

theorem noteNoRoom (p n : Nat) (f : QFrame) : (m'.noteNoRoom p n f).1.Stands P := by
  have hfull : (if f.fullNoted then m' else m'.regionFull (p / 64)).Stands P := h.ite (h.raise rfl _)
  unfold Module.noteNoRoom
  dsimp only
  split
  · exact h
  · exact (hfull.raise rfl _).ite hfull

theorem tryAdmit (lport vc : Nat) (f : QFrame) : (m'.tryAdmit lport vc f).mod.Stands P := by
  have hcontested := h.contested lport vc f.frame.len
  unfold Module.tryAdmit
  dsimp only
  split
  · exact ((hcontested.drawn.crossXbar ..).tollIn _).enqueue ..
  · exact ((hcontested.drawn.crossXbar ..).tollIn _).enqueue ..
  · split
    · exact hcontested
    · exact hcontested.noteNoRoom ..

theorem drainOwn (lport vc fuel : Nat) : (m'.drainOwn lport vc fuel).Stands P := by
  induction fuel generalizing m' with
  | zero => exact h
  | succ fuel ih =>
    unfold Module.drainOwn
    split
    · exact h
    · next f rest _ =>
      have hadmit := h.tryAdmit lport vc f
      split
      · next htaken =>
        rw [htaken] at hadmit
        exact ih (hadmit.putFifo ..)
      · next hrefused =>
        rw [hrefused] at hadmit
        exact hadmit.putFifo ..

theorem originate (sector lport vc : Nat) (formed f : Frame) : (m'.originate sector lport vc formed f).Stands P := by
  unfold Module.originate
  exact (h.raise rfl _).ite ((h.raiseLnk rfl _).ite ((h.putFifo ..).drainOwn ..))

/-! ### Looking a frame up again (R163) -/

omit h in
/-- What the pipeline discards has no route, or no path (R153). -/
theorem route_discards {m : Module} {sector : Nat} {f : Frame} {e : Ev} (hd : m.route sector f = .discard e) :
    e = .fwd_NO_ROUTE ∨ e = .fwd_NO_PATH := by
  have hescape {h : Header} {r : RouteEntry} {escaped : Bool} (hd : m.viaEscape f h r escaped = .discard e) :
      e = .fwd_NO_PATH := by
    unfold Module.viaEscape at hd
    dsimp only at hd
    split at hd
    · cases hd
    · cases hd
      rfl
  unfold Module.route at hd
  extract_lets _ header key at hd
  split at hd
  · cases hd
    exact .inl rfl
  · split at hd
    · exact .inr (hescape hd)
    · split at hd
      · exact .inr (hescape hd)
      · cases hd

theorem lookup (sector : Nat) (f : Frame) : (m'.lookup sector f).1.Stands P := by
  have hmeets : (if m'.meetsUp f then m'.raise .fwd_DOWN_UP_FAULT sector else m').Stands P := (h.raise rfl _).ite h
  unfold Module.lookup
  dsimp only
  split
  · next hd => exact hmeets.raise (by obtain rfl | rfl := route_discards hd <;> rfl) _
  · exact (hmeets.raise rfl _).ite hmeets

theorem of_lookup {sector : Nat} {f : Frame} {m₂ : Module} {found : Option (Frame × Nat × Nat)}
    (heq : m'.lookup sector f = (m₂, found)) : m₂.Stands P := by
  have hlookup := h.lookup sector f
  rwa [heq] at hlookup

theorem relook (f : QFrame) : (m'.relook f).1.Stands P := by
  have hagain : (m'.raise .fwd_REQUEUE (originOf f.inLport)).Stands P := h.raise rfl _
  unfold Module.relook
  dsimp only
  split
  · exact hagain
  · split
    · next heq => exact hagain.of_lookup heq
    · next heq => exact hagain.of_lookup heq

theorem waitAgain (fs : List QFrame) : (m'.waitAgain fs).Stands P := h.each (fun h _ => h.putFifo ..) fs

theorem clearOwn (lport vc : Nat) : (m'.clearOwn lport vc).Stands P := by
  unfold Module.clearOwn
  refine h.ite ((h.putFifo ..).each (fun h f => ?_) _)
  have hrelook := h.relook f
  split
  · next heq =>
    rw [heq] at hrelook
    exact hrelook
  · next heq =>
    rw [heq] at hrelook
    exact hrelook.waitAgain _

theorem handBack (fs : List QFrame) : (m'.handBack fs).Stands P := by
  unfold Module.handBack
  refine waitAgain (foldl_fst h ?_ fs []) _
  exact fun st f hst => (hst.tollOut f).relook f

theorem clearQueue (lport vc : Nat) : (m'.clearQueue lport vc).Stands P := by
  unfold Module.clearQueue
  exact h.ite ((((h.putQ ..).emptiedQ ..).putQ ..).handBack _)

/-! ### Operations end (R232 to R238) -/

theorem putOp (slot : Nat) (op : Op) : (m'.putOp slot op).Stands P := h.update ..

theorem putPra (a : Nat) (p : PraArray) : (m'.putPra a p).Stands P := h.update ..

theorem dropSegs (slot : Nat) : (m'.dropSegs slot).Stands P := by
  unfold Module.dropSegs
  split
  · exact h
  · next op _ =>
    have hfreed := h.each (fun h x => h.freeChunks x.2.chunks) op.segs
    exact ((hfreed.putPra ..).ite hfreed).putOp ..

theorem retireNum (defIdx jobEpoch num : Nat) : (m'.retireNum defIdx jobEpoch num).Stands P := by
  unfold Module.retireNum
  exact (h.update ..).ite h

theorem retireOp (slot : Nat) (done : Bool) : (m'.retireOp slot done).Stands P := by
  unfold Module.retireOp
  split
  · exact h
  · refine raise (retireNum (update (h.dropSegs slot) ..) ..) ?_ _
    split <;> rfl

theorem abortDown (slot code count rankX : Nat) : (m'.abortDown slot code count rankX).Stands P := by
  unfold Module.abortDown
  split
  · exact h
  · exact (h.each (fun h e => h.originate ..) _).retireOp ..

theorem countCode (code home : Nat) : (m'.countCode code home).Stands P := by
  have hcode : ∀ e, codeEvent code = some e → wiredNum e.num = true := by
    intro e he
    unfold codeEvent at he
    split at he <;> cases he <;> rfl
  unfold Module.countCode
  split
  · next he => exact h.raise (hcode _ he) _
  · exact h

theorem cutOp (slot code : Nat) : (m'.cutOp slot code).Stands P := by
  unfold Module.cutOp
  split
  · exact h
  · exact (h.countCode ..).abortDown ..

theorem sentSeq (slot n : Nat) : (m'.sentSeq slot n).Stands P := by
  unfold Module.sentSeq
  split
  · exact h
  · exact h.putOp ..

theorem askAbort (slot code count rankX : Nat) : (m'.askAbort slot code count rankX).Stands P := by
  unfold Module.askAbort
  split
  · exact h
  · exact (h.sentSeq ..).originate ..

theorem requestAbort (slot code count rankX : Nat) : (m'.requestAbort slot code count rankX).Stands P := by
  have hdropped := h.dropSegs slot
  unfold Module.requestAbort
  dsimp only
  split
  · exact hdropped
  · exact (hdropped.putOp ..).askAbort ..

theorem failOp (slot code : Nat) (count : Option Nat) : (m'.failOp slot code count).Stands P := by
  unfold Module.failOp
  split
  · exact h
  · have hcounted := h.countCode code
    exact h.ite (((hcounted _).abortDown ..).ite ((hcounted _).requestAbort ..))

theorem breakOp (slot lport : Nat) : (m'.breakOp slot lport).Stands P := by
  unfold Module.breakOp
  split
  · exact h
  · exact (h.cutOp ..).ite (h.failOp ..)

theorem breakTrees (lport : Nat) : (m'.breakTrees lport).Stands P := h.each (fun h _ => h.breakOp ..) _

theorem breakFrames (lport : Nat) (fs : List QFrame) : (m'.breakFrames lport fs).Stands P :=
  h.each (fun h _ => h.breakOp ..) _

/-! ### A link loses its frames (R116, R127, R128, R163) -/

theorem loseBound (lport vc : Nat) : (m'.loseBound lport vc).Stands P := by
  unfold Module.loseBound
  refine h.ite (each (putFifo (each (ite ((h.putQ ..).emptiedQ ..) (h.putQ ..)) (fun h f => ?_) _) ..) (fun h _ => ?_) _)
  · exact (h.tollOut f).linkDiscard lport
  · exact h.linkDiscard lport

theorem loseGroups (lport : Nat) (resumes : Bool) : (m'.loseGroups lport resumes).Stands P := by
  have hbound := h.each (fun h vc => h.loseBound lport vc) (List.range 8)
  unfold Module.loseGroups
  exact (hbound.breakFrames ..).ite (hbound.breakTrees _)

theorem loseHostFrames (lport : Nat) : (m'.loseHostFrames lport).Stands P :=
  (h.update ..).each (fun h _ => h.linkDiscard lport) _

theorem modLnk (lport : Nat) (f : Link → Link) : (m'.modLnk lport f).Stands P := h.update ..

theorem slots (lport cls : Nat) (hcls : cls < 32) (sub : Option Nat) (hsub : ∀ b ∈ sub, b < 32) (n : Nat) :
    (m'.slots lport cls sub n).Stands P := by
  have hnum {c : Nat} (hc : c < 32) : wiredNum (0x440 + c) = true := by
    simp only [wiredNum, trafficNum, Bool.and_eq_true, decide_eq_true_eq]
    omega
  unfold Module.slots
  dsimp only
  split
  · next b => exact (h.count (hnum hcls) ..).count (hnum (hsub b rfl)) ..
  · exact h.count (hnum hcls) ..

theorem discardRetry (lport : Nat) : (m'.discardRetry lport).Stands P := by
  refine (h.modLnk ..).each (fun h e => ?_) _
  have hlost := h.ite (c := e.lost) (h.linkDiscard lport)
  exact (hlost.slots _ _ (by decide) _ (by simp) _).ite hlost

theorem discardHeld (lport : Nat) : (m'.discardHeld lport).Stands P := by
  refine discardRetry (each (each h (fun h vc => ?_) _) (fun h c => ?_) _) lport
  · have hfreed (q : OutQueue) (cs : List Chunk) :=
      (h.putQ lport vc q).each (fun h c => (h.freeChunks [c.index]).noteFull (portOf lport)) cs
    refine each (putFifo (each (ite (hfreed ..) ((hfreed ..).emptiedQ ..)) (fun h f => ?_) _) ..) (fun h _ => ?_) _
    · exact (h.tollOut f).linkDiscard lport
    · exact h.linkDiscard lport
  · refine each (h.update ..) (fun h f => ?_) _
    have hunheld : (Module.unhold _ f lport).Stands P := h.ite ((h.freeChunks _).noteFull _)
    exact (hunheld.tollOut f).linkDiscard lport

/-! ### A link leaves service and trains (R119 to R130) -/

theorem setLinkState (lport st : Nat) : (m'.setLinkState lport st).Stands P := h.setF rfl _

theorem setLanes (lport map : Nat) : (m'.setLanes lport map).Stands P := h.setF rfl _

theorem leaveUp (lport st : Nat) (resumes : Bool) : (m'.leaveUp lport st resumes).Stands P := by
  have hleft := ((h.setLinkState lport st).setLanes lport 0).modLnk lport
  unfold Module.leaveUp
  refine ite (each (((hleft _).loseHostFrames _).loseGroups ..) (fun h vc => ?_) _) ?_
  · exact (h.clearQueue ..).clearOwn ..
  · exact ((hleft _).loseGroups ..).ite (((((hleft _).loseHostFrames _).discardHeld _).breakTrees _).ite (hleft _))

theorem overhead (lport n : Nat) : (m'.overhead lport n).Stands P := by
  have hdebt := h.modLnk lport
  unfold Module.overhead
  exact (((hdebt _).slots _ _ (by decide) _ (by simp) _).ite (hdebt _)).ite h

theorem sendSet (lport : Nat) (os : OrderedSet) : (m'.sendSet lport os).Stands P :=
  overhead (update (h.emit _) ..) ..

theorem setOffered (lport map : Nat) : (m'.setOffered lport map).Stands P := h.setF rfl _

theorem sendTrain (lport phase map : Nat) : (m'.sendTrain lport phase map).Stands P := h.sendSet ..

theorem startTraining (lport st : Nat) : (m'.startTraining lport st).Stands P := by
  have hoffered := (h.setOffered lport (m'.offer lport)).modLnk lport
  unfold Module.startTraining
  exact ((hoffered _).leaveUp ..).ite ((((hoffered _).setLinkState ..).emit _).sendTrain ..)

theorem trainLane (lane : Nat) : (m'.trainLane lane).Stands P := by
  unfold Module.trainLane
  exact h.ite ((h.startTraining ..).ite (((h.modLnk ..).emit _).ite h))

theorem announce (lport lane : Nat) (add retried : Bool) : (m'.announce lport lane add retried).Stands P := by
  unfold Module.announce
  exact (h.drawn.sendSet ..).modLnk ..

theorem removeLane (lane : Nat) : (m'.removeLane lane).Stands P := by
  have hchanged := h.modLnk (m'.lportOfLane lane)
  have hremoved : (m'.raiseLnk .lnk_LANE_REMOVED (m'.lportOfLane lane)).Stands P := h.raiseLnk rfl _
  unfold Module.removeLane
  exact (((hchanged _).leaveUp ..).ite (hchanged _)).ite
    ((hremoved.leaveUp ..).ite ((hremoved.setLanes ..).announce ..))

theorem barLane (lane : Nat) (why : LaneBar) : (m'.barLane lane why).Stands P := (h.update ..).removeLane lane

theorem unbarLane (lane : Nat) (why : LaneBar) : (m'.unbarLane lane why).Stands P := (h.update ..).trainLane lane

/-! ### Replies (R407) -/

theorem sendControl (dst : Loc) (c : CtlHeader) (body : List Byte) : (m'.sendControl dst c body).Stands P := by
  unfold Module.sendControl
  dsimp only
  split
  · next heq => exact (of_lookup (h.update ..) heq).originate ..
  · next heq => exact of_lookup (h.update ..) heq

theorem sendReply (r : Reply) : (m'.sendReply r).Stands P := (h.emit _).each (fun h _ => h.sendControl ..) _

theorem answer (src : Loc) (reqId : BitVec 16) (cls status : Nat) (body : List Byte) :
    (m'.answer src reqId cls status body).Stands P :=
  (sendReply (h.update ..) _).each (fun h _ => (h.raise rfl _).sendReply _) _

end Module.Stands

theorem Module.stands_field {k : FKey} (hk : k.reg.wired = false) (m : Module) : m.Stands fun m' => m'.getF k = m.getF k :=
  ⟨.field hk _, rfl⟩

theorem Module.stands_counter {num : Nat} (hn : wiredNum num = false) (m : Module) (i : Nat) :
    m.Stands fun m' => m'.counter num i = m.counter num i := ⟨.counter hn i _, rfl⟩

theorem Module.MovesTraffic.fly {m' m : Module} (h : m'.MovesTraffic m) : m'.fly = m.fly := by rw [h.rest]

end Sys2Proof.Machine

/-! SUPPORT. Flyover circuits: how a command arrives, starts and ends, how a circuit comes up and goes down
(spec/03_flyover_circuits.md R86 to R89, R98, R99, R103), and the statement about them settled. -/

namespace Sys2Proof.Machine

/-! ### Commands -/

section
variable (origin : FlyOrigin) (tag : BitVec 16) (slot : Fin 256) (i o : Fin 512) (hold : Bool) (s : State)

theorem exec_circuitSetup : exec (.circuitSetup origin tag slot i o hold) s = .next
    { s with mod := s.mod.flyRow { op := .setUp, origin := origin, tag := tag, slot := slot,
                                   inPort := i, outPort := o, hold := hold } } := rfl

theorem exec_circuitTeardown : exec (.circuitTeardown origin tag slot i o) s = .next
    { s with mod := s.mod.flyRow { op := .tearDown, origin := origin, tag := tag, slot := slot,
                                   inPort := i, outPort := o, hold := false } } := rfl

theorem exec_circuitQuery : exec (.circuitQuery origin tag slot) s = .next
    { s with mod := s.mod.flyRow { op := .query, origin := origin, tag := tag, slot := slot,
                                   inPort := 0, outPort := 0, hold := false } } := rfl

theorem exec_flyCommandStart : exec .flyCommandStart s = .next { s with mod := s.mod.flyStart } := rfl

theorem exec_circuitUp (light : Option (BitVec 16 × Fin 401)) :
    exec (.circuitUp light) s = .next { s with mod := s.mod.circuitUp light } := rfl

theorem exec_circuitDown : exec .circuitDown s = .next { s with mod := s.mod.circuitDown } := rfl

end

/-! ### Fields and events of the circuits -/

theorem FKey.width_flyCmdResult_BUSY : FKey.width K.flyCmdResult_BUSY = 1 :=
  FKey.width_of_mem (d := fd 31 31 .ro) (by decide) 0 0

theorem FKey.width_flyCmdResult_STATUS : FKey.width K.flyCmdResult_STATUS = 8 :=
  FKey.width_of_mem (d := fd 7 0 .ro) (by decide) 0 0

theorem FKey.width_flySlotCfg_HOLD (j : Nat) : FKey.width (K.flySlotCfg_HOLD j) = 1 :=
  FKey.width_of_mem (d := fd 30 30 .ro) (by decide) 0 j

theorem FKey.width_flySlotCfg_STATE (j : Nat) : FKey.width (K.flySlotCfg_STATE j) = 3 :=
  FKey.width_of_mem (d := fd 29 27 .ro) (by decide) 0 j

theorem FKey.width_flySlotCfg_IN_PORT (j : Nat) : FKey.width (K.flySlotCfg_IN_PORT j) = 9 :=
  FKey.width_of_mem (d := fd 17 9 .ro) (by decide) 0 j

theorem FKey.width_flySlotCfg_OUT_PORT (j : Nat) : FKey.width (K.flySlotCfg_OUT_PORT j) = 9 :=
  FKey.width_of_mem (d := fd 8 0 .ro) (by decide) 0 j

theorem FKey.width_flySlotPwr_IN (j : Nat) : FKey.width (K.flySlotPwr_IN j) = 16 :=
  FKey.width_of_mem (d := fd 31 16 .ro) (by decide) 0 j

theorem FKey.width_flySlotPwr_OUT (j : Nat) : FKey.width (K.flySlotPwr_OUT j) = 16 :=
  FKey.width_of_mem (d := fd 15 0 .ro) (by decide) 0 j

/-- The events of the circuits show in FLY_EVT. -/
theorem evtKey_fly {ev : Ev} (hev : ev.reg = some .flyEvt) (i : Nat) : evtKey ev i = some ⟨.flyEvt, i, 0, ev.bit⟩ := by
  unfold evtKey
  split
  · cases hev
  · rw [hev]
    rfl

/-- An event of the circuits leaves every register but FLY_EVT. -/
theorem Module.getF_raise_fly {ev : Ev} (hev : ev.reg = some .flyEvt) {k : FKey} (hk : k.reg ≠ .flyEvt) (m : Module)
    (i d : Nat) : (m.raise ev i d).getF k = m.getF k := by
  rw [Module.getF_raise, evtKey_fly hev, if_neg]
  rintro ⟨rfl⟩
  exact hk rfl

/-- An event of the circuits is counted whatever sector is in reset (R471). -/
theorem Module.happened_raise_fly {m : Module} {ev : Ev} (hnum : ev.num / 32 = 10) (i d : Nat) :
    (m.raise ev i d).Happened m ev i := Module.happened_raise (Module.countsNow_of_group (.inl (by omega)) ..) d

theorem Module.Happened.of_counter {m' m₁ m : Module} {e : Ev} {i : Nat} (h : m'.Happened m₁ e i)
    (hc : m₁.counter e.num i = m.counter e.num i) : m'.Happened m e i := ⟨hc ▸ h.1, h.2⟩

/-- What has happened to the circuits has happened once, where its counter and its bit then stand. -/
theorem Module.Happened.stays {m₂ m₁ m : Module} {ev : Ev} {i : Nat} (h : m₁.Happened m ev i)
    (hev : ev.reg = some .flyEvt) (hcounter : m₂.counter ev.num i = m₁.counter ev.num i)
    (hbit : m₂.getF ⟨.flyEvt, i, 0, ev.bit⟩ = m₁.getF ⟨.flyEvt, i, 0, ev.bit⟩) : m₂.Happened m ev i := by
  refine ⟨hcounter.trans h.1, fun k hk => ?_⟩
  obtain rfl : ⟨.flyEvt, i, 0, ev.bit⟩ = k := Option.some.inj ((evtKey_fly hev i).symm.trans hk)
  exact hbit.trans (h.2 _ hk)

/-! ### A command ends (R98, R99) -/

/-- A command that ends with a status other than 0 is told of. -/
def Module.flyRefuses (m : Module) (status : Nat) : Module :=
  if status = 0 then m else m.raise .fly_CIRCUIT_REFUSED 0

theorem Module.flyRefuses_zero (m : Module) : m.flyRefuses 0 = m := rfl

/-- The TIME of a command's reply: of one that is done, the count of the time base (R98). -/
def Module.flyTime (m : Module) (status : Nat) (done : Bool) : BitVec 64 :=
  if status = 0 ∧ done = true then m.time.count else 0

section
variable {m : Module} {c : FlyCmd} {status : Nat} {done : Bool}

/-- What the reply of a command, and where FLY_CMD gave it FLY_CMD_RESULT, leave as the refusal left it. -/
theorem Module.flyEnds_keeps {P : Module → Prop} (hP : WireKeeps P)
    (hresult : ∀ m v, P m → P (m.setF K.flyCmdResult_BUSY v) ∧ P (m.setF K.flyCmdResult_STATUS v))
    (h : P ((m.flyRefuses status).emit
      (.circuitReply c ((m.flyRefuses status).slotState c.slot.val) status (m.flyTime status done)))) :
    P (m.flyEnds c status done) := by
  unfold Module.flyEnds
  extract_lets _ _ _ _ _ _ refused replied
  have hreplied : replied.Stands P := ⟨hP, h⟩
  split
  · exact (hreplied.answer ..).holds
  · split
    · exact h
    · exact (hresult _ _ (hresult _ _ h).1).2
  · exact h

theorem Module.getF_flyEnds {k : FKey} (hk : k.reg.wired = false) (hresult : k.reg ≠ .flyCmdResult) :
    (m.flyEnds c status done).getF k = (m.flyRefuses status).getF k := by
  have hother {k' : FKey} (hk' : k'.reg = .flyCmdResult) : k' ≠ k := fun e => hresult (e ▸ hk')
  exact Module.flyEnds_keeps (.field hk _)
    (fun m v h => ⟨(m.getF_setF_ne v (hother rfl)).trans h, (m.getF_setF_ne v (hother rfl)).trans h⟩) rfl

theorem Module.counter_flyEnds {num : Nat} (hn : wiredNum num = false) (i : Nat) :
    (m.flyEnds c status done).counter num i = (m.flyRefuses status).counter num i :=
  Module.flyEnds_keeps (.counter hn i _) (fun _ _ h => ⟨h, h⟩) rfl

/-- A slot's register stands when a command ends, whatever its status. -/
theorem Module.getF_flyEnds_slot {k : FKey} (hk : k.reg = .flySlotCfg ∨ k.reg = .flySlotPwr) :
    (m.flyEnds c status done).getF k = m.getF k := by
  have hevt : k.reg ≠ .flyEvt := by rintro h; simp [h] at hk
  rw [Module.getF_flyEnds (by obtain h | h := hk <;> rw [h] <;> rfl) (by rintro h; simp [h] at hk), Module.flyRefuses]
  split
  · rfl
  · exact Module.getF_raise_fly rfl hevt ..

theorem Module.slotState_flyEnds (s : Nat) : (m.flyEnds c status done).slotState s = m.slotState s :=
  Module.getF_flyEnds_slot (.inl rfl)

theorem Module.flyEnds_fly : (m.flyEnds c status done).fly = m.fly := by
  have hrefused : (m.flyRefuses status).fly = m.fly := by
    unfold Module.flyRefuses
    split
    · rfl
    · exact Module.raise_fly ..
  unfold Module.flyEnds
  extract_lets _ _ _ _ _ _ refused replied
  have hreplied : replied.fly = m.fly := hrefused
  split
  · rw [Module.answer_onlySends]
    exact hreplied
  · split <;> exact hreplied
  · exact hreplied

/-- A command's reply is sent when it ends. -/
theorem Module.circuitReply_mem_flyEnds :
    .circuitReply c ((m.flyRefuses status).slotState c.slot.val) status (m.flyTime status done) ∈
      (m.flyEnds c status done).out :=
  Module.flyEnds_keeps (.sent _) (fun _ _ h => ⟨h, h⟩) (List.mem_append_right _ List.mem_cons_self)

/-- What happened to the circuits before a command ended has happened once. -/
theorem Module.Happened.flyEnds {m₀ : Module} {ev : Ev} (h : (m.flyRefuses status).Happened m₀ ev 0)
    (hev : ev.reg = some .flyEvt) (hnum : wiredNum ev.num = false) : (m.flyEnds c status done).Happened m₀ ev 0 :=
  h.stays hev (Module.counter_flyEnds hnum 0) (Module.getF_flyEnds rfl (by simp))

/-- A command that is refused is counted so. -/
theorem Module.happened_flyEnds_refused (h : status ≠ 0) : (m.flyEnds c status done).Happened m .fly_CIRCUIT_REFUSED 0 := by
  refine Module.Happened.flyEnds ?_ rfl rfl
  rw [Module.flyRefuses, if_neg h]
  exact Module.happened_raise_fly rfl ..

end

/-! ### A command arrives (R86, R98, R105) -/

/-- A command stands last in the queue. -/
def Module.pushFly (m : Module) (c : FlyCmd) : Module := { m with fly := { m.fly with queue := m.fly.queue ++ [c] } }

theorem FlyCmd.byRegister_of_register {c : FlyCmd} (h : c.origin = .register) : c.byRegister = true := by
  unfold FlyCmd.byRegister
  rw [h]

theorem FlyCmd.byRegister_of_frame {c : FlyCmd} {src : Loc} {reqId : BitVec 16} (h : c.origin = .frame src reqId) :
    c.byRegister = false := by
  unfold FlyCmd.byRegister
  rw [h]

section
variable {m : Module} {c : FlyCmd}

theorem Module.flyQueue_room (h : m.fly.queue.length < 64) :
    m.flyQueue c = if c.byRegister then (m.pushFly c).setF K.flyCmdResult_BUSY 1 else m.pushFly c :=
  if_neg (Nat.not_le_of_lt h)

theorem Module.flyQueue_full (h : 64 ≤ m.fly.queue.length) : m.flyQueue c =
    if c.byRegister then ((m.flyEnds c 7 false).setF K.flyCmdResult_BUSY 0).setF K.flyCmdResult_STATUS 7
    else m.flyEnds c 7 false := if_pos h

theorem target_flyCmd : target (regAddr .flyCmd 0 0).toNat = .reg .flyCmd 0 0 := by decide

section
variable (hc : c.origin = .register)
include hc

theorem Module.flyRow_register (hfree : m.holdsWrites = false) : m.flyRow c = m.flyQueue c := by
  unfold Module.flyRow Module.flyCommand
  rw [hfree, hc]
  simp

/-- A command of FLY_CMD joins the queue, and FLY_CMD_RESULT shows BUSY. -/
theorem Module.flyRow_queues (hfree : m.holdsWrites = false) (hroom : m.fly.queue.length < 64) :
    (m.flyRow c).fly.queue = m.fly.queue ++ [c] ∧ (m.flyRow c).getF K.flyCmdResult_BUSY = 1 ∧
      (m.flyRow c).RegsKept m [K.flyCmdResult_BUSY] := by
  rw [Module.flyRow_register hc hfree, Module.flyQueue_room hroom, if_pos (FlyCmd.byRegister_of_register hc)]
  refine ⟨rfl, ?_, ((Module.RegsKept.refl m _).congr rfl).setF (m' := m.pushFly c) (by simp) 1⟩
  rw [Module.getF_setF_self, FKey.width_flyCmdResult_BUSY, Nat.one_mod_two_pow_eq_one.2 Nat.one_pos]

/-- A full queue refuses a command of FLY_CMD. -/
theorem Module.flyRow_full (hfree : m.holdsWrites = false) (hfull : 64 ≤ m.fly.queue.length) :
    (m.flyRow c).fly = m.fly ∧ (m.flyRow c).getF K.flyCmdResult_STATUS = 7 ∧ (m.flyRow c).getF K.flyCmdResult_BUSY = 0 ∧
      (m.flyRow c).Happened m .fly_CIRCUIT_REFUSED 0 := by
  rw [Module.flyRow_register hc hfree, Module.flyQueue_full hfull, if_pos (FlyCmd.byRegister_of_register hc)]
  refine ⟨Module.flyEnds_fly, ?_, ?_, ?_⟩
  · rw [Module.getF_setF_self, FKey.width_flyCmdResult_STATUS, Nat.mod_eq_of_lt (by decide)]
  · rw [Module.getF_setF_ne _ _ (by simp), Module.getF_setF_self, Nat.zero_mod]
  · refine Module.Happened.stays (Module.happened_flyEnds_refused (by decide)) rfl rfl ?_
    rw [Module.getF_setF_ne _ _ (by simp), Module.getF_setF_ne _ _ (by simp)]

/-- A command of FLY_CMD waits for the next period edge under sector lock (R360). -/
theorem Module.flyRow_held (hholds : m.holdsWrites = true) (hans : m.answers .fly 0 = true) (hlive : 0 < m.liveCount .fly) :
    (m.flyRow c).fly = m.fly ∧ (m.flyRow c).lock.held.length = m.lock.held.length + 1 := by
  have hrow : m.flyRow c = m.accessWrite .mpc (regAddr .flyCmd 0 0) c.word := by
    unfold Module.flyRow
    rw [FlyCmd.byRegister_of_register hc, hholds]
    rfl
  rw [hrow, Module.accessWrite_held rfl (Module.reach_of_target target_flyCmd hans hlive) rfl hholds,
    Module.each_keeps (fun m => m.fly) (by simp), Module.each_keeps (fun m => m.lock) (by simp)]
  exact ⟨rfl, by simp [Module.holdWrite]⟩

end

/-- A request that a core takes up leaves the endpoint's queue, and no more of the module. -/
theorem Module.takeReq_eq {src : Loc} {reqId : BitVec 16} {cls : Nat} {m₁ : Module} {r : CtlReq}
    (h : m.takeReq src reqId cls = some (m₁, r)) : ∃ q, m₁ = { m with mpc := { m.mpc with queue := q } } := by
  unfold Module.takeReq at h
  extract_lets same at h
  split at h
  · split at h
    · split at h
      · cases h
        exact ⟨_, rfl⟩
      · cases h
    · cases h
  · cases h

section
variable {src : Loc} {reqId : BitVec 16} (hc : c.origin = .frame src reqId)
include hc

theorem Module.flyRow_unasked (h : m.takeReq src reqId 7 = none) : m.flyRow c = m := by
  unfold Module.flyRow Module.flyCommand
  simp only [FlyCmd.byRegister_of_frame hc, hc, h, Bool.false_and, Bool.false_eq_true, if_false]

/-- A command of a control frame is the request's own. -/
theorem Module.flyRow_asked {m₁ : Module} {r : CtlReq} {d : FlyCmd} (h : m.takeReq src reqId 7 = some (m₁, r))
    (hd : d = FlyCmd.decode (.frame src reqId) (ofBytes ((r.body ++ List.replicate 16 0).take 16)))
    (hloaded : m.isOn K.imgStatus_LOADED = true) (hpermits : m.permits src 3 = true) (hroom : m.fly.queue.length < 64)
    (hop : d.op = c.op) : m.flyRow c = m₁.pushFly d := by
  have hframe : d.byRegister = false := FlyCmd.byRegister_of_frame (congrArg FlyCmd.origin hd)
  obtain ⟨q, hm₁⟩ := Module.takeReq_eq h
  have hloaded₁ : m₁.isOn K.imgStatus_LOADED = true := by rwa [hm₁]
  have hpermits₁ : m₁.permits src 3 = true := by rwa [hm₁]
  have hroom₁ : m₁.fly.queue.length < 64 := by rwa [hm₁]
  unfold Module.flyRow Module.flyCommand
  simp only [FlyCmd.byRegister_of_frame hc, hc, h, ← hd, hop, hloaded₁, hpermits₁, Module.flyQueue_room hroom₁, hframe,
    Bool.false_and, Bool.false_eq_true, Bool.not_true, ne_eq, not_true_eq_false, if_false]

end
end

/-! ### The rings of a circuit (R88, R89) -/

/-- Outside its rings, the circuits whose add rings loss of light keeps detuned, and the open values drawn, a module is as
another. -/
def Module.OnlyTunes (m' m : Module) : Prop :=
  m' = { m with lpe := m'.lpe, fresh := m'.fresh, fly := { m.fly with detuned := m'.fly.detuned } }

theorem Module.OnlyTunes.trans {m₂ m₁ m : Module} (h₂ : m₂.OnlyTunes m₁) (h₁ : m₁.OnlyTunes m) : m₂.OnlyTunes m := by
  unfold Module.OnlyTunes at *
  rw [h₂, h₁]

section
variable {m' m : Module} (h : m'.OnlyTunes m)
include h

theorem Module.OnlyTunes.getF (k : FKey) : m'.getF k = m.getF k := Module.getF_congr k (by rw [h])

theorem Module.OnlyTunes.counters : m'.counters = m.counters := by rw [h]

theorem Module.OnlyTunes.queue : m'.fly.queue = m.fly.queue := by rw [h]

theorem Module.OnlyTunes.running : m'.fly.running = m.fly.running := by rw [h]

end

theorem Module.modServing_onlyTunes (m : Module) (port k w : Nat) (f : Ring → Ring) :
    (m.modServing port k w f).OnlyTunes m := by
  unfold Module.modServing
  split <;> rfl

theorem Module.modServing_fly (m : Module) (port k w : Nat) (f : Ring → Ring) : (m.modServing port k w f).fly = m.fly := by
  unfold Module.modServing
  split <;> rfl

theorem Module.detuneServing_onlyTunes (m : Module) (port k w : Nat) : (m.detuneServing port k w).OnlyTunes m :=
  (Module.modServing_onlyTunes ..).trans (m₁ := m.drawn) rfl

theorem Module.lockServing_onlyTunes (m : Module) (port k w : Nat) : (m.lockServing port k w).OnlyTunes m :=
  m.modServing_onlyTunes ..

theorem Module.tuneCircuit_onlyTunes (m : Module) (s : Nat) : (m.tuneCircuit s).OnlyTunes m :=
  (Module.modServing_onlyTunes ..).trans <| (Module.modServing_onlyTunes ..).trans (m.detuneServing_onlyTunes ..)

theorem Module.detuneCircuit_onlyTunes (m : Module) (s : Nat) : (m.detuneCircuit s).OnlyTunes m :=
  (Module.modServing_onlyTunes ..).trans <| (Module.modServing_onlyTunes ..).trans <|
    (Module.detuneServing_onlyTunes ..).trans (m.detuneServing_onlyTunes ..)

theorem Module.keepDetuned_onlyTunes (m : Module) (s : Nat) : (m.keepDetuned s).OnlyTunes m :=
  Module.OnlyTunes.trans (m₁ := m.detuneServing (m.slotOut s) 2 (s % 4)) rfl (m.detuneServing_onlyTunes ..)

theorem Module.mem_detuned_keepDetuned (m : Module) (s : Nat) : s ∈ (m.keepDetuned s).fly.detuned := by
  simp only [Module.keepDetuned]
  split
  · next h => exact List.contains_iff_mem.1 h
  · exact List.mem_append_right _ List.mem_cons_self

section
variable {m : Module} {s : Nat}

theorem Module.reduced_lockServing (port k w : Nat) : (m.lockServing port k w).reduced ((m.lockServing port k w).slotOut s) =
    m.reduced (m.slotOut s) := by
  simp only [Module.reduced, Module.slotOut, Module.isOn, (m.lockServing_onlyTunes port k w).getF]

theorem Module.lockCircuit_reduced (h : m.reduced (m.slotOut s) = true) :
    m.lockCircuit s = (m.lockServing (m.slotIn s) 3 (s % 4)).keepDetuned s := by
  unfold Module.lockCircuit
  exact if_pos ((Module.reduced_lockServing ..).trans h)

theorem Module.lockCircuit_full (h : m.reduced (m.slotOut s) = false) : m.lockCircuit s =
    (m.lockServing (m.slotIn s) 3 (s % 4)).lockServing ((m.lockServing (m.slotIn s) 3 (s % 4)).slotOut s) 2 (s % 4) := by
  unfold Module.lockCircuit
  exact if_neg (Bool.eq_false_iff.1 ((Module.reduced_lockServing ..).trans h))

theorem Module.lockCircuit_onlyTunes : (m.lockCircuit s).OnlyTunes m := by
  cases h : m.reduced (m.slotOut s) with
  | true =>
    rw [Module.lockCircuit_reduced h]
    exact (Module.keepDetuned_onlyTunes ..).trans (m.lockServing_onlyTunes ..)
  | false =>
    rw [Module.lockCircuit_full h]
    exact (Module.lockServing_onlyTunes ..).trans (m.lockServing_onlyTunes ..)

theorem Module.mem_detuned_lockCircuit (h : m.reduced (m.slotOut s) = true) : s ∈ (m.lockCircuit s).fly.detuned := by
  rw [Module.lockCircuit_reduced h]
  exact Module.mem_detuned_keepDetuned ..

theorem Module.lockCircuit_fly (h : m.reduced (m.slotOut s) = false) : (m.lockCircuit s).fly = m.fly := by
  rw [Module.lockCircuit_full h]
  exact (Module.modServing_fly ..).trans (Module.modServing_fly ..)

end

/-! ### Launch powers (R78) -/

theorem Module.getF_retotal {k : FKey} (hk : k.reg ≠ .lpePortPwr) (m : Module) (port : Nat) :
    (m.retotal port).getF k = m.getF k := by
  have hother {k' : FKey} (hk' : k'.reg = .lpePortPwr) : k' ≠ k := fun e => hk (e ▸ hk')
  unfold Module.retotal Module.reducedLaunch Module.showTx
  split
  · exact Module.getF_setF_ne _ _ (hother rfl)
  · exact Module.getF_setF_ne _ _ (hother rfl)

theorem Module.retotal_fly (m : Module) (port : Nat) : (m.retotal port).fly = m.fly :=
  ((Module.MovesTraffic.refl m).retotal port).fly

theorem Module.retotal_counters (m : Module) (port : Nat) : (m.retotal port).counters = m.counters := by
  unfold Module.retotal
  split <;> rfl

theorem Module.counter_retotal (m : Module) (port num i : Nat) : (m.retotal port).counter num i = m.counter num i := by
  rw [Module.counter, Module.retotal_counters, Module.counter]

/-! ### The slot of a circuit (R106) -/

section
variable (m : Module) (s : Nat)

theorem Module.slotState_setSlot {st : Nat} (hst : st < 2 ^ 3) : (m.setSlot s st).slotState s = st := by
  rw [Module.slotState, Module.setSlot, Module.setB, Module.getF_setF_ne _ _ (by simp), Module.getF_setF_self,
    FKey.width_flySlotCfg_STATE, Nat.mod_eq_of_lt hst]

theorem Module.getF_setSlot {k : FKey} (hstate : k.lo ≠ 27) (hvalid : k.lo ≠ 31) (st : Nat) :
    (m.setSlot s st).getF k = m.getF k := by
  rw [Module.setSlot, Module.setB, Module.getF_setF_ne, Module.getF_setF_ne]
  · rintro rfl
    exact hstate rfl
  · rintro rfl
    exact hvalid rfl

theorem Module.setSlot_fly (st : Nat) : (m.setSlot s st).fly = m.fly := rfl

end

/-! ### The next command starts (R86 to R89) -/

/-- The next command leaves the queue. -/
def Module.popFly (m : Module) (rest : List FlyCmd) : Module := { m with fly := { m.fly with queue := rest } }

/-- A command runs. -/
def Module.runFly (m : Module) (c : FlyCmd) : Module := { m with fly := { m.fly with running := some c } }

/-- The slot of a set-up that runs (R88). -/
def Module.enterCircuit (m : Module) (c : FlyCmd) : Module :=
  ((((m.setF (K.flySlotCfg_IN_PORT c.slot.val) c.inPort.val).setF (K.flySlotCfg_OUT_PORT c.slot.val) c.outPort.val).setB
    (K.flySlotCfg_HOLD c.slot.val) c.hold).setSlot c.slot.val 1).runFly c

theorem Module.beginSetUp_eq (m : Module) (c : FlyCmd) : m.beginSetUp c =
    (((m.enterCircuit c).barLane (laneOf c.inPort.val (c.slot.val % 4)) .circuit).barLane
      (laneOf c.outPort.val (c.slot.val % 4)) .circuit).tuneCircuit c.slot.val := rfl

/-- Lanes that leave and rings that move leave the registers of the circuits. -/
theorem Module.getF_beginSetUp (m : Module) (c : FlyCmd) {k : FKey} (hk : k.reg.wired = false) :
    (m.beginSetUp c).getF k = (m.enterCircuit c).getF k := by
  rw [Module.beginSetUp_eq, (Module.tuneCircuit_onlyTunes ..).getF]
  exact (((m.enterCircuit c).stands_field hk).barLane ..).barLane .. |>.holds

theorem Module.enterCircuit_barred_fly (m : Module) (c : FlyCmd) (a b : Nat) :
    (((m.enterCircuit c).barLane a .circuit).barLane b .circuit).fly = { m.fly with running := some c } :=
  (((Module.MovesTraffic.refl _).barLane ..).barLane ..).fly

theorem Module.queue_beginSetUp (m : Module) (c : FlyCmd) : (m.beginSetUp c).fly.queue = m.fly.queue := by
  rw [Module.beginSetUp_eq, (Module.tuneCircuit_onlyTunes ..).queue, Module.enterCircuit_barred_fly]

theorem Module.running_beginSetUp (m : Module) (c : FlyCmd) : (m.beginSetUp c).fly.running = some c := by
  rw [Module.beginSetUp_eq, (Module.tuneCircuit_onlyTunes ..).running, Module.enterCircuit_barred_fly]

section
variable (m : Module) (c : FlyCmd)

theorem Module.slotState_beginSetUp : (m.beginSetUp c).slotState c.slot.val = 1 :=
  (m.getF_beginSetUp c rfl).trans (Module.slotState_setSlot _ _ (by decide))

theorem Module.slotIn_beginSetUp : (m.beginSetUp c).slotIn c.slot.val = c.inPort.val := by
  refine (m.getF_beginSetUp c rfl).trans ((Module.getF_setSlot _ _ (by simp) (by simp) 1).trans ?_)
  rw [Module.setB, Module.getF_setF_ne _ _ (by simp), Module.getF_setF_ne _ _ (by simp), Module.getF_setF_self,
    FKey.width_flySlotCfg_IN_PORT, Nat.mod_eq_of_lt (show c.inPort.val < 2 ^ 9 from c.inPort.isLt)]

theorem Module.slotOut_beginSetUp : (m.beginSetUp c).slotOut c.slot.val = c.outPort.val := by
  refine (m.getF_beginSetUp c rfl).trans ((Module.getF_setSlot _ _ (by simp) (by simp) 1).trans ?_)
  rw [Module.setB, Module.getF_setF_ne _ _ (by simp), Module.getF_setF_self, FKey.width_flySlotCfg_OUT_PORT,
    Nat.mod_eq_of_lt (show c.outPort.val < 2 ^ 9 from c.outPort.isLt)]

theorem Module.slotHold_beginSetUp : (m.beginSetUp c).slotHold c.slot.val = c.hold := by
  have hhold : (m.beginSetUp c).getF (K.flySlotCfg_HOLD c.slot.val) = flag c.hold := by
    refine (m.getF_beginSetUp c rfl).trans ((Module.getF_setSlot _ _ (by simp) (by simp) 1).trans ?_)
    rw [Module.setB, Module.getF_setF_self, FKey.width_flySlotCfg_HOLD]
    cases c.hold <;> rfl
  rw [Module.slotHold, Module.isOn, hhold]
  cases c.hold <;> rfl

end

section
variable {m : Module} {c : FlyCmd} {rest : List FlyCmd} (hidle : m.fly.running = none) (hq : m.fly.queue = c :: rest)
include hidle hq

theorem Module.flyStart_query (hop : c.op = .query) : m.flyStart = (m.popFly rest).flyEnds c 0 false := by
  unfold Module.flyStart
  rw [hidle, hq]
  simp only [hop]
  rfl

theorem Module.flyStart_setUp (hop : c.op = .setUp) (hst : m.setUpStatus c = 0) :
    m.flyStart = (m.popFly rest).beginSetUp c := by
  unfold Module.flyStart
  rw [hidle, hq]
  simp only [hop]
  exact if_pos hst

theorem Module.flyStart_setUp_refused (hop : c.op = .setUp) (hst : m.setUpStatus c ≠ 0) :
    m.flyStart = (m.popFly rest).flyEnds c (m.setUpStatus c) false := by
  unfold Module.flyStart
  rw [hidle, hq]
  simp only [hop]
  exact if_neg hst

theorem Module.flyStart_tearDown (hop : c.op = .tearDown) (hnames : m.names c = true) : ∃ port, m.flyStart =
    ((((m.popFly rest).runFly c).setSlot c.slot.val 5).detuneCircuit c.slot.val).retotal port := by
  refine ⟨((((m.popFly rest).runFly c).setSlot c.slot.val 5).detuneCircuit c.slot.val).slotOut c.slot.val, ?_⟩
  unfold Module.flyStart
  rw [hidle, hq]
  simp only [hop]
  exact if_pos hnames

section
variable (hop : c.op = .tearDown) (hnames : m.names c = true)
include hop hnames

theorem Module.queue_flyStart_tearDown : m.flyStart.fly.queue = rest := by
  obtain ⟨port, h⟩ := Module.flyStart_tearDown hidle hq hop hnames
  rw [h, Module.retotal_fly, (Module.detuneCircuit_onlyTunes ..).queue]
  rfl

theorem Module.running_flyStart_tearDown : m.flyStart.fly.running = some c := by
  obtain ⟨port, h⟩ := Module.flyStart_tearDown hidle hq hop hnames
  rw [h, Module.retotal_fly, (Module.detuneCircuit_onlyTunes ..).running]
  rfl

theorem Module.slotState_flyStart_tearDown : m.flyStart.slotState c.slot.val = 5 := by
  obtain ⟨port, h⟩ := Module.flyStart_tearDown hidle hq hop hnames
  rw [h, Module.slotState, Module.getF_retotal (by simp), (Module.detuneCircuit_onlyTunes ..).getF]
  exact Module.slotState_setSlot _ _ (by decide)

end

theorem Module.flyStart_tearDown_refused (hop : c.op = .tearDown) (hnames : m.names c = false) :
    m.flyStart = (m.popFly rest).flyEnds c 6 false := by
  unfold Module.flyStart
  rw [hidle, hq]
  simp only [hop]
  exact if_neg (Bool.eq_false_iff.1 hnames)

end

/-! ### A circuit comes up (R88) -/

/-- No command runs. -/
def Module.idleFly (m : Module) : Module := { m with fly := { m.fly with running := none } }

/-- What light arrives on a circuit that comes up is entered. -/
def Module.lightCircuit (m : Module) (s : Nat) (light : Option (BitVec 16 × Fin 401)) : Module :=
  match light with
  | some (p, loss) => m.measure s p (500 + (loss.val : Int))
  | none => m.circuitDark s

/-- A circuit's slot stands in state 2, and CIRCUIT_UP tells of it. -/
def Module.tellUp (m : Module) (s : Nat) : Module := (m.setSlot s 2).raise .fly_CIRCUIT_UP 0

theorem Module.circuitUp_eq {m : Module} {c : FlyCmd} (hrun : m.fly.running = some c) (hop : c.op = .setUp)
    (light : Option (BitVec 16 × Fin 401)) : ∃ port, m.circuitUp light =
      ((((m.idleFly.lockCircuit c.slot.val).lightCircuit c.slot.val light).tellUp c.slot.val).retotal port).flyEnds
        c 0 true := by
  refine ⟨(((m.idleFly.lockCircuit c.slot.val).lightCircuit c.slot.val light).tellUp c.slot.val).slotOut c.slot.val, ?_⟩
  unfold Module.circuitUp
  rw [hrun]
  exact if_neg fun hother => hother hop

theorem Module.getF_measure_IN (m : Module) (s : Nat) (power : BitVec 16) (loss : Int) :
    (m.measure s power loss).getF (K.flySlotPwr_IN s) = power.toNat := by
  simp only [Module.measure]
  rw [Module.getF_setF_ne _ _ (by simp), Module.getF_setF_self, FKey.width_flySlotPwr_IN, Nat.mod_eq_of_lt power.isLt]

theorem Module.measure_lit {m : Module} {s : Nat} (h : s ∉ m.fly.detuned) (power : BitVec 16) (loss : Int) :
    m.measure s power loss = (m.setF (K.flySlotPwr_IN s) power.toNat).setF (K.flySlotPwr_OUT s)
      (powerWord (outPower power.toInt loss)) := by
  have hfree : m.fly.detuned.contains s = false := by simpa using h
  unfold Module.measure
  simp only [hfree, Bool.false_eq_true, if_false]

theorem powerWord_lt (p : Int) : powerWord p < 2 ^ 16 := (BitVec.ofInt 16 p).isLt

theorem Module.getF_measure_OUT {m : Module} {s : Nat} (h : s ∉ m.fly.detuned) (power : BitVec 16) (loss : Int) :
    (m.measure s power loss).getF (K.flySlotPwr_OUT s) = powerWord (outPower power.toInt loss) := by
  rw [Module.measure_lit h, Module.getF_setF_self, FKey.width_flySlotPwr_OUT, Nat.mod_eq_of_lt (powerWord_lt _)]

/-- An open power below −30.00 dBm, read as a register shows it. -/
theorem darkPower_toInt (v : BitVec 64) : (BitVec.ofNat 16 (darkPower v)).toInt < -3000 := by
  rw [darkPower, powerWord, BitVec.ofNat_toNat, BitVec.setWidth_eq, BitVec.toInt_ofInt, Int.bmod_eq_of_le] <;> omega

theorem Module.measure_fly (m : Module) (s : Nat) (power : BitVec 16) (loss : Int) :
    (m.measure s power loss).fly = m.fly := by
  unfold Module.measure
  dsimp only
  split <;> rfl

theorem Module.measure_counters (m : Module) (s : Nat) (power : BitVec 16) (loss : Int) :
    (m.measure s power loss).counters = m.counters := by
  unfold Module.measure
  dsimp only
  split <;> rfl

/-- Where no light arrives the input reads dark. -/
theorem Module.getF_circuitDark_IN (m : Module) (s : Nat) :
    (BitVec.ofNat 16 ((m.circuitDark s).getF (K.flySlotPwr_IN s))).toInt < -3000 := by
  have hdark : (m.circuitDark s).getF (K.flySlotPwr_IN s) = (BitVec.ofNat 16 (darkPower m.openWord)).toNat := by
    unfold Module.circuitDark
    dsimp only
    rw [Module.getF_retotal (by simp)]
    split
    · rw [Module.getF_setF_self, FKey.width_flySlotPwr_IN, Nat.mod_eq_of_lt (BitVec.isLt _)]
    · exact Module.getF_measure_IN ..
  rw [hdark, BitVec.ofNat_toNat, BitVec.setWidth_eq]
  exact darkPower_toInt _

theorem Module.circuitDark_fly (m : Module) (s : Nat) : (m.circuitDark s).fly = m.fly := by
  unfold Module.circuitDark
  dsimp only
  rw [Module.retotal_fly]
  split
  · rfl
  · exact Module.measure_fly ..

theorem Module.circuitDark_counters (m : Module) (s : Nat) : (m.circuitDark s).counters = m.counters := by
  unfold Module.circuitDark
  dsimp only
  rw [Module.retotal_counters]
  split
  · rfl
  · exact Module.measure_counters ..

section
variable (m : Module) (s : Nat) (light : Option (BitVec 16 × Fin 401))

theorem Module.lightCircuit_fly : (m.lightCircuit s light).fly = m.fly := by
  unfold Module.lightCircuit
  split
  · exact Module.measure_fly ..
  · exact Module.circuitDark_fly ..

theorem Module.lightCircuit_counters : (m.lightCircuit s light).counters = m.counters := by
  unfold Module.lightCircuit
  split
  · exact Module.measure_counters ..
  · exact Module.circuitDark_counters ..

end

section
variable {m : Module} {c : FlyCmd} (hrun : m.fly.running = some c) (hop : c.op = .setUp)
  (light : Option (BitVec 16 × Fin 401))
include hrun hop

theorem Module.circuitUp_fly : (m.circuitUp light).fly = (m.idleFly.lockCircuit c.slot.val).fly := by
  obtain ⟨port, h⟩ := Module.circuitUp_eq hrun hop light
  rw [h, Module.flyEnds_fly, Module.retotal_fly, Module.tellUp, Module.raise_fly, Module.setSlot_fly,
    Module.lightCircuit_fly]

theorem Module.running_circuitUp : (m.circuitUp light).fly.running = none := by
  rw [Module.circuitUp_fly hrun hop, Module.lockCircuit_onlyTunes.running]
  rfl

theorem Module.slotState_circuitUp : (m.circuitUp light).slotState c.slot.val = 2 := by
  obtain ⟨port, h⟩ := Module.circuitUp_eq hrun hop light
  rw [h, Module.slotState_flyEnds, Module.slotState, Module.getF_retotal (by simp), Module.tellUp,
    Module.getF_raise_fly rfl (by simp)]
  exact Module.slotState_setSlot _ _ (by decide)

/-- A circuit's powers stand as they were entered when it came up. -/
theorem Module.getF_circuitUp {k : FKey} (hk : k.reg = .flySlotPwr) :
    (m.circuitUp light).getF k = ((m.idleFly.lockCircuit c.slot.val).lightCircuit c.slot.val light).getF k := by
  have hother {r : RegName} (hr : r ≠ .flySlotPwr) : k.reg ≠ r := fun e => hr (e.symm.trans hk)
  obtain ⟨port, h⟩ := Module.circuitUp_eq hrun hop light
  rw [h, Module.getF_flyEnds_slot (.inr hk), Module.getF_retotal (hother (by simp)), Module.tellUp,
    Module.getF_raise_fly rfl (hother (by simp)), Module.setSlot, Module.setB, Module.getF_setF_ne, Module.getF_setF_ne]
  · rintro rfl
    cases hk
  · rintro rfl
    cases hk

theorem Module.happened_circuitUp : (m.circuitUp light).Happened m .fly_CIRCUIT_UP 0 := by
  obtain ⟨port, h⟩ := Module.circuitUp_eq hrun hop light
  rw [h]
  refine Module.Happened.flyEnds ?_ rfl rfl
  rw [Module.flyRefuses_zero]
  refine Module.Happened.stays ?_ rfl (Module.counter_retotal ..) (Module.getF_retotal (by simp) ..)
  refine (Module.happened_raise_fly rfl 0 0).of_counters ?_
  exact (Module.lightCircuit_counters ..).trans Module.lockCircuit_onlyTunes.counters

end

/-! ### A circuit goes down (R89) -/

/-- A slot is free: its configuration reads 0, its powers as never measured. -/
def Module.clearSlot (m : Module) (s : Nat) : Module :=
  let m := (m.setSlot s 0).each [K.flySlotCfg_HOLD s, K.flySlotCfg_IN_PORT s, K.flySlotCfg_OUT_PORT s] fun m k => m.setF k 0
  let m := (m.setF (K.flySlotPwr_IN s) 0x8000).setF (K.flySlotPwr_OUT s) 0x8000
  { m with fly := { m.fly with detuned := m.fly.detuned.filter (· ≠ s) } }

theorem Module.freeCircuit_eq (m : Module) (s : Nat) : m.freeCircuit s =
    (((m.lockServing (m.slotOut s) 0 (s % 4)).clearSlot s).unbarLane (laneOf (m.slotIn s) (s % 4)) .circuit).unbarLane
      (laneOf (m.slotOut s) (s % 4)) .circuit := rfl

theorem Module.slotState_clearSlot (m : Module) (s : Nat) : (m.clearSlot s).slotState s = 0 := by
  have hkept : (m.clearSlot s).getF (K.flySlotCfg_STATE s) = (m.setSlot s 0).getF (K.flySlotCfg_STATE s) := by
    refine (Module.getF_setF_ne _ _ (by simp)).trans ((Module.getF_setF_ne _ _ (by simp)).trans ?_)
    exact Module.each_keeps (fun m => m.getF (K.flySlotCfg_STATE s)) fun m k hk =>
      m.getF_setF_ne 0 (by rintro rfl; simp at hk)
  exact hkept.trans (Module.slotState_setSlot _ _ (by decide))

theorem Module.clearSlot_counters (m : Module) (s : Nat) : (m.clearSlot s).counters = m.counters := rfl

theorem Module.running_clearSlot (m : Module) (s : Nat) : (m.clearSlot s).fly.running = m.fly.running := rfl

theorem Module.MovesTraffic.unbarLane {m' m : Module} (h : m'.MovesTraffic m) (lane : Nat) (why : LaneBar) :
    (m'.unbarLane lane why).MovesTraffic m := (h.update ..).trainLane lane

section
variable (m : Module) (s : Nat)

theorem Module.slotState_freeCircuit : (m.freeCircuit s).slotState s = 0 := by
  rw [Module.freeCircuit_eq]
  refine Eq.trans ?_ (Module.slotState_clearSlot (m.lockServing (m.slotOut s) 0 (s % 4)) s)
  exact (((Module.stands_field rfl _).unbarLane ..).unbarLane ..).holds

theorem Module.counter_freeCircuit {num : Nat} (hn : wiredNum num = false) (i : Nat) :
    (m.freeCircuit s).counter num i = m.counter num i := by
  have hlocked : (m.lockServing (m.slotOut s) 0 (s % 4)).counters = m.counters := (m.lockServing_onlyTunes ..).counters
  rw [Module.freeCircuit_eq]
  refine (((Module.stands_counter hn _ i).unbarLane ..).unbarLane ..).holds.trans ?_
  rw [Module.counter, Module.clearSlot_counters, hlocked, Module.counter]

theorem Module.running_freeCircuit : (m.freeCircuit s).fly.running = m.fly.running := by
  rw [Module.freeCircuit_eq, (((Module.MovesTraffic.refl _).unbarLane ..).unbarLane ..).fly, Module.running_clearSlot,
    (m.lockServing_onlyTunes ..).running]

end

section
variable {m : Module} {c : FlyCmd} (hrun : m.fly.running = some c) (hop : c.op = .tearDown)
include hrun hop

theorem Module.circuitDown_eq :
    m.circuitDown = ((m.idleFly.freeCircuit c.slot.val).raise .fly_CIRCUIT_DOWN 0).flyEnds c 0 true := by
  unfold Module.circuitDown
  rw [hrun]
  exact if_neg fun hother => hother hop

theorem Module.running_circuitDown : m.circuitDown.fly.running = none := by
  rw [Module.circuitDown_eq hrun hop, Module.flyEnds_fly, Module.raise_fly, Module.running_freeCircuit]
  rfl

theorem Module.slotState_circuitDown : m.circuitDown.slotState c.slot.val = 0 := by
  rw [Module.circuitDown_eq hrun hop, Module.slotState_flyEnds, Module.slotState, Module.getF_raise_fly rfl (by simp)]
  exact Module.slotState_freeCircuit ..

theorem Module.happened_circuitDown : m.circuitDown.Happened m .fly_CIRCUIT_DOWN 0 := by
  rw [Module.circuitDown_eq hrun hop]
  refine Module.Happened.flyEnds ?_ rfl rfl
  rw [Module.flyRefuses_zero]
  exact (Module.happened_raise_fly rfl 0 0).of_counter (Module.counter_freeCircuit _ _ rfl 0)

end

/-- Settles O28, command by command: lanes, frames and replies leave the circuits' registers, events and queue. -/
theorem circuitsAreCommanded : Obligations.CircuitsAreCommanded := by
  refine ⟨fun tag slot i o hold src reqId s => ⟨fun hfree hroom => ⟨?_, ?_, ?_⟩, fun hfree hfull => ?_,
    fun hholds hans hlive => ?_, fun m₁ r d htake hd hloaded hpermits hroom => ?_, fun hnone => ?_⟩,
    fun c rest power loss s => ⟨fun hidle hq => ⟨fun hop hst => ?_, fun hop hst => ?_, fun hop hnames => ?_,
      fun hop hnames => ?_, fun hop => ?_⟩, fun hrun hop => ⟨?_, ?_⟩, fun hrun hop => ?_⟩⟩
  · exact ⟨_, exec_circuitSetup .., Module.flyRow_queues rfl hfree hroom⟩
  · exact ⟨_, exec_circuitTeardown .., Module.flyRow_queues rfl hfree hroom⟩
  · exact ⟨_, exec_circuitQuery .., Module.flyRow_queues rfl hfree hroom⟩
  · exact ⟨_, exec_circuitSetup .., Module.flyRow_full rfl hfree hfull⟩
  · exact ⟨_, exec_circuitTeardown .., Module.flyRow_held rfl hholds hans hlive⟩
  · obtain ⟨q, hm₁⟩ := Module.takeReq_eq htake
    refine ⟨m₁.pushFly d, by rw [hm₁]; rfl, rfl, fun hop => ?_, fun hop => ?_, fun hop => ?_⟩
    · rw [exec_circuitSetup, Module.flyRow_asked rfl htake hd hloaded hpermits hroom hop]
    · rw [exec_circuitTeardown, Module.flyRow_asked rfl htake hd hloaded hpermits hroom hop]
    · rw [exec_circuitQuery, Module.flyRow_asked rfl htake hd hloaded hpermits hroom hop]
  · rw [exec_circuitSetup, exec_circuitTeardown, exec_circuitQuery, Module.flyRow_unasked rfl hnone,
      Module.flyRow_unasked rfl hnone, Module.flyRow_unasked rfl hnone]
    exact ⟨rfl, rfl, rfl⟩
  · refine ⟨_, exec_flyCommandStart .., ?_⟩
    rw [Module.flyStart_setUp hidle hq hop hst]
    exact ⟨Module.queue_beginSetUp .., Module.running_beginSetUp .., Module.slotState_beginSetUp ..,
      Module.slotIn_beginSetUp .., Module.slotOut_beginSetUp .., Module.slotHold_beginSetUp ..⟩
  · refine ⟨_, exec_flyCommandStart .., ?_⟩
    rw [Module.flyStart_setUp_refused hidle hq hop hst, Module.flyEnds_fly, Module.slotState_flyEnds]
    exact ⟨rfl, hidle, rfl⟩
  · refine ⟨_, exec_flyCommandStart .., ?_⟩
    rw [Module.queue_flyStart_tearDown hidle hq hop hnames, Module.running_flyStart_tearDown hidle hq hop hnames,
      Module.slotState_flyStart_tearDown hidle hq hop hnames]
    exact ⟨rfl, rfl, rfl⟩
  · refine ⟨_, exec_flyCommandStart .., ?_⟩
    rw [Module.flyStart_tearDown_refused hidle hq hop hnames, Module.flyEnds_fly, Module.slotState_flyEnds]
    exact ⟨rfl, hidle, rfl, (Module.happened_flyEnds_refused (by decide)).of_counters rfl⟩
  · refine ⟨_, exec_flyCommandStart .., ?_⟩
    rw [Module.flyStart_query hidle hq hop, Module.flyEnds_fly]
    exact ⟨rfl, hidle, Module.circuitReply_mem_flyEnds⟩
  · refine ⟨_, exec_circuitUp .., Module.running_circuitUp hrun hop _, Module.slotState_circuitUp hrun hop _, ?_,
      fun hfull hlit => ?_, fun hreduced => ?_, Module.happened_circuitUp hrun hop _⟩
    · rw [Module.getF_circuitUp hrun hop _ rfl]
      exact Module.getF_measure_IN ..
    · rw [Module.getF_circuitUp hrun hop _ rfl]
      refine Module.getF_measure_OUT ?_ ..
      rwa [Module.lockCircuit_fly (show s.mod.idleFly.reduced (s.mod.idleFly.slotOut c.slot.val) = false from hfull)]
    · rw [Module.circuitUp_fly hrun hop]
      exact Module.mem_detuned_lockCircuit hreduced
  · refine ⟨_, exec_circuitUp .., Module.running_circuitUp hrun hop _, Module.slotState_circuitUp hrun hop _, ?_⟩
    rw [Module.getF_circuitUp hrun hop _ rfl]
    exact Module.getF_circuitDark_IN ..
  · exact ⟨_, exec_circuitDown .., Module.running_circuitDown hrun hop, Module.slotState_circuitDown hrun hop,
      Module.happened_circuitDown hrun hop⟩

end Sys2Proof.Machine

/-! SUPPORT. Crossbar planes and packet SRAM rows: what a failure and its repair leave in the registers and in the row map
(spec/06_buffers_resequencing_backpressure.md R173, R175; spec/17_spares_repair_and_resilience.md R452 to R454), and the
statement about them settled. -/

namespace Sys2Proof.Machine

/-! ### Commands -/

theorem exec_planeFail (p : Fin 9) (s : State) : exec (.planeFail p) s = .next { s with mod := s.mod.planeFail p.val } := rfl

theorem exec_planeSpared (s : State) : exec .planeSpared s = .next { s with mod := s.mod.planeSpared } := rfl

theorem exec_sramScrub (sec : Fin 8) (word : BitVec 25) (found : Secded) (s : State) :
    exec (.sramScrub sec word found) s = .next { s with mod := s.mod.sramScrub sec.val word.toNat found } := rfl

theorem exec_sramRemapDone (sec : Fin 8) (bank : Fin 512) (row : Fin 2048) (s : State) :
    exec (.sramRemapDone sec bank row) s = .next { s with mod := s.mod.remapDone sec.val bank.val row.val } := rfl

/-! ### Events and the registers beside them -/

/-- An event shows in the EVT register of its group. -/
theorem evtKey_reg {e : Ev} {r : RegName} (he : e.reg = some r) {i : Nat} {k : FKey} (hk : evtKey e i = some k) :
    k.reg = r := by
  unfold evtKey at hk
  split at hk
  · cases he
  · rw [he] at hk
    cases hk
    rfl

/-- An event of a sector that no reset has is counted (R471). -/
theorem Module.countsNow_of_up {m : Module} {i : Nat} (h : i ∉ m.power.sectorsDown) (num : Nat) :
    m.countsNow num i = true := by
  simp [Module.countsNow, h]

/-- An event leaves every register but the one that shows it. -/
theorem Module.getF_raise_of_reg {e : Ev} {r : RegName} (he : e.reg = some r) {k : FKey} (hk : k.reg ≠ r) (m : Module)
    (i d : Nat) : (m.raise e i d).getF k = m.getF k := by
  rw [Module.getF_raise, if_neg fun h => hk (evtKey_reg he h)]

theorem Module.raiseAll_buf (m : Module) (e : Ev) : (m.raiseAll e).buf = m.buf :=
  Module.each_keeps Module.buf fun m _ _ => m.raise_buf ..

theorem Module.getF_raiseAll {e : Ev} {r : RegName} (he : e.reg = some r) {k : FKey} (hk : k.reg ≠ r) (m : Module) :
    (m.raiseAll e).getF k = m.getF k :=
  Module.each_keeps (fun m => m.getF k) fun m _ _ => m.getF_raise_of_reg he hk ..

/-! ### Planes (R175) -/

theorem FKey.width_bufStatus_PLANES_ACTIVE (i : Nat) : FKey.width (K.bufStatus_PLANES_ACTIVE i) = 9 :=
  FKey.width_of_mem (d := fd 8 0 .ro) (by decide) i 0

theorem FKey.width_bufStatus_SPARE_PLANE (i : Nat) : FKey.width (K.bufStatus_SPARE_PLANE i) = 4 :=
  FKey.width_of_mem (d := fd 15 12 .ro) (by decide) i 0

section
variable (m : Module) (mask spare : Nat)

theorem Module.setPlanes_onlyRegs : (m.setPlanes mask spare).OnlyRegs m :=
  (Module.setAll_onlyRegs ..).trans (Module.setAll_onlyRegs ..)

theorem Module.getF_setPlanes_PLANES_ACTIVE {t : Nat} (ht : t < 8) :
    (m.setPlanes mask spare).getF (K.bufStatus_PLANES_ACTIVE t) = mask % 2 ^ 9 := by
  rw [Module.setPlanes, Module.getF_setAll_ne _ (by simp), m.getF_setAll (fun a b h => by simpa using h) ht,
    FKey.width_bufStatus_PLANES_ACTIVE]

theorem Module.getF_setPlanes_SPARE_PLANE {t : Nat} (ht : t < 8) :
    (m.setPlanes mask spare).getF (K.bufStatus_SPARE_PLANE t) = spare % 2 ^ 4 := by
  rw [Module.setPlanes, Module.getF_setAll _ (fun a b h => by simpa using h) ht, FKey.width_bufStatus_SPARE_PLANE]

end

/-- While a spare is free, a failed plane that carried cells leaves the mask, and the spare trains for it. -/
theorem Module.planeFail_spare {m : Module} {p : Nat} (hcarries : bitOf m.planes p = true)
    (hspare : m.getF (K.bufStatus_SPARE_PLANE m.lead) ≤ 8) (hfree : m.buf.planeTraining = none) :
    m.planeFail p =
      { (m.setPlanes (m.planes - 2 ^ p) (m.getF (K.bufStatus_SPARE_PLANE m.lead))).raiseAll .buf_PLANE_FAIL with
        buf := { m.buf with planeTraining := some (p, m.getF (K.bufStatus_SPARE_PLANE m.lead)) } } := by
  have hbuf (mask spare : Nat) : ((m.setPlanes mask spare).raiseAll .buf_PLANE_FAIL).buf = m.buf := by
    rw [Module.raiseAll_buf, m.setPlanes_onlyRegs]
  unfold Module.planeFail
  simp only [hcarries, if_true, hbuf, hspare, hfree, and_self]

/-- The spare that has trained joins the mask, and no spare is left. -/
theorem Module.planeSpared_training {m : Module} {q sp : Nat} (h : m.buf.planeTraining = some (q, sp)) :
    m.planeSpared =
      ((({ m with buf := { m.buf with planeTraining := none } } : Module).setPlanes (m.planes + 2 ^ sp) 0xF).raiseAll
        .buf_PLANE_SPARED).record 0x06 q sp := by
  unfold Module.planeSpared
  rw [h]

/-! ### The scrubber (R173, R452) -/

theorem Module.sramScrub_clean (m : Module) (s word : Nat) :
    m.sramScrub s word .clean = { m with sram := { m.sram with ceRun := Tbl.del m.sram.ceRun (s, word) } } := rfl

/-- The module with how often in a row a word has been corrected. -/
def Module.noteCe (m : Module) (s word n : Nat) : Module :=
  { m with sram := { m.sram with ceRun := Tbl.put m.sram.ceRun (s, word) n } }

/-- A word corrected for the first or the second time in a row is counted, and its row stands. -/
theorem Module.sramScrub_single {m : Module} {s word : Nat} (h : Tbl.get m.sram.ceRun 0 (s, word) < 2) :
    m.sramScrub s word .single =
      (m.noteCe s word (Tbl.get m.sram.ceRun 0 (s, word) + 1)).raise .buf_SRAM_CE s := by
  have hthird : Tbl.get m.sram.ceRun 0 (s, word) + 1 ≠ 3 := by omega
  simp only [Module.sramScrub, hthird, if_false, Nat.succ_ne_zero]
  rfl

/-- The third time in a row its row fails. -/
theorem Module.sramScrub_third {m : Module} {s word : Nat} (h : Tbl.get m.sram.ceRun 0 (s, word) = 2) :
    m.sramScrub s word .single =
      ((m.sramScrub s word .clean).raise .buf_SRAM_CE s).rowFails s (sramBank word) (sramRowOf word) false := by
  simp only [Module.sramScrub, h]
  rfl

/-! ### Rows (R453, R454) -/

theorem Module.sramRow_putSramRow (m : Module) (s bank row : Nat) (r : RowState) :
    (m.putSramRow s bank row r).sramRow s bank row = r := Tbl.get_put_self ..

theorem Module.sramRow_congr {m' m : Module} (h : m'.sram.rows = m.sram.rows) (s bank row : Nat) :
    m'.sramRow s bank row = m.sramRow s bank row := by
  rw [Module.sramRow, h, Module.sramRow]

theorem Module.rowSpare_congr {m' m : Module} (h : m'.sram.used = m.sram.used) (s bank row : Nat) :
    m'.rowSpare s bank row = m.rowSpare s bank row := by
  rw [Module.rowSpare, h, Module.rowSpare]

/-- A row that fails for the first time moves to the spare that it finds. -/
theorem Module.sramRow_rowFails {m : Module} {s bank row g : Nat} (hrow : m.sramRow s bank row = RowState.sound)
    (hg : m.rowSpare s bank row = some g) (injected : Bool) :
    (m.rowFails s bank row injected).sramRow s bank row =
      { RowState.sound with remaps := 1, moving := some g, rehearsed := injected } := by
  have hlow : ¬ 2 ≤ RowState.sound.remaps := by decide
  have hnew : (RowState.sound.retired || RowState.sound.moving.isSome) = false := rfl
  simp only [Module.rowFails, hrow, hnew, hg, hlow, if_false, Bool.false_eq_true]
  exact (Module.sramRow_congr (congrArg SramUnit.rows (Module.raise_sram ..)) s bank row).trans (Module.sramRow_putSramRow ..)

/-- The row map points at the spare, and the repair table is asked to keep that. -/
theorem Module.remapDone_moving {m : Module} {s bank row g : Nat} (hg : (m.sramRow s bank row).moving = some g)
    (hown : (m.sramRow s bank row).rehearsed = false) :
    m.remapDone s bank row =
      (m.putSramRow s bank row { m.sramRow s bank row with moving := none }).record 0x09 (sramLocation s bank row) g := by
  simp only [Module.remapDone, hg, hown, Bool.false_eq_true, if_false]

theorem Module.remapDone_still {m : Module} {s bank row : Nat} (h : (m.sramRow s bank row).moving = none) :
    m.remapDone s bank row = m := by
  simp only [Module.remapDone, h]

/-- Settles O39, command by command: planes by the mask of every sector, rows by the row map. -/
theorem planesAndRowsAreSpared : Obligations.PlanesAndRowsAreSpared := by
  intro p q sp sec word bank row s
  refine ⟨fun hcarries hspare hfree => ?_, fun htrains => ?_, ?_, fun hfew => ?_, fun g htwo hrow hg => ?_,
    fun g hg hown => ?_, fun hstill => ?_⟩
  · refine ⟨_, exec_planeFail p s, ?_⟩
    rw [Module.planeFail_spare hcarries hspare hfree]
    refine ⟨fun t ht => ?_, rfl⟩
    exact (Module.getF_raiseAll rfl (by simp) _).trans (Module.getF_setPlanes_PLANES_ACTIVE _ _ _ ht)
  · refine ⟨_, exec_planeSpared s, ?_⟩
    rw [Module.planeSpared_training htrains]
    refine ⟨fun t ht => ⟨?_, ?_⟩, ?_⟩
    · exact (Module.getF_raiseAll rfl (by simp) _).trans (Module.getF_setPlanes_PLANES_ACTIVE _ _ _ ht)
    · exact (Module.getF_raiseAll rfl (by simp) _).trans (Module.getF_setPlanes_SPARE_PLANE _ _ _ ht)
    · rw [Module.record_buf, Module.raiseAll_buf, Module.setPlanes_onlyRegs]
  · exact exec_sramScrub ..
  · refine ⟨_, exec_sramScrub .., ?_⟩
    rw [Module.sramScrub_single hfew, Module.raise_sram]
    refine ⟨Tbl.get_put_self .., rfl, fun hup => ?_⟩
    exact (Module.happened_raise (Module.countsNow_of_up (m := s.mod.noteCe ..) hup _) 0).of_counters rfl
  · refine ⟨_, exec_sramScrub .., ?_⟩
    rw [Module.sramScrub_third htwo, Module.sramRow_rowFails (g := g)]
    · exact ⟨rfl, rfl⟩
    · rw [← hrow]
      exact Module.sramRow_congr (congrArg SramUnit.rows (Module.raise_sram ..)) ..
    · rw [← hg]
      exact Module.rowSpare_congr (congrArg SramUnit.used (Module.raise_sram ..)) ..
  · refine ⟨_, exec_sramRemapDone .., ?_⟩
    rw [Module.remapDone_moving hg hown]
    refine ⟨?_, ?_, rfl⟩
    · exact congrArg RowState.moving (Module.sramRow_putSramRow ..)
    · exact List.length_append
  · rw [exec_sramRemapDone, Module.remapDone_still hstill]

end Sys2Proof.Machine

/-! SUPPORT. Resequencing contexts whose sector is in reset (spec/06_buffers_resequencing_backpressure.md R186;
spec/18_telemetry_and_counters.md R471), and the statement about contexts settled. -/

namespace Sys2Proof.Machine

/-- A context that holds frames behind a gap skips it when its time is up (R186). -/
theorem exec_reseqTimeout_skips {lport : Fin 2048} {ends : FlowEnds} {flow : BitVec 16} {c : Ctx} {s : State}
    (hctx : s.mod.ctx lport.val (ends.src, ends.dst, flow) = some c) (hopen : c.opening = false)
    (hheld : c.held ≠ []) (hgap : c.blocked = false) (errs : List (BitVec 24 × Secded)) :
    exec (.reseqTimeout lport ends flow errs) s = .next { s with mod := s.mod.skipCtx c (some errs) } := by
  change execReseqTimeout lport ends flow errs s = _
  simp [execReseqTimeout, hctx, hopen, hheld, hgap]

/-! ### A context of a sector in reset -/

/-- A frame of SEQ 5 that waits, held on die, for the queue of LPORT 0 and VC 0. -/
def gapFrame : QFrame :=
  let f : Frame := Frame.withH ⟨0, []⟩
    { ver := 1, ftype := 1, phase := 0, esc := 0, ord := 1, hops := 0, seq := 5, flow := 0, dst := 0, src := 0, inter := 0
      xlen := 0 }
  Module.reset.newFrame f f 0 0 (.out 0 0) 0

/-- The context that holds it, of sector 0, with E at 0: SEQs 0 to 4 are missing. -/
def gapCtx : Ctx :=
  { sector := 0, lport := 0, flow := (0, 0, 0), opening := false, first := 0, expect := 0, window := 64, timeout := 0
    held := [gapFrame], gone := [], deep := false, ending := false, usedAt := 0 }

/-- The module with that context, the link of LPORT 0 in state 3 UP, and sector 0 in a reset. A sector's reset
closes its contexts (R504); the statement of O38 speaks of every state. -/
def gapInReset : State :=
  { State.reset with
    mod := { Module.reset with
      regs := [(K.lnkLinkState_STATE 0 0, 3)], buf := { Module.reset.buf with ctxs := [gapCtx] }
      power := { Module.reset.power with sectorsDown := [0] } } }

/-- The timeout skips the gap, but the counter of a sector in reset does not advance (R471). -/
theorem counter_gapInReset : (gapInReset.mod.skipCtx gapCtx (some [])).counter Ev.buf_RESEQ_SKIP.num 0 = 0 := by decide

/-- Refutes O38: where the context's sector is in a reset, the counter of RESEQ_SKIP does not advance (R471) at a timeout
that skips a gap, so the event has not happened as `Happened` asks. -/
theorem not_contextsReleaseAndClose : ¬ Obligations.ContextsReleaseAndClose := by
  intro h
  obtain ⟨-, hctx⟩ := h 0 0 0 0 [] gapCtx gapFrame 0 0 gapInReset
  obtain ⟨-, -, -, -, -, -, -, -, htimeout⟩ := hctx (by decide)
  obtain ⟨m', c', hm', -, -, -, hout⟩ := htimeout rfl rfl rfl rfl rfl rfl (fun _ => rfl)
  obtain ⟨-, hskip⟩ := hout (by decide) (by decide)
  obtain ⟨hcounter, -⟩ := hskip (by decide)
  rw [exec_reseqTimeout_skips (c := gapCtx) (by decide) rfl (List.cons_ne_nil gapFrame []) (by decide)] at hm'
  cases hm'
  exact absurd (counter_gapInReset.symm.trans hcounter) (by decide)

end Sys2Proof.Machine

/-! SUPPORT. What has been shown stays shown: no frame that moves, no operation that ends and no chunk of HBM that is lost or
moved clears a bit of an EVT register, which only a write of the register does (spec/00_scope.md R14; R473).
`Module.Stands` cannot say so: it allows any value in a register that frames can write. -/

namespace Sys2Proof.Machine

/-! ### EVT registers -/

/-- The registers whose bits show events (R472, R473). -/
def RegName.isEvt (r : RegName) : Bool :=
  match r with
  | .clkEvt | .timEvt | .pwrEvt | .secEvt | .imgEvt | .mpcEvt | .telEvt | .lpeEvt | .lnkEvt | .flyEvt | .fwdEvt | .bufEvt
  | .tmEvt | .tmSchedEvt | .colEvt | .rdeEvt | .praEvt | .hbmEvt => true
  | _ => false

theorem Ev.reg_isEvt (e : Ev) : e.reg.all RegName.isEvt = true := by cases e <;> decide

theorem evtKey_isEvt {e : Ev} {i : Nat} {k : FKey} (hk : evtKey e i = some k) : k.reg.isEvt = true := by
  unfold evtKey at hk
  split at hk
  · cases hk
    rfl
  · obtain ⟨r, hr, rfl⟩ := Option.map_eq_some_iff.1 hk
    have hreg := e.reg_isEvt
    rw [hr] at hreg
    exact hreg

/-- A bit of an EVT register is 1. -/
structure Module.Showing (m : Module) (k : FKey) : Prop where
  evt : k.reg.isEvt = true
  on : m.getF k = 1

/-- An event that has just happened shows. -/
theorem Module.showing_raise {e : Ev} {i : Nat} {k : FKey} (hk : evtKey e i = some k) (m : Module) (d : Nat) :
    (m.raise e i d).Showing k := ⟨evtKey_isEvt hk, Module.getF_raise_self hk m d⟩

namespace Module.Showing

variable {m : Module} {k : FKey} (h : m.Showing k)
include h

/-! ### Updates of the state -/

theorem of_regs {m' : Module} (hregs : m'.regs = m.regs) : m'.Showing k :=
  ⟨h.evt, (Module.getF_congr k hregs).trans h.on⟩

theorem update (log : LogUnit) (buf : BufUnit) (sram : SramUnit) (col : ColUnit) (pra : Tbl Nat PraArray) (hbm : HbmUnit)
    (mpc : MpcUnit) (fresh : Nat) :
    ({ m with log := log, buf := buf, sram := sram, col := col, pra := pra, hbm := hbm, mpc := mpc
              fresh := fresh } : Module).Showing k := h.of_regs rfl

theorem setF {k' : FKey} (hk' : k'.reg.isEvt = false) (v : Nat) : (m.setF k' v).Showing k := by
  refine ⟨h.evt, (m.getF_setF_ne v ?_).trans h.on⟩
  rintro rfl
  exact Bool.false_ne_true (hk'.symm.trans h.evt)

theorem addSat {k' : FKey} (hk' : k'.reg.isEvt = false) (n most : Nat) : (m.addSat k' n most).Showing k := h.setF hk' _

theorem raise (e : Ev) (i : Nat) (d : Nat := 0) : (m.raise e i d).Showing k := by
  by_cases hk : evtKey e i = some k
  · exact m.showing_raise hk d
  · exact ⟨h.evt, ((m.getF_raise e i d k).trans (if_neg hk)).trans h.on⟩

theorem count (num i n : Nat) : (m.count num i n).Showing k := h.of_regs (m.count_regs num i n)

theorem drawn : m.drawn.Showing k := h.update ..

theorem ite {c : Prop} [Decidable c] {m₂ : Module} (h₂ : m₂.Showing k) : (if c then m else m₂).Showing k := by
  split
  · exact h
  · exact h₂

theorem each {α : Type} {f : Module → α → Module} (hf : ∀ {m : Module}, m.Showing k → ∀ x, (f m x).Showing k)
    (l : List α) : (m.each l f).Showing k :=
  List.foldlRecOn (motive := fun m => m.Showing k) l f h fun _ h x _ => hf h x

/-- A list folded into a pair: the other half does not matter. -/
theorem foldl_fst {α β : Type} {f : Module × β → α → Module × β} (hf : ∀ st a, st.1.Showing k → (f st a).1.Showing k)
    (l : List α) (b : β) : (l.foldl f (m, b)).1.Showing k :=
  List.foldlRecOn (motive := fun st => st.1.Showing k) l f h fun st hst a _ => hf st a hst

/-! ### Queues, packet SRAM and the Carafe (R172 to R178) -/

theorem putQ (lport vc : Nat) (q : OutQueue) : (m.putQ lport vc q).Showing k := h.update ..

theorem putFifo (lport vc : Nat) (fs : List QFrame) : (m.putFifo lport vc fs).Showing k := h.update ..

theorem tollOut (f : QFrame) : (m.tollOut f).Showing k := by
  unfold Module.tollOut
  split
  · split
    · exact h.update ..
    · exact h
  · exact h

theorem tollIn (f : QFrame) : (m.tollIn f).Showing k := by
  unfold Module.tollIn
  split
  · split
    · exact h.update ..
    · exact h
  · exact h

theorem emptiedQ (lport vc : Nat) : (m.emptiedQ lport vc).Showing k := by
  unfold Module.emptiedQ
  exact ((h.putQ ..).raise ..).ite (h.putQ ..)

theorem refillQ (lport vc : Nat) : (m.refillQ lport vc).Showing k := by
  unfold Module.refillQ
  exact ((h.putQ ..).raise ..).ite (h.putQ ..)

theorem settleQ (lport vc : Nat) (before : OutQueue) : (m.settleQ lport vc before).Showing k := by
  unfold Module.settleQ
  exact (h.ite (h.emptiedQ ..)).ite (((h.putQ ..).refillQ ..).ite ((h.refillQ ..).ite h))

theorem newChunk (s r : Nat) (pool : Bool) (avoid : Option Nat) (use : ChunkUse) :
    (m.newChunk s r pool avoid use).Showing k := by
  unfold Module.newChunk
  split
  · exact h.update ..
  · exact h.update ..

theorem freeChunks (nos : List Nat) : (m.freeChunks nos).Showing k := h.update ..

theorem readChunks (nos : List Nat) : (m.readChunks nos).Showing k := h.each (fun h _ => h.update ..) _

theorem noteFull (p : Nat) : (m.noteFull p).Showing k := by
  unfold Module.noteFull
  exact ((h.update ..).raise ..).ite (h.ite (h.update ..))

theorem noteSpill (lport vc : Nat) : (m.noteSpill lport vc).Showing k := by
  unfold Module.noteSpill
  exact h.ite ((h.putQ ..).raise ..)

theorem settleSpill (lport vc : Nat) : (m.settleSpill lport vc).Showing k := h.putQ ..

theorem spend (s : Nat) : (m.spend s).Showing k := h.update ..

theorem openChunk (lport vc : Nat) (cont : Bool) : (m.openChunk lport vc cont).Showing k :=
  ((((h.putQ ..).newChunk ..).spend _).noteSpill ..).noteFull _

theorem writeCarafe (lport vc : Nat) (f : QFrame) (rest fuel : Nat) : (m.writeCarafe lport vc f rest fuel).Showing k := by
  induction fuel generalizing m rest with
  | zero => exact h
  | succ fuel ih =>
    unfold Module.writeCarafe
    dsimp only
    split
    · exact (ih (h.openChunk ..) _).ite ((h.putQ ..).ite (ih (h.putQ ..) _))
    · exact ih (h.openChunk ..) _

theorem enqueue (lport vc : Nat) (f : QFrame) (carafe : Bool) : (m.enqueue lport vc f carafe).Showing k := by
  unfold Module.enqueue
  exact ((h.writeCarafe ..).ite (h.putQ ..)).settleQ ..

/-! ### A frame's way to its queue (R176) -/

theorem crossXbar (f : QFrame) (lport : Nat) : (m.crossXbar f lport).Showing k := ((h.count ..).drawn).count ..

theorem conflictOnce (resource : Nat) (runtime : Bool) : (m.conflictOnce resource runtime).Showing k :=
  h.ite ((((((h.setF rfl _).setF rfl _).setF rfl _).setF rfl _).setF rfl _).raise ..)

theorem wantPool (p n : Nat) : (m.wantPool p n).Showing k := by
  have hconflict := h.conflictOnce 1 true
  unfold Module.wantPool Module.contestPool
  exact (((hconflict.update ..).ite (hconflict.setF rfl _)).ite h).ite h

theorem contested (lport vc len : Nat) : (m.contested lport vc len).Showing k := h.ite (h.wantPool ..)

theorem noteNoRoom (p n : Nat) (f : QFrame) : (m.noteNoRoom p n f).1.Showing k := by
  have hfull : (if f.fullNoted then m else m.regionFull (p / 64)).Showing k := h.ite (h.raise ..)
  unfold Module.noteNoRoom
  dsimp only
  split
  · exact h
  · exact (hfull.raise ..).ite hfull

theorem tryAdmit (lport vc : Nat) (f : QFrame) : (m.tryAdmit lport vc f).mod.Showing k := by
  have hcontested := h.contested lport vc f.frame.len
  unfold Module.tryAdmit
  dsimp only
  split
  · exact ((hcontested.drawn.crossXbar ..).tollIn _).enqueue ..
  · exact ((hcontested.drawn.crossXbar ..).tollIn _).enqueue ..
  · split
    · exact hcontested
    · exact hcontested.noteNoRoom ..

theorem drainOwn (lport vc fuel : Nat) : (m.drainOwn lport vc fuel).Showing k := by
  induction fuel generalizing m with
  | zero => exact h
  | succ fuel ih =>
    unfold Module.drainOwn
    split
    · exact h
    · next f rest _ =>
      have hadmit := h.tryAdmit lport vc f
      split
      · next htaken =>
        rw [htaken] at hadmit
        exact ih (hadmit.putFifo ..)
      · next hrefused =>
        rw [hrefused] at hadmit
        exact hadmit.putFifo ..

theorem originate (sector lport vc : Nat) (formed f : Frame) : (m.originate sector lport vc formed f).Showing k := by
  unfold Module.originate
  exact (h.raise ..).ite ((h.raise ..).ite ((h.putFifo ..).drainOwn ..))

/-! ### Frames handed back (R163) -/

theorem lookup (sector : Nat) (f : Frame) : (m.lookup sector f).1.Showing k := by
  have hmeets : (if m.meetsUp f then m.raise .fwd_DOWN_UP_FAULT sector else m).Showing k := (h.raise ..).ite h
  unfold Module.lookup
  dsimp only
  split
  · exact hmeets.raise ..
  · exact (hmeets.raise ..).ite hmeets

theorem relook (f : QFrame) : (m.relook f).1.Showing k := by
  have hagain : (m.raise .fwd_REQUEUE (originOf f.inLport)).Showing k := h.raise ..
  have hlookup := hagain.lookup (originOf f.inLport) f.asArrived
  unfold Module.relook
  dsimp only
  split
  · exact hagain
  · split
    · next heq =>
      rw [heq] at hlookup
      exact hlookup
    · next heq =>
      rw [heq] at hlookup
      exact hlookup

theorem handBack (fs : List QFrame) : (m.handBack fs).Showing k := by
  unfold Module.handBack
  refine each (foldl_fst h ?_ fs []) (fun h _ => h.putFifo ..) _
  exact fun st f hst => (hst.tollOut f).relook f

/-! ### Operations end (R232 to R238) -/

theorem putOp (slot : Nat) (op : Op) : (m.putOp slot op).Showing k := h.update ..

theorem dropSegs (slot : Nat) : (m.dropSegs slot).Showing k := by
  unfold Module.dropSegs
  split
  · exact h
  · next op _ =>
    have hfreed := h.each (fun h x => h.freeChunks x.2.chunks) op.segs
    exact (ite (hfreed.update ..) hfreed).putOp ..

theorem retireNum (defIdx jobEpoch num : Nat) : (m.retireNum defIdx jobEpoch num).Showing k := by
  unfold Module.retireNum
  exact (h.update ..).ite h

theorem retireOp (slot : Nat) (done : Bool) : (m.retireOp slot done).Showing k := by
  unfold Module.retireOp
  split
  · exact h
  · exact raise (retireNum (update (h.dropSegs slot) ..) ..) ..

theorem abortDown (slot code count rankX : Nat) : (m.abortDown slot code count rankX).Showing k := by
  unfold Module.abortDown
  split
  · exact h
  · exact (h.each (fun h _ => h.originate ..) _).retireOp ..

theorem countCode (code home : Nat) : (m.countCode code home).Showing k := by
  unfold Module.countCode
  split
  · exact h.raise ..
  · exact h

theorem sentSeq (slot n : Nat) : (m.sentSeq slot n).Showing k := by
  unfold Module.sentSeq
  split
  · exact h
  · exact h.putOp ..

theorem askAbort (slot code count rankX : Nat) : (m.askAbort slot code count rankX).Showing k := by
  unfold Module.askAbort
  split
  · exact h
  · exact (h.sentSeq ..).originate ..

theorem requestAbort (slot code count rankX : Nat) : (m.requestAbort slot code count rankX).Showing k := by
  have hdropped := h.dropSegs slot
  unfold Module.requestAbort
  dsimp only
  split
  · exact hdropped
  · exact (hdropped.putOp ..).askAbort ..

theorem failOp (slot code : Nat) (count : Option Nat) : (m.failOp slot code count).Showing k := by
  unfold Module.failOp
  split
  · exact h
  · have hcounted := h.countCode code
    exact h.ite (((hcounted _).abortDown ..).ite ((hcounted _).requestAbort ..))

/-! ### The resequencer releases what it holds (R173, R185, R191) -/

theorem putCtx (c : Ctx) : (m.putCtx c).Showing k := h.update ..

theorem unhold (f : QFrame) (lport : Nat) : (m.unhold f lport).Showing k := h.ite ((h.freeChunks _).noteFull _)

theorem adoptChunks (l v : Nat) (f : QFrame) : (m.adoptChunks l v f).Showing k :=
  settleQ (h.update ..) ..

theorem putSramRow (s bank row : Nat) (r : RowState) : (m.putSramRow s bank row r).Showing k := h.update ..

theorem rowFails (s bank row : Nat) (injected : Bool) : (m.rowFails s bank row injected).Showing k := by
  unfold Module.rowFails
  dsimp only
  split
  · exact h
  · split
    · exact (putSramRow (h.update ..) ..).raise _ _ _
    · have hretired := fun r => ((h.putSramRow s bank row r).addSat (k' := K.bufSramStat_RETIRED_ROWS s) rfl 1 0xFFFF).raise
        .sector_SRAM_RETIRE s (sramDetail bank row)
      exact (hretired _).ite ((hretired _).update ..)

theorem failRowOf (s : Nat) (f : QFrame) : (m.failRowOf s f).Showing k := h.drawn.rowFails ..

theorem readHeld (f : QFrame) (errs : ReadErrs) : (m.readHeld f errs).1.Showing k := by
  unfold Module.readHeld
  split
  · exact h
  · exact h.drawn

theorem readOut (m₀ : Module) (l v : Nat) (f : QFrame) (errs : ReadErrs) (carafe : Bool) :
    ((m.readOut l v f errs carafe).modOr m₀).Showing k := by
  have hread := h.readHeld f errs
  unfold Module.readOut
  dsimp only
  split
  · next heq =>
    rw [heq] at hread
    exact ((hread.raise ..).failRowOf ..).tollOut f
  · next heq =>
    rw [heq] at hread
    exact (hread.raise ..).enqueue ..
  · next heq =>
    rw [heq] at hread
    exact hread.enqueue ..

theorem noRoom (m₀ : Module) (l n : Nat) (f : QFrame) : ((m.noRoom l n f).modOr m₀).Showing k := h.noteNoRoom ..

theorem release (m₀ : Module) (f : QFrame) (errs : ReadErrs) : ((m.release f errs).modOr m₀).Showing k := by
  unfold Module.release
  dsimp only
  split
  · next l v _ =>
    split
    · exact (h.unhold f l).handBack _
    split
    · split
      · exact h.readOut ..
      · have hpool := h.wantPool (portOf l) ((m.q l v).chunksFor f.frame.len)
        split
        · exact hpool.readOut ..
        · exact hpool.noRoom ..
    split
    · exact (h.adoptChunks ..).settleSpill ..
    split
    · have hcontested := h.contested l v f.frame.len
      split
      · split
        · exact hcontested
        · exact hcontested.noRoom ..
      · exact ((hcontested.readChunks _).unhold ..).enqueue ..
    · exact h
  · exact h

theorem releaseRun (c : Ctx) (errs : ReadErrs) (fuel : Nat) : (m.releaseRun c errs fuel).1.Showing k := by
  induction fuel generalizing m c with
  | zero => exact h
  | succ fuel ih =>
    unfold Module.releaseRun
    split
    · next f _ =>
      dsimp only
      have hrelease := (h.putCtx { c with
        held := c.held.filter (fun x => x.frame.h.seq ≠ c.expect), gone := c.gone.filter (· ≠ c.expect)
        expect := c.expect + 1 }).release m f errs
      split
      · next heq =>
        rw [heq] at hrelease
        exact ih hrelease _
      · next heq =>
        rw [heq] at hrelease
        exact ih (hrelease.raise ..) _
      · next heq =>
        rw [heq] at hrelease
        exact hrelease
    · split
      · exact ih (h.raise ..) _
      · split
        · split
          · exact ih h _
          · exact h
        · exact h

theorem runCtx (c : Ctx) (errs : ReadErrs) : (m.runCtx c errs).Showing k := by
  have hrun := (h.putCtx c).releaseRun c errs (2 * (c.held.length + c.gone.length) + 1)
  unfold Module.runCtx
  exact (hrun.update ..).ite (hrun.putCtx _)

theorem resume (lport : Nat) : (m.resume lport).Showing k := h.each (fun h _ => h.runCtx ..) _

/-! ### Chunks of HBM are lost and moved (R336, R340) -/

theorem putStack (n : Nat) (hs : HbmStack) : (m.putStack n hs).Showing k := h.update ..

theorem loseCarafe (lport vc no : Nat) : (m.loseCarafe lport vc no).Showing k := by
  unfold Module.loseCarafe
  dsimp only
  split
  · exact h
  · exact (each (settleSpill (noteFull (((h.putQ ..).raise ..).freeChunks _) _) ..) (fun h f => h.tollOut f) _).settleQ ..

theorem loseHeld (lport : Nat) (flow : Flow) (no : Nat) : (m.loseHeld lport flow no).Showing k := by
  unfold Module.loseHeld
  split
  · exact h
  · dsimp only
    refine ite (runCtx (each (h.putCtx _) (fun h f => ?_) _) ..) (each (h.putCtx _) (fun h f => ?_) _)
    all_goals exact ((h.unhold f lport).tollOut f).settleSpill ..

theorem loseRetained (slot seg no : Nat) : (m.loseRetained slot seg no).Showing k := by
  unfold Module.loseRetained
  split
  · exact h
  · split
    · exact h
    · exact (h.putOp ..).ite (h.failOp ..)

theorem loseUnit (s u copy : Nat) : (m.loseUnit s u copy).Showing k := by
  unfold Module.loseUnit
  split
  · exact h.newChunk ..
  · exact h.update ..

theorem loseWhat (c : HbmChunk) : (m.loseWhat c).Showing k := by
  unfold Module.loseWhat
  split
  · exact h.loseCarafe ..
  · exact (h.raise ..).loseHeld ..
  · exact h.loseHeld ..
  · exact h.loseRetained ..
  · exact h.failOp ..
  · exact h.loseUnit ..

theorem loseChunk (no : Nat) : (m.loseChunk no).Showing k := by
  unfold Module.loseChunk
  split
  · exact h
  · exact ((h.freeChunks _).raise ..).loseWhat _

theorem moveChunk (no : Nat) : (m.moveChunk no).Showing k := by
  unfold Module.moveChunk
  split
  · exact h
  · dsimp only
    split
    · exact h.loseChunk _
    · exact h.update ..

theorem clearOctet (s j : Nat) (copied : Copied) : (m.clearOctet s j copied).Showing k := by
  refine h.each (fun {m} h c => (h.moveChunk _).ite ?_) _
  have hcopied : (m.hasCopied copied c.no).1.Showing k := by
    cases copied with
    | none => exact h.drawn
    | some nos => exact h
  split
  · next heq =>
    rw [heq] at hcopied
    exact hcopied.moveChunk _
  · next heq =>
    rw [heq] at hcopied
    exact hcopied.loseChunk _

theorem failChannel (n ch : Nat) (hard rehearsal : Bool) (copied : Copied) :
    (m.failChannel n ch hard rehearsal copied).Showing k := by
  have hfails := fun hs => (h.putStack n hs).raise .hbm_CHAN_FAIL n ch
  have hevac := fun hs => (hfails hs).ite (c := hard = true) ((hfails hs).setF (k' := K.hbmStatus_EVACUATING n) rfl 1)
  unfold Module.failChannel
  dsimp only
  refine h.ite (ite (setF (raise ?_ ..) rfl _) ?_)
  all_goals exact ((hevac _).clearOctet ..).ite (hevac _)

end Module.Showing

/-- An uncorrectable word of a stack shows (R335), whatever its loss moves. -/
theorem Module.showing_hbmUe {n : Nat} {k : FKey} (hk : evtKey .hbm_HBM_UE n = some k) (m : Module) (ch chunk : Nat) :
    (m.hbmUe n ch chunk).Showing k := by
  have hshown := fun hs => ((m.putStack n hs).showing_raise hk 0).addSat (k' := K.hbmEcc_UE n) rfl 1 0xFFFF
  have hlost := fun hs (b : Bool) => ((hshown hs).loseChunk chunk).ite (c := b = true) (hshown hs)
  exact ((hlost ..).failChannel ..).ite (hlost ..)

end Sys2Proof.Machine

/-! SUPPORT. Carafe chunks, the wheel and the shapers: how a chunk closes and is read back, what a slot of the wheel refills,
and where a written rate waits (spec/06_buffers_resequencing_backpressure.md R177; spec/07_shaping_and_vc_weights.md R201,
R202; spec/12_hbm_memory.md R336; spec/13_profiles_and_determinism.md R360), and the statement about them settled. -/

namespace Sys2Proof.Machine

/-! ### Commands -/

theorem exec_carafeChunkClose (lport : Fin 2048) (vc : Fin 8) (s : State) :
    exec (.carafeChunkClose lport vc) s = .next { s with mod := s.mod.closeChunk lport.val vc.val } := rfl

theorem exec_carafeReadback (lport : Fin 2048) (vc : Fin 8) (s : State) :
    exec (.carafeReadback lport vc none) s = .next { s with mod := s.mod.readBack lport.val vc.val } := rfl

theorem exec_carafeReadback_bad (lport : Fin 2048) (vc i : Fin 8) (s : State) :
    exec (.carafeReadback lport vc (some i)) s = .next { s with mod := s.mod.readBackBad lport.val vc.val i.val } := rfl

theorem exec_wheelSlot (sec : Fin 8) (s : State) :
    exec (.wheelSlot sec) s = .next { s with mod := s.mod.wheelSlot sec.val } := rfl

theorem exec_tmQRateWrite (req : Requester) (sec : Fin 8) (data : Word) (s : State) :
    exec (.tmQRateWrite req sec data) s =
      .next { s with mod := s.mod.accessWrite req (regAddr .tmQRate sec.val 0) data } := rfl

theorem exec_tmQBurstWrite (req : Requester) (sec : Fin 8) (data : Word) (s : State) :
    exec (.tmQBurstWrite req sec data) s =
      .next { s with mod := s.mod.accessWrite req (regAddr .tmQBurst sec.val 0) data } := rfl

/-! ### What a queue holds -/

@[simp] theorem Module.q_putQ (m : Module) (lport vc : Nat) (q : OutQueue) : (m.putQ lport vc q).q lport vc = q :=
  Tbl.get_put_self ..

theorem Module.q_congr {m' m : Module} (h : m'.buf.queues = m.buf.queues) (lport vc : Nat) :
    m'.q lport vc = m.q lport vc := by
  rw [Module.q, h, Module.q]

/-- A queue holds the frames and chunks that it held, and so do the contexts. -/
structure Module.KeepsFrames (m' m : Module) (lport vc : Nat) : Prop where
  sram : (m'.q lport vc).sram = (m.q lport vc).sram
  carafe : (m'.q lport vc).carafe = (m.q lport vc).carafe
  ctxs : m'.buf.ctxs = m.buf.ctxs

namespace Module.KeepsFrames

theorem refl (m : Module) (lport vc : Nat) : m.KeepsFrames m lport vc := ⟨rfl, rfl, rfl⟩

variable {m' m : Module} {lport vc : Nat} (h : m'.KeepsFrames m lport vc)
include h

theorem of_buf {m₂ : Module} (hqueues : m₂.buf.queues = m'.buf.queues) (hctxs : m₂.buf.ctxs = m'.buf.ctxs) :
    m₂.KeepsFrames m lport vc where
  sram := by rw [Module.q_congr hqueues, h.sram]
  carafe := by rw [Module.q_congr hqueues, h.carafe]
  ctxs := hctxs.trans h.ctxs

/-- A write of what a queue has beside its frames. -/
theorem putRest (spilling : Bool) (sh : Shaper) (deficit : Nat) :
    (m'.putQ lport vc { m'.q lport vc with spilling := spilling, shaper := sh, deficit := deficit }).KeepsFrames m lport
      vc where
  sram := by rw [Module.q_putQ, ← h.sram]
  carafe := by rw [Module.q_putQ, ← h.carafe]
  ctxs := h.ctxs

theorem raise (e : Ev) (i : Nat) (d : Nat := 0) : (m'.raise e i d).KeepsFrames m lport vc :=
  h.of_buf (by rw [Module.raise_buf]) (by rw [Module.raise_buf])

theorem ite {c : Prop} [Decidable c] {m₂ : Module} (h₂ : m₂.KeepsFrames m lport vc) :
    (if c then m' else m₂).KeepsFrames m lport vc := by
  split
  · exact h
  · exact h₂

theorem refillQ : (m'.refillQ lport vc).KeepsFrames m lport vc := by
  unfold Module.refillQ
  exact ((h.putRest ..).raise ..).ite (h.putRest ..)

theorem activateQ : (m'.activateQ lport vc).KeepsFrames m lport vc := (h.putRest ..).refillQ

theorem emptiedQ : (m'.emptiedQ lport vc).KeepsFrames m lport vc := by
  unfold Module.emptiedQ
  exact ((h.putRest ..).raise ..).ite (h.putRest ..)

theorem settleQ (before : OutQueue) : (m'.settleQ lport vc before).KeepsFrames m lport vc := by
  unfold Module.settleQ
  exact (h.ite h.emptiedQ).ite (h.activateQ.ite (h.refillQ.ite h))

theorem settleSpill : (m'.settleSpill lport vc).KeepsFrames m lport vc := h.putRest ..

theorem readChunks (nos : List Nat) : (m'.readChunks nos).KeepsFrames m lport vc := by
  have hbuf : (m'.readChunks nos).buf = m'.buf := Module.each_keeps Module.buf fun _ _ _ => rfl
  exact h.of_buf (by rw [hbuf]) (by rw [hbuf])

theorem spend (s : Nat) : (m'.spend s).KeepsFrames m lport vc := h.of_buf rfl rfl

theorem noteFull (p : Nat) : (m'.noteFull p).KeepsFrames m lport vc := by
  have hports (ps : List Nat) : ({ m' with buf := { m'.buf with fullPorts := ps } } : Module).KeepsFrames m lport vc :=
    h.of_buf rfl rfl
  unfold Module.noteFull
  exact ((hports _).raise ..).ite (h.ite (hports _))

theorem freeChunks (nos : List Nat) : (m'.freeChunks nos).KeepsFrames m lport vc := h.of_buf rfl rfl

theorem freeChunk (p : Nat) (c : Chunk) : (m'.freeChunk p c).KeepsFrames m lport vc := (h.freeChunks _).noteFull p

end Module.KeepsFrames

/-! ### Chunks close, and are read back (R177) -/

theorem closeFirst_append {older rest : List Chunk} {c : Chunk} (holder : ∀ x ∈ older, x.closed = true)
    (hc : c.closed = false) : closeFirst (older ++ c :: rest) = older ++ { c with closed := true } :: rest := by
  induction older with
  | nil => simp [closeFirst, hc]
  | cons x older ih =>
    obtain ⟨hx, holder⟩ := List.forall_mem_cons.1 holder
    simp [closeFirst, hx, ih holder]

section
variable {m : Module} {lport vc : Nat} {c : Chunk} {rest : List Chunk}

theorem Module.closeChunk_filling {older : List Chunk} (hq : (m.q lport vc).carafe = older ++ c :: rest)
    (holder : ∀ x ∈ older, x.closed = true) (hc : c.closed = false) :
    m.closeChunk lport vc =
      m.putQ lport vc { m.q lport vc with carafe := older ++ { c with closed := true } :: rest } := by
  have hfills : ¬ (m.q lport vc).carafe.all (·.closed) = true := by simp [hq, hc]
  rw [← closeFirst_append holder hc, ← hq]
  exact if_neg hfills

theorem Module.closeChunk_closed (h : ∀ x ∈ (m.q lport vc).carafe, x.closed = true) : m.closeChunk lport vc = m :=
  if_pos (List.all_eq_true.2 h)

theorem Module.readBack_waits (h : m.mayReadBack lport vc = false) : m.readBack lport vc = m := by
  unfold Module.readBack
  dsimp only
  split
  · rfl
  · simp [h]

theorem Module.readBackBad_waits (h : m.mayReadBack lport vc = false) (burst : Nat) : m.readBackBad lport vc burst = m := by
  unfold Module.readBackBad
  split
  · rfl
  · simp [h]

/-- Without a context of the output that waits for a place, nothing tries again. -/
theorem Module.resume_unblocked (h : ∀ x ∈ m.buf.ctxs, x.lport = lport → x.blocked = false) : m.resume lport = m := by
  have hnone : m.buf.ctxs.filter (fun c => c.lport == lport && c.blocked) = [] := by
    refine List.filter_eq_nil_iff.2 fun x hx => ?_
    simpa using h x hx
  rw [Module.resume, hnone]
  rfl

/-- The oldest chunk of a queue is taken out of the Carafe, and `rest` is left. -/
def Module.takeOldest (m : Module) (lport vc : Nat) (c : Chunk) (rest : List Chunk) : Module :=
  ((((m.putQ lport vc { m.q lport vc with carafe := rest }).readChunks [c.index]).spend (sectorOf lport)).freeChunk
    (portOf lport) c).settleSpill lport vc

theorem Module.takeOldest_keepsFrames :
    (m.takeOldest lport vc c rest).KeepsFrames (m.putQ lport vc { m.q lport vc with carafe := rest }) lport vc :=
  ((((Module.KeepsFrames.refl ..).readChunks _).spend _).freeChunk ..).settleSpill

/-- The frames of a chunk that is not to be handed back enter the SRAM part. -/
theorem Module.readBack_oldest (hq : (m.q lport vc).carafe = c :: rest) (hmay : m.mayReadBack lport vc = true)
    (hback : c.handBack = false) :
    m.readBack lport vc =
      (((m.takeOldest lport vc c rest).putQ lport vc { (m.takeOldest lport vc c rest).q lport vc with
        sram := ((m.takeOldest lport vc c rest).q lport vc).sram ++ c.frames }).settleQ lport vc (m.q lport vc)).resume
          lport := by
  have hstay : c.frames.filter (fun f => !c.handBack || f.bound) = c.frames := by simp [hback]
  have hgo : c.frames.filter (fun f => !(!c.handBack || f.bound)) = [] := by simp [hback]
  simp only [Module.readBack, hq, hmay, Bool.not_true, Bool.false_eq_true, if_false, hstay, hgo]
  rfl

theorem Module.q_readBack (hq : (m.q lport vc).carafe = c :: rest) (hmay : m.mayReadBack lport vc = true)
    (hback : c.handBack = false) (hctxs : ∀ x ∈ m.buf.ctxs, x.lport = lport → x.blocked = false) :
    ((m.readBack lport vc).q lport vc).carafe = rest ∧
      ((m.readBack lport vc).q lport vc).sram = (m.q lport vc).sram ++ c.frames := by
  have htaken := m.takeOldest_keepsFrames (lport := lport) (vc := vc) (c := c) (rest := rest)
  have hsettled := (Module.KeepsFrames.refl ((m.takeOldest lport vc c rest).putQ lport vc
    { (m.takeOldest lport vc c rest).q lport vc with
      sram := ((m.takeOldest lport vc c rest).q lport vc).sram ++ c.frames }) lport vc).settleQ (m.q lport vc)
  rw [Module.readBack_oldest hq hmay hback, Module.resume_unblocked]
  · rw [hsettled.carafe, hsettled.sram, Module.q_putQ, htaken.carafe, htaken.sram, Module.q_putQ]
    exact ⟨rfl, rfl⟩
  · rw [hsettled.ctxs]
    exact htaken.ctxs ▸ hctxs

/-- A word of the oldest chunk that cannot be corrected shows as HBM_UE of its stack (R336), whatever its loss moves. -/
theorem Module.getF_readBackBad (hq : (m.q lport vc).carafe = c :: rest) (hmay : m.mayReadBack lport vc = true)
    {x : HbmChunk} (hx : m.hbmChunk c.index = some x) {k : FKey}
    (hk : evtKey .hbm_HBM_UE (octetStack x.sector x.octet) = some k) (burst : Nat) :
    (m.readBackBad lport vc burst).getF k = 1 := by
  have hchunks : (m.readChunks [c.index]).hbm.chunks = m.hbm.chunks :=
    Module.each_keeps (fun m => m.hbm.chunks) fun _ _ _ => rfl
  have hfound : ((m.readChunks [c.index]).spend (sectorOf lport)).hbmChunk c.index = some x := by
    rw [← hx, Module.hbmChunk, Module.hbmChunk, ← hchunks]
    rfl
  simp only [Module.readBackBad, hq, hmay, Bool.not_true, Bool.false_eq_true, if_false, hfound]
  exact ((Module.showing_hbmUe hk ..).resume lport).on

end

/-! ### The wheel (R201) -/

section
variable {m : Module} {s : Nat}

theorem Module.wheelSlot_nothing (h : m.dueIn s (m.buf.wheel / slotUnits % 4096) = []) : m.wheelSlot s = m := by
  simp only [Module.wheelSlot, h]
  rfl

/-- One entry, with no laps left, is due and refills. -/
theorem Module.wheelSlot_due {k : Nat × Nat} {t sl : Nat} (h : m.dueIn s (m.buf.wheel / slotUnits % 4096) = [k])
    (hwheel : (m.q k.1 k.2).shaper.wheel = some (t, sl, 0)) : m.wheelSlot s = m.refillQ k.1 k.2 := by
  simp [Module.wheelSlot, h, hwheel, Module.each]

end

/-! ### Shapers (R202, R360) -/

theorem target_tmQRate (sec : Fin 8) : target (regAddr .tmQRate sec.val 0).toNat = .reg .tmQRate sec.val 0 := by
  revert sec
  decide

theorem target_tmQBurst (sec : Fin 8) : target (regAddr .tmQBurst sec.val 0).toNat = .reg .tmQBurst sec.val 0 := by
  revert sec
  decide

theorem clampTo_zero (most n : Nat) : clampTo 0 most n = min most n := by
  unfold clampTo
  split
  · omega
  · split <;> omega

theorem Shaper.apply_pending (sh : Shaper) (wheel : Nat) : (sh.apply wheel).pending = sh.pending := by
  unfold Shaper.apply
  split <;> rfl

theorem Module.askShaper_eq (m : Module) (l v : Nat) (rate burst : Option Nat) (apply : Bool) :
    m.askShaper l v rate burst apply =
      { m with buf := (m.askShaper l v rate burst apply).buf } := rfl

/-- What is asked for of a shaper is pending; what is not is as it stood. -/
theorem Module.pending_askShaper (m : Module) (l v : Nat) (rate burst : Option Nat) (apply : Bool) :
    ((m.askShaper l v rate burst apply).q l v).shaper.pending = ((m.q l v).shaper.ask rate burst).pending := by
  rw [Module.askShaper, Module.q_putQ]
  split
  · exact Shaper.apply_pending ..
  · rfl

section
variable {m : Module} {req : Requester} {sec : Fin 8} {l v : Nat}

theorem Module.accessWrite_tmQRate (hmay : m.mayAccess req 1 = true) (hans : m.answers .tm sec.val = true)
    (hlive : sec.val < m.liveCount .tm) (hsel : m.tmSel sec.val = (l, v)) (hnow : m.holdsWrites = false) (data : Word) :
    m.accessWrite req (regAddr .tmQRate sec.val 0) data =
      m.askShaper l v (some (min 800000 (bitsOf data.toNat 19 0))) none (bitOf data.toNat 31) := by
  rw [Module.accessWrite_now hmay (Module.reach_of_target (target_tmQRate sec) hans hlive) (.inr hnow), hsel, ← clampTo_zero]
  rfl

theorem Module.accessWrite_tmQBurst (hmay : m.mayAccess req 1 = true) (hans : m.answers .tm sec.val = true)
    (hlive : sec.val < m.liveCount .tm) (hsel : m.tmSel sec.val = (l, v)) (hnow : m.holdsWrites = false) (data : Word) :
    m.accessWrite req (regAddr .tmQBurst sec.val 0) data =
      m.askShaper l v none (some (clampTo 9 1024 (bitsOf data.toNat 10 0))) false := by
  rw [Module.accessWrite_now hmay (Module.reach_of_target (target_tmQBurst sec) hans hlive) (.inr hnow), hsel]
  rfl

end

/-! ### An event in every sector -/

theorem Module.counter_each_raise {e : Ev} {l : List Nat} {i : Nat} {m : Module} (hl : l.Nodup) (hi : i ∈ l)
    (hc : m.countsNow e.num i = true) :
    (m.each l fun m t => m.raise e t).counter e.num i = (m.counter e.num i + 1) % 2 ^ 64 := by
  induction l generalizing m with
  | nil => cases hi
  | cons a t ih =>
    obtain ⟨hat, ht⟩ := List.nodup_cons.1 hl
    change ((m.raise e a).each t fun m t => m.raise e t).counter e.num i = _
    by_cases hai : a = i
    · subst hai
      rw [Module.each_keeps (fun m => m.counter e.num a) fun m b hb => ?_, Module.counter_raise, if_pos ⟨rfl, hc⟩]
      rw [Module.counter_raise, if_neg]
      rintro ⟨hba, -⟩
      exact hat ((Prod.mk.inj hba).2 ▸ hb)
    · have hc' : (m.raise e a).countsNow e.num i = true := by rwa [Module.countsNow, Module.raise_power]
      rw [ih ht ((List.mem_cons.1 hi).resolve_left (Ne.symm hai)) hc', Module.counter_raise, if_neg]
      rintro ⟨hai', -⟩
      exact hai (Prod.mk.inj hai').2

/-- An event that is raised in every sector happens in each that counts it. -/
theorem Module.happened_each_raise {e : Ev} {l : List Nat} {i : Nat} {m : Module} (hl : l.Nodup) (hi : i ∈ l)
    (hc : m.countsNow e.num i = true) : (m.each l fun m t => m.raise e t).Happened m e i :=
  ⟨Module.counter_each_raise hl hi hc, fun _ hk => Module.getF_each_raise hl hi hk m⟩

/-- A sector whose traffic manager answers is in no reset. -/
theorem Module.up_of_answers {m : Module} {i : Nat} (h : m.answers .tm i = true) : i ∉ m.power.sectorsDown := by
  intro hdown
  simp [Module.answers, Module.blockDown, hdown] at h

/-- Settles O37, command by command: a chunk that moves keeps the frames of its queue, and a lost one clears no event. -/
theorem carafeWheelAndShapersMove : Obligations.CarafeWheelAndShapersMove := by
  refine ⟨fun lport vc sec c older rest k s => ⟨fun hq holder hc => ?_, fun hclosed => ?_, fun hq hmay hback hctxs => ?_,
    fun bad hwaits => ?_, fun i x hq hmay hx => ?_, fun hnone => ?_, fun t sl hdue hwheel => ?_⟩,
    fun req sec data l v s hmay hans hlive hsel => ⟨fun hnow => ⟨?_, ?_⟩, fun hholds => ?_⟩⟩
  · refine ⟨_, exec_carafeChunkClose .., ?_⟩
    rw [Module.closeChunk_filling hq holder hc, Module.q_putQ]
    exact ⟨rfl, rfl⟩
  · rw [exec_carafeChunkClose, Module.closeChunk_closed hclosed]
  · exact ⟨_, exec_carafeReadback .., Module.q_readBack hq hmay hback hctxs⟩
  · cases bad with
    | none => rw [exec_carafeReadback, Module.readBack_waits hwaits]
    | some i => rw [exec_carafeReadback_bad, Module.readBackBad_waits hwaits]
  · exact ⟨_, exec_carafeReadback_bad .., fun key hkey => Module.getF_readBackBad hq hmay hx hkey _⟩
  · rw [exec_wheelSlot, Module.wheelSlot_nothing hnone]
  · rw [exec_wheelSlot, Module.wheelSlot_due hdue hwheel]
  · refine ⟨_, exec_tmQRateWrite .., ?_⟩
    rw [Module.accessWrite_tmQRate hmay hans hlive hsel hnow, Module.pending_askShaper]
    exact ⟨rfl, Module.askShaper_eq ..⟩
  · refine ⟨_, exec_tmQBurstWrite .., ?_⟩
    rw [Module.accessWrite_tmQBurst hmay hans hlive hsel hnow, Module.pending_askShaper]
    exact ⟨rfl, Module.askShaper_eq ..⟩
  · refine ⟨_, exec_tmQRateWrite .., ?_⟩
    rw [Module.accessWrite_held hmay (Module.reach_of_target (target_tmQRate sec) hans hlive) rfl hholds]
    refine ⟨Module.each_keeps Module.buf fun m t _ => m.raise_buf .., ?_, ?_⟩
    · rw [Module.each_keeps (fun m => m.lock.held) fun m t _ => congrArg LockUnit.held (m.raise_lock ..)]
      exact List.length_append
    · exact (Module.happened_each_raise List.nodup_range (List.mem_range.2 hlive)
        (Module.countsNow_of_up (m := s.mod.holdWrite _) (Module.up_of_answers hans) _)).of_counters rfl

end Sys2Proof.Machine

/-! SUPPORT. Heat: what a reading of a stack's sensor, its silence and a stack that stays hot leave in the registers
(spec/12_hbm_memory.md R335, R337, R339), and the statement about them settled. -/

namespace Sys2Proof.Machine

/-! ### Commands -/

theorem exec_hbmTempRead (k : Fin 32) (temp : BitVec 8) (s : State) :
    exec (.hbmTempRead k temp) s = .next { s with mod := s.mod.hbmTemp k.val temp.toNat } := rfl

theorem exec_hbmHot (k : Fin 32) (s : State) : exec (.hbmHot k) s = .next { s with mod := s.mod.hbmHot k.val } := rfl

theorem exec_hbmSensorTimeout (k : Fin 32) (s : State) :
    exec (.hbmSensorTimeout k) s = .next { s with mod := s.mod.hbmSilent k.val } := rfl

theorem exec_hbmRefresh (k : Fin 32) (s : State) : exec (.hbmRefresh k) s = .next s := rfl

theorem exec_scrubLate (k : Fin 32) (s : State) :
    exec (.scrubLate k) s = .next { s with mod := s.mod.scrubLate k.val } := rfl

/-! ### Widths of the fields -/

theorem FKey.width_hbmStatus_STATE (i : Nat) : FKey.width (K.hbmStatus_STATE i) = 3 :=
  FKey.width_of_mem (d := fd 31 29 .ro) (by decide) i 0

theorem FKey.width_hbmStatus_ADMIT (i : Nat) : FKey.width (K.hbmStatus_ADMIT i) = 4 :=
  FKey.width_of_mem (d := fd 23 20 .ro) (by decide) i 0

theorem FKey.width_hbmStatus_HOT_ALARM (i : Nat) : FKey.width (K.hbmStatus_HOT_ALARM i) = 1 :=
  FKey.width_of_mem (d := fd 19 19 .ro) (by decide) i 0

theorem FKey.width_hbmStatus_EVACUATING (i : Nat) : FKey.width (K.hbmStatus_EVACUATING i) = 1 :=
  FKey.width_of_mem (d := fd 18 18 .ro) (by decide) i 0

theorem FKey.width_hbmStatus_REFRESH_2X (i : Nat) : FKey.width (K.hbmStatus_REFRESH_2X i) = 1 :=
  FKey.width_of_mem (d := fd 17 17 .ro) (by decide) i 0

theorem FKey.width_hbmTemp_TEMP (i : Nat) : FKey.width (K.hbmTemp_TEMP i) = 8 :=
  FKey.width_of_mem (d := fd 7 0 .ro) (by decide) i 0

/-- A value that fits its field is stored uncut. -/
theorem Module.getF_setF_of_width {k : FKey} {n v : Nat} (hwidth : k.width = n) (hv : v < 2 ^ n) (m : Module) :
    (m.setF k v).getF k = v := by
  have hfits : v < 2 ^ k.width := hwidth.symm ▸ hv
  exact (m.getF_setF_self k v).trans (Nat.mod_eq_of_lt hfits)

/-! ### What a stack holds beside its registers -/

@[simp] theorem Module.stack_putStack (m : Module) (k : Nat) (h : HbmStack) : (m.putStack k h).stack k = h :=
  Tbl.get_put_self ..

theorem Module.stack_congr {m' m : Module} (h : m'.hbm = m.hbm) (k : Nat) : m'.stack k = m.stack k := by
  rw [Module.stack, h, Module.stack]

@[simp] theorem Module.stack_setF (m : Module) (f : FKey) (v k : Nat) : (m.setF f v).stack k = m.stack k := rfl

@[simp] theorem Module.stack_raise (m : Module) (e : Ev) (i d k : Nat) : (m.raise e i d).stack k = m.stack k :=
  Module.stack_congr (m.raise_hbm ..) k

/-- A stack's events are counted whatever sector is in reset (R471). -/
theorem Module.countsNow_hbm {e : Ev} (he : e.num / 32 = 26) (m : Module) (i : Nat) : m.countsNow e.num i = true :=
  Module.countsNow_of_group (.inr (by omega)) m i

/-! ### Admission (R339) -/

section
variable {m : Module} {k t : Nat}

/-- A hot stack gives up a quarter of its bandwidth. -/
theorem Module.stepAdmit_hot (hhot : m.getF (K.hbmCtrl_HOT k) ≤ t) (ha : 1 < m.getF (K.hbmStatus_ADMIT k)) :
    m.stepAdmit k t =
      (m.setF (K.hbmStatus_ADMIT k) (m.getF (K.hbmStatus_ADMIT k) - 1)).raise .hbm_THROTTLE k := by
  simp only [Module.stepAdmit, if_pos hhot, if_pos ha]

/-- One that is 3 °C below HOT takes a quarter back. -/
theorem Module.stepAdmit_cool (hcool : t + 3 ≤ m.getF (K.hbmCtrl_HOT k)) (ha : m.getF (K.hbmStatus_ADMIT k) < 4) :
    m.stepAdmit k t = m.setF (K.hbmStatus_ADMIT k) (m.getF (K.hbmStatus_ADMIT k) + 1) := by
  have hlow : ¬ m.getF (K.hbmCtrl_HOT k) ≤ t := by omega
  simp only [Module.stepAdmit, if_neg hlow, if_pos (And.intro hcool ha)]

/-- Between the two it keeps what it has. -/
theorem Module.stepAdmit_between (hlow : t < m.getF (K.hbmCtrl_HOT k)) (hnear : m.getF (K.hbmCtrl_HOT k) < t + 3) :
    m.stepAdmit k t = m := by
  have hcool : ¬ (t + 3 ≤ m.getF (K.hbmCtrl_HOT k) ∧ m.getF (K.hbmStatus_ADMIT k) < 4) := by omega
  simp only [Module.stepAdmit, if_neg (Nat.not_le_of_lt hlow), if_neg hcool]

theorem Module.OnlyShows.stepAdmit {m' : Module} (h : m'.OnlyShows m) (k t : Nat) : (m'.stepAdmit k t).OnlyShows m := by
  unfold Module.stepAdmit
  dsimp only
  split
  · split
    · exact (h.setF ..).raise ..
    · exact h
  · split
    · exact h.setF ..
    · exact h

theorem Module.getF_stepAdmit_ne {f : FKey} (hf : f ≠ K.hbmStatus_ADMIT k) (hevt : f.reg ≠ .hbmEvt) :
    (m.stepAdmit k t).getF f = m.getF f := by
  unfold Module.stepAdmit
  dsimp only
  split
  · split
    · rw [Module.getF_raise_of_reg rfl hevt, m.getF_setF_ne _ hf.symm]
    · rfl
  · split
    · exact m.getF_setF_ne _ hf.symm
    · rfl

end

/-! ### Acting on a temperature (R337, R339) -/

/-- A stack's refresh and its alarm at a temperature. -/
def Module.showHeat (m : Module) (k t : Nat) : Module :=
  let m := m.setB (K.hbmStatus_REFRESH_2X k) (decide (85 < t))
  if t < m.getF (K.hbmCtrl_HOT k) then m.setF (K.hbmStatus_HOT_ALARM k) 0 else m

section
variable (m : Module) (k t : Nat)

theorem Module.showHeat_onlyShows : (m.showHeat k t).OnlyShows m := by
  unfold Module.showHeat
  dsimp only
  split
  · exact ((Module.OnlyShows.refl m).setF ..).setF ..
  · exact (Module.OnlyShows.refl m).setF ..

theorem Module.getF_showHeat_REFRESH_2X :
    (m.showHeat k t).getF (K.hbmStatus_REFRESH_2X k) = if 85 < t then 1 else 0 := by
  have hset : (m.setB (K.hbmStatus_REFRESH_2X k) (decide (85 < t))).getF (K.hbmStatus_REFRESH_2X k) =
      if 85 < t then 1 else 0 := by
    rw [Module.setB, Module.getF_setF_self, FKey.width_hbmStatus_REFRESH_2X]
    by_cases h : 85 < t <;> simp [h, flag]
  unfold Module.showHeat
  dsimp only
  split
  · rw [Module.getF_setF_ne _ _ (by simp), hset]
  · exact hset

theorem Module.getF_showHeat_HOT_ALARM {m : Module} {k t : Nat} (h : t < m.getF (K.hbmCtrl_HOT k)) :
    (m.showHeat k t).getF (K.hbmStatus_HOT_ALARM k) = 0 := by
  have hhot : t < (m.setB (K.hbmStatus_REFRESH_2X k) (decide (85 < t))).getF (K.hbmCtrl_HOT k) := by
    rwa [Module.setB, m.getF_setF_ne _ (by simp)]
  simp only [Module.showHeat, if_pos hhot, Module.getF_setF_self, Nat.zero_mod]

theorem Module.getF_showHeat_ne {f : FKey} (hrefresh : f ≠ K.hbmStatus_REFRESH_2X k)
    (halarm : f ≠ K.hbmStatus_HOT_ALARM k) : (m.showHeat k t).getF f = m.getF f := by
  unfold Module.showHeat
  dsimp only
  split
  · rw [Module.getF_setF_ne _ _ halarm.symm, Module.setB, m.getF_setF_ne _ hrefresh.symm]
  · exact m.getF_setF_ne _ hrefresh.symm

theorem Module.getF_showHeat_HOT :
    (m.showHeat k t).getF (K.hbmCtrl_HOT k) = m.getF (K.hbmCtrl_HOT k) := m.getF_showHeat_ne k t (by simp) (by simp)

theorem Module.getF_showHeat_ADMIT :
    (m.showHeat k t).getF (K.hbmStatus_ADMIT k) = m.getF (K.hbmStatus_ADMIT k) :=
  m.getF_showHeat_ne k t (by simp) (by simp)

theorem Module.showHeat_counters : (m.showHeat k t).counters = m.counters := by
  unfold Module.showHeat
  dsimp only
  split <;> rfl

/-- A ready stack is throttled as well (R342). -/
theorem Module.heed_eq :
    m.heed k =
      if m.stackReady k then (m.showHeat k (m.tempNow k)).stepAdmit k (m.tempNow k) else m.showHeat k (m.tempNow k) := by
  have hstate : (m.showHeat k (m.tempNow k)).stackReady k = m.stackReady k := by
    rw [Module.stackReady, Module.getF_showHeat_ne _ _ _ (by simp) (by simp), Module.stackReady]
  rw [← hstate]
  rfl

theorem Module.heed_onlyShows : (m.heed k).OnlyShows m := by
  have hshown := m.showHeat_onlyShows k (m.tempNow k)
  rw [Module.heed_eq]
  split
  · exact hshown.stepAdmit ..
  · exact hshown

theorem Module.stack_heed : (m.heed k).stack k = m.stack k := by
  rw [Module.stack_congr]
  rw [m.heed_onlyShows k]

end

section
variable {m : Module} {k : Nat} {f : FKey}

/-- The throttle leaves what the temperature shows. -/
theorem Module.getF_heed (hf : f ≠ K.hbmStatus_ADMIT k) (hevt : f.reg ≠ .hbmEvt) :
    (m.heed k).getF f = (m.showHeat k (m.tempNow k)).getF f := by
  rw [Module.heed_eq]
  split
  · exact Module.getF_stepAdmit_ne hf hevt
  · rfl

/-- What no temperature changes. -/
theorem Module.getF_heed_ne (hreg : f.reg ≠ .hbmStatus) (hevt : f.reg ≠ .hbmEvt) : (m.heed k).getF f = m.getF f := by
  have hne (lo : Nat) : f ≠ ⟨.hbmStatus, k, 0, lo⟩ := fun e => hreg (e ▸ rfl)
  rw [Module.getF_heed (hne _) hevt, Module.getF_showHeat_ne _ _ _ (hne _) (hne _)]

theorem Module.heed_ready (hready : m.stackReady k = true) :
    m.heed k = (m.showHeat k (m.tempNow k)).stepAdmit k (m.tempNow k) := (m.heed_eq k).trans (if_pos hready)

theorem Module.heed_hot (hready : m.stackReady k = true) (hhot : m.getF (K.hbmCtrl_HOT k) ≤ m.tempNow k)
    (ha : 1 < m.getF (K.hbmStatus_ADMIT k)) (hmost : m.getF (K.hbmStatus_ADMIT k) ≤ 4) :
    (m.heed k).getF (K.hbmStatus_ADMIT k) = m.getF (K.hbmStatus_ADMIT k) - 1 ∧
      (m.heed k).Happened m .hbm_THROTTLE k := by
  rw [← m.getF_showHeat_HOT k (m.tempNow k)] at hhot
  rw [← m.getF_showHeat_ADMIT k (m.tempNow k)] at ha hmost ⊢
  rw [Module.heed_ready hready, Module.stepAdmit_hot hhot ha]
  refine ⟨?_, (Module.happened_raise (Module.countsNow_hbm rfl _ k) 0).of_counters (m.showHeat_counters ..)⟩
  rw [Module.getF_raise_of_reg rfl (by simp)]
  exact Module.getF_setF_of_width (FKey.width_hbmStatus_ADMIT k) (by omega) _

theorem Module.heed_cool (hready : m.stackReady k = true) (hcool : m.tempNow k + 3 ≤ m.getF (K.hbmCtrl_HOT k))
    (ha : m.getF (K.hbmStatus_ADMIT k) < 4) :
    (m.heed k).getF (K.hbmStatus_ADMIT k) = m.getF (K.hbmStatus_ADMIT k) + 1 := by
  rw [← m.getF_showHeat_HOT k (m.tempNow k)] at hcool
  rw [← m.getF_showHeat_ADMIT k (m.tempNow k)] at ha ⊢
  rw [Module.heed_ready hready, Module.stepAdmit_cool hcool ha]
  exact Module.getF_setF_of_width (FKey.width_hbmStatus_ADMIT k) (by omega) _

theorem Module.heed_between (hready : m.stackReady k = true) (hlow : m.tempNow k < m.getF (K.hbmCtrl_HOT k))
    (hnear : m.getF (K.hbmCtrl_HOT k) < m.tempNow k + 3) :
    (m.heed k).getF (K.hbmStatus_ADMIT k) = m.getF (K.hbmStatus_ADMIT k) := by
  rw [← m.getF_showHeat_HOT k (m.tempNow k)] at hlow hnear
  rw [Module.heed_ready hready, Module.stepAdmit_between hlow hnear, Module.getF_showHeat_ADMIT]

end

/-! ### A sensor is read, or silent (R339) -/

/-- The module with a reading in the registers of a stack, whose sensor is heard. -/
def Module.takeTemp (m : Module) (k temp : Nat) : Module :=
  ((m.setF (K.hbmTemp_TEMP k) temp).setF (K.hbmTemp_MAX k) (max temp (m.getF (K.hbmTemp_MAX k)))).putStack k
    { m.stack k with silent := false }

/-- The module with a stack's sensor silent. -/
def Module.loseSensor (m : Module) (k : Nat) : Module := m.putStack k { m.stack k with silent := true }

section
variable {m : Module} {k : Nat}

theorem Module.hbmTemp_eq (h : m.getF (K.hbmStatus_STATE k) ≠ 0) (temp : Nat) :
    m.hbmTemp k temp = (m.takeTemp k temp).heed k := if_neg h

theorem Module.hbmSilent_eq (h : m.getF (K.hbmStatus_STATE k) ≠ 0) : m.hbmSilent k = (m.loseSensor k).heed k := if_neg h

theorem Module.getF_takeTemp_TEMP (temp : Nat) :
    (m.takeTemp k temp).getF (K.hbmTemp_TEMP k) = temp % 2 ^ (K.hbmTemp_TEMP k).width :=
  (Module.getF_setF_ne _ _ (by simp)).trans (m.getF_setF_self ..)

theorem Module.getF_takeTemp {f : FKey} (hreg : f.reg ≠ .hbmTemp) (temp : Nat) : (m.takeTemp k temp).getF f = m.getF f := by
  have hne (lo : Nat) : ⟨.hbmTemp, k, 0, lo⟩ ≠ f := fun e => hreg (e ▸ rfl)
  exact (Module.getF_setF_ne _ _ (hne _)).trans (m.getF_setF_ne _ (hne _))

theorem Module.stackReady_takeTemp (temp : Nat) : (m.takeTemp k temp).stackReady k = m.stackReady k := by
  rw [Module.stackReady, Module.getF_takeTemp (by simp), Module.stackReady]

/-- A stack that has just been read is treated as at its reading. -/
theorem Module.tempNow_takeTemp {temp : Nat} (h : temp < 256) : (m.takeTemp k temp).tempNow k = temp := by
  have hheard : ((m.takeTemp k temp).stack k).silent = false := congrArg HbmStack.silent (Module.stack_putStack ..)
  rw [Module.tempNow, hheard, if_neg Bool.false_ne_true, Module.getF_takeTemp_TEMP, FKey.width_hbmTemp_TEMP]
  exact Nat.mod_eq_of_lt h

theorem Module.silent_loseSensor : ((m.loseSensor k).stack k).silent = true :=
  congrArg HbmStack.silent (Module.stack_putStack ..)

/-- One whose sensor is silent is treated as 10 °C above HOT. -/
theorem Module.tempNow_of_silent (h : (m.stack k).silent = true) : m.tempNow k = m.getF (K.hbmCtrl_HOT k) + 10 := if_pos h

/-- A stack at 25 % that is still hot alarms. -/
theorem Module.hbmHot_alarms (hready : m.stackReady k = true) (ha : m.getF (K.hbmStatus_ADMIT k) = 1)
    (hhot : m.getF (K.hbmCtrl_HOT k) ≤ m.tempNow k) :
    m.hbmHot k = ((m.raise .hbm_HBM_HOT k (m.getF (K.hbmTemp_TEMP k))).setF (K.hbmStatus_HOT_ALARM k) 1).alert
      K.glbAlert_HBM_HOT := by
  simp [Module.hbmHot, hready, ha, hhot]

theorem Module.hbmHot_still (h : m.getF (K.hbmStatus_ADMIT k) ≠ 1 ∨ m.tempNow k < m.getF (K.hbmCtrl_HOT k)) :
    m.hbmHot k = m := by
  refine if_neg fun hhot => ?_
  simp only [Bool.and_eq_true, beq_iff_eq, decide_eq_true_eq] at hhot
  omega

theorem Module.scrubLate_ready (h : m.stackReady k = true) :
    m.scrubLate k = (m.putStack k { m.stack k with scrubLate := true }).raise .hbm_SCRUB_LATE k := if_pos h

end

/-- Settles O48, command by command: a stack acts on its reading, and on 10 °C above HOT while its sensor is silent
(notes/assumptions 43, 101, 141). -/
theorem stacksActOnHeat : Obligations.StacksActOnHeat := by
  refine fun k temp s => ⟨fun hstate => ?_, fun hoff => ?_, fun hready ha hhot => ?_, fun hcool => ?_, fun hstate => ?_,
    fun hoff => ?_, exec_hbmRefresh .., fun hready => ?_, fun hready => ?_⟩
  · have hnow := Module.tempNow_takeTemp (m := s.mod) (k := k.val) temp.isLt
    have hready := Module.stackReady_takeTemp (m := s.mod) (k := k.val) temp.toNat
    have hHOT : (s.mod.takeTemp k.val temp.toNat).getF (K.hbmCtrl_HOT k.val) = s.mod.getF (K.hbmCtrl_HOT k.val) :=
      Module.getF_takeTemp (by simp) _
    have hADMIT : (s.mod.takeTemp k.val temp.toNat).getF (K.hbmStatus_ADMIT k.val) =
      s.mod.getF (K.hbmStatus_ADMIT k.val) := Module.getF_takeTemp (by simp) _
    refine ⟨_, exec_hbmTempRead .., ?_⟩
    rw [Module.hbmTemp_eq hstate, ← hready, ← hHOT, ← hADMIT]
    refine ⟨?_, ?_, ?_, ?_, fun hlow => ?_, fun hr hhot ha hmost => ?_, fun hr hcool ha => ?_, fun hr hlow hnear => ?_⟩
    · rw [Module.heed_onlyShows]
      rfl
    · rw [Module.stack_heed]
      exact congrArg HbmStack.silent (Module.stack_putStack ..)
    · rw [Module.getF_heed_ne (by simp) (by simp), Module.getF_takeTemp_TEMP]
    · rw [Module.getF_heed (by simp) (by simp), Module.getF_showHeat_REFRESH_2X, hnow]
    · rw [Module.getF_heed (by simp) (by simp)]
      exact Module.getF_showHeat_HOT_ALARM (hnow.symm ▸ hlow)
    · exact (Module.heed_hot hr (hnow.symm ▸ hhot) ha hmost).1
    · exact Module.heed_cool hr (hnow.symm ▸ hcool) ha
    · exact Module.heed_between hr (hnow.symm ▸ hlow) (hnow.symm ▸ hnear)
  · rw [exec_hbmTempRead, Module.hbmTemp, if_pos hoff]
  · refine ⟨_, exec_hbmHot .., ?_⟩
    rw [Module.hbmHot_alarms hready ha hhot]
    refine ⟨?_, ?_, ?_, ?_⟩
    · rw [Module.alert, Module.getF_setF_ne _ _ (by simp), Module.getF_setF_ne _ _ (by simp)]
      exact Module.getF_setF_of_width (FKey.width_hbmStatus_HOT_ALARM _) (by decide) _
    · rw [Module.alert, Module.getF_setF_ne _ _ (by simp)]
      exact Module.getF_setF_of_width (n := 1) (by decide) (by decide) _
    · exact Module.getF_setF_of_width (n := 1) (by decide) (by decide) _
    · exact ((((Module.OnlyShows.refl _).raise ..).setF ..).setF ..).setF ..
  · rw [exec_hbmHot, Module.hbmHot_still hcool]
  · refine ⟨_, exec_hbmSensorTimeout .., ?_⟩
    rw [Module.hbmSilent_eq hstate]
    have hsilent := Module.silent_loseSensor (m := s.mod) (k := k.val)
    have hheeds : (((s.mod.loseSensor k.val).heed k.val).stack k.val).silent = true := by rwa [Module.stack_heed]
    refine ⟨hheeds, ?_, fun hready ha hmost => ?_⟩
    · rw [Module.tempNow_of_silent hheeds, Module.getF_heed_ne (by simp) (by simp)]
      rfl
    · have hhot := (Module.tempNow_of_silent hsilent).symm ▸ Nat.le_add_right _ 10
      obtain ⟨hstep, hthrottles⟩ := Module.heed_hot (m := s.mod.loseSensor k.val) hready hhot ha hmost
      exact ⟨hstep, hthrottles.of_counters rfl⟩
  · rw [exec_hbmSensorTimeout, Module.hbmSilent, if_pos hoff]
  · refine ⟨_, exec_scrubLate .., ?_⟩
    rw [Module.scrubLate_ready hready, Module.stack_raise, Module.stack_putStack]
    exact ⟨rfl, (Module.happened_raise (Module.countsNow_hbm rfl _ _) 0).of_counters rfl⟩
  · rw [exec_scrubLate, Module.scrubLate, if_neg (Bool.eq_false_iff.1 hready)]

end Sys2Proof.Machine

/-! SUPPORT. What stacks keep while their chunks are lost and moved: no frame that moves, no operation that ends and no chunk
of HBM that is lost or takes another octet fails or mends a channel, counts an error or changes the state of a stack
(spec/12_hbm_memory.md R335, R336, R340, R342). `Module.Showing` and `Module.MovesTraffic` cannot say so: they allow any state
of HBM. -/

namespace Sys2Proof.Machine

/-- The registers of HBM and of the management complex, but those whose bits show events. -/
def RegName.atRest (r : RegName) : Bool := !r.isEvt && (decide (r.blk = .hbm) || decide (r.blk = .mpc))

/-- A stack beside the accesses that it serves. -/
def HbmStack.unloaded (h : HbmStack) : HbmStack := { h with due := [], dueAt := 0, moved := [] }

/-- Beside the accesses that they serve, the stacks of a module are as another's, and so are the registers at rest and
the time. -/
structure Module.KeepsStacks (m' m : Module) : Prop where
  stack : ∀ n, (m'.stack n).unloaded = (m.stack n).unloaded
  field : ∀ k : FKey, k.reg.atRest = true → m'.getF k = m.getF k
  time : m'.time = m.time

namespace Module.KeepsStacks

theorem refl (m : Module) : m.KeepsStacks m := ⟨fun _ => rfl, fun _ _ => rfl, rfl⟩

variable {m m₀ : Module} (h : m.KeepsStacks m₀)
include h

/-! ### Updates of the state -/

theorem congr {m₂ : Module} (hhbm : m₂.hbm = m.hbm) (hregs : m₂.regs = m.regs) (htime : m₂.time = m.time) :
    m₂.KeepsStacks m₀ where
  stack n := (congrArg HbmStack.unloaded (Module.stack_congr hhbm n)).trans (h.stack n)
  field k hk := (Module.getF_congr k hregs).trans (h.field k hk)
  time := htime.trans h.time

theorem update (log : LogUnit) (buf : BufUnit) (sram : SramUnit) (col : ColUnit) (pra : Tbl Nat PraArray)
    (chunks : List HbmChunk) (nextNo : Nat) (lostUnits : List (Nat × Nat)) (turn : Tbl Nat (Nat × Nat)) (mpc : MpcUnit)
    (fresh : Nat) :
    ({ m with log := log, buf := buf, sram := sram, col := col, pra := pra, mpc := mpc, fresh := fresh
              hbm := { m.hbm with chunks := chunks, nextNo := nextNo, lostUnits := lostUnits, turn := turn } } :
      Module).KeepsStacks m₀ := ⟨h.stack, h.field, h.time⟩

theorem setF {k : FKey} (hk : k.reg.atRest = false) (v : Nat) : (m.setF k v).KeepsStacks m₀ where
  stack := h.stack
  field k' hk' := (m.getF_setF_ne v (by rintro rfl; exact Bool.false_ne_true (hk.symm.trans hk'))).trans (h.field k' hk')
  time := h.time

theorem addSat {k : FKey} (hk : k.reg.atRest = false) (n most : Nat) : (m.addSat k n most).KeepsStacks m₀ := h.setF hk _

/-- An event shows in a register of its own. -/
theorem raise (e : Ev) (i : Nat) (d : Nat := 0) : (m.raise e i d).KeepsStacks m₀ where
  stack n := (congrArg HbmStack.unloaded (m.stack_raise e i d n)).trans (h.stack n)
  field k hk := by
    rw [Module.getF_raise, if_neg, h.field k hk]
    intro hkey
    simp [RegName.atRest, evtKey_isEvt hkey] at hk
  time := (m.raise_time e i d).trans h.time

theorem count (num i n : Nat) : (m.count num i n).KeepsStacks m₀ :=
  h.congr (m.count_hbm ..) (m.count_regs ..) (m.count_time ..)

theorem drawn : m.drawn.KeepsStacks m₀ := h.update ..

/-- An access changes what its stack serves alone. -/
theorem issue (n p bytes : Nat) (write : Bool) : (m.issue n p bytes write).KeepsStacks m₀ where
  stack n' := by
    rw [← h.stack n', Module.issue, Module.issueAt, Module.stack, Module.putStack, Tbl.get_put]
    split
    · next heq => rw [← heq]; rfl
    · rfl
  field := h.field
  time := h.time

theorem ite {c : Prop} [Decidable c] {m₂ : Module} (h₂ : m₂.KeepsStacks m₀) : (if c then m else m₂).KeepsStacks m₀ := by
  split
  · exact h
  · exact h₂

theorem each {α : Type} {f : Module → α → Module} (hf : ∀ {m}, m.KeepsStacks m₀ → ∀ x, (f m x).KeepsStacks m₀)
    (l : List α) : (m.each l f).KeepsStacks m₀ :=
  List.foldlRecOn (motive := fun m => m.KeepsStacks m₀) l f h fun _ h x _ => hf h x

/-- A list folded into a pair: the other half does not matter. -/
theorem foldl_fst {α β : Type} {f : Module × β → α → Module × β}
    (hf : ∀ st a, st.1.KeepsStacks m₀ → (f st a).1.KeepsStacks m₀) (l : List α) (b : β) :
    (l.foldl f (m, b)).1.KeepsStacks m₀ :=
  List.foldlRecOn (motive := fun st => st.1.KeepsStacks m₀) l f h fun st hst a _ => hf st a hst

/-! ### Queues, packet SRAM and the Carafe (R172 to R178) -/

theorem putQ (lport vc : Nat) (q : OutQueue) : (m.putQ lport vc q).KeepsStacks m₀ := h.update ..

theorem putFifo (lport vc : Nat) (fs : List QFrame) : (m.putFifo lport vc fs).KeepsStacks m₀ := h.update ..

theorem tollOut (f : QFrame) : (m.tollOut f).KeepsStacks m₀ := by
  unfold Module.tollOut
  split
  · split
    · exact h.update ..
    · exact h
  · exact h

theorem tollIn (f : QFrame) : (m.tollIn f).KeepsStacks m₀ := by
  unfold Module.tollIn
  split
  · split
    · exact h.update ..
    · exact h
  · exact h

theorem emptiedQ (lport vc : Nat) : (m.emptiedQ lport vc).KeepsStacks m₀ := by
  unfold Module.emptiedQ
  exact ((h.putQ ..).raise ..).ite (h.putQ ..)

theorem refillQ (lport vc : Nat) : (m.refillQ lport vc).KeepsStacks m₀ := by
  unfold Module.refillQ
  exact ((h.putQ ..).raise ..).ite (h.putQ ..)

theorem settleQ (lport vc : Nat) (before : OutQueue) : (m.settleQ lport vc before).KeepsStacks m₀ := by
  unfold Module.settleQ
  exact (h.ite (h.emptiedQ ..)).ite (((h.putQ ..).refillQ ..).ite ((h.refillQ ..).ite h))

theorem newChunk (s r : Nat) (pool : Bool) (avoid : Option Nat) (use : ChunkUse) :
    (m.newChunk s r pool avoid use).KeepsStacks m₀ := by
  unfold Module.newChunk
  split
  · exact h.update ..
  · exact (h.update ..).issue ..

theorem freeChunks (nos : List Nat) : (m.freeChunks nos).KeepsStacks m₀ := h.update ..

theorem readChunks (nos : List Nat) : (m.readChunks nos).KeepsStacks m₀ := h.each (fun h _ => h.issue ..) _

theorem noteFull (p : Nat) : (m.noteFull p).KeepsStacks m₀ := by
  unfold Module.noteFull
  exact ((h.update ..).raise ..).ite (h.ite (h.update ..))

theorem noteSpill (lport vc : Nat) : (m.noteSpill lport vc).KeepsStacks m₀ := by
  unfold Module.noteSpill
  exact h.ite ((h.putQ ..).raise ..)

theorem settleSpill (lport vc : Nat) : (m.settleSpill lport vc).KeepsStacks m₀ := h.putQ ..

theorem spend (s : Nat) : (m.spend s).KeepsStacks m₀ := h.update ..

theorem openChunk (lport vc : Nat) (cont : Bool) : (m.openChunk lport vc cont).KeepsStacks m₀ :=
  ((((h.putQ ..).newChunk ..).spend _).noteSpill ..).noteFull _

theorem writeCarafe (lport vc : Nat) (f : QFrame) (rest fuel : Nat) : (m.writeCarafe lport vc f rest fuel).KeepsStacks m₀ := by
  induction fuel generalizing m rest with
  | zero => exact h
  | succ fuel ih =>
    unfold Module.writeCarafe
    dsimp only
    split
    · exact (ih (h.openChunk ..) _).ite ((h.putQ ..).ite (ih (h.putQ ..) _))
    · exact ih (h.openChunk ..) _

theorem enqueue (lport vc : Nat) (f : QFrame) (carafe : Bool) : (m.enqueue lport vc f carafe).KeepsStacks m₀ := by
  unfold Module.enqueue
  exact ((h.writeCarafe ..).ite (h.putQ ..)).settleQ ..

/-! ### A frame's way to its queue (R176) -/

theorem crossXbar (f : QFrame) (lport : Nat) : (m.crossXbar f lport).KeepsStacks m₀ := ((h.count ..).drawn).count ..

theorem conflictOnce (resource : Nat) (runtime : Bool) : (m.conflictOnce resource runtime).KeepsStacks m₀ :=
  h.ite ((((((h.setF rfl _).setF rfl _).setF rfl _).setF rfl _).setF rfl _).raise ..)

theorem wantPool (p n : Nat) : (m.wantPool p n).KeepsStacks m₀ := by
  have hconflict := h.conflictOnce 1 true
  unfold Module.wantPool Module.contestPool
  exact (((hconflict.update ..).ite (hconflict.setF rfl _)).ite h).ite h

theorem contested (lport vc len : Nat) : (m.contested lport vc len).KeepsStacks m₀ := h.ite (h.wantPool ..)

theorem noteNoRoom (p n : Nat) (f : QFrame) : (m.noteNoRoom p n f).1.KeepsStacks m₀ := by
  have hfull : (if f.fullNoted then m else m.regionFull (p / 64)).KeepsStacks m₀ := h.ite (h.raise ..)
  unfold Module.noteNoRoom
  dsimp only
  split
  · exact h
  · exact (hfull.raise ..).ite hfull

theorem tryAdmit (lport vc : Nat) (f : QFrame) : (m.tryAdmit lport vc f).mod.KeepsStacks m₀ := by
  have hcontested := h.contested lport vc f.frame.len
  unfold Module.tryAdmit
  dsimp only
  split
  · exact ((hcontested.drawn.crossXbar ..).tollIn _).enqueue ..
  · exact ((hcontested.drawn.crossXbar ..).tollIn _).enqueue ..
  · split
    · exact hcontested
    · exact hcontested.noteNoRoom ..

theorem drainOwn (lport vc fuel : Nat) : (m.drainOwn lport vc fuel).KeepsStacks m₀ := by
  induction fuel generalizing m with
  | zero => exact h
  | succ fuel ih =>
    unfold Module.drainOwn
    split
    · exact h
    · next f rest _ =>
      have hadmit := h.tryAdmit lport vc f
      split
      · next htaken =>
        rw [htaken] at hadmit
        exact ih (hadmit.putFifo ..)
      · next hrefused =>
        rw [hrefused] at hadmit
        exact hadmit.putFifo ..

theorem originate (sector lport vc : Nat) (formed f : Frame) : (m.originate sector lport vc formed f).KeepsStacks m₀ := by
  unfold Module.originate
  exact (h.raise ..).ite ((h.raise ..).ite ((h.putFifo ..).drainOwn ..))

/-! ### Frames handed back (R163) -/

theorem lookup (sector : Nat) (f : Frame) : (m.lookup sector f).1.KeepsStacks m₀ := by
  have hmeets : (if m.meetsUp f then m.raise .fwd_DOWN_UP_FAULT sector else m).KeepsStacks m₀ := (h.raise ..).ite h
  unfold Module.lookup
  dsimp only
  split
  · exact hmeets.raise ..
  · exact (hmeets.raise ..).ite hmeets

theorem relook (f : QFrame) : (m.relook f).1.KeepsStacks m₀ := by
  have hagain : (m.raise .fwd_REQUEUE (originOf f.inLport)).KeepsStacks m₀ := h.raise ..
  have hlookup := hagain.lookup (originOf f.inLport) f.asArrived
  unfold Module.relook
  dsimp only
  split
  · exact hagain
  · split
    · next heq =>
      rw [heq] at hlookup
      exact hlookup
    · next heq =>
      rw [heq] at hlookup
      exact hlookup

theorem handBack (fs : List QFrame) : (m.handBack fs).KeepsStacks m₀ := by
  unfold Module.handBack
  refine each (foldl_fst h ?_ fs []) (fun h _ => h.putFifo ..) _
  exact fun st f hst => (hst.tollOut f).relook f

/-! ### Operations end (R232 to R238) -/

theorem putOp (slot : Nat) (op : Op) : (m.putOp slot op).KeepsStacks m₀ := h.update ..

theorem dropSegs (slot : Nat) : (m.dropSegs slot).KeepsStacks m₀ := by
  unfold Module.dropSegs
  split
  · exact h
  · next op _ =>
    have hfreed := h.each (fun h x => h.freeChunks x.2.chunks) op.segs
    exact (ite (hfreed.update ..) hfreed).putOp ..

theorem retireNum (defIdx jobEpoch num : Nat) : (m.retireNum defIdx jobEpoch num).KeepsStacks m₀ := by
  unfold Module.retireNum
  exact (h.update ..).ite h

theorem retireOp (slot : Nat) (done : Bool) : (m.retireOp slot done).KeepsStacks m₀ := by
  unfold Module.retireOp
  split
  · exact h
  · exact raise (retireNum (update (h.dropSegs slot) ..) ..) ..

theorem abortDown (slot code count rankX : Nat) : (m.abortDown slot code count rankX).KeepsStacks m₀ := by
  unfold Module.abortDown
  split
  · exact h
  · exact (h.each (fun h _ => h.originate ..) _).retireOp ..

theorem countCode (code home : Nat) : (m.countCode code home).KeepsStacks m₀ := by
  unfold Module.countCode
  split
  · exact h.raise ..
  · exact h

theorem sentSeq (slot n : Nat) : (m.sentSeq slot n).KeepsStacks m₀ := by
  unfold Module.sentSeq
  split
  · exact h
  · exact h.putOp ..

theorem askAbort (slot code count rankX : Nat) : (m.askAbort slot code count rankX).KeepsStacks m₀ := by
  unfold Module.askAbort
  split
  · exact h
  · exact (h.sentSeq ..).originate ..

theorem requestAbort (slot code count rankX : Nat) : (m.requestAbort slot code count rankX).KeepsStacks m₀ := by
  have hdropped := h.dropSegs slot
  unfold Module.requestAbort
  dsimp only
  split
  · exact hdropped
  · exact (hdropped.putOp ..).askAbort ..

theorem failOp (slot code : Nat) (count : Option Nat) : (m.failOp slot code count).KeepsStacks m₀ := by
  unfold Module.failOp
  split
  · exact h
  · have hcounted := h.countCode code
    exact h.ite (((hcounted _).abortDown ..).ite ((hcounted _).requestAbort ..))

/-! ### The resequencer releases what it holds (R173, R185, R191) -/

theorem putCtx (c : Ctx) : (m.putCtx c).KeepsStacks m₀ := h.update ..

theorem unhold (f : QFrame) (lport : Nat) : (m.unhold f lport).KeepsStacks m₀ := h.ite ((h.freeChunks _).noteFull _)

theorem adoptChunks (l v : Nat) (f : QFrame) : (m.adoptChunks l v f).KeepsStacks m₀ :=
  settleQ (h.update ..) ..

theorem putSramRow (s bank row : Nat) (r : RowState) : (m.putSramRow s bank row r).KeepsStacks m₀ := h.update ..

theorem rowFails (s bank row : Nat) (injected : Bool) : (m.rowFails s bank row injected).KeepsStacks m₀ := by
  unfold Module.rowFails
  dsimp only
  split
  · exact h
  · split
    · exact (putSramRow (h.update ..) ..).raise _ _ _
    · have hretired := fun r => ((h.putSramRow s bank row r).addSat (k := K.bufSramStat_RETIRED_ROWS s) rfl 1 0xFFFF).raise
        .sector_SRAM_RETIRE s (sramDetail bank row)
      exact (hretired _).ite ((hretired _).update ..)

theorem failRowOf (s : Nat) (f : QFrame) : (m.failRowOf s f).KeepsStacks m₀ := h.drawn.rowFails ..

theorem readHeld (f : QFrame) (errs : ReadErrs) : (m.readHeld f errs).1.KeepsStacks m₀ := by
  unfold Module.readHeld
  split
  · exact h
  · exact h.drawn

theorem readOut (m₁ : Module) (l v : Nat) (f : QFrame) (errs : ReadErrs) (carafe : Bool) :
    ((m.readOut l v f errs carafe).modOr m₁).KeepsStacks m₀ := by
  have hread := h.readHeld f errs
  unfold Module.readOut
  dsimp only
  split
  · next heq =>
    rw [heq] at hread
    exact ((hread.raise ..).failRowOf ..).tollOut f
  · next heq =>
    rw [heq] at hread
    exact (hread.raise ..).enqueue ..
  · next heq =>
    rw [heq] at hread
    exact hread.enqueue ..

theorem noRoom (m₁ : Module) (l n : Nat) (f : QFrame) : ((m.noRoom l n f).modOr m₁).KeepsStacks m₀ := h.noteNoRoom ..

theorem release (m₁ : Module) (f : QFrame) (errs : ReadErrs) : ((m.release f errs).modOr m₁).KeepsStacks m₀ := by
  unfold Module.release
  dsimp only
  split
  · next l v _ =>
    split
    · exact (h.unhold f l).handBack _
    split
    · split
      · exact h.readOut ..
      · have hpool := h.wantPool (portOf l) ((m.q l v).chunksFor f.frame.len)
        split
        · exact hpool.readOut ..
        · exact hpool.noRoom ..
    split
    · exact (h.adoptChunks ..).settleSpill ..
    split
    · have hcontested := h.contested l v f.frame.len
      split
      · split
        · exact hcontested
        · exact hcontested.noRoom ..
      · exact ((hcontested.readChunks _).unhold ..).enqueue ..
    · exact h
  · exact h

theorem releaseRun (c : Ctx) (errs : ReadErrs) (fuel : Nat) : (m.releaseRun c errs fuel).1.KeepsStacks m₀ := by
  induction fuel generalizing m c with
  | zero => exact h
  | succ fuel ih =>
    unfold Module.releaseRun
    split
    · next f _ =>
      dsimp only
      have hrelease := (h.putCtx { c with
        held := c.held.filter (fun x => x.frame.h.seq ≠ c.expect), gone := c.gone.filter (· ≠ c.expect)
        expect := c.expect + 1 }).release m f errs
      split
      · next heq =>
        rw [heq] at hrelease
        exact ih hrelease _
      · next heq =>
        rw [heq] at hrelease
        exact ih (hrelease.raise ..) _
      · next heq =>
        rw [heq] at hrelease
        exact hrelease
    · split
      · exact ih (h.raise ..) _
      · split
        · split
          · exact ih h _
          · exact h
        · exact h

theorem runCtx (c : Ctx) (errs : ReadErrs) : (m.runCtx c errs).KeepsStacks m₀ := by
  have hrun := (h.putCtx c).releaseRun c errs (2 * (c.held.length + c.gone.length) + 1)
  unfold Module.runCtx
  exact (hrun.update ..).ite (hrun.putCtx _)

theorem resume (lport : Nat) : (m.resume lport).KeepsStacks m₀ := h.each (fun h _ => h.runCtx ..) _

/-! ### Chunks of HBM are lost and moved (R336, R340) -/

theorem loseCarafe (lport vc no : Nat) : (m.loseCarafe lport vc no).KeepsStacks m₀ := by
  unfold Module.loseCarafe
  dsimp only
  split
  · exact h
  · exact (each (settleSpill (noteFull (((h.putQ ..).raise ..).freeChunks _) _) ..) (fun h f => h.tollOut f) _).settleQ ..

theorem loseHeld (lport : Nat) (flow : Flow) (no : Nat) : (m.loseHeld lport flow no).KeepsStacks m₀ := by
  unfold Module.loseHeld
  split
  · exact h
  · dsimp only
    refine ite (runCtx (each (h.putCtx _) (fun h f => ?_) _) ..) (each (h.putCtx _) (fun h f => ?_) _)
    all_goals exact ((h.unhold f lport).tollOut f).settleSpill ..

theorem loseRetained (slot seg no : Nat) : (m.loseRetained slot seg no).KeepsStacks m₀ := by
  unfold Module.loseRetained
  split
  · exact h
  · split
    · exact h
    · exact (h.putOp ..).ite (h.failOp ..)

theorem loseUnit (s u copy : Nat) : (m.loseUnit s u copy).KeepsStacks m₀ := by
  unfold Module.loseUnit
  split
  · exact h.newChunk ..
  · exact h.update ..

theorem loseWhat (c : HbmChunk) : (m.loseWhat c).KeepsStacks m₀ := by
  unfold Module.loseWhat
  split
  · exact h.loseCarafe ..
  · exact (h.raise ..).loseHeld ..
  · exact h.loseHeld ..
  · exact h.loseRetained ..
  · exact h.failOp ..
  · exact h.loseUnit ..

theorem loseChunk (no : Nat) : (m.loseChunk no).KeepsStacks m₀ := by
  unfold Module.loseChunk
  split
  · exact h
  · exact ((h.freeChunks _).raise ..).loseWhat _

theorem moveChunk (no : Nat) : (m.moveChunk no).KeepsStacks m₀ := by
  unfold Module.moveChunk
  split
  · exact h
  · dsimp only
    split
    · exact h.loseChunk _
    · exact ((h.update ..).issue ..).issue ..

theorem clearOctet (s j : Nat) (copied : Copied) : (m.clearOctet s j copied).KeepsStacks m₀ := by
  refine h.each (fun {m} h c => (h.moveChunk _).ite ?_) _
  have hcopied : (m.hasCopied copied c.no).1.KeepsStacks m₀ := by
    cases copied with
    | none => exact h.drawn
    | some nos => exact h
  split
  · next heq =>
    rw [heq] at hcopied
    exact hcopied.moveChunk _
  · next heq =>
    rw [heq] at hcopied
    exact hcopied.loseChunk _
theorem evacuated (s j : Nat) (unread : List Nat) : (m.evacuated s j unread).KeepsStacks m₀ :=
  h.each (fun h _ => (h.loseChunk _).ite (h.moveChunk _)) _

/-! ### What a stack is known by -/

theorem ue (n : Nat) : (m.stack n).ue = (m₀.stack n).ue := (congrArg HbmStack.ue (h.stack n) :)

theorem failing (n : Nat) : (m.stack n).failing = (m₀.stack n).failing := (congrArg HbmStack.failing (h.stack n) :)

theorem mapped (n : Nat) : (m.stack n).mapped = (m₀.stack n).mapped := (congrArg HbmStack.mapped (h.stack n) :)

end Module.KeepsStacks

end Sys2Proof.Machine

/-! SUPPORT. Channels: what the scrubber counts, and what a channel that fails leaves until it is mapped out
(spec/12_hbm_memory.md R335, R336, R340), and the statement about them settled. -/

namespace Sys2Proof.Machine

/-! ### Commands -/

theorem exec_hbmScrubPass (k ch : Fin 32) (found : Secded) (chunk : Nat) (last : Bool) (s : State) :
    exec (.hbmScrubPass k ch found ⟨chunk, last⟩) s =
      .next { s with mod := s.mod.hbmScrub k.val ch.val found chunk last } := rfl

theorem exec_chanFail (k ch : Fin 32) (hard : Bool) (copied : List Nat) (s : State) :
    exec (.chanFail k ch hard copied) s = .next { s with mod := s.mod.chanFail k.val ch.val hard copied } := rfl

theorem exec_chanMapped (k ch : Fin 32) (unread : List Nat) (s : State) :
    exec (.chanMapped k ch unread) s = .next { s with mod := s.mod.chanMapped k.val ch.val unread } := rfl

/-! ### A channel fails (R340) -/

/-- The module with a channel closed, and its evacuation begun where it failed softly. -/
def Module.closeChannel (m : Module) (k ch : Nat) (hard rehearsal : Bool) : Module :=
  let m := (m.putStack k { m.stack k with failing := (m.stack k).failing ++ [(ch, hard, rehearsal)] }).raise
    .hbm_CHAN_FAIL k ch
  if hard then m else m.setF (K.hbmStatus_EVACUATING k) 1

/-- The octet of a closed channel gives up the chunks that its failure costs. -/
def Module.clearClosed (m : Module) (k ch : Nat) (hard again : Bool) (copied : Copied) : Module :=
  if hard || again then m.clearOctet (k / 4) (octetOf k ch) (if again then copied else some []) else m

/-- A stack fails with its last channel. -/
def Module.failIfLast (m : Module) (k : Nat) : Module :=
  if m.channelsIn k = 0 then (m.raise .hbm_STACK_FAIL k).setF (K.hbmStatus_STATE k) 4 else m

section
variable {m : Module} {k ch : Nat} {hard rehearsal : Bool} {copied : Copied}

theorem Module.failChannel_eq (hout : (m.stack k).isOut ch = false) :
    m.failChannel k ch hard rehearsal copied =
      ((m.closeChannel k ch hard rehearsal).clearClosed k ch hard (m.octetClosed (k / 4) (octetOf k ch))
        copied).failIfLast k := by
  have hin : ¬ (m.stack k).isOut ch = true := by simp [hout]
  exact if_neg hin

theorem Module.failChannel_out (hout : (m.stack k).isOut ch = true) : m.failChannel k ch hard rehearsal copied = m :=
  if_pos hout

theorem Module.stack_closeChannel :
    (m.closeChannel k ch hard rehearsal).stack k =
      { m.stack k with failing := (m.stack k).failing ++ [(ch, hard, rehearsal)] } := by
  cases hard <;> simp [Module.closeChannel]

theorem Module.getF_closeChannel_EVACUATING :
    (m.closeChannel k ch false rehearsal).getF (K.hbmStatus_EVACUATING k) = 1 :=
  Module.getF_setF_of_width (FKey.width_hbmStatus_EVACUATING k) (by decide) _

theorem Module.clearClosed_keepsStacks (m : Module) (again : Bool) : (m.clearClosed k ch hard again copied).KeepsStacks m :=
  ((Module.KeepsStacks.refl m).clearOctet ..).ite (.refl m)

/-! ### The last channel of a stack -/

theorem Module.hbm_failIfLast : (m.failIfLast k).hbm = m.hbm := by
  unfold Module.failIfLast
  split
  · exact m.raise_hbm ..
  · rfl

theorem Module.getF_failIfLast {f : FKey} (hf : f ≠ K.hbmStatus_STATE k) (hevt : f.reg ≠ .hbmEvt) :
    (m.failIfLast k).getF f = m.getF f := by
  unfold Module.failIfLast
  split
  · rw [Module.getF_setF_ne _ _ hf.symm, Module.getF_raise_of_reg rfl hevt]
  · rfl

theorem Module.channelsIn_failIfLast : (m.failIfLast k).channelsIn k = m.channelsIn k := by
  have hlive : (m.failIfLast k).liveCount .hbm = m.liveCount .hbm := Module.getF_failIfLast (by simp) (by simp)
  rw [Module.channelsIn, hlive, Module.stack_congr Module.hbm_failIfLast, Module.channelsIn]

/-- A stack without a channel in service has failed. -/
theorem Module.getF_failIfLast_STATE (h : (m.failIfLast k).channelsIn k = 0) :
    (m.failIfLast k).getF (K.hbmStatus_STATE k) = 4 := by
  rw [Module.channelsIn_failIfLast] at h
  rw [Module.failIfLast, if_pos h]
  exact Module.getF_setF_of_width (FKey.width_hbmStatus_STATE k) (by decide) _

/-! ### What stands after a failure -/

theorem Module.failing_failChannel (hout : (m.stack k).isOut ch = false) :
    ((m.failChannel k ch hard rehearsal copied).stack k).failing = (m.stack k).failing ++ [(ch, hard, rehearsal)] := by
  rw [Module.failChannel_eq hout, Module.stack_congr Module.hbm_failIfLast, (Module.clearClosed_keepsStacks ..).failing,
    Module.stack_closeChannel]

theorem Module.ue_failChannel : ((m.failChannel k ch hard rehearsal copied).stack k).ue = (m.stack k).ue := by
  cases hout : (m.stack k).isOut ch with
  | true => rw [Module.failChannel_out hout]
  | false =>
    rw [Module.failChannel_eq hout, Module.stack_congr Module.hbm_failIfLast, (Module.clearClosed_keepsStacks ..).ue,
      Module.stack_closeChannel]

theorem Module.getF_failChannel_EVACUATING (hout : (m.stack k).isOut ch = false) :
    (m.failChannel k ch false rehearsal copied).getF (K.hbmStatus_EVACUATING k) = 1 := by
  rw [Module.failChannel_eq hout, Module.getF_failIfLast (by simp) (by simp),
    (Module.clearClosed_keepsStacks ..).field _ rfl, Module.getF_closeChannel_EVACUATING]

theorem Module.getF_failChannel_STATE (hout : (m.stack k).isOut ch = false)
    (hlast : (m.failChannel k ch hard rehearsal copied).channelsIn k = 0) :
    (m.failChannel k ch hard rehearsal copied).getF (K.hbmStatus_STATE k) = 4 := by
  rw [Module.failChannel_eq hout] at hlast ⊢
  exact Module.getF_failIfLast_STATE hlast

/-- The failure shows, whatever the chunks that it costs move. -/
theorem Module.showing_failChannel (hout : (m.stack k).isOut ch = false) {f : FKey}
    (hf : evtKey .hbm_CHAN_FAIL k = some f) : (m.failChannel k ch hard rehearsal copied).Showing f := by
  have hfails := fun hs => (m.putStack k hs).showing_raise hf ch
  have hcloses : (m.closeChannel k ch hard rehearsal).Showing f := (hfails _).ite ((hfails _).setF rfl 1)
  have hcleared (again : Bool) : ((m.closeChannel k ch hard rehearsal).clearClosed k ch hard again copied).Showing f :=
    (hcloses.clearOctet ..).ite hcloses
  rw [Module.failChannel_eq hout]
  exact (((hcleared _).raise ..).setF rfl 4).ite (hcleared _)

/-! ### CHAN_FAIL -/

theorem Module.chanFail_hard (hstate : 2 ≤ m.getF (K.hbmStatus_STATE k)) (lost : List Nat) :
    m.chanFail k ch true lost = m.failChannel k ch true false (some lost) := if_neg (Nat.not_lt_of_le hstate)

theorem Module.chanFail_soft (hstate : 2 ≤ m.getF (K.hbmStatus_STATE k)) (hsoft : m.softFails k ch = true)
    (lost : List Nat) : m.chanFail k ch false lost = m.failChannel k ch false false (some lost) :=
  (if_neg (Nat.not_lt_of_le hstate)).trans (if_pos hsoft)

theorem Module.chanFail_sound (hstate : 2 ≤ m.getF (K.hbmStatus_STATE k)) (hsoft : m.softFails k ch = false)
    (lost : List Nat) : m.chanFail k ch false lost = m :=
  (if_neg (Nat.not_lt_of_le hstate)).trans (if_neg (Bool.eq_false_iff.1 hsoft))

theorem Module.chanFail_out (hout : (m.stack k).isOut ch = true) (lost : List Nat) : m.chanFail k ch hard lost = m := by
  unfold Module.chanFail
  split
  · rfl
  · split
    · exact Module.failChannel_out hout
    · rfl

end

/-! ### A failed channel is mapped out (R340) -/

/-- The repair record that waits last is the one asked for last (R450). -/
theorem Module.repairWait_record {location data : Nat} (hlocation : location < 2 ^ 24) (hdata : data < 2 ^ 16) (m : Module)
    (kind : Nat) :
    (m.record kind location data).mpc.repairWait.getLast? =
      some (BitVec.ofNat 64 (kind * 2 ^ 40 + location * 2 ^ 16 + data), m.time.count) := by
  rw [Module.record, List.getLast?_concat, Nat.mod_eq_of_lt hlocation, Nat.mod_eq_of_lt hdata]

/-- The module with a failing channel mapped out: its stack evacuates on while another that failed softly is left. -/
def Module.mapOut (m : Module) (k ch : Nat) (hard : Bool) : Module :=
  let left := (m.stack k).failing.filter (fun x => x.1 ≠ ch)
  ((m.putStack k { m.stack k with failing := left, mapped := (m.stack k).mapped ++ [(ch, hard, false)] }).raise
    .hbm_CHAN_MAPPED k ch).setB (K.hbmStatus_EVACUATING k) (left.any (fun x => !x.2.1))

section
variable {m : Module} {k ch : Nat} {hard : Bool}

theorem Module.chanMapped_eq (h : (m.stack k).failing.find? (fun x => x.1 == ch) = some (ch, hard, false))
    (unread : List Nat) :
    m.chanMapped k ch unread =
      ((m.evacuated (k / 4) (octetOf k ch) unread).mapOut k ch hard).record 0x0B (k * 32 + ch) 0xFFFF := by
  unfold Module.chanMapped
  rw [h]
  rfl

theorem Module.chanMapped_none (h : (m.stack k).failing = []) (unread : List Nat) : m.chanMapped k ch unread = m := by
  unfold Module.chanMapped
  rw [h]
  rfl

theorem Module.stack_mapOut :
    (m.mapOut k ch hard).stack k =
      { m.stack k with
        failing := (m.stack k).failing.filter (fun x => x.1 ≠ ch), mapped := (m.stack k).mapped ++ [(ch, hard, false)] } :=
  (Module.stack_raise ..).trans (Module.stack_putStack ..)

theorem Module.time_mapOut : (m.mapOut k ch hard).time = m.time := Module.raise_time ..

theorem Module.evacuated_keepsStacks (m : Module) (s j : Nat) (unread : List Nat) :
    (m.evacuated s j unread).KeepsStacks m := (Module.KeepsStacks.refl m).evacuated ..

end

/-! ### A word that cannot be corrected (R335, R336) -/

/-- The module with an uncorrectable word of a channel counted. -/
def Module.countUe (m : Module) (k ch : Nat) : Module :=
  ((m.putStack k { m.stack k with ue := Tbl.put (m.stack k).ue ch (m.elapsed :: m.ueHour k ch) }).raise .hbm_HBM_UE k).addSat
    (K.hbmEcc_UE k) 1 0xFFFF

/-- The chunk that holds a word of a channel's octet is lost. -/
def Module.loseHere (m : Module) (k ch chunk : Nat) : Module :=
  if (m.octetChunks (k / 4) (octetOf k ch)).any (fun c => c.no == chunk) then m.loseChunk chunk else m

section
variable {m : Module} {k ch chunk : Nat}

theorem Module.hbmUe_eq :
    m.hbmUe k ch chunk =
      if ((m.countUe k ch).loseHere k ch chunk).softFails k ch then
        ((m.countUe k ch).loseHere k ch chunk).failChannel k ch false false none
      else (m.countUe k ch).loseHere k ch chunk := rfl

theorem Module.loseHere_keepsStacks : (m.loseHere k ch chunk).KeepsStacks m :=
  ((Module.KeepsStacks.refl m).loseChunk _).ite (.refl m)

/-- The errors of a channel's last hour are kept, with the new one first. -/
theorem Module.ue_hbmUe : Tbl.get ((m.hbmUe k ch chunk).stack k).ue [] ch = m.elapsed :: m.ueHour k ch := by
  have hcounted : ((m.countUe k ch).stack k).ue = Tbl.put (m.stack k).ue ch (m.elapsed :: m.ueHour k ch) :=
    congrArg HbmStack.ue ((Module.stack_raise ..).trans (Module.stack_putStack ..))
  have hkept : ((m.hbmUe k ch chunk).stack k).ue = ((m.countUe k ch).stack k).ue := by
    rw [Module.hbmUe_eq]
    split
    · rw [Module.ue_failChannel, Module.loseHere_keepsStacks.ue]
    · exact Module.loseHere_keepsStacks.ue k
  rw [hkept, hcounted, Tbl.get_put_self]

theorem octetStack_octetOf (k ch : Nat) (h : ch < 32) : octetStack (k / 4) (octetOf k ch) = k := by
  unfold octetStack octetOf
  omega

theorem Module.showing_loseChunk {c : HbmChunk} (hc : m.hbmChunk chunk = some c) {f : FKey}
    (hf : evtKey .hbm_CHUNK_LOST (octetStack c.sector c.octet) = some f) : (m.loseChunk chunk).Showing f := by
  unfold Module.loseChunk
  rw [hc]
  exact (Module.showing_raise hf ..).loseWhat c

theorem Module.hbmChunk_countUe : (m.countUe k ch).hbmChunk chunk = m.hbmChunk chunk := by
  have hhbm : (m.countUe k ch).hbm = (m.putStack k _).hbm := Module.raise_hbm ..
  rw [Module.hbmChunk, hhbm]
  rfl

/-- The chunk that holds the word is lost, and shows so, whatever its loss moves. -/
theorem Module.showing_hbmUe_CHUNK_LOST {c : HbmChunk} (hc : m.hbmChunk chunk = some c) (hsector : c.sector = k / 4)
    (hoctet : c.octet = octetOf k ch) (hch : ch < 32) {f : FKey} (hf : evtKey .hbm_CHUNK_LOST k = some f) :
    (m.hbmUe k ch chunk).Showing f := by
  have hfound : (m.countUe k ch).hbmChunk chunk = some c := Module.hbmChunk_countUe.trans hc
  have hhere : ((m.countUe k ch).octetChunks (k / 4) (octetOf k ch)).any (fun c => c.no == chunk) = true := by
    refine List.any_eq_true.2 ⟨c, List.mem_filter.2 ⟨List.mem_of_find?_eq_some hfound, ?_⟩,
      List.find?_some (p := fun c : HbmChunk => c.no == chunk) hfound⟩
    simp [hsector, hoctet]
  have hlost : ((m.countUe k ch).loseHere k ch chunk).Showing f := by
    rw [Module.loseHere, if_pos hhere]
    refine Module.showing_loseChunk hfound ?_
    rwa [hsector, hoctet, octetStack_octetOf k ch hch]
  rw [Module.hbmUe_eq]
  exact (hlost.failChannel ..).ite hlost

end

/-! ### The scrubber reads a word (R335) -/

/-- The module where a scrub pass of a stack ends, or goes on. -/
def Module.endPass (m : Module) (k : Nat) (last : Bool) : Module :=
  if last then m.putStack k { m.stack k with scrubLate := false } else m

/-- The module with a corrected word of a channel counted. -/
def Module.countCe (m : Module) (k ch : Nat) : Module :=
  ((m.putStack k { m.stack k with ce := Tbl.put (m.stack k).ce ch (min 0xFFFF (Tbl.get (m.stack k).ce 0 ch + 1)) }).raise
    .hbm_HBM_CE k).addSat (K.hbmEcc_CE k) 1 0xFFFF

section
variable {m : Module} {k ch : Nat}

section
variable (hready : m.stackReady k = true) (hout : (m.stack k).isOut ch = false)
include hready hout

theorem Module.not_skips_word : ¬ (!m.stackReady k || (m.stack k).isOut ch) = true := by simp [hready, hout]

theorem Module.hbmScrub_clean (chunk : Nat) (last : Bool) : m.hbmScrub k ch .clean chunk last = m.endPass k last :=
  if_neg (Module.not_skips_word hready hout)

theorem Module.hbmScrub_single (chunk : Nat) (last : Bool) :
    m.hbmScrub k ch .single chunk last = (m.endPass k last).countCe k ch := if_neg (Module.not_skips_word hready hout)

theorem Module.hbmScrub_double (chunk : Nat) (last : Bool) :
    m.hbmScrub k ch .double chunk last = (m.endPass k last).hbmUe k ch chunk := if_neg (Module.not_skips_word hready hout)

end

/-- The end of a pass leaves all but the stack's lateness. -/
theorem Module.stack_endPass (last : Bool) :
    (m.endPass k last).stack k = { m.stack k with scrubLate := !last && (m.stack k).scrubLate } := by
  cases last with
  | true => exact Module.stack_putStack ..
  | false => rfl

theorem Module.endPass_eq (last : Bool) : m.endPass k last = { m with hbm := (m.endPass k last).hbm } := by
  cases last <;> rfl

theorem Module.hbmChunk_endPass (last : Bool) (no : Nat) : (m.endPass k last).hbmChunk no = m.hbmChunk no := by
  cases last <;> rfl

theorem Module.ueHour_endPass (last : Bool) : (m.endPass k last).ueHour k ch = m.ueHour k ch := by
  rw [Module.ueHour, Module.stack_endPass, Module.endPass_eq, Module.ueHour]

theorem Module.stack_countCe :
    (m.countCe k ch).stack k =
      { m.stack k with ce := Tbl.put (m.stack k).ce ch (min 0xFFFF (Tbl.get (m.stack k).ce 0 ch + 1)) } :=
  (Module.stack_raise ..).trans (Module.stack_putStack ..)

/-- A corrected word happens once; its count in HBM_ECC is beside the event. -/
theorem Module.happened_countCe : (m.countCe k ch).Happened m .hbm_HBM_CE k := by
  obtain ⟨hcounter, hbit⟩ := (Module.happened_raise (Module.countsNow_hbm (e := .hbm_HBM_CE) rfl (m.putStack k { m.stack k with
    ce := Tbl.put (m.stack k).ce ch (min 0xFFFF (Tbl.get (m.stack k).ce 0 ch + 1)) }) k) 0).of_counters (m := m) rfl
  refine ⟨hcounter, fun f hf => (Module.getF_setF_ne _ _ ?_).trans (hbit f hf)⟩
  rintro rfl
  cases evtKey_reg rfl hf

end

/-- Settles O49, command by command: no loss and no move of a chunk counts an error or fails a channel. -/
theorem channelsAreMappedOut : Obligations.ChannelsAreMappedOut := by
  refine fun k ch chunk last lost hard s => ⟨fun hready hout => ?_, fun hstate hout => ?_, fun hout => ?_, fun hstate => ?_,
    fun hfails => ?_, fun hnone => ?_⟩
  · refine ⟨?_, ⟨_, exec_hbmScrubPass .., ?_⟩, ⟨_, exec_hbmScrubPass .., ?_⟩, ⟨_, exec_hbmScrubPass .., ?_⟩⟩
    · rw [exec_hbmScrubPass, Module.hbmScrub_clean hready hout]
      rfl
    · rw [Module.hbmScrub_clean hready hout, Module.stack_endPass]
      exact ⟨rfl, rfl, rfl⟩
    · rw [Module.hbmScrub_single hready hout, Module.stack_countCe, Tbl.get_put_self, Module.stack_endPass]
      refine ⟨rfl, Module.happened_countCe.of_counters ?_⟩
      rw [Module.endPass_eq]
    · rw [Module.hbmScrub_double hready hout, Module.ue_hbmUe, Module.ueHour_endPass]
      refine ⟨fun x hx => (Module.showing_hbmUe hx ..).on, ?_, fun c hc hsector hoctet x hx => ?_⟩
      · rw [Module.endPass_eq]
      · rw [← Module.hbmChunk_endPass (k := k.val) last] at hc
        exact (Module.showing_hbmUe_CHUNK_LOST hc hsector hoctet ch.isLt hx).on
  · refine ⟨⟨_, exec_chanFail .., ?_⟩, fun hsoft => ⟨_, exec_chanFail .., ?_⟩, fun hsound => ?_⟩
    · rw [Module.chanFail_hard hstate]
      exact ⟨Module.failing_failChannel hout, fun x hx => (Module.showing_failChannel hout hx).on,
        Module.getF_failChannel_STATE hout⟩
    · rw [Module.chanFail_soft hstate hsoft]
      exact ⟨Module.failing_failChannel hout, Module.getF_failChannel_EVACUATING hout⟩
    · rw [exec_chanFail, Module.chanFail_sound hstate hsound]
  · rw [exec_chanFail, Module.chanFail_out hout]
  · rw [exec_chanFail, Module.chanFail, if_pos hstate]
  · refine ⟨_, exec_chanMapped .., ?_⟩
    have hkeeps := s.mod.evacuated_keepsStacks (k.val / 4) (octetOf k.val ch.val) lost
    rw [Module.chanMapped_eq hfails, Module.stack_congr (Module.record_hbm ..), Module.stack_mapOut]
    refine ⟨?_, fun x hx => ?_, ?_⟩
    · exact congrArg (· ++ _) (hkeeps.mapped k.val)
    · simpa using (List.mem_filter.1 hx).2
    · rw [Module.repairWait_record (by omega) (by decide), Module.time_mapOut, hkeeps.time]
  · rw [exec_chanMapped, Module.chanMapped_none hnone]

end Sys2Proof.Machine

/-! SUPPORT. The last steps of start-up: what step 11 does outside TIMETABLE and in it, and what the module holds once step 12
has made it READY (spec/13_profiles_and_determinism.md R355, R356; spec/16_security_and_quorum.md R436, R440;
spec/19_power_thermal_startup.md R496, R507), and the statement about them settled. -/

namespace Sys2Proof.Machine

/-! ### Commands -/

theorem exec_startAlignment (s : State) : exec .startAlignment s = .next { s with mod := s.mod.beginAlignment } := rfl

theorem exec_ready (s : State) : exec .ready s = .next { s with mod := s.mod.becomeReady } := rfl

/-! ### Credits returned (R117, R507) -/

namespace Module.MovesTraffic

variable {m' m : Module} (h : m'.MovesTraffic m)
include h

theorem sec : m'.sec = m.sec := by rw [h.rest]

theorem sendCredits (lport vc fuel n : Nat) : (m'.sendCredits lport vc fuel n).MovesTraffic m := by
  induction fuel generalizing m' n with
  | zero => exact h
  | succ fuel ih => exact h.ite (ih (overhead (update (h.emit _) ..) ..) _)

theorem returnCredits (lport vc n : Nat) : (m'.returnCredits lport vc n).MovesTraffic m := by
  have hgranted := h.modLnk lport
  unfold Module.returnCredits
  exact h.ite (((hgranted _).sendCredits ..).ite (hgranted _))

theorem grantRest (lport : Nat) : (m'.grantRest lport).MovesTraffic m := by
  unfold Module.grantRest
  exact ((h.modLnk lport _).each (fun h vc => h.returnCredits ..) _).ite h

end Module.MovesTraffic

/-! ### Sector lock in every sector (R370) -/

theorem FKey.width_tmSchedStat_STATE (i : Nat) : FKey.width (K.tmSchedStat_STATE i) = 3 :=
  FKey.width_of_mem (d := fd 2 0 .ro) (by decide) i 0

theorem Module.lead_lt (m : Module) : m.lead < 8 := by
  unfold Module.lead
  cases hlead : (List.range 8).find? (fun s => !m.power.sectorsDown.contains s && !m.lock.rejoining.contains s) with
  | none => decide
  | some s => exact List.mem_range.1 (List.mem_of_find?_eq_some hlead)

section
variable {m : Module}

/-- The lock's state is written in all eight sectors, so the sector that shows it afterwards may be another than before. -/
theorem Module.lockState_setLock {st : Nat} (hst : st < 8) : (m.setLock st).lockState = st := by
  rw [Module.lockState]
  generalize hlead : (m.setLock st).lead = i
  have hi : i < 8 := hlead ▸ (m.setLock st).lead_lt
  rw [Module.setLock, Module.getF_setAll_ne _ (by simp), Module.getF_setAll _ (fun a b h => by simpa using h) hi,
    FKey.width_tmSchedStat_STATE]
  exact Nat.mod_eq_of_lt hst

theorem Module.setLock_eq (st : Nat) :
    m.setLock st = { m with regs := (m.setLock st).regs, lock := (m.setLock st).lock } := by
  have hregs : (m.setLock st).OnlyRegs { m with lock := { m.lock with rejoining := [] } } :=
    (Module.setAll_onlyRegs ..).trans (Module.setAll_onlyRegs ..)
  rw [hregs]

/-! ### Step 11 (R355, R356, R496) -/

theorem Module.atStep_iff {n : Nat} :
    m.atStep n = true ↔ m.startStep = n ∧ m.isOn K.pwrStatus_STALLED = false ∧ m.power.inReset = none := by
  simp [Module.atStep, and_assoc]

theorem Module.pipesTop_iff : m.pipesTop = true ↔ ∀ sec : Fin 8, m.level (.pipe sec) = 8 := by
  simp only [Module.pipesTop, List.all_eq_true, List.mem_range, beq_iff_eq]
  refine ⟨fun h sec => ?_, fun h s _ => h _⟩
  simpa using h sec.val sec.isLt

theorem Module.beginAlignment_waits (hstep : m.atStep 11 = true) (htimetable : m.timetable = true)
    (hlow : m.pipesTop = false) : m.beginAlignment = m := by
  simp [Module.beginAlignment, hstep, htimetable, hlow]

theorem Module.beginAlignment_starts (h : m.timetable = true → m.pipesTop = true) : m.beginAlignment = m.startAlignment :=
  if_neg (by simp +contextual [h])

theorem Module.startAlignment_ends (hstep : m.atStep 11 = true) (htimetable : m.timetable = false) :
    m.startAlignment = m.goStep 12 := by
  obtain ⟨hat, hruns, -⟩ := Module.atStep_iff.1 hstep
  simp [Module.startAlignment, Module.aligned, hat, hruns, htimetable]

theorem Module.startAlignment_locks (hstep : m.atStep 11 = true) (htimetable : m.timetable = true)
    (hidle : m.lockState ≤ 1) :
    m.startAlignment = m.setLock (if m.isOn (K.tmSchedCfg_MASTER m.lead) then 3 else 2) := by
  obtain ⟨hat, hruns, -⟩ := Module.atStep_iff.1 hstep
  simp [Module.startAlignment, hat, hruns, htimetable, hidle]

/-! ### Step 12 (R436, R440, R507) -/

theorem FKey.width_pwrStatus_READY : FKey.width K.pwrStatus_READY = 1 :=
  FKey.width_of_mem (d := fd 27 27 .ro) (by decide) 0 0

/-- READY shows and is told of. -/
def Module.showReady (m : Module) : Module :=
  let m := m.setF K.pwrStatus_READY 1
  m.raise .pwr_READY 0 (16 * m.getF K.pwrRstCause_THERMTRIP_SEEN + m.getF K.pwrRstCause_CAUSE)

/-- READY is told of, and every link that is up has its remaining credits. -/
def Module.openLinks (m : Module) : Module :=
  m.showReady.each (m.showReady.lports.filter (fun l => m.showReady.isUp l)) (fun m l => m.grantRest l)

theorem Module.becomeReady_eq (hstep : m.atStep 12 = true) (hready : m.isReady = false) :
    m.becomeReady = m.openLinks.fuseSvn.beginDuration :=
  if_pos (by simp [hstep, hready])

theorem Module.becomeReady_ready (h : m.isReady = true) : m.becomeReady = m := by
  simp [Module.becomeReady, h]

theorem Module.getF_showReady_READY : m.showReady.getF K.pwrStatus_READY = 1 := by
  rw [Module.showReady, Module.getF_raise_of_reg (e := .pwr_READY) rfl (by decide),
    Module.getF_setF_of_width FKey.width_pwrStatus_READY (by decide)]

theorem Module.openLinks_movesTraffic : m.openLinks.MovesTraffic m.showReady :=
  (Module.MovesTraffic.refl _).each (fun h l => h.grantRest l) _

theorem Module.getF_openLinks_READY : m.openLinks.getF K.pwrStatus_READY = 1 :=
  (m.openLinks_movesTraffic.field _ rfl).trans m.getF_showReady_READY

theorem Module.sec_openLinks : m.openLinks.sec = m.sec := by
  rw [m.openLinks_movesTraffic.sec, Module.showReady, Module.raise_sec, Module.setF_sec]

theorem Module.getF_fuseSvn (k : FKey) : m.fuseSvn.getF k = m.getF k := Module.getF_congr k rfl

theorem Module.svn_fuseSvn :
    m.fuseSvn.sec.svn = if m.sec.svn < m.sec.runningSvn then m.sec.runningSvn else m.sec.svn := rfl

theorem Module.secState_fuseSvn : m.fuseSvn.sec.state = m.sec.state := rfl

/-- A permission's DURATION is all that its beginning changes. -/
theorem Module.beginDuration_eq :
    m.beginDuration = { m with sec := { m.sec with rehearsalEnd := m.beginDuration.sec.rehearsalEnd } } := by
  unfold Module.beginDuration
  split
  · split <;> rfl
  · rfl

theorem Module.getF_beginDuration (k : FKey) : m.beginDuration.getF k = m.getF k :=
  Module.getF_congr k (by rw [Module.beginDuration_eq])

theorem Module.svn_beginDuration : m.beginDuration.sec.svn = m.sec.svn := by rw [Module.beginDuration_eq]

theorem Module.secState_beginDuration : m.beginDuration.sec.state = m.sec.state := by rw [Module.beginDuration_eq]

end

/-! ### The statement -/

/-- Settles O20: at step 11 the profile and the pipelines' levels say whether the module waits, goes on or starts the protocol;
at step 12 neither the links' credits nor the permission's DURATION touch READY, the fuses or the kept security state. -/
theorem alignmentAndReady : Obligations.AlignmentAndReady := by
  unfold Obligations.AlignmentAndReady
  refine fun s => ⟨fun hstep hother => ?_, fun hstep htimetable ⟨sec, hlow⟩ => ?_,
    fun hstep htimetable htop hidle => ?_, fun hstep hready => ?_, fun hready => ?_⟩
  · rw [exec_startAlignment, Module.beginAlignment_starts (by simp [hother]), Module.startAlignment_ends hstep hother]
  · have hwaits : s.mod.pipesTop = false := Bool.eq_false_iff.2 fun htop => hlow (Module.pipesTop_iff.1 htop sec)
    rw [exec_startAlignment, Module.beginAlignment_waits hstep htimetable hwaits]
  · refine ⟨_, exec_startAlignment s, ?_⟩
    rw [Module.beginAlignment_starts fun _ => Module.pipesTop_iff.2 htop,
      Module.startAlignment_locks hstep htimetable hidle]
    exact ⟨Module.lockState_setLock (by split <;> decide), Module.setLock_eq _⟩
  · refine ⟨_, exec_ready s, ?_⟩
    rw [Module.becomeReady_eq hstep hready]
    refine ⟨?_, ?_, ?_⟩
    · rw [Module.getF_beginDuration, Module.getF_fuseSvn, Module.getF_openLinks_READY]
    · rw [Module.svn_beginDuration, Module.svn_fuseSvn, Module.sec_openLinks]
    · rw [Module.secState_beginDuration, Module.secState_fuseSvn, Module.sec_openLinks]
  · rw [exec_ready, Module.becomeReady_ready hready]

end Sys2Proof.Machine

/-! SUPPORT. The passing of ticks: it moves `elapsed` by their length, whatever the time base, the engines' warm-up and the
links do meanwhile (spec/14_clocks_and_time.md R386, R388; notes/assumptions/2.md), and the statement about an empty queue
settled. -/

namespace Sys2Proof.Machine

variable {m : Module}

theorem step_idle {s : State} (h : s.pending = []) : step s = .next { s with mod := s.mod.pass 1 } := by
  rw [step, h]

/-! ### What goes on while time passes -/

theorem Module.elapsed_passWarm : m.passWarm.elapsed = m.elapsed := by
  unfold Module.passWarm
  split
  · refine Module.each_keeps Module.elapsed fun m e _ => ?_
    split
    · exact m.setF_elapsed ..
    · rfl
  · rfl

theorem Module.elapsed_endSlew : m.endSlew.elapsed = m.elapsed := by
  unfold Module.endSlew
  split
  · rw [Module.raise_elapsed, Module.setF_elapsed]
  · rfl

theorem Module.elapsed_passTime (n : Nat) : (m.passTime n).elapsed = m.elapsed := by
  unfold Module.passTime
  split
  · rfl
  · split
    · simp
    · exact Module.elapsed_endSlew

theorem Module.elapsed_slots (lport cls : Nat) (sub : Option Nat) (n : Nat) :
    (m.slots lport cls sub n).elapsed = m.elapsed := by
  cases sub <;> simp [Module.slots]

theorem Module.elapsed_passSlots (lport units : Nat) : (m.passSlots lport units).elapsed = m.elapsed := by
  unfold Module.passSlots
  dsimp only
  split
  · rfl
  · split
    · rw [Module.elapsed_slots]
      rfl
    · rfl

/-- The timing wheel turns with domain 4. -/
def Module.turnWheel (m : Module) (units : Nat) : Module :=
  if m.ticks then { m with buf := { m.buf with wheel := m.buf.wheel + units } } else m

/-- The time base counts with domain 4, or on the always-on island (R389). -/
def Module.runTime (m : Module) (n : Nat) (island : Bool) : Module := if m.ticks || island then m.passTime n else m

theorem Module.elapsed_turnWheel (units : Nat) : (m.turnWheel units).elapsed = m.elapsed := by
  unfold Module.turnWheel
  split <;> rfl

theorem Module.elapsed_runTime (n : Nat) (island : Bool) : (m.runTime n island).elapsed = m.elapsed := by
  unfold Module.runTime
  split
  · exact Module.elapsed_passTime n
  · rfl

/-! ### Ticks -/

/-- The module with the length of `n` ticks passed, before the links' slots are told. -/
def Module.passBase (m : Module) (n : Nat) : Module :=
  let warm := ({ m with elapsed := m.elapsed + n * m.tickUnits }).passWarm
  (warm.turnWheel (n * m.tickUnits)).runTime n warm.time.islandFrom.isSome

theorem Module.pass_eq (n : Nat) :
    m.pass n =
      (m.passBase n).each (((m.passBase n).link.links.map Prod.fst).filter (fun l => (m.passBase n).carries l))
        (fun m' l => m'.passSlots l (n * m.tickUnits)) := rfl

theorem Module.elapsed_passBase (n : Nat) : (m.passBase n).elapsed = m.elapsed + n * m.tickUnits :=
  ((Module.elapsed_runTime ..).trans (Module.elapsed_turnWheel _)).trans Module.elapsed_passWarm

theorem Module.elapsed_pass (n : Nat) : (m.pass n).elapsed = m.elapsed + n * m.tickUnits := by
  rw [Module.pass_eq, Module.each_keeps Module.elapsed fun _ l _ => Module.elapsed_passSlots l _, Module.elapsed_passBase]

/-- A tick of domain 4 that does not ramp is 2 ns. -/
theorem Module.tickUnits_of_full (hruns : m.domSource 4 ≠ 4) (hfull : m.domRamp 4 = 8) : m.tickUnits = 2 * perNs := by
  have hticks : m.ticks = true := bne_iff_ne.2 hruns
  rw [Module.tickUnits, if_pos hticks, hfull]
  rfl

/-- Settles O2: of what an idle tick does, only the tick itself moves `elapsed`. -/
theorem idleTick : Obligations.IdleTick := by
  unfold Obligations.IdleTick
  intro s hempty
  refine ⟨_, step_idle hempty, ?_, Module.tickUnits_of_full⟩
  rw [Module.elapsed_pass, Nat.one_mul]

end Sys2Proof.Machine

/-! SUPPORT. Pulses: what an edge of the pulse input latches, and when PPS_OUT rises and falls (spec/14_clocks_and_time.md R393,
R394, R542), and the statement about them settled. -/

namespace Sys2Proof.Machine

/-! ### Commands -/

theorem exec_pulseEdge (syncIn : Bool) (s : State) :
    exec (.pulseEdge syncIn) s = .next { s with mod := s.mod.pulseEdge syncIn } := rfl

theorem exec_ppsMissing (s : State) : exec .ppsMissing s = .next { s with mod := s.mod.pulseMissing } := rfl

theorem exec_ppsOutRise (s : State) : exec .ppsOutRise s = .next { s with mod := s.mod.risePps } := rfl

theorem exec_ppsOutFall (s : State) : exec .ppsOutFall s = .next { s with mod := s.mod.fallPps } := rfl

/-! ### Widths of the fields -/

theorem FKey.width_timPpsLo_NS : FKey.width K.timPpsLo_NS = 32 := FKey.width_of_mem (d := fd 31 0 .ro) (by decide) 0 0

theorem FKey.width_timPpsHi_NS : FKey.width K.timPpsHi_NS = 32 := FKey.width_of_mem (d := fd 31 0 .ro) (by decide) 0 0

/-! ### An edge of the pulse input (R393) -/

/-- The count that an edge latches: its last part is open. -/
def Module.edgeCount (m : Module) : BitVec 64 := m.time.count + BitVec.ofNat 64 (m.openWord.toNat % 3)

/-- TIM_PPS holds a count. -/
def Module.showPulse (m : Module) (at_ : BitVec 64) : Module :=
  (m.setF K.timPpsLo_NS at_.toNat).setF K.timPpsHi_NS (at_.toNat / 2 ^ 32)

/-- An edge is seen, latched and told of. -/
def Module.latchPulse (m : Module) (syncIn : Bool) : Module :=
  ({ m.drawn.showPulse m.edgeCount with
      time := { m.time with ppsSeen := true, ppsAt := if syncIn then m.time.ppsAt else some m.elapsed } }).raise
    .tim_PPS_IN_EDGE 0

/-- An armed step becomes due at the next tick (R387). -/
def Module.takeArmed (m : Module) : Module :=
  if m.isOn K.timStatus_ARMED then
    ({ m with time := { m.time with stepDue := true } }).setF K.timStatus_ARMED 0
  else m

section
variable {m : Module} {syncIn : Bool}

theorem Module.pulseEdge_latches (hpin : m.isOn K.timCtrl_PULSE_SRC = syncIn)
    (hfree : (if syncIn then m.pulseLost else m.pulseSoon) = false) (hruns : m.time.running = true) :
    m.pulseEdge syncIn = (m.latchPulse syncIn).takeArmed :=
  if_neg (by simp [hpin, hfree, hruns])

theorem Module.pulseEdge_ignored
    (h : m.isOn K.timCtrl_PULSE_SRC ≠ syncIn ∨ (if syncIn then m.pulseLost else m.pulseSoon) = true ∨
      m.time.running = false) :
    m.pulseEdge syncIn = m :=
  if_pos (by simpa only [Bool.or_eq_true, bne_iff_ne, Bool.not_eq_true', or_assoc] using h)

/-! #### What an edge latches -/

/-- The two halves of TIM_PPS together are the count. -/
theorem Module.getF_showPulse (at_ : BitVec 64) :
    (m.showPulse at_).getF K.timPpsHi_NS * 2 ^ 32 + (m.showPulse at_).getF K.timPpsLo_NS = at_.toNat := by
  have hhigh : at_.toNat / 2 ^ 32 < 2 ^ 32 := Nat.div_lt_of_lt_mul at_.isLt
  rw [Module.showPulse, Module.getF_setF_of_width FKey.width_timPpsHi_NS hhigh, Module.getF_setF_ne _ _ (by decide),
    Module.getF_setF_self, FKey.width_timPpsLo_NS, Nat.div_add_mod']

/-- Of the fields outside TIM_EVT, an edge changes TIM_PPS alone. -/
theorem Module.getF_latchPulse {k : FKey} (hk : k.reg ≠ .timEvt) :
    (m.latchPulse syncIn).getF k = (m.showPulse m.edgeCount).getF k :=
  Module.getF_raise_of_reg rfl hk ..

theorem Module.isOn_latchPulse_ARMED : (m.latchPulse syncIn).isOn K.timStatus_ARMED = m.isOn K.timStatus_ARMED := by
  rw [Module.isOn, Module.getF_latchPulse (by decide), Module.showPulse, Module.getF_setF_ne _ _ (by decide),
    Module.getF_setF_ne _ _ (by decide), Module.isOn]

theorem Module.stepDue_latchPulse : (m.latchPulse syncIn).time.stepDue = m.time.stepDue := by
  rw [Module.latchPulse, Module.raise_time]

theorem Module.happened_latchPulse : (m.latchPulse syncIn).Happened m .tim_PPS_IN_EDGE 0 :=
  (Module.happened_raise (Module.countsNow_of_group (by decide) ..) 0).of_counters rfl

/-! #### What an armed step changes -/

theorem Module.getF_takeArmed {k : FKey} (hk : k ≠ K.timStatus_ARMED) : m.takeArmed.getF k = m.getF k := by
  unfold Module.takeArmed
  split
  · exact Module.getF_setF_ne _ _ hk.symm
  · rfl

theorem Module.stepDue_takeArmed : m.takeArmed.time.stepDue = (m.isOn K.timStatus_ARMED || m.time.stepDue) := by
  unfold Module.takeArmed
  split <;> simp [*]

theorem Module.getF_takeArmed_ARMED (h : m.isOn K.timStatus_ARMED = true) : m.takeArmed.getF K.timStatus_ARMED = 0 := by
  rw [Module.takeArmed, if_pos h, Module.getF_setF_self, Nat.zero_mod]

theorem Module.counter_takeArmed (num i : Nat) : m.takeArmed.counter num i = m.counter num i := by
  unfold Module.takeArmed
  split <;> rfl

theorem Module.Happened.takeArmed {m₁ : Module} (h : m₁.Happened m .tim_PPS_IN_EDGE 0) :
    m₁.takeArmed.Happened m .tim_PPS_IN_EDGE 0 := by
  obtain ⟨hcounter, hbit⟩ := h
  refine ⟨(Module.counter_takeArmed ..).trans hcounter, fun k hk => (Module.getF_takeArmed ?_).trans (hbit k hk)⟩
  cases hk
  decide

/-! ### No further edge (R393) -/

theorem Module.pulseMissing_tells (hruns : m.time.running = true) (hseen : m.time.ppsSeen = true) :
    m.pulseMissing = ({ m with time := { m.time with ppsSeen := false } }).raise .tim_PPS_MISSING 0 :=
  if_pos (by simp [hruns, hseen])

theorem Module.pulseMissing_told (h : m.time.ppsSeen = false) : m.pulseMissing = m := if_neg (by simp [h])

theorem Module.happened_pulseMissing (hruns : m.time.running = true) (hseen : m.time.ppsSeen = true) :
    m.pulseMissing.Happened m .tim_PPS_MISSING 0 := by
  rw [Module.pulseMissing_tells hruns hseen]
  exact (Module.happened_raise (Module.countsNow_of_group (by decide) ..) 0).of_counters rfl

/-! ### PPS_OUT (R394) -/

theorem Module.risePps_rises (hset : m.isOn K.timStatus_SET = true) (hen : m.isOn K.timCtrl_PPS_OUT_EN = true)
    (hdue : m.ppsDue = true) (hlow : m.time.ppsOut = none) :
    m.risePps = { m with time := { m.time with ppsOut := some m.elapsed } } :=
  if_pos (by simp [Module.ppsRuns, hset, hen, hdue, hlow])

theorem Module.risePps_stays
    (h : m.isOn K.timStatus_SET = false ∨ m.isOn K.timCtrl_PPS_OUT_EN = false ∨ m.ppsDue = false) : m.risePps = m := by
  refine if_neg ?_
  obtain h | h | h := h <;> simp [Module.ppsRuns, h]

theorem Module.fallPps_high {t : Nat} (h : m.time.ppsOut = some t) :
    m.fallPps =
      if t + 100 * perMs ≤ m.elapsed then { m with time := { m.time with ppsOut := none } } else m := by
  rw [Module.fallPps, h]

end

/-! ### The statement -/

/-- Settles O23, command by command: an edge by what it latches and what `takeArmed` then leaves of it, PPS_OUT by its
conditions. -/
theorem pulsesLatchTheCount : Obligations.PulsesLatchTheCount := by
  unfold Obligations.PulsesLatchTheCount
  refine fun syncIn s => ⟨fun hpin hfree hruns => ?_, fun hignored => ?_, fun hruns hseen => ?_, fun hunseen => ?_,
    fun hset hen hdue hlow => ?_, fun hstays => ?_, fun t hhigh hlong => ?_, fun t hhigh hshort => ?_⟩
  · refine ⟨_, exec_pulseEdge syncIn s, ?_⟩
    rw [Module.pulseEdge_latches hpin hfree hruns]
    refine ⟨?_, Module.happened_latchPulse.takeArmed, ?_, fun harmed => ?_⟩
    · rw [Module.getF_takeArmed (by decide), Module.getF_takeArmed (by decide), Module.getF_latchPulse (by decide),
        Module.getF_latchPulse (by decide)]
      exact Module.getF_showPulse _
    · rw [Module.stepDue_takeArmed, Module.isOn_latchPulse_ARMED, Module.stepDue_latchPulse]
    · exact Module.getF_takeArmed_ARMED (Module.isOn_latchPulse_ARMED.trans harmed)
  · rw [exec_pulseEdge, Module.pulseEdge_ignored hignored]
  · refine ⟨_, exec_ppsMissing s, Module.happened_pulseMissing hruns hseen, ?_⟩
    rw [Module.pulseMissing_tells hruns hseen, Module.raise_time]
  · rw [exec_ppsMissing, Module.pulseMissing_told hunseen]
  · rw [exec_ppsOutRise, Module.risePps_rises hset hen hdue hlow]
  · rw [exec_ppsOutRise, Module.risePps_stays hstays]
  · rw [exec_ppsOutFall, Module.fallPps_high hhigh, if_pos hlong]
  · rw [exec_ppsOutFall, Module.fallPps_high hhigh, if_neg (Nat.not_le.2 hshort)]

end Sys2Proof.Machine
